-- ==== Sys2Proof/Word.lean ====
section
/-! DEFINITION. The word types of the GK-7140 and the type of a table of plain data. -/
namespace Sys2Proof

/-- One byte (R5). -/
abbrev Byte := BitVec 8
/-- A 32-bit word. -/
abbrev Word32 := BitVec 32
/-- A 64-bit word. -/
abbrev Word64 := BitVec 64

/-- A table of plain data: pairs of an index and a value.
In canonical form the indexes rise strictly and no entry holds the table's default value. -/
abbrev Tab (α : Type) := List (Nat × α)

end Sys2Proof
end

