-- ==== Sys2Proof/Syntax.lean ====
section
/-! DEFINITION. The commands of the GK-7140: one constructor for each row of spec/opcode_table.json.
The operands name who acts and carry what comes from outside the device (log 4). -/
namespace Sys2Proof

/-- What the memory protection reports on a read or write: nothing, a corrected symbol, an uncorrectable line or word,
or a corrected symbol that takes an HBM lane over its threshold (R216, R569, R572). -/
inductive MemEvent where
  | clean
  | corrected (lane : Nat)
  | uncorrectable
  deriving DecidableEq, Repr

/-- What a broadcast or unicast repair delivers (R377): the manifest, a shard's entry, its leaf table, one leaf; or the root's
word that it has aborted the broadcast (R379). -/
inductive BcastItem where
  | manifest (pav model : Nat) (bytes : List Byte)
  | entry (pav model shard : Nat) (bytes : List Byte)
  | leafTable (pav model shard : Nat) (hashes : List (BitVec 384))
  | leaf (pav model shard leaf : Nat) (bytes : List Byte)
  | aborted
  deriving DecidableEq, Repr

/-- The commands, in the order of the table. -/
inductive Instr where
  /-- REGISTER_WRITE (R7). A write to an architected register field that has no row of its own; it behaves per its access code, reserved-bit, image-lock and requester-qualifier rules. -/
  | registerWrite (r : Nat) (off : Nat) (size : Nat) (v : Word64)
  /-- CHSEL_WRITE (R11). A requester writes its own copy of a BLOCK_CHSEL, changing only the instance its own window accesses reach. -/
  | chselWrite (r : Nat) (blk : Nat) (v : Word32)
  /-- SVC_PRIVATE_WRITE (R614). A service-port I3C private write carries a register read or write operation, or is ignored whole if malformed. -/
  | svcPrivateWrite (data : List Byte)
  /-- ADAPTER_LOAD (R56). The administrative command allocates a record, and an entry for a new key, and starts copying the adapter blob, or rejects the load. -/
  | adapterLoad (src : Nat) (cid : Word32) (data : List Byte) (dmaOk : Bool)
  /-- ADAPTER_DIGEST_CHECK (R48). The copied adapter blob has been hashed; a matching digest makes the record STAGED. -/
  | adapterDigestCheck (rec : Nat)
  /-- ADAPTER_DELETE (R53). The administrative command schedules removal of a directory entry at the next cadence boundary. -/
  | adapterDelete (src : Nat) (cid : Word32)
  /-- ADAPTER_QUERY (R55). The administrative command returns a directory entry and all its records. -/
  | adapterQuery (src : Nat) (cid : Word32)
  /-- ADAPTER_PLACE (R55). The administrative command moves a record between HBM and the cold frame, or keeps it in both. -/
  | adapterPlace (src : Nat) (cid : Word32)
  /-- ADAPTER_SET_PRIO (R55). The administrative command changes an entry's PRIO at the next cadence boundary. -/
  | adapterSetPrio (src : Nat) (cid : Word32)
  /-- SUNDIAL_RECEIVER_ENABLE (R67). 30 ms after RST_N release the Sundial receiver is enabled. -/
  | sundialReceiverEnable
  /-- SUNDIAL_FRAME_END (R70). A Sundial frame ends, is judged good or not good, and drives the receiver's state transitions. -/
  | sundialFrameEnd
  /-- SLEW_COMPLETE (R77). A slew in progress has removed its offset, and device time runs at the tick rate again. -/
  | slewComplete
  /-- HOLDOVER (R74). The third consecutive bad edge, or the third frame that is not good, moves the receiver from LOCKED to HOLDOVER. -/
  | holdover
  /-- SUNDIAL_LOST (R89). After 10,000,000 tk in HOLDOVER the receiver enters SUNDIAL_LOST and time becomes invalid. -/
  | sundialLost
  /-- CADENCE_BOUNDARY (R82). Device time reaches a multiple of W, and the boundary's flips, rebalancing and batch formation take effect. -/
  | cadenceBoundary
  /-- DEADLINE_EXPIRY (R277). A resident request's deadline tick arrives; the request ends or continues under DEADLINE_ACTION. -/
  | deadlineExpiry (req : Nat)
  /-- KV_TTL_CHECK (R84). At each multiple of 65,536 tk the device checks the TTL of every spilled request. -/
  | kvTtlCheck
  /-- SCRUB_PASS_START (R373). At a scrub start tick, a scrub pass over weights and adapter blobs begins. -/
  | scrubPassStart
  /-- SCRUB_CHECK (R373). The scrub engine checks a shard's leaf-table root, or a leaf or adapter blob, against its stored value. -/
  | scrubCheck (evs : List (Nat × MemEvent))
  /-- FABRIC_BROADCAST_START (R376). At the agreed start tick the root begins the weight broadcast on its multicast tree. -/
  | fabricBroadcastStart
  /-- TIME_FORWARD (R418). A forwarding device sends one TIME symbol per frame on each port in FWD_MASK. -/
  | timeForward
  /-- TIME (R420). A received TIME symbol on the selected port makes the receiver regenerate the frame's 128 ticks. -/
  | time (port : Nat) (epoch : Word64) (flags : BitVec 16) (offset : Word32) (replayed : Bool)
  /-- TIME_FRAME_MISSING (R420). No TIME symbol arrives for a frame; the port regenerates it once from the previous frame, and otherwise generates no ticks. -/
  | timeFrameMissing (port : Nat)
  /-- MSG_SEND (R103). The plot instruction copies a message into the outbound buffer once there is room, or raises MSG_BAD_DEST. -/
  | msgSend (plot : Nat) (insn : Word32)
  /-- MSG_RECV (R104). The plot instruction takes the oldest complete matching message, or returns no-message with NB set. -/
  | msgRecv (plot : Nat) (insn : Word32)
  /-- MESSAGE_DELIVERY (R114). A message's last flit enters the destination's inbound buffer, making the message complete. -/
  | messageDelivery (src : Nat) (dst : Nat)
  /-- TRL_MSG_STALL (R116). A message head waits at a full ejection port beyond STALL_LIMIT cycles, and TRL_MSG_STALL is raised. -/
  | trlMsgStall (src : Nat) (dst : Nat)
  /-- TCNT_NEXT (R117). The plot instruction draws the next tile index from a terrace tile counter, or learns that it is exhausted. -/
  | tcntNext (plot : Nat) (insn : Word32)
  /-- TCNT_ARM (R118). A write to the tcnt_arm CSR sets a counter's LIMIT and zeroes its VALUE. -/
  | tcntArm (plot : Nat) (v : Word32)
  /-- SEQ_PUSH (R109). The plot instruction enqueues a macro-op once the queue has room and returns its ticket. -/
  | seqPush (plot : Nat) (insn : Word32)
  /-- SEQ_WAIT (R110). The plot instruction returns, once the ticketed macro-ops have finished, the first recorded fault code or 0. -/
  | seqWait (plot : Nat) (insn : Word32)
  /-- HALO_XCH (R106). Two neighbouring plots exchange halo data once both have executed the instruction. -/
  | haloXch (plot : Nat) (insn : Word32)
  /-- HALO_TIMEOUT (R108). The partner of a halo exchange has not begun within HALO_TIMEOUT cycles, and the exchange faults. -/
  | haloTimeout (plot : Nat)
  /-- GEN_SEED (R111). The plot instruction loads a generator bank's key and counter and resets its lane phases. -/
  | genSeed (plot : Nat) (insn : Word32)
  /-- GEN_READ (R154). The plot instruction returns a phase word from a generator bank and advances that phase. -/
  | genRead (plot : Nat) (insn : Word32)
  /-- MRET (R130). The trap handler returns, and IN_TRAP clears. -/
  | mret (plot : Nat)
  /-- FENCE (R237). A fence with W or O before and R or I after delays later loads until older stores are performed. -/
  | fence (plot : Nat) (insn : Word32)
  /-- FENCE_I (R213). FENCE.I raises an illegal-instruction exception. -/
  | fenceI (plot : Nat)
  /-- DWIN_WRITE (R212). A write to dwin0 or dwin1 changes the window base for the next instruction, or faults on a nonzero reserved bit. -/
  | dwinWrite (plot : Nat) (which : Bool) (v : Word32)
  /-- CONTROLLER_LOAD (R236). A plot-controller load reads plot store or device memory through the data window. -/
  | controllerLoad (plot : Nat) (rd : Nat) (addr : Word32) (width : Nat) (signed : Bool) (ev : MemEvent)
  /-- CONTROLLER_STORE (R236). A plot-controller store enters the store buffer, or writes plot store. -/
  | controllerStore (plot : Nat) (addr : Word32) (width : Nat) (v : Word32)
  /-- STORE_PERFORM (R236). A buffered store is performed at its home slice and becomes visible to all agents. -/
  | storePerform (plot : Nat) (ev : MemEvent)
  /-- ATOMIC_ADD (R231). An atomic-window load adds aarg to the word and returns the old value. -/
  | atomicAdd (plot : Nat) (rd : Nat) (addr : Word32) (width : Nat) (ev : MemEvent)
  /-- ATOMIC_SWAP (R231). An atomic-window load writes aarg and returns the old value. -/
  | atomicSwap (plot : Nat) (rd : Nat) (addr : Word32) (width : Nat) (ev : MemEvent)
  /-- ATOMIC_CAS (R231). An atomic-window load writes aarg if the old value equals acmp, and returns the old value. -/
  | atomicCas (plot : Nat) (rd : Nat) (addr : Word32) (width : Nat) (ev : MemEvent)
  /-- ATOMIC_AND (R231). An atomic-window load ANDs aarg into the word and returns the old value. -/
  | atomicAnd (plot : Nat) (rd : Nat) (addr : Word32) (width : Nat) (ev : MemEvent)
  /-- ATOMIC_OR (R231). An atomic-window load ORs aarg into the word and returns the old value. -/
  | atomicOr (plot : Nat) (rd : Nat) (addr : Word32) (width : Nat) (ev : MemEvent)
  /-- ATOMIC_XOR (R231). An atomic-window load XORs aarg into the word and returns the old value. -/
  | atomicXor (plot : Nat) (rd : Nat) (addr : Word32) (width : Nat) (ev : MemEvent)
  /-- ATOMIC_MAXU (R231). An atomic-window load stores the unsigned maximum of old and aarg and returns the old value. -/
  | atomicMaxu (plot : Nat) (rd : Nat) (addr : Word32) (width : Nat) (ev : MemEvent)
  /-- ATOMIC_MINU (R231). An atomic-window load stores the unsigned minimum of old and aarg and returns the old value. -/
  | atomicMinu (plot : Nat) (rd : Nat) (addr : Word32) (width : Nat) (ev : MemEvent)
  /-- PLOT_START (R126). Setting PLOT_CTL.RUN starts the plot at PLOT_ENTRY with initial register values. -/
  | plotStart (r : Nat)
  /-- PLOT_STOP (R127). Clearing PLOT_CTL.RUN stops the plot at an instruction boundary after its in-flight macro-ops complete. -/
  | plotStop (r : Nat)
  /-- PLOT_CTL_STAT_CLR (R620). A write of PLOT_CTL.STAT_CLR clears the plot's statistics counters. -/
  | plotCtlStatClr (r : Nat)
  /-- PLOT_LOAD_GO (R125). Setting PLOT_LOAD.GO starts a DMA copy of a plot program into plot store. -/
  | plotLoadGo (r : Nat)
  /-- PLOT_LOAD_COMPLETE (R125). The plot-program copy ends and PLOT_LOAD.GO reads 0. -/
  | plotLoadComplete (plot : Nat) (evs : List (Nat × MemEvent))
  /-- PLOT_INJ (R621). A write to the last PLOT_INJ word injects the staged macro-op into the plot, or is refused with INJ_FULL. -/
  | plotInj (r : Nat) (v : Word32)
  /-- PLOT_MEM_DATA (R622). A steward access to PLOT_MEM_DATA reads or writes a plot-store word and advances PLOT_MEM_ADDR. -/
  | plotMemData (r : Nat) (write : Bool) (v : Word32)
  /-- PLOT_RETIRE (R565). Steward 0 performs a field retirement, copying the plot's state to its region's spare site. -/
  | plotRetire (plot : Nat)
  /-- MATMUL (R176). The macro-op computes X times W transposed over its tiles. -/
  | matmul (plot : Nat) (draws : Nat) (evs : List (Nat × MemEvent))
  /-- ADAPT_SHRINK (R37). The macro-op computes and scales u = A·x for each segment. -/
  | adaptShrink (plot : Nat) (draws : Nat) (evs : List (Nat × MemEvent))
  /-- ADAPT_EXPAND (R41). The macro-op adds B·u′ into the base accumulators and converts the sum once. -/
  | adaptExpand (plot : Nat) (draws : Nat) (evs : List (Nat × MemEvent))
  /-- ELTWISE (R176). The macro-op applies an elementwise operation. -/
  | eltwise (plot : Nat) (draws : Nat) (evs : List (Nat × MemEvent))
  /-- TABLE (R176). The macro-op maps each element through a 513-entry table. -/
  | table (plot : Nat) (draws : Nat) (evs : List (Nat × MemEvent))
  /-- REDUCE (R176). The macro-op reduces over DIM0 or over a window of rows. -/
  | reduce (plot : Nat) (draws : Nat) (evs : List (Nat × MemEvent))
  /-- SOFTMAX_ROWS (R176). The macro-op computes a softmax over each row. -/
  | softmaxRows (plot : Nat) (draws : Nat) (evs : List (Nat × MemEvent))
  /-- NORM_ROWS (R176). The macro-op normalises each row by RMS or layer norm and scales it. -/
  | normRows (plot : Nat) (draws : Nat) (evs : List (Nat × MemEvent))
  /-- GATHER (R180). The macro-op gathers table rows by index. -/
  | gather (plot : Nat) (draws : Nat) (evs : List (Nat × MemEvent))
  /-- SCATTER (R179). The macro-op scatters rows to indexed destinations. -/
  | scatter (plot : Nat) (draws : Nat) (evs : List (Nat × MemEvent))
  /-- CONV1D (R195). The macro-op computes a depthwise 1-D convolution, with a halo exchange if HALO is set. -/
  | conv1d (plot : Nat) (draws : Nat) (evs : List (Nat × MemEvent))
  /-- COPY (R176). The macro-op copies SRC0 into DST's format and layout. -/
  | copy (plot : Nat) (draws : Nat) (evs : List (Nat × MemEvent))
  /-- PAD (R194). The macro-op sets every in-bounds DST element to DST's PAD. -/
  | pad (plot : Nat) (draws : Nat) (evs : List (Nat × MemEvent))
  /-- BARRIER (R181). The macro-op completes when every running plot of its scope has reached it and its conditions hold. -/
  | barrier (plot : Nat)
  /-- BARRIER_TIMEOUT (R181). A BARRIER has not completed within BARRIER_TIMEOUT and faults. -/
  | barrierTimeout (plot : Nat)
  /-- MACRO_OP_COMPLETE (R238). A macro-op's writes are performed, and it counts as complete. -/
  | macroOpComplete (plot : Nat)
  /-- EXECUTION_FAULT (R205). A macro-op faults during execution; the plot stops drawing and reports its incomplete tiles to its steward. -/
  | executionFault (plot : Nat)
  /-- INJECTED_MACRO_OP (R201). An injected EXPLICIT macro-op executes at the plot's next macro-op boundary. -/
  | injectedMacroOp (plot : Nat) (evs : List (Nat × MemEvent))
  /-- HBM_HOME (R219). A write to HBM_HOME starts the change of a granule's home entry. -/
  | hbmHome (r : Nat) (v : Word32)
  /-- HOME_CHANGE_COMPLETE (R219). The old home slice has written back and invalidated the granule; the new home takes effect and the write completes. -/
  | homeChangeComplete (granule : Nat)
  /-- CFM_PAGE_READ (R224). A cold-frame page read completes and is authenticated into the page buffer. -/
  | cfmPageRead (page : Nat) (authOk : Bool)
  /-- CFM_LINK_DOWN (R245). A cold-frame port loses its CXL link; its range reads POISON until reset. -/
  | cfmLinkDown (port : Nat)
  /-- COLD_FRAME_HOT_ENUMERATION (R642). A port that linked after the enumeration window and before OPEN is enumerated at a cadence boundary. -/
  | coldFrameHotEnumeration (port : Nat) (raw : Nat)
  /-- SQ_TAIL_DOORBELL (R440). The host writes a new SQ tail, posting descriptors or commands to the steward, or faulting the queue pair. -/
  | sqTailDoorbell (fn : Nat) (q : Nat) (v : Word32)
  /-- ADMISSION_DECISION (R252). The steward checks a descriptor, resolves adapters and takes pins, admitting the request or rejecting it. -/
  | admissionDecision (fn : Nat) (q : Nat)
  /-- HOLD_LIMIT_EXPIRY (R257). A submission held for a LOADING pavilion reaches HOLD_LIMIT and is rejected with PAVILION_NOT_OPEN. -/
  | holdLimitExpiry (fn : Nat) (q : Nat)
  /-- AGING (R258). A request without a row for AGE_LIMIT tk has its effective class lowered by 1. -/
  | aging (req : Nat)
  /-- STEP_BOUNDARY (R266). A pavilion step ends; pauses, resumes, role changes and ends take effect, and the next step is prepared. -/
  | stepBoundary (pav : Nat) (mpf : Nat) (mdec : Nat) (lens : List Word32) (tiling : List (Nat × Nat × Nat × BitVec 256))
  /-- PAV_OPEN (R460). The command moves a CLOSED or DRAINING pavilion toward OPEN, or completes with PAV_BAD_STATE or PAV_UNDEFINED. -/
  | pavOpen (src : Nat) (cid : Word32)
  /-- PAV_DRAIN (R460). The command moves an OPEN pavilion to DRAINING, or completes with PAV_BAD_STATE. -/
  | pavDrain (src : Nat) (cid : Word32)
  /-- DRAIN_LIMIT_EXPIRY (R274). A pavilion has been DRAINING for DRAIN_LIMIT tk and changes to CLOSED. -/
  | drainLimitExpiry (pav : Nat)
  /-- COMMIT_POINT (R297). A verification pass completes; the committed tokens are decided, written out and made committed, and pending state is discarded. -/
  | commitPoint (req : Nat)
  /-- SPILL_PAGE_WRITE (R327). One page of a spill has been written to the cold frame, and its reference is released. -/
  | spillPageWrite (req : Nat) (ok : Bool) (evs : List (Nat × MemEvent))
  /-- PAGE_IN_READ (R328). One page of a page-in has been read from the cold frame, or matched, into HBM. -/
  | pageInRead (req : Nat)
  /-- SELECTION (R335). The selection unit takes a completed row of logits and masks, penalises, scales, cuts and draws a token. -/
  | selection (req : Nat) (draft : Bool) (logits : List Word32)
  /-- LIST_LOAD (R354). The administrative command copies an allowed-token bitmap and assigns a handle. -/
  | listLoad (src : Nat) (cid : Word32) (data : List Byte) (dmaOk : Bool)
  /-- GRAMMAR_LOAD (R357). The administrative command copies and validates a Parterre blob and assigns a handle. -/
  | grammarLoad (src : Nat) (cid : Word32) (data : List Byte) (dmaOk : Bool)
  /-- SEL_OBJ_DELETE (R353). The administrative command removes a selection-object handle, or marks it RETIRING while pinned. -/
  | selObjDelete (src : Nat) (cid : Word32)
  /-- SEL_CTL_CLEAR (R626). A write of SEL_CTL bit 0 clears PAR_TIES. -/
  | selCtlClear (r : Nat)
  /-- WEIGHT_SWAP (R383). The command starts replacing one model's weights from a new manifest, or is rejected. -/
  | weightSwap (src : Nat) (cid : Word32)
  /-- WEIGHT_QUERY (R382). The command reports a model's generation, swap state and current unit. -/
  | weightQuery (src : Nat) (cid : Word32)
  /-- MANIFEST_VERIFY (R367). A manifest has been read and the Gatehouse verifies it, after which shard placement is computed. -/
  | manifestVerify (pav : Nat) (model : Nat) (data : List Byte)
  /-- SHARD_VERIFY (R372). All leaves of a shard have been hashed and its root is compared with ROOT, with rereads on failure. -/
  | shardVerify (pav : Nat) (model : Nat) (idx : Nat) (data : List Byte)
  /-- SHARD_IN_PLACE (R372). The last write of a verified shard has been performed at its placement. -/
  | shardInPlace (pav : Nat) (model : Nat) (idx : Nat)
  /-- LEAF_RESTORED (R391). A restored leaf has been reread or repaired and is checked, rewritten in place and steps resume. -/
  | leafRestored (pav : Nat) (model : Nat) (idx : Nat) (leaf : Nat) (data : List Byte)
  /-- BROADCAST_ANNOUNCE (R376). Steward 0 of the root announces a broadcast and its start tick to its receivers. -/
  | broadcastAnnounce (start : Nat)
  /-- BROADCAST_LEAF (R377). A receiver takes a broadcast or repaired leaf, or a leaf table, and accepts it only if it hashes correctly. -/
  | broadcastLeaf (item : BcastItem)
  /-- SHARD_END_MARKER (R378). A receiver reaches a shard's end marker and sends one repair request for its missing leaves. -/
  | shardEndMarker (pav : Nat) (model : Nat) (idx : Nat)
  /-- SWAP_UNIT_VERIFIED (R385). A unit's staged shards finish verification, or fail it. -/
  | swapUnitVerified (pav : Nat)
  /-- SWAP_UNIT_COPIED (R386). A unit's copy ends; steps resume and staging of the next unit starts. -/
  | swapUnitCopied (pav : Nat) (evs : List (Nat × MemEvent))
  /-- NUMBERED_CODEWORD (R402). A Torvol receiver takes a numbered codeword, accepting it or discarding it and requesting replay. -/
  | numberedCodeword (port : Nat) (prev : BitVec 58) (msg : BitVec 5140) (errs : List Nat) (arrival : Word64) (replayed : Bool)
  /-- LINK_ACK (R402). A received LINK_ACK frees replay-buffer entries up to its SEQ. -/
  | linkAck (port : Nat) (seq : Byte)
  /-- LINK_NAK (R402). A received LINK_NAK makes the sender replay from the named SEQ. -/
  | linkNak (port : Nat) (seq : Byte)
  /-- CREDIT (R410). A received CREDIT symbol returns slot credits on each virtual channel. -/
  | credit (port : Nat) (c0 : BitVec 16) (c1 : BitVec 16) (c2 : BitVec 16)
  /-- READY (R423). A received READY symbol lets the port enter READY if DOMAIN and DEV_ID agree. -/
  | ready (port : Nat) (dom : BitVec 16) (devId : Byte) (peerPort : Byte) (c0 : BitVec 16) (c1 : BitVec 16) (c2 : BitVec 16) (epoch : Byte) (salt : BitVec 128)
  /-- DELAY_REQ (R419). A received DELAY_REQ symbol is answered with DELAY_RSP. -/
  | delayReq (port : Nat) (t1 : Word64) (t2 : Word64) (t3 : Word64)
  /-- DELAY_RSP (R419). A received DELAY_RSP symbol yields a link-delay measurement. -/
  | delayRsp (port : Nat) (t1 : Word64) (t2 : Word64) (t3 : Word64) (t4 : Word64)
  /-- DELAY_REQ_TIMER (R419). Every 1,024 tk a port sends a DELAY_REQ. -/
  | delayReqTimer (port : Nat) (t1 : Word64)
  /-- LANE_WINDOW_END (R425). A lane's 1,000,000-codeword window ends; a lane over threshold triggers LANE_SWAP_REQ, or a half-width retrain. -/
  | laneWindowEnd (port : Nat) (lane : Nat) (count : Nat)
  /-- LANE_SWAP_REQ (R425). A received LANE_SWAP_REQ makes the sender reply with LANE_SWAP and a switch SEQ. -/
  | laneSwapReq (port : Nat) (lane : Byte)
  /-- LANE_SWAP (R425). A received LANE_SWAP moves a logical lane to physical lane 8 from the switch SEQ. -/
  | laneSwap (port : Nat) (lane : Byte) (seq : Byte)
  /-- KEY_ROLL (R416). A received KEY_ROLL makes the receiver use the next epoch's key. -/
  | keyRoll (port : Nat) (epoch : Byte)
  /-- DOWN (R404). A received DOWN symbol takes the port DOWN. -/
  | down (port : Nat) (reason : Byte)
  /-- RESERVED_CONTROL_SYMBOL (R403). A control symbol of reserved TYPE is ignored and BAD_CTRL increments. -/
  | reservedControlSymbol (port : Nat) (typ : Byte)
  /-- PACKET_SEND (R410). A sender starts a packet on a VC once it holds enough credits, and encrypts it. -/
  | packetSend (head : BitVec 512) (payload : List Byte)
  /-- PUT (R406). A received PUT packet is checked and written into the receive window, or forwarded, and then acknowledged. -/
  | put (port : Nat) (head : BitVec 512) (data : List Byte) (tag : BitVec 128) (stomp : Bool) (crc : Word32)
  /-- MSG (R406). A received MSG packet is delivered to a steward mailbox and acknowledged. -/
  | msg (port : Nat) (head : BitVec 512) (data : List Byte) (tag : BitVec 128) (stomp : Bool) (crc : Word32)
  /-- ACK (R409). A received ACK completes a transaction, or triggers a resend on DISCARDED. -/
  | ack (port : Nat) (head : BitVec 512) (data : List Byte) (tag : BitVec 128) (stomp : Bool) (crc : Word32)
  /-- MULTICAST_PACKET (R414). A multicast packet is accepted from UP_PORT, forwarded down the tree and written locally if LOCAL is set. -/
  | multicastPacket (port : Nat) (head : BitVec 512) (data : List Byte) (tag : BitVec 128) (stomp : Bool) (crc : Word32)
  /-- E2E_TIMEOUT (R409). No ACK arrives within E2E_TIMEOUT, so a PUT is resent or FABRIC_UNREACHABLE is reported. -/
  | e2eTimeout (xid : Word32)
  /-- TRAINING_START (R422). 60 ms after RST_N release every Torvol port begins TRAINING on fused defaults. -/
  | trainingStart
  /-- TRAINING_COMPLETE (R422). A port's lane training completes and the port becomes LINKED. -/
  | trainingComplete (port : Nat)
  /-- LOSS_OF_CODEWORD_LOCK (R427). A port loses codeword lock and goes DOWN. -/
  | lossOfCodewordLock (port : Nat)
  /-- RETRAIN_ATTEMPT (R428). Every 1,000,000 tk a DOWN port retries training, up to 3 attempts. -/
  | retrainAttempt (port : Nat) (ok : Bool)
  /-- TVL_PORT_RETRAIN (R428). The PF writes TVL_PORT.RETRAIN, and the port sends DOWN and retrains. -/
  | tvlPortRetrain (r : Nat)
  /-- PERST_ASSERT (R469). PERST# assertion resets only the PCIe controller and its functions. -/
  | perstAssert
  /-- PERST_DEASSERT (R469). PERST# deassertion starts PCIe link training without affecting the device state. -/
  | perstDeassert
  /-- CONFIG_READY (R431). 450 ms after RST_N release, configuration space and the BARs begin to be answered. -/
  | configReady
  /-- FUNCTION_LEVEL_RESET (R434). An FLR ends the function's requests, deletes its objects, disables its queue pairs and resets its CHSEL copies. -/
  | functionLevelReset (fn : Nat)
  /-- CQ_HEAD_DOORBELL (R441). The host returns CQ slots by writing a new head, or faults the queue pair. -/
  | cqHeadDoorbell (fn : Nat) (q : Nat) (v : Word32)
  /-- QP_ENABLE (R438). Writing QP_CTL.ENABLE = 1 enables the queue pair, or sets ERROR on a bad field. -/
  | qpEnable (r : Nat)
  /-- QP_DISABLE (R438). Writing QP_CTL.ENABLE = 0 stops taking events and closes the queue pair's requests. -/
  | qpDisable (r : Nat)
  /-- QP_DISABLE_COMPLETE (R438). The buffered events have been written to host memory, and the queue pair becomes DISABLED. -/
  | qpDisableComplete (fn : Nat) (q : Nat)
  /-- PROMPT_READ_COMPLETE (R446). The prompt read into HBM ends; the request becomes runnable, or ends with BAD_PROMPT or HOST_DMA_FAIL. -/
  | promptReadComplete (req : Nat) (tokens : List Word32) (ok : Bool)
  /-- EVENT_WRITE (R451). The device writes a buffered event to the CQ, which may fire the interrupt on count. -/
  | eventWrite (fn : Nat) (q : Nat) (ok : Bool)
  /-- COAL_TIME_EXPIRY (R453). The oldest unacknowledged event has waited COAL_TIME tk, and the CQ's vector fires. -/
  | coalTimeExpiry (fn : Nat) (q : Nat)
  /-- MSIX_UNMASK (R453). Unmasking a vector with its pending bit set sends the interrupt. -/
  | msixUnmask (fn : Nat) (vec : Nat)
  /-- REQ_CANCEL (R462). The command cancels every request of the function that has the given REQ_ID. -/
  | reqCancel (src : Nat) (cid : Word32)
  /-- DEV_SVC_CTL_GO (R463). The service port starts execution of the command in the service mailbox with PF rights. -/
  | devSvcCtlGo (r : Nat)
  /-- RST_N_ASSERT (R490). RST_N assertion returns the device to DORMANT and discards partial results. -/
  | rstNAssert
  /-- RST_N_RELEASE (R468). RST_N release with rails in range moves the device to WAKING. -/
  | rstNRelease (railsOk : Bool)
  /-- FUSE_READ_COMPLETE (R468). Fuses are read and AON logic is running; the device enters ROOTING and starts self-tests. -/
  | fuseReadComplete (vfuseOk : Bool)
  /-- SELF_TEST_COMPLETE (R505). The Gatehouse known-answer and entropy start-up tests finish and the image read begins. -/
  | selfTestComplete (ok : Bool)
  /-- IMAGE_HEADER_READ (R472). A bank's 256-byte header is read and checked, after the boot bank is chosen from the boot-selection record. -/
  | imageHeaderRead
  /-- IMAGE_VERIFY (R476). The whole image has been read and is verified, falling back to the other bank on failure. -/
  | imageVerify (reread : Bool)
  /-- ENTER_LOADING (R468). HBM training, repair and cold-frame enumeration complete; the device enters LOADING and its pavilions begin loading. -/
  | enterLoading (bistFail : List Nat) (hbmNeed : List Nat) (raw0 : Nat) (raw1 : Nat) (fail0 : Bool) (fail1 : Bool)
  /-- GET_VERSION (R511). SPDM request for supported versions. -/
  | getVersion
  /-- GET_CAPABILITIES (R511). SPDM request for responder capabilities. -/
  | getCapabilities
  /-- NEGOTIATE_ALGORITHMS (R511). SPDM request that negotiates algorithms. -/
  | negotiateAlgorithms
  /-- GET_DIGESTS (R511). SPDM request for certificate chain digests. -/
  | getDigests
  /-- GET_CERTIFICATE (R512). SPDM request for the slot 0 certificate chain. -/
  | getCertificate (slot : Nat)
  /-- CHALLENGE (R511). SPDM challenge answered with an AK signature. -/
  | challenge (nonce : List Byte)
  /-- GET_MEASUREMENTS (R513). SPDM request answered from one snapshot of the measurement blocks. -/
  | getMeasurements (block : Nat)
  /-- KEY_EXCHANGE (R511). SPDM request that starts a secured session. -/
  | keyExchange (sid : Nat)
  /-- FINISH (R511). SPDM request that completes session establishment. -/
  | finish (sid : Nat) (rootDigest : List Byte)
  /-- HEARTBEAT (R511). SPDM session heartbeat. -/
  | heartbeat (sid : Nat)
  /-- KEY_UPDATE (R511). SPDM request that updates session keys. -/
  | keyUpdate (sid : Nat)
  /-- END_SESSION (R511). SPDM request that ends a session and destroys its keys. -/
  | endSession (sid : Nat)
  /-- SET_FABRIC_MASTER_KEY (R495). A Crypto Officer vendor-defined request that stores a new wrapped FMK. -/
  | setFabricMasterKey (sid : Nat) (key : List Byte)
  /-- ZEROISE (R508). A Crypto Officer vendor-defined request that overwrites all CSPs and resets the device. -/
  | zeroise (sid : Nat)
  /-- DEBUG_UNLOCK (R510). A Crypto Officer vendor-defined request that zeroises and resets into a debug state. -/
  | debugUnlock (sid : Nat)
  /-- SPDM_UNSUPPORTED_REQUEST (R511). An unsupported SPDM request returns ERROR UnsupportedRequest. -/
  | spdmUnsupportedRequest (code : Byte)
  /-- SELF_TEST_ON_DEMAND (R506). A request through the status service reruns the power-up self-tests. -/
  | selfTestOnDemand (ok : Bool)
  /-- ENTROPY_HEALTH_FAIL (R518). A continuous entropy health test fails; the source restarts once and reruns start-up tests. -/
  | entropyHealthFail (restartOk : Bool)
  /-- ENTDAA (R514). The I3C target takes its dynamic address. -/
  | entdaa (addr : Byte)
  /-- SET_ENDPOINT_ID (R515). MCTP control command that sets the endpoint ID. -/
  | setEndpointId (eid : Byte)
  /-- GET_ENDPOINT_ID (R515). MCTP control command that returns the endpoint ID. -/
  | getEndpointId
  /-- GET_ENDPOINT_UUID (R515). MCTP control command that returns the endpoint UUID. -/
  | getEndpointUuid
  /-- GET_MCTP_VERSION_SUPPORT (R515). MCTP control command that returns supported versions. -/
  | getMctpVersionSupport
  /-- GET_MESSAGE_TYPE_SUPPORT (R515). MCTP control command that returns supported message types. -/
  | getMessageTypeSupport
  /-- GET_TID (R516). PLDM Type 0 command. -/
  | getTid
  /-- GET_PLDM_VERSION (R516). PLDM Type 0 command. -/
  | getPldmVersion
  /-- GET_PLDM_TYPES (R516). PLDM Type 0 command. -/
  | getPldmTypes
  /-- GET_PLDM_COMMANDS (R516). PLDM Type 0 command. -/
  | getPldmCommands (typ : Nat)
  /-- GET_PDR_REPOSITORY_INFO (R516). PLDM Type 2 command. -/
  | getPdrRepositoryInfo
  /-- GET_PDR (R516). PLDM Type 2 command. -/
  | getPdr (handle : Word32)
  /-- GET_SENSOR_READING (R516). PLDM Type 2 numeric sensor read. -/
  | getSensorReading (sensor : Nat) (value : Word32)
  /-- GET_STATE_SENSOR_READINGS (R516). PLDM Type 2 state sensor read. -/
  | getStateSensorReadings (sensor : Nat)
  /-- QUERY_DEVICE_IDENTIFIERS (R524). PLDM Type 5 command. -/
  | queryDeviceIdentifiers
  /-- GET_FIRMWARE_PARAMETERS (R524). PLDM Type 5 command. -/
  | getFirmwareParameters
  /-- REQUEST_UPDATE (R547). PLDM Type 5 command that enters update mode, or is refused. -/
  | requestUpdate
  /-- PASS_COMPONENT_TABLE (R524). PLDM Type 5 command. -/
  | passComponentTable
  /-- UPDATE_COMPONENT (R525). PLDM Type 5 command that starts a component transfer beginning with its manifest. -/
  | updateComponent (kind : Nat)
  /-- REQUEST_FIRMWARE_DATA (R526). A response to the device's data request delivers manifest or block bytes, which are checked and programmed. -/
  | requestFirmwareData (data : List Byte) (progOk : Bool)
  /-- VERIFY_COMPLETE (R529). The device reads back and verifies the staged image and formats, and classifies the activation. -/
  | verifyComplete
  /-- APPLY_COMPLETE (R532). The boot-selection record takes the trial bank, format and activation kind. -/
  | applyComplete
  /-- ACTIVATE_FIRMWARE (R532). PLDM command that schedules activation, or confirms a running trial. -/
  | activateFirmware (selfContained : Bool) (vfuseOk : Bool)
  /-- GET_STATUS (R524). PLDM Type 5 command. -/
  | getStatus
  /-- CANCEL_UPDATE_COMPONENT (R524). PLDM Type 5 command. -/
  | cancelUpdateComponent
  /-- CANCEL_UPDATE (R527). PLDM command that leaves update mode, or starts a fallback during a trial. -/
  | cancelUpdate
  /-- PLDM_UNSUPPORTED_COMMAND (R524). An unsupported Type 5 command returns ERROR_UNSUPPORTED_PLDM_CMD. -/
  | pldmUnsupportedCommand (cmd : Byte)
  /-- UPDATE_TIMEOUT (R527). The update agent is silent for 120,000,000 tk; update mode ends and the staging bank is marked empty. -/
  | updateTimeout
  /-- HITLESS_ACTIVATION_START (R535). At the first cadence boundary after ActivateFirmware the device enters TENDING and the Gatehouse switches firmware. -/
  | hitlessActivationStart
  /-- GATEHOUSE_SERVICES_RESUME (R535). The new GATE_FW is running, and Gatehouse mailbox services resume. -/
  | gatehouseServicesResume
  /-- STEWARD_HANDOVER (R536). At its pavilion's first step start, a steward stops admission, writes its state record and starts the new firmware. -/
  | stewardHandover (stw : Nat)
  /-- STEWARD_RESUME (R536). The new steward firmware has migrated the state record and resumes admission and pending events. -/
  | stewardResume (stw : Nat)
  /-- RESUME_TIMEOUT (R544). A new steward has not resumed within 3,000 tk, giving fallback cause 2. -/
  | resumeTimeout (stw : Nat)
  /-- CONFIRM_WINDOW_EXPIRY (R541). The confirmation window ends without a confirmation, giving fallback cause 0. -/
  | confirmWindowExpiry
  /-- HITLESS_FALLBACK_START (R544). At the next cadence boundary the reverse handover restores the old image and raises UPDATE_FALLBACK. -/
  | hitlessFallbackStart
  /-- UPDATE_ABANDONED (R545). The reverse handover has not resumed a steward within 3,000 tk, and the device resets. -/
  | updateAbandoned
  /-- ERR_CTL_HIP_CLR (R557). Steward 0 clears a primary's HIP and resumes the preempted handling. -/
  | errCtlHipClr (r : Nat)
  /-- ERR_CTL_OVF_CLR (R628). The PF clears a class's ring overflow count. -/
  | errCtlOvfClr (r : Nat)
  /-- ERR_RING_RD (R555). The PF or service port advances a ring's read index within its valid range. -/
  | errRingRd (r : Nat) (v : Word32)
  /-- ERR_HANDLER_TIMEOUT (R577). A primary's HIP is still set after HIP_LIMIT, and an error is raised one class above. -/
  | errHandlerTimeout (cls : Nat)
  /-- PERSISTENT_LOG_WRITE (R559). Steward 0 writes a primary, a retirement or a SHUTTERED entry to the persistent log. -/
  | persistentLogWrite (ok : Bool)
  /-- REPAIR_RECORD_WRITE (R576). The repair record is written after a repair, or retried if the write fails. -/
  | repairRecordWrite (ok : Bool)
  /-- MAC_RESIDUE_FAIL (R564). A MAC residue check fails twice within 1,000,000 tk, triggering retirement. -/
  | macResidueFail (plot : Nat)
  /-- REPAIR_CTL_RETIRE (R564). The PF requests retirement of a logical plot. -/
  | repairCtlRetire (r : Nat) (v : Word32)
  /-- REPAIR_CTL_LANE_CLR (R570). The PF clears a port's mapped-out Torvol lanes. -/
  | repairCtlLaneClr (r : Nat) (v : Word32)
  /-- AGING_SAMPLE (R574). At a multiple of 1,000,000 tk each plot's timing margin is sampled. -/
  | agingSample (margins : List Nat)
  /-- DEV_CTL_ROUTE_TIE_CLR (R618). The PF clears ROUTE_STAT.TIE_COUNT. -/
  | devCtlRouteTieClr (r : Nat)
  /-- DIR_CTL_CLEAR_TIE_COUNT (R626). The PF clears DIR_STAT.TIE_COUNT. -/
  | dirCtlClearTieCount (r : Nat)
  /-- DIR_CTL_CLEAR_COLD_READS (R626). The PF clears DIR_STAT.COLD_READS. -/
  | dirCtlClearColdReads (r : Nat)
  /-- DIR_CTL_CLEAR_SAT_COUNT (R626). The PF clears DIR_STAT.SAT_COUNT. -/
  | dirCtlClearSatCount (r : Nat)
  /-- POWER_SAMPLE (R595). Every 100 tk steward 0 reads package power and adjusts the power-cap limit. -/
  | powerSample (watts : Nat)
  /-- AVS_SETPOINT_REACHED (R593). The regulator reports the raised setpoint, and the clock is switched up. -/
  | avsSetpointReached
  /-- AVS_FAULT (R606). The regulator does not report a raised setpoint within 1 ms; the setpoint is restored. -/
  | avsFault
  /-- DEV_PWR_AVS_RETRY (R606). A write of 1 to AVS_RETRY allows further rate raises. -/
  | devPwrAvsRetry (r : Nat)
  /-- FAST_CAP (R596). Package power exceeds 700 W for 10 µs, and the PLOT clock halves at once. -/
  | fastCap
  /-- THERMAL_SAMPLE (R597). Every 100 tk steward 0 reads the hottest sensor and adjusts the thermal limit. -/
  | thermalSample (tj : Nat)
  /-- THERMAL_TRIP (R599). Tj reaches 115 °C, and hardware stops every clock except AON and holds DORMANT. -/
  | thermalTrip
  /-- RAIL_UNDERVOLTAGE (R604). A core rail falls more than 5% below its minimum for 2 µs, and the device resets itself. -/
  | railUndervoltage
  /-- AON_OSCILLATOR_STOP (R605). The AON oscillator stops for 2 µs, and the device resets itself. -/
  | aonOscillatorStop
  /-- TVL_REFCLK_LOSS (R605). TVL_REFCLK is lost, and every Torvol port goes DOWN. -/
  | tvlRefclkLoss
  /-- PCIE_REFCLK_LOSS (R605). PCIE_REFCLK is lost, and the PCIe link goes down. -/
  | pcieRefclkLoss
  /-- NAND_PAGE_PROGRAM (R601). A NAND_MAINT GO with OP PAGE PROGRAM issues a program, or is refused. -/
  | nandPageProgram (r : Nat) (chan : Nat) (ce : Nat)
  /-- NAND_BLOCK_ERASE (R601). A NAND_MAINT GO with OP BLOCK ERASE issues an erase, or is refused. -/
  | nandBlockErase (r : Nat) (chan : Nat) (ce : Nat)
  /-- NAND_MAINT_COMPLETE (R633). A maintenance program or erase ends, and BUSY clears. -/
  | nandMaintComplete (ok : Bool)
  /-- SUNDIAL_EDGE (R66). A rising edge arrives at the Sundial receiver, or 1.02 µs pass without one; the tick it closes is judged and the count of consecutive bad edges is set or advanced. -/
  | sundialEdge (missing : Bool) (period : Nat) (high : Nat)
  /-- HBM_LANE_WINDOW_START (R572). At each device time that is a multiple of 1,000,000 tk, every HBM lane's corrected-symbol count restarts at 0. -/
  | hbmLaneWindowStart
  /-- SERVICE_PORT_READY (R482). 40 ms after RST_N release the service port begins to answer MCTP control, and DEV_STAT becomes readable over it. -/
  | servicePortReady
  /-- PLDM_SPDM_READY (R517). 600 ms after RST_N release PLDM and SPDM are served instead of ERROR_NOT_READY and ERROR Busy. -/
  | pldmSpdmReady
  /-- THERM_N_RELEASE_AFTER_TRIP (R598). In the DORMANT that follows a thermal trip, the AON logic releases THERM_N when Tj falls below 95 °C. -/
  | thermNReleaseAfterTrip (tj : Nat)
  /-- LOW_HALF_READ (R611). A 4-byte read of the low half of a 64-bit register latches the high half for that requester, for its next 4-byte read of the high half. -/
  | lowHalfRead (r : Nat) (off : Nat)
  deriving DecidableEq, Repr

end Sys2Proof
end

