-- ==== Sys2Proof/Machine/State.lean ====
section
/-! DEFINITION. The state of the GK-7140 as plain data, and the machine right after reset.
A field's default value is its value at reset; INVENTORY.md lists each with its rule.
Every register of ch. 19 is a field of the register file `State.regs` (Machine/Registers.lean lists them) unless
a structure below holds the thing the register reports. -/
namespace Sys2Proof.Machine
open Sys2Proof

/-- Device states (R14). -/
inductive DevState where
  | dormant | waking | rooting | loading | opened | tending | shuttered
  deriving DecidableEq, Repr

/-- Pavilion states (R15). -/
inductive PavState where
  | closed | loading | opened | draining | swapping
  deriving DecidableEq, Repr

/-- Sundial receiver states (R74). -/
inductive SdlState where
  | search | acquiring | locked | holdover | lost
  deriving DecidableEq, Repr

/-- Torvol port states (R421). -/
inductive PortState where
  | down | training | linked | ready
  deriving DecidableEq, Repr

/-- Queue-pair states (R632). -/
inductive QpState where
  | disabled | enabled | error
  deriving DecidableEq, Repr

/-- Adapter version states (R48). -/
inductive VState where
  | free | loading | staged | current | superseded | retiring | failed
  deriving DecidableEq, Repr

/-- Where an adapter record's blob lies (R29). -/
inductive Loc where
  | hbm | cold | both
  deriving DecidableEq, Repr

/-- Directory entry states (R18). -/
inductive EntState where
  | free | live | retiring
  deriving DecidableEq, Repr

/-- KV page states (R316). -/
inductive PageState where
  | free | owned | shared | cached
  deriving DecidableEq, Repr

/-- Error classes, lowest first (R550). -/
inductive Cls where
  | corrected | deferred | request | pavilion | device
  deriving DecidableEq, Repr

/-- A tick's symbol (R65). -/
inductive Sym where
  | zero | one | invalid
  deriving DecidableEq, Repr

/-- How the service port answers a request (R484, R495, R511, R516, R519, R524, R547). -/
inductive Answer where
  /-- It is answered. -/
  | done
  /-- SPDM ERROR with ErrorCode Busy, UnexpectedRequest, Unspecified or UnsupportedRequest. -/
  | busy | unexpectedRequest | unspecified | unsupportedRequest
  /-- PLDM ERROR_NOT_READY, ERROR_UNSUPPORTED_PLDM_CMD, RETRY_REQUEST_UPDATE. -/
  | notReady | unsupportedPldmCmd | retryRequestUpdate
  /-- Another error, which the manual leaves to the protocol's standard (log 8). -/
  | refused
  deriving DecidableEq, Repr

/-- PLDM Type 5 messages the device itself sends (R525 to R529). -/
inductive Sent where
  /-- RequestFirmwareData: offset and length. -/
  | requestData (off len : Nat)
  /-- TransferComplete: success, image-corrupt, version-mismatch. -/
  | transferOk | imageCorrupt | versionMismatch
  /-- VerifyComplete: success, verify-failure. -/
  | verifyOk | verifyFailure
  /-- ApplyComplete. -/
  | applyOk
  deriving DecidableEq, Repr

/-- What the device has sent outside: the model's own record of its outputs (log 2). -/
inductive Out where
  /-- A posted write to host memory on behalf of a function (R450). -/
  | hostWrite (fn addr : Nat) (data : List Byte)
  /-- An MSI-X message of a function's vector (R453). -/
  | msix (fn vec : Nat)
  /-- Data returned for a register read by a requester (R611, R614, R622). -/
  | readData (r : Nat) (v : Word64)
  /-- The reply to an MCTP control, PLDM or SPDM request: the request, how it is answered, a body. -/
  | reply (req : Instr) (answer : Answer) (body : List Byte)
  /-- A PLDM Type 5 message the device itself sends (R525 to R529). -/
  | pldmSend (what : Sent)
  /-- A Torvol control symbol sent on a port: its TYPE and its content bytes from byte 1 (R403). -/
  | symbol (port typ : Nat) (body : List Byte)
  /-- A Torvol packet sent on a port: HEAD, ciphertext, tag, STOMP, the end-to-end CRC (R405). -/
  | packet (port : Nat) (head : BitVec 512) (data : List Byte) (tag : BitVec 128) (stomp : Bool) (crc : Word32)
  /-- A codeword sent on a port, first or replayed: physical lanes and the symbols that each carries (R398, R400). -/
  | codeword (port : Nat) (lanes : List (Nat × List (BitVec 10)))
  /-- A transaction's ACK told to the source's steward: XID and STATUS (R406, R407). -/
  | acked (xid : Word32) (status : Nat)
  /-- FABRIC_UNREACHABLE told to the source's steward (R409). -/
  | unreachable (xid : Word32)
  /-- Sequencer fault report to a steward: plot, macro-op image, code, incomplete tiles (R205). -/
  | faultReport (plot : Nat) (img : BitVec 256) (code : Nat) (tiles : List Nat)
  /-- Steward 0 of the root announces a broadcast on a tree, with its start tick (R376). -/
  | announce (tree start : Nat)
  /-- The root sends an item of its broadcast on a tree (R377, R379). -/
  | broadcast (tree : Nat) (item : BcastItem)
  /-- The root sends a shard's end marker on a tree (R378). -/
  | shardEnd (tree pav model shard : Nat)
  /-- A device asks the root for leaves of a shard: pavilion, model, SHARD_ID (R378, R379, R391). -/
  | repairRequest (pav model shard : Nat) (leaves : List Nat)
  /-- A receiver asks the root for a manifest (R379). -/
  | manifestRequest (pav model : Nat)
  /-- The root sends an item by unicast to a device (R378). -/
  | unicastItem (dest : Nat) (item : BcastItem)
  /-- A VCORE setpoint in mV written over AVSBus (R593). -/
  | avs (mv : Nat)
  deriving DecidableEq, Repr

/-! ### Time and Sundial -/

/-- Periodic events skipped by a forward step and due at the step tick (R78, R574). -/
structure Owed where
  cad : Bool := false
  ttl : Bool := false
  scrub : Bool := false
  aging : Bool := false
  deriving DecidableEq, Repr

/-- The Sundial receiver (R65 to R91). -/
structure SdlS where
  st : SdlState := .search
  rxEn : Bool := false
  refMoved : Bool := false
  bad : Nat := 0
  notGood : Nat := 0
  /-- The last tick symbols, newest first, at most 128. -/
  ticks : List Sym := []
  /-- Ticks since tick 0 of the frame in progress, once a good frame has been found, and the device time of that tick 0 as
  it arrived or was expected (R70). -/
  pos : Nat := 0
  frameAt : Nat := 0
  /-- Elapsed ns since the last valid tick's edge, and the tk counted in them, while bad edges come (R66, R71). -/
  accNs : Nat := 0
  accTk : Nat := 0
  everLocked : Bool := false
  prevEpoch : Option Nat := none
  prevStepNext : Bool := false
  mism : Option Nat := none
  holdAt : Nat := 0
  /-- Offset still to remove by a slew (R77). -/
  slew : Int := 0
  slewPhase : Nat := 0
  slewOwed : Bool := false
  owed : Owed := {}
  /-- The cadence boundary, the TTL check, the aging sample and the power reading of this tick have been made (R82, R84, R575,
  R595). -/
  cadDone : Bool := false
  ttlDone : Bool := false
  agingDone : Bool := false
  powerDone : Bool := false
  /-- The undecided descriptors that were cancelled in this tick, by queue pair × 256 + slot (R462). -/
  cancelled : List Nat := []
  /-- The latest scrub start tick that has been taken: none up to it starts a pass again (R78). -/
  scrubSeen : Option Nat := none
  fwdDone : Option Nat := none
  /-- EPOCH and FLAGS of the last frame regenerated from TIME symbols, and missing frames since (R420). -/
  tvlLast : Option (Nat × BitVec 16) := none
  tvlMiss : Nat := 0
  /-- Ticks regenerated from TIME symbols and not yet presented to the receiver, a tk each; none where no tick comes (R420). -/
  regen : List (Option Sym) := []
  deriving DecidableEq, Repr

/-! ### Device, fuses, boot -/

structure DevS where
  st : DevState := .dormant
  recovery : Bool := false
  fabricReady : Bool := false
  /-- The device has entered OPEN since reset, so HDR-DDR is available (R641). -/
  everOpen : Bool := false
  svcReady : Bool := false
  cfgReady : Bool := false
  pldmReady : Bool := false
  /-- PERST# is asserted (log 20). -/
  perst : Bool := true
  pcieUp : Bool := false
  /-- DORMANT is held after a thermal trip until Tj falls below 95 °C and RST_N is asserted and released (R599). -/
  tripHold : Bool := false
  thermN : Bool := false
  /-- RST_N is held asserted. -/
  rstLow : Bool := true
  deriving DecidableEq, Repr

/-- Fused values (R618, R472, R497, R523); what a part holds is not the manual's to say (log 20). -/
structure Fuses where
  grade : BitVec 4 := 0
  rev : Byte := 0
  serial : Word64 := 0
  keyDigest : Tab (BitVec 384) := []
  /-- SHA-384 of the Gatehouse boot ROM (R512). -/
  romDigest : BitVec 384 := 0
  /-- Anti-rollback positions blown, 0 to 64 (R523). -/
  sv : Nat := 0
  huk : List Byte := []
  deriving DecidableEq, Repr

/-- A model entry of the image (R475). -/
structure Model where
  id : Nat := 0
  pav : Nat := 0
  draft : Bool := false
  layers : Nat := 1
  vocab : Nat := 2
  hidden : Nat := 0
  kvDim : Nat := 32
  kvFmt : Nat := 0
  tileMask : Nat := 0
  tnQ : Nat := 0
  alloc : Nat := 0
  stops : List Nat := []
  deriving DecidableEq, Repr

/-- A routing rule of the image (R477). -/
structure Rule where
  functions : Nat := 0
  tenant : Word32 := 0
  modelMask : Nat := 0
  pav : Nat := 0
  anyTenant : Bool := false
  admits : Bool := false
  prio : Nat := 0
  deriving DecidableEq, Repr

/-- An error as a unit raises it, before it is entered (R553, R556). -/
structure Err where
  cls : Cls
  event : Nat
  /-- The pavilion it names; none is DEVICE_WIDE. -/
  pav : Option Nat := none
  unit : Nat := 0
  inst : Nat := 0
  d0 : Nat := 0
  d1 : Nat := 0
  inHandler : Bool := false
  deriving DecidableEq, Repr

inductive SelfTest where
  | notRun | passed | failed
  deriving DecidableEq, Repr

/-- Boot progress (R468 to R490, R530, R531). -/
structure Boot where
  fusesRead : Bool := false
  selfTest : SelfTest := .notRun
  /-- The bank being read: 0 A, 1 B; none before it is chosen. -/
  bank : Option Nat := none
  /-- Banks that have failed verification. -/
  failed : List Nat := []
  headerOk : Bool := false
  /-- Both banks have failed (R471). -/
  invalid : Bool := false
  imageApplied : Bool := false
  bootBank : Nat := 0
  trialBoot : Bool := false
  image : List Byte := []
  models : List Model := []
  rules : List Rule := []
  /-- State format of the running steward firmware (R522, R529). -/
  format : Nat := 0
  /-- Errors held until the records are available (R489), oldest first. -/
  early : List Err := []
  deriving DecidableEq, Repr

/-! ### Access state -/

structure AccessS where
  /-- BLOCK_CHSEL copies, indexed block × 73 + requester (R11). -/
  chsel : Tab Nat := []
  homeIdx : Tab Nat := []
  plogIdx : Tab Nat := []
  /-- By block × 73 + requester: BAR0 offset of the high half and its latched value (R611). -/
  latch : Tab (Nat × Word32) := []
  svcRead : Option Word32 := none
  deriving DecidableEq, Repr

/-! ### Host interface -/

/-- An event or administrative completion, PHASE still 0 (R449, R456). -/
structure Ev where
  admin : Bool := false
  w : BitVec 128 := 0
  deriving DecidableEq, Repr

/-- A queue pair; its index is function × 16 + q (R437, R438). -/
structure Qp where
  st : QpState := .disabled
  sqHead : Nat := 0
  sqTail : Nat := 0
  cqHead : Nat := 0
  cqTail : Nat := 0
  phase : Bool := true
  /-- Submission slots of 128 bytes (R435). -/
  ring : Tab (BitVec 1024) := []
  /-- Doorbell tick by ring slot (R257). -/
  posted : Tab Nat := []
  evbuf : List Ev := []
  /-- The ticks of the events that are written and not acknowledged, oldest first (R453). -/
  written : List Nat := []
  fired : Bool := false
  draining : Bool := false
  /-- No decision was taken on the descriptor at the head: the ring is served again at a cadence boundary (R255). -/
  waits : Bool := false
  deriving DecidableEq, Repr

/-- An administrative command accepted and not yet completed (R443); source 64 is the service mailbox (R463). -/
structure AdminCmd where
  src : Nat
  img : BitVec 1024
  /-- Its command has been executed and a completion is still to come. -/
  started : Bool := false
  deriving DecidableEq, Repr

/-! ### Adapters -/

/-- A directory entry (R18). -/
structure DirEnt where
  tenant : Word32 := 0
  hash : Word32 := 0
  modelMask : BitVec 16 := 0
  layerFirst : Nat := 0
  layerLast : Nat := 0
  prio : Nat := 0
  st : EntState := .free
  anyHash : Bool := false
  cur : Nat := 0
  /-- Deleted at a boundary: no load adds to it, and it is free with its last record (R53). -/
  dead : Bool := false
  /-- The source and CID that wait for the second DELETED completion (R55). -/
  deleter : Option (Nat × Word32) := none
  /-- The load serial of the ADAPTER_LOAD that made it: it tells the entry from a later one in its slot (R54). -/
  born : Nat := 0
  deriving DecidableEq, Repr

/-- An adapter record (R29) with what the steward keeps of it. -/
structure AdRec where
  tenant : Word32 := 0
  hash : Word32 := 0
  version : Word32 := 0
  rankQ : Nat := 0
  fmt : Nat := 0
  mode : Nat := 0
  proj : BitVec 7 := 0
  kvClean : Bool := false
  scaleNeg : Bool := false
  scaleZero : Bool := false
  scaleLog : BitVec 12 := 0
  layerFirst : Nat := 0
  layerLast : Nat := 0
  vst : VState := .free
  loc : Loc := .hbm
  pins : Nat := 0
  location : Nat := 0
  /-- Address of the cold-frame copy, if it has one. -/
  coldAt : Option Nat := none
  size : Nat := 0
  digest : BitVec 384 := 0
  slot : Nat := 0
  /-- Load serial (R318). -/
  serial : Nat := 0
  /-- Source and CID of the ADAPTER_LOAD not yet completed. -/
  load : Option (Nat × Word32) := none
  lastUse : Nat := 0
  deriving DecidableEq, Repr

/-- Directory commands that take effect at the next boundary (R53 to R55). `born` names the entry; `at'` is the load serial next
at acceptance, which orders them among the loads (R54). -/
inductive DirOp where
  | delete (slot born src : Nat) (cid : Word32) (at' : Nat)
  | setPrio (slot born prio src : Nat) (cid : Word32) (at' : Nat)
  deriving DecidableEq, Repr

/-- A directory change due at a boundary: the flip of a record, named by its load serial as well, or a command (R49, R54). -/
inductive DirAct where
  | flip (rec serial : Nat)
  | op (o : DirOp)
  deriving DecidableEq, Repr

/-! ### Plots and terraces -/

/-- A generator bank (R154, R155). -/
structure Gen where
  key : Word64 := 0
  d : Word64 := 0
  /-- Lane-phase counters. -/
  c : Tab Word64 := []
  deriving DecidableEq, Repr

/-- A Trellis message (R101, R103). -/
structure Message where
  src : Nat
  dst : Nat
  flits : Nat
  tag : Byte
  rel : Bool
  payload : List Byte
  /-- Older stores not yet performed and macro-ops pushed before it not yet finished (R239). -/
  stores : Nat
  ops : Nat
  deriving DecidableEq, Repr

/-- A macro-op in the queue (R109). -/
structure QOp where
  ticket : Word32
  img : BitVec 256
  /-- Buffered stores older than its SEQ.PUSH not yet performed (R238). -/
  stores : Nat := 0
  deriving DecidableEq, Repr

/-- Rows of a halo transfer: the byte count, each row's element and scale bytes (none: an absent row), whether a read met
POISON (R195). -/
structure HaloRows where
  count : Nat
  rows : List (Option (List Byte × List Byte))
  bad : Bool
  deriving DecidableEq, Repr

/-- The macro-op in execution (R189, R190, R155). -/
structure RunOp where
  op : QOp
  /-- Tiles drawn, newest first. -/
  tiles : List Nat := []
  /-- Next tile of a LOCAL walk. -/
  next : Nat := 0
  /-- What a SHARED walk has drawn ahead (R189): nothing yet, or a tile, or none where the counter is exhausted. -/
  ahead : Option (Option Nat) := none
  /-- The walk has ended and the writes are made. -/
  done : Bool := false
  /-- An execution fault, its code, not yet reported. -/
  fault : Option Nat := none
  /-- Tiles drawn and not complete at the fault. -/
  incomplete : List Nat := []
  /-- Length registers sampled at issue (R175). -/
  lens : List Nat := []
  /-- The descriptors as read at issue: SRC0, SRC1, SRC2, DST. -/
  descs : List (List Byte) := []
  /-- PAD_SAT has been counted for this macro-op (R194). -/
  padSat : Bool := false
  /-- A halo macro-op has begun its transfer (R195). -/
  sent : Option HaloRows := none
  /-- The transfers with the E and the W neighbour are agreed, and what was received (R197). -/
  eOk : Bool := false
  wOk : Bool := false
  rows : Option HaloRows := none
  deriving DecidableEq, Repr

/-- A buffered store (R236): device address, bytes. -/
structure Store where
  addr : Nat
  bytes : List Byte
  deriving DecidableEq, Repr

/-- A begun halo exchange (R106). -/
structure Halo where
  dir : Nat
  len : Nat
  send : Nat
  recv : Nat
  rd : Nat
  deriving DecidableEq, Repr

/-- A tile a steward has to reissue (R205, R206). -/
structure Reissue where
  op : BitVec 256
  tile : Nat
  code : Nat
  failedOn : List Nat
  deriving DecidableEq, Repr

/-- The plot controller's registers (R98, R99, R211). -/
structure Cpu where
  x : Tab Word32 := []
  pc : Word32 := 0
  mstatus : Word32 := 0
  mie : Word32 := 0
  mscratch : Word32 := 0
  mtvec : Word32 := 0
  mepc : Word32 := 0
  mcause : Word32 := 0
  mtval : Word32 := 0
  dwin0 : Word32 := 0
  dwin1 : Word32 := 0
  aarg : Word32 := 0
  acmp : Word32 := 0
  deriving DecidableEq, Repr

/-- A logical plot (R98). -/
structure Plot where
  run : Bool := false
  halted : Bool := false
  inTrap : Bool := false
  cpu : Cpu := {}
  store : List Host.Cell := []
  /-- Uncorrectable 8-byte words of plot store, by word index (R568). -/
  bad : List Nat := []
  /-- Rows with corrected reads: row index, times (R568). -/
  ce : Tab (List Nat) := []
  /-- Rows due for repair at the next boundary (R568). -/
  rowRepair : List Nat := []
  queue : List QOp := []
  nextTicket : Word32 := 0
  running : Option RunOp := none
  fault : Option Nat := none
  discarding : Bool := false
  inj : List (BitVec 256) := []
  /-- Steward tiles of this plot still to inject, a list for each tiled layer of the step: those of the first are injected while
  the plot waits at the layer's BARRIER (R276). -/
  injWait : List (List (BitVec 256)) := []
  injStage : Tab Word32 := []
  gens : Tab Gen := []
  outq : List Message := []
  inq : List Message := []
  halo : Option Halo := none
  sb : List Store := []
  /-- Buffered stores that a FENCE makes later loads wait for (R237). -/
  fence : Nat := 0
  resid : Option Nat := none
  warned : Bool := false
  /-- PLOT_CTL.RUN was cleared while a macro-op executes (R127). -/
  stopping : Bool := false
  /-- A retirement trigger stands (R564). -/
  retire : Bool := false
  /-- Waits at a BARRIER with this scope and ID (R181). -/
  barrier : Option (Nat × Nat) := none
  /-- The images, without their tile, of the macro-ops on which the plot has faulted in execution, each until the plot issues that
  image again (R206). -/
  faultOn : List (BitVec 256) := []
  /-- Reissued tiles that wait for room in the lane (R201, R206). -/
  injHold : List (BitVec 256) := []
  deriving DecidableEq, Repr

/-- Terrace roles (R269). -/
inductive Role where
  | prefill | decode | mixed
  deriving DecidableEq, Repr

/-- A segment-table entry (R34): record (none: the rows without a record), its rows in batch order. -/
structure Seg where
  record : Option Nat
  rows : List Nat
  deriving DecidableEq, Repr

/-- A segment table: the layer span, its segments, the row permutation and, for each layer of the span, the header and entries
as bytes (R33, R34). -/
structure SegTab where
  layerFirst : Nat
  layerLast : Nat
  step : Nat
  segs : List Seg
  perm : List Nat := []
  images : List (List Byte) := []
  deriving DecidableEq, Repr

/-- A terrace (R131, R269, R33). -/
structure Terr where
  withdrawn : Bool := false
  /-- To be withdrawn at the next step boundary. -/
  withdrawDue : Bool := false
  role : Role := .decode
  segs : List SegTab := []
  /-- The request of each row that the terrace carries in the step, in placement order (R265). -/
  rows : List Nat := []
  /-- Its step is held, with no rows, for a retirement (R280, R565). -/
  held : Bool := false
  /-- It has taken its retirement of this boundary (R567). -/
  took : Bool := false
  deriving DecidableEq, Repr

/-! ### Memory -/

/-- A cold-frame port (R222, R245, R573, R642). -/
structure CfmPort where
  linked : Bool := false
  raw : Nat := 0
  lost : Bool := false
  deriving DecidableEq, Repr

/-- The CFM block (R222 to R225) and the lost HBM stacks (R571). -/
structure CfmS where
  port0 : CfmPort := {}
  port1 : CfmPort := {}
  /-- Order in which the ports' capacity is mapped, when not interleaved. -/
  order : List Nat := []
  ctr : Tab Word64 := []
  /-- What the expanders store by page: the ciphertext, and the 32-byte entry (R223). -/
  cipher : Tab (List Byte) := []
  entry : Tab (List Byte) := []
  /-- Page buffer, newest first, at most 256 page indexes. -/
  buf : List Nat := []
  badPages : List Nat := []
  lostStacks : List Nat := []
  deriving DecidableEq, Repr

/-! ### Pavilions and requests -/

/-- A shard of a model, in place or in the staging area (R366 to R378). -/
structure Shard where
  verified : Bool := false
  inPlace : Bool := false
  /-- Reads from flash that failed (R372). -/
  reads : Nat := 0
  cold : Bool := false
  addr : Nat := 0
  tableAt : Nat := 0
  /-- Its leaf hashes, until the table stands in the HBM region. -/
  leaves : List (BitVec 384) := []
  /-- Leaves left POISON after failed restorations (R393). -/
  lostLeaves : List Nat := []
  /-- Leaves a broadcast receiver holds, and repair rounds made (R378). -/
  got : List Nat := []
  rounds : Nat := 0
  /-- Its bytes as read, until they are written to their place. -/
  data : List Byte := []
  deriving DecidableEq, Repr

inductive SwapStage where
  /-- Its manifest is being read. -/
  | reading
  | queued | accepted | staging | verified | copying
  deriving DecidableEq, Repr

/-- A weight swap in progress (R382 to R390). -/
structure Swap where
  model : Nat
  stage : SwapStage := .reading
  holdAll : Bool := false
  unit : Nat := 0
  /-- Units copied so far. -/
  copied : List Nat := []
  /-- Flash address of the new manifest, and the manifest once it is accepted. -/
  addr : Nat := 0
  manifest : List Byte := []
  /-- The unit's shards in the staging area, by manifest index. -/
  staged : Tab Shard := []
  src : Nat := 0
  cid : Word32 := 0
  /-- Rolling back after a unit that could not be verified (R390). -/
  back : Bool := false
  deriving DecidableEq, Repr

/-- A pavilion (R246 to R281). -/
structure Pav where
  st : PavState := .closed
  np : Nat := 1
  streak : Nat := 0
  /-- Sign of n* − n_p at the last boundary (R271). -/
  streakSign : Int := 0
  step : Nat := 0
  epf : Int := 10000
  edec : Int := 10000
  a16 : Nat := 16
  since : Nat := 0
  /-- WEIGHT_LOST rejects every admission (R393). -/
  lostWeights : Bool := false
  /-- No step starts: a swap copy (R386, R387). -/
  held : Bool := false
  admitPaused : Bool := false
  swap : Option Swap := none
  /-- Tiles a steward has to reissue (R206). -/
  reissues : List Reissue := []
  /-- The function in turn at admission, and the descriptors it has had decided in the turn (R254). -/
  turnFn : Nat := 63
  turnN : Nat := 8
  deriving DecidableEq, Repr

/-- Where a resident request stands. -/
inductive Phase where
  | fetching | ready | running | paused | spilling | spilled | pagingIn
  deriving DecidableEq, Repr

/-- A spilled page: its cold-frame address, key, draft flag (R327). -/
structure SpPage where
  j : Nat
  draft : Bool := false
  coldAt : Nat := 0
  size : Nat := 0
  key : Option Word64 := none
  /-- An entry of the page was written while the pavilion was SWAPPING (R321). -/
  swapMade : Bool := false
  deriving DecidableEq, Repr

/-- Scheduling figures of a request (R258, R261, R264). -/
structure Sched where
  cls : Nat := 0
  /-- Tick since when it has been without a row. -/
  noRow : Nat := 0
  /-- Consecutive cadence windows with rows. -/
  windows : Nat := 0
  sliceExp : Bool := false
  selected : Bool := false
  /-- It has held rows since the last boundary. -/
  rowsAll : Bool := false
  /-- Speculation depth d of the coming step (R284). -/
  depth : Nat := 0
  deriving DecidableEq, Repr

/-- What the final record reports of a request (R447). -/
structure Report where
  deadlineMissed : Bool := false
  seedDup : Bool := false
  mixed : Bool := false
  stop : Bool := false
  maxed : Bool := false
  verFirst : Word32 := 0
  verLast : Word32 := 0
  wgenFirst : Nat := 0
  wgenLast : Nat := 0
  matched : Nat := 0
  drafted : Nat := 0
  accepted : Nat := 0
  deriving DecidableEq, Repr

/-- A resident request. -/
structure Req where
  fn : Nat := 0
  qp : Nat := 0
  pav : Nat := 0
  model : Nat := 0
  desc : BitVec 1024 := 0
  seq : Nat := 0
  /-- Resolution: slot and record per layer (R22). -/
  res : List (Option (Nat × Nat)) := []
  phase : Phase := .fetching
  prompt : List Nat := []
  /-- Prompt tokens not yet prefilled (R260). -/
  todo : Nat := 0
  /-- Committed output tokens. -/
  out : List Nat := []
  /-- COMMIT_LEN and LEN of its page table (R313). -/
  commitLen : Nat := 0
  len : Nat := 0
  /-- The positions of which the draft holds committed KV entries, and the tokens that its next pass takes (R287, R297). -/
  draftLen : Nat := 0
  draftIn : List Nat := []
  drafts : List Nat := []
  /-- Its commit point has passed in this step (R297). -/
  committed : Bool := false
  /-- Drafting of this round has stopped early (R305, R364). -/
  draftStopped : Bool := false
  draws : List Nat := []
  /-- No further target draw of the round is made: no token was allowed, or the selection object was lost (R364, R365). -/
  maskEmpty : Bool := false
  poisoned : Bool := false
  /-- Its pavilion has closed: nothing more of it is selected or committed (R308). -/
  dropped : Bool := false
  sched : Sched := {}
  gram : Nat := 0
  seed : Word64 := 0
  /-- The code with which it ends at the next step boundary (R278). -/
  ending : Option Nat := none
  report : Report := {}
  wgenAdm : Nat := 0
  kvClass : Word64 := 0
  classChanged : Bool := false
  matchedOnce : Bool := false
  /-- Target and draft pages by j; none is a page not in HBM (R313). -/
  pages : List (Option Nat) := []
  draftPages : List (Option Nat) := []
  keys : List Word64 := []
  spill : List SpPage := []
  /-- Pages still to spill or to page in. -/
  toMove : Nat := 0
  expiry : Option Nat := none
  /-- The deadline tick; it shifts with the first lock (R79, R277). -/
  deadline : Option Nat := none
  /-- Pages reserved at admission and not yet allocated (R324). -/
  reserved : Nat := 0
  /-- Advance pending after a flip (R45). -/
  advance : Bool := false
  /-- Device writes for it are cut off (R442). -/
  cut : Bool := false
  deriving DecidableEq, Repr

/-- A KV page of a pool; its index is pavilion × 2²¹ + page, draft pages from 2²⁰ on (R316). -/
structure KvPage where
  st : PageState := .free
  refs : Nat := 0
  key : Option Word64 := none
  tokens : List Nat := []
  parent : Option Nat := none
  relTick : Nat := 0
  j : Nat := 0
  model : Nat := 0
  gen : Nat := 0
  swapMade : Bool := false
  deriving DecidableEq, Repr

/-- A selection object (R352 to R365); its index is its handle. -/
structure Obj where
  grammar : Bool := false
  fn : Nat := 0
  pav : Nat := 0
  vocab : Nat := 0
  /-- Where the blob lies in the object area. -/
  addr : Nat := 0
  size : Nat := 0
  pins : Nat := 0
  retiring : Bool := false
  lost : Bool := false
  deleter : Option (Nat × Word32) := none
  deriving DecidableEq, Repr

/-! ### Weights -/

/-- The weights of one model in one pavilion, index pavilion × 16 + model (R366 to R373). -/
structure Wgt where
  /-- The manifest has been read since the pavilion entered LOADING. -/
  tried : Bool := false
  /-- The manifest last read from the address that WGT_PAV.MANIFEST names (R602). -/
  named : List Byte := []
  manifest : List Byte := []
  /-- The manifest is accepted and its shards have their places. -/
  good : Bool := false
  shards : Tab Shard := []
  deriving DecidableEq, Repr

/-- A leaf or leaf table under restoration (R391, R392). -/
structure Restore where
  pav : Nat
  model : Nat
  shard : Nat
  /-- none: the leaf table's root failed, and the whole shard is restored. -/
  leaf : Option Nat
  /-- Leaves the attempt has still to restore. -/
  todo : List Nat := []
  attempts : Nat := 0
  deriving DecidableEq, Repr

/-- What a scrub check looks at (R62, R373). -/
inductive ScrubTarget where
  | leafTable (pav model shard : Nat)
  | leaf (pav model shard leaf : Nat)
  | adapter (record : Nat)
  deriving DecidableEq, Repr

structure Scrub where
  running : Bool := false
  /-- The place in the pass's order from which its next check is looked for (R373). -/
  pos : Nat := 0
  restores : List Restore := []
  deriving DecidableEq, Repr

inductive BcastState where
  | idle | announced | running | retry
  deriving DecidableEq, Repr

/-- One thing that the root's broadcast sends: a manifest, a shard's entry, its leaf table, a leaf, its end marker (R377, R378). -/
inductive BcastPart where
  | manifest (pav model : Nat)
  | entry (pav model shard : Nat)
  | table (pav model shard : Nat)
  | leaf (pav model shard leaf : Nat)
  | marker (pav model shard : Nat)
  deriving DecidableEq, Repr

/-- The fabric broadcast, on the root or on a receiver (R376 to R379). -/
structure Bcast where
  st : BcastState := .idle
  start : Nat := 0
  /-- What the root has still to send, in order. -/
  left : List BcastPart := []
  deriving DecidableEq, Repr

/-! ### Torvol -/

/-- A slot of 64 bytes: a control symbol or data (R399). -/
structure Slot where
  ctrl : Bool := true
  bytes : List Byte := []
  deriving DecidableEq, Repr

/-- A codeword's content (R399, R401). -/
structure Cw where
  noseq : Bool := false
  seq : Byte
  slots : List Slot
  deriving DecidableEq, Repr

/-- A packet that has arrived on a port, decrypted: HEAD, payload, whether its tag holds, STOMP, the end-to-end CRC (R405, R410). -/
structure Pkt where
  head : BitVec 512
  payload : List Byte
  tagOk : Bool
  stomp : Bool
  crc : Word32
  deriving DecidableEq, Repr

/-- A packet of this device that waits to leave: HEAD, payload, the end-to-end CRC. -/
structure TvlDue where
  head : BitVec 512
  payload : List Byte
  crc : Word32
  deriving DecidableEq, Repr

/-- A Torvol port (R396 to R428). -/
structure Port where
  st : PortState := .down
  /-- SEQ of the next numbered codeword sent, and the one expected. -/
  txSeq : Byte := 0
  rxSeq : Byte := 0
  /-- The replay buffer: numbered codewords not yet acknowledged, oldest first (R401). -/
  replay : List Cw := []
  /-- Slots of codewords that wait for room in the replay buffer (R401). -/
  held : List (List Slot) := []
  /-- Numbered codewords accepted since the last LINK_ACK. -/
  acked : Nat := 0
  /-- The SEQ last replayed, and its consecutive failed replays. -/
  nakSeq : Option Byte := none
  replayFails : Nat := 0
  nakSent : Bool := false
  /-- Credits held, in slots of each virtual channel. -/
  cr0 : Nat := 0
  cr1 : Nat := 0
  cr2 : Nat := 0
  sentReady : Bool := false
  rcvdReady : Bool := false
  peerDomain : BitVec 16 := 0
  peerId : Byte := 0
  peerPort : Byte := 0
  txEpoch : Byte := 0
  rxEpoch : Byte := 0
  txSalt : BitVec 128 := 0
  rxSalt : BitVec 128 := 0
  txKey : Option (BitVec 256) := none
  rxKey : Option (BitVec 256) := none
  nonce : Nat := 0
  keyStopped : Bool := false
  /-- The fabric master key in force at the last entry to READY (R499). -/
  fmk : Option (List Byte) := none
  delays : List Int := []
  /-- A lane swap's switch SEQ, and the lane it moves: announced by the peer, and by this port (R425). -/
  swapAt : Option (Byte × Nat) := none
  txSwap : Option (Byte × Nat) := none
  /-- Corrected symbols by logical lane, in the window that runs and in the last one that has ended (R425). -/
  lanes : Tab Nat := []
  lanesPast : Tab Nat := []
  /-- The packet whose slots are arriving: HEAD and data so far (R405). -/
  taking : Option (BitVec 512 × List Byte) := none
  /-- Packets in the receive buffers, oldest first (R410). -/
  rxBuf : List Pkt := []
  authTimes : List Nat := []
  downReason : Nat := 0xFF
  downAt : Nat := 0
  deriving DecidableEq, Repr

/-- A transaction that waits for its ACK (R409). -/
structure Xact where
  head : BitVec 512
  payload : List Byte
  sends : Nat
  sentAt : Nat
  deriving DecidableEq, Repr

/-! ### Gatehouse, service port, update -/

structure Gate where
  errorState : Bool := false
  debug : Bool := false
  /-- Open SPDM sessions, at most 2, and those authenticated as Crypto Officer (R511, R494). -/
  sessions : List Nat := []
  established : List Nat := []
  officers : List Nat := []
  keysLoaded : Bool := false
  serving : Bool := false
  /-- The fabric master key in use, unwrapped (R497). -/
  fmk : Option (List Byte) := none
  cfKey : Option (BitVec 256) := none
  wrapKey : Option (BitVec 256) := none
  /-- Seeds of the DevID and attestation key pairs (R504). -/
  devId : Option (List Byte) := none
  ak : Option (List Byte) := none
  eid : Byte := 0
  dynAddr : Option Byte := none
  /-- The image whose GATE_FW runs (block 2, R512, R513). -/
  fwImage : List Byte := []
  deriving DecidableEq, Repr

/-- The update state (R524 to R549). -/
structure Upd where
  /-- Update mode. -/
  mode : Bool := false
  /-- KIND of the component in transfer, verification or application, 0 none. -/
  kind : Nat := 0
  /-- The manifest, once it is accepted. -/
  manifest : List Byte := []
  /-- The block in transfer, the bytes of it (or of the manifest) received, and its failed attempts. -/
  block : Nat := 0
  chunk : List Byte := []
  tries : Nat := 0
  /-- A KIND 2 component's record. -/
  record : List Byte := []
  transferred : Bool := false
  verified : Bool := false
  /-- KINDs applied. -/
  applied : List Nat := []
  hitless : Bool := false
  /-- ActivateFirmware has been accepted for a hitless activation that has not started. -/
  scheduled : Bool := false
  trial : Bool := false
  /-- The trial is of a hitless activation. -/
  hitlessTrial : Bool := false
  windowEnd : Option Nat := none
  cause : Option Nat := none
  /-- The reverse handover runs (R544). -/
  reverse : Bool := false
  /-- Stewards that wait to resume, with the tick of their pause (R536, R544). -/
  paused : Tab Nat := []
  /-- Gatehouse mailbox services wait (R535). -/
  gateDown : Bool := false
  /-- Tick of the last request or response of the update agent (R527). -/
  lastMsg : Nat := 0
  /-- The image and the state format from before the handover, kept for fallback. -/
  oldImage : List Byte := []
  oldFormat : Nat := 0
  /-- The directory changes of boundaries that steward 0 missed, in the order in which they apply when it resumes (R538). -/
  flipDue : List DirAct := []
  /-- State records in the old format by pavilion, the pre-handover ones by 8 + pavilion (R540). -/
  records : Tab (List Byte) := []
  deriving DecidableEq, Repr

/-- A boot-selection record's content (R530). -/
structure BootRec where
  seq : Nat := 0
  primary : Nat := 0
  trialBank : Nat := 0xFF
  trialBoots : Nat := 0
  actKind : Nat := 0
  pendingSv : Nat := 0
  primaryFormat : Nat := 0
  trialFormat : Nat := 0
  deriving DecidableEq, Repr

/-- The repair record (R97, R570, R576). -/
structure Repair where
  /-- One more than the physical site of a logical plot that does not stand at its shipped site. -/
  site : Tab Nat := []
  /-- Regions whose spare is gone (used or lost). -/
  spareGone : List Nat := []
  retired : Nat := 0
  /-- Spare rows used, by site × 12 + bank (R568). -/
  rows : Tab Nat := []
  /-- Torvol, by port × 2 + direction (0 transmit, 1 receive): the logical lane on the spare, and the physical lanes at half width
  (none: full width) (R425, R426). -/
  tvlLane : Tab (Option Nat) := []
  tvlHalf : Tab (List Nat) := []
  /-- Spare lanes used by stack × 32 + pseudo-channel (R571). -/
  hbm : Tab Nat := []
  fmaxCap : Nat := 1800
  deriving DecidableEq, Repr

/-- The configuration NVM and the fused and flashed content that survive a reset (R470, R530, R559, R576). -/
structure Nvm where
  bankA : List Byte := []
  bankB : List Byte := []
  /-- The two boot-selection copies; none is a copy that is not valid. -/
  rec0 : Option BootRec := none
  rec1 : Option BootRec := none
  plog : Tab (BitVec 256) := []
  plogHead : Nat := 0
  /-- The repair record as written (R576); `repair` below is the one in use, which the record follows. -/
  saved : Repair := {}
  repair : Repair := {}
  fmkWrapped : Option (List Byte × BitVec 128) := none
  weightKeys : Tab (List Byte) := []
  fmkNonce : Nat := 0
  deriving DecidableEq, Repr

/-! ### Errors -/

/-- One ERR instance (R554). -/
structure ErrBank where
  primary : BitVec 256 := 0
  hip : Bool := false
  hipAt : Nat := 0
  timedOut : Bool := false
  ring : Tab (BitVec 256) := []
  wr : Word32 := 0
  rd : Word32 := 0
  ovf : Word32 := 0
  cnt : Word32 := 0
  deriving DecidableEq, Repr

structure Errs where
  corrected : ErrBank := {}
  deferred : ErrBank := {}
  request : ErrBank := {}
  pavilion : ErrBank := {}
  device : ErrBank := {}
  seq : Word32 := 0
  /-- Steward 0's copies, oldest first (R555). -/
  mailbox : List (BitVec 256) := []
  /-- Interrupts to steward 0, a class each (R558). -/
  irq : List Cls := []
  /-- Entries of R559 not yet written to the persistent log, in SEQ order. -/
  plogPending : List (BitVec 256) := []
  repairPending : Bool := false
  deriving DecidableEq, Repr

/-! ### Power -/

structure Pwr where
  /-- The readings of package power of the last 1,000 tk, newest first, at most 10 (R595). -/
  samples : List Nat := []
  capLimit : Nat := 1800
  capDown : Bool := false
  capUp : Bool := false
  thermLimit : Nat := 1800
  thermDown : Bool := false
  thermUp : Bool := false
  belowSince : Option Nat := none
  fastCapped : Bool := false
  /-- A raise that waits for the regulator, the new rate; the regulator has reported its setpoint (R593). -/
  raising : Option Nat := none
  reached : Bool := false
  vcore : Nat := 750
  vPrev : Nat := 750
  deriving DecidableEq, Repr

/-- Which steward firmware runs, and steward 0's postponed events (R536, R538). -/
structure StwS where
  newFw : List Nat := []
  deriving DecidableEq, Repr

/-- The whole state. -/
structure State where
  /-- Commands that wait, first in, first out. -/
  pending : List Instr := []
  out : List Out := []
  freeCtr : Nat := 0
  /-- Device time, SDL_TIME (R71). -/
  time : Nat := 0
  sdl : SdlS := {}
  dev : DevS := {}
  fuses : Fuses := {}
  boot : Boot := {}
  /-- The register file (Machine/Registers.lean): fields that hold their reset value are not listed. -/
  regs : Tab Nat := []
  acc : AccessS := {}
  qps : Tab Qp := []
  msixTab : Tab Word32 := []
  msixPend : Tab Bool := []
  accepted : List AdminCmd := []
  dir : Tab DirEnt := []
  recs : Tab AdRec := []
  dirOps : List DirOp := []
  loadSerial : Nat := 1
  plots : Tab Plot := []
  /-- Tile counters, terrace × 16 + counter: VALUE and LIMIT (R117). -/
  tcnt : Tab (Nat × Nat) := []
  terrs : Tab Terr := []
  trellis : List Message := []
  mem : List Host.Cell := []
  /-- POISON lines, by line number, rising. -/
  poison : List Nat := []
  homes : Tab Byte := []
  homeBusy : List (Nat × Byte) := []
  cfm : CfmS := {}
  hbmLane : Tab Nat := []
  pavs : Tab Pav := []
  reqs : Tab Req := []
  admitSeq : Nat := 0
  pages : Tab KvPage := []
  cfUsed : Tab Nat := []
  objs : Tab Obj := []
  nextHandle : Nat := 1
  /-- Ring slots whose undecided descriptor is cancelled: queue pair × 256 + slot (R462). -/
  cancels : List Nat := []
  stw : StwS := {}
  wgts : Tab Wgt := []
  flash : List Host.Cell := []
  scrub : Scrub := {}
  bcast : Bcast := {}
  ports : Tab Port := []
  xacts : Tab Xact := []
  /-- Packets of this device that wait for a port's credits, oldest first (R408, R410). -/
  tvlDue : List TvlDue := []
  mbox : List (Nat × List Byte) := []
  gate : Gate := {}
  upd : Upd := {}
  nvm : Nvm := {}
  keyPending : List (Nat × List Byte) := []
  errs : Errs := {}
  pwr : Pwr := {}
  deriving DecidableEq, Repr

/-- Reasons the machine stops with a fault: none of the meanings raises one, since the manual gives every command an effect
(log 4). -/
inductive Fault where
  /-- Raised by no meaning; it stands for the interface's second outcome, and is safe. -/
  | none
  deriving DecidableEq, Repr

/-- Reasons a command is refused. -/
inductive Refusal where
  /-- Raised by an arm of `exec` whose command has no meaning in the model; safe. -/
  | notModelled (mnemonic : String)
  deriving DecidableEq, Repr

/-- The machine right after reset: DORMANT, RST_N asserted (R468), every field at the value its structure states. -/
def State.reset : State := {}

end Sys2Proof.Machine
end

