-- ==== Sys2Proof/Machine/Codes.lean ====
section
/-! DEFINITION. The event numbers of the 16-bit codes (R550 to R552). -/
namespace Sys2Proof.Machine.Code

/-- OK (R550). -/
def ok : Nat := 0
/-- SUNDIAL_HOLDOVER (R551). -/
def sundialHoldover : Nat := 0x010
/-- SUNDIAL_LOST (R551). -/
def sundialLost : Nat := 0x011
/-- SUNDIAL_STEP (R551). -/
def sundialStep : Nat := 0x012
/-- TILE_REISSUED (R551). -/
def tileReissued : Nat := 0x020
/-- TILE_LOST (R551). -/
def tileLost : Nat := 0x021
/-- SEGMENT_OVERFLOW (R551). -/
def segmentOverflow : Nat := 0x022
/-- DRAFT_SHORT (R551). -/
def draftShort : Nat := 0x023
/-- TRL_MSG_STALL (R551). -/
def trlMsgStall : Nat := 0x024
/-- PLOT_DOUBLE_TRAP (R551). -/
def plotDoubleTrap : Nat := 0x025
/-- PLOT_NO_SPARE (R551). -/
def plotNoSpare : Nat := 0x026
/-- PLOT_RETIRED (R551). -/
def plotRetired : Nat := 0x027
/-- PLOT_RESTARTED (R551). -/
def plotRestarted : Nat := 0x028
/-- HBM_CE (R551). -/
def hbmCe : Nat := 0x030
/-- HBM_UE (R551). -/
def hbmUe : Nat := 0x031
/-- CFM_TAG_FAIL (R551). -/
def cfmTagFail : Nat := 0x032
/-- POISON_CONSUMED (R551). -/
def poisonConsumed : Nat := 0x033
/-- CFM_LINK_DOWN (R551). -/
def cfmLinkDown : Nat := 0x034
/-- CFM_WRITE_FAIL (R551). -/
def cfmWriteFail : Nat := 0x035
/-- CFM_ENUM_FAIL (R551). -/
def cfmEnumFail : Nat := 0x036
/-- SRAM_ROW_REPAIRED (R551). -/
def sramRowRepaired : Nat := 0x037
/-- SRAM_UE (R551). -/
def sramUe : Nat := 0x038
/-- HBM_LANE_REPAIRED (R551). -/
def hbmLaneRepaired : Nat := 0x039
/-- HBM_STACK_LOST (R551). -/
def hbmStackLost : Nat := 0x03A
/-- ADAPTER_CORRUPT (R551). -/
def adapterCorrupt : Nat := 0x040
/-- DEADLINE_MISSED (R551). -/
def deadlineMissed : Nat := 0x041
/-- MASK_EMPTY (R551). -/
def maskEmpty : Nat := 0x042
/-- GRAMMAR_LOST (R551). -/
def grammarLost : Nat := 0x043
/-- KV_LOST (R551). -/
def kvLost : Nat := 0x044
/-- HOST_DMA_FAIL (R551). -/
def hostDmaFail : Nat := 0x045
/-- ENTROPY_UNAVAILABLE (R551). -/
def entropyUnavailable : Nat := 0x046
/-- PAVILION_NO_TERRACE (R551). -/
def pavilionNoTerrace : Nat := 0x050
/-- WEIGHT_NO_ROOM (R551). -/
def weightNoRoom : Nat := 0x051
/-- WEIGHT_DIGEST_FAIL (R551). -/
def weightDigestFail : Nat := 0x052
/-- WEIGHT_LOST (R551). -/
def weightLost : Nat := 0x053
/-- WEIGHT_RESTORED (R551). -/
def weightRestored : Nat := 0x054
/-- TVL_LINK_DOWN (R551). -/
def tvlLinkDown : Nat := 0x060
/-- TVL_LANE_SPARED (R551). -/
def tvlLaneSpared : Nat := 0x061
/-- TVL_DEGRADED (R551). -/
def tvlDegraded : Nat := 0x062
/-- TVL_AUTH_FAIL (R551). -/
def tvlAuthFail : Nat := 0x063
/-- TVL_KEY_EXHAUSTED (R551). -/
def tvlKeyExhausted : Nat := 0x064
/-- TVL_PEER_MISMATCH (R551). -/
def tvlPeerMismatch : Nat := 0x065
/-- CONFIG_FALLBACK (R551). -/
def configFallback : Nat := 0x070
/-- CONFIG_INVALID (R551). -/
def configInvalid : Nat := 0x071
/-- CONFIG_NVM_WRITE_FAIL (R551). -/
def configNvmWriteFail : Nat := 0x072
/-- UPDATE_FALLBACK (R551). -/
def updateFallback : Nat := 0x073
/-- UPDATE_ABANDONED (R551). -/
def updateAbandoned : Nat := 0x074
/-- FUSE_WRITE_DEFERRED (R551). -/
def fuseWriteDeferred : Nat := 0x075
/-- ENTROPY_RESTART (R551). -/
def entropyRestart : Nat := 0x076
/-- FABRIC_KEY_INVALID (R551). -/
def fabricKeyInvalid : Nat := 0x077
/-- GATE_SELFTEST_FAIL (R551). -/
def gateSelftestFail : Nat := 0x078
/-- AGING_WARN (R551). -/
def agingWarn : Nat := 0x080
/-- AGING_DERATE (R551). -/
def agingDerate : Nat := 0x081
/-- ERR_HANDLER_TIMEOUT (R551). -/
def errHandlerTimeout : Nat := 0x082
/-- BAD_REQUEST (R552). -/
def badRequest : Nat := 0x100
/-- TENANT_NOT_PERMITTED (R552). -/
def tenantNotPermitted : Nat := 0x101
/-- PAVILION_NOT_OPEN (R552). -/
def pavilionNotOpen : Nat := 0x102
/-- BAD_SPEC_DEPTH (R552). -/
def badSpecDepth : Nat := 0x103
/-- BAD_SAMPLING (R552). -/
def badSampling : Nat := 0x104
/-- CONTEXT_TOO_LONG (R552). -/
def contextTooLong : Nat := 0x105
/-- GRAMMAR_NOT_FOUND (R552). -/
def grammarNotFound : Nat := 0x106
/-- GRAMMAR_VOCAB (R552). -/
def grammarVocab : Nat := 0x107
/-- DEADLINE_INFEASIBLE (R552). -/
def deadlineInfeasible : Nat := 0x108
/-- ADAPTER_NOT_FOUND (R552). -/
def adapterNotFound : Nat := 0x109
/-- ADAPTER_TOO_MANY_PARTS (R552). -/
def adapterTooManyParts : Nat := 0x10a
/-- ADAPTER_AMBIGUOUS (R552). -/
def adapterAmbiguous : Nat := 0x10b
/-- KV_EXPIRED (R552). -/
def kvExpired : Nat := 0x110
/-- CANCELLED (R552). -/
def cancelled : Nat := 0x111
/-- FUNCTION_RESET (R552). -/
def functionReset : Nat := 0x112
/-- BAD_PROMPT (R552). -/
def badPrompt : Nat := 0x113
/-- PAVILION_CLOSED (R552). -/
def pavilionClosed : Nat := 0x114
/-- QUEUE_CLOSED (R552). -/
def queueClosed : Nat := 0x115
/-- ACTIVATED (R552). -/
def activated : Nat := 0x120
/-- DELETED (R552). -/
def deleted : Nat := 0x121
/-- RETIRING (R552). -/
def retiring : Nat := 0x122
/-- ADAPTER_DIGEST_FAIL (R552). -/
def adapterDigestFail : Nat := 0x123
/-- ADAPTER_VERSION_STALE (R552). -/
def adapterVersionStale : Nat := 0x124
/-- ADAPTER_SUPERSEDED (R552). -/
def adapterSuperseded : Nat := 0x125
/-- ADAPTER_DELETED (R552). -/
def adapterDeleted : Nat := 0x126
/-- ADAPTER_POOL_FULL (R552). -/
def adapterPoolFull : Nat := 0x127
/-- RECORD_TABLE_FULL (R552). -/
def recordTableFull : Nat := 0x128
/-- DIRECTORY_FULL (R552). -/
def directoryFull : Nat := 0x129
/-- BAD_ADAPTER_RECORD (R552). -/
def badAdapterRecord : Nat := 0x12a
/-- BAD_GRAMMAR (R552). -/
def badGrammar : Nat := 0x12b
/-- OBJECT_AREA_FULL (R552). -/
def objectAreaFull : Nat := 0x12c
/-- SWAP_DONE (R552). -/
def swapDone : Nat := 0x12d
/-- SWAP_ROLLED_BACK (R552). -/
def swapRolledBack : Nat := 0x12e
/-- WEIGHT_MANIFEST_BAD (R552). -/
def weightManifestBad : Nat := 0x12f
/-- WEIGHT_GEN_STALE (R552). -/
def weightGenStale : Nat := 0x130
/-- WEIGHT_SHAPE_MISMATCH (R552). -/
def weightShapeMismatch : Nat := 0x131
/-- WEIGHT_SWAP_BUSY (R552). -/
def weightSwapBusy : Nat := 0x132
/-- NOT_PERMITTED (R552). -/
def notPermitted : Nat := 0x133
/-- BAD_COMMAND (R552). -/
def badCommand : Nat := 0x134
/-- PAV_BAD_STATE (R552). -/
def pavBadState : Nat := 0x135
/-- PAV_UNDEFINED (R552). -/
def pavUndefined : Nat := 0x136
/-- REQ_NOT_FOUND (R552). -/
def reqNotFound : Nat := 0x137
/-- MODEL_NOT_FOUND (R552). -/
def modelNotFound : Nat := 0x138
/-- BAD_MACRO_OP (R552). -/
def badMacroOp : Nat := 0x140
/-- BAD_DESCRIPTOR (R552). -/
def badDescriptor : Nat := 0x141
/-- BAD_FORMAT (R552). -/
def badFormat : Nat := 0x142
/-- MODE_UNSUPPORTED (R552). -/
def modeUnsupported : Nat := 0x143
/-- HEDGE_CORRELATED (R552). -/
def hedgeCorrelated : Nat := 0x144
/-- BAD_TILE (R552). -/
def badTile : Nat := 0x145
/-- TILE_OVERFLOW (R552). -/
def tileOverflow : Nat := 0x146
/-- BAD_ALLOCATION (R552). -/
def badAllocation : Nat := 0x147
/-- TCNT_MISMATCH (R552). -/
def tcntMismatch : Nat := 0x148
/-- INDEX_RANGE (R552). -/
def indexRange : Nat := 0x149
/-- BARRIER_TIMEOUT (R552). -/
def barrierTimeout : Nat := 0x14a
/-- HALO_MISMATCH (R552). -/
def haloMismatch : Nat := 0x14b
/-- HALO_TIMEOUT (R552). -/
def haloTimeout : Nat := 0x14c
/-- ADDR_UNMAPPED (R552). -/
def addrUnmapped : Nat := 0x14d
/-- CFM_WRITE_DENIED (R552). -/
def cfmWriteDenied : Nat := 0x14e
/-- FABRIC_UNREACHABLE (R552). -/
def fabricUnreachable : Nat := 0x150
end Sys2Proof.Machine.Code

namespace Sys2Proof.Machine
open Sys2Proof

/-- The class field of a code (R550). -/
def Cls.num : Cls → Nat
  | .corrected => 1
  | .deferred => 2
  | .request => 3
  | .pavilion => 4
  | .device => 5

/-- The next class above; DEVICE stays (R556, R577). -/
def Cls.up : Cls → Cls
  | .corrected => .deferred
  | .deferred => .request
  | .request => .pavilion
  | .pavilion => .device
  | .device => .device

/-- The class of an ERR instance (R550). -/
def Cls.ofInst : Nat → Option Cls
  | 0 => some .corrected
  | 1 => some .deferred
  | 2 => some .request
  | 3 => some .pavilion
  | 4 => some .device
  | _ => none

/-- The 16-bit code of an event in a class (R550). -/
def Cls.code (c : Cls) (ev : Nat) : Nat := c.num * 8192 + ev

end Sys2Proof.Machine
end

