-- ==== Sys2Proof/Config.lean ====
section
/-! DEFINITION. What the manual leaves open: the free values, and the named standards that it uses without defining them.
Every constant is opaque, so a claim about the model holds whatever its value is. -/
namespace Sys2Proof.Config
open Sys2Proof

/-- A free choice, read with `State.freeCtr`; an allocator takes the candidate this number names (log 1). -/
opaque choose : Nat → Nat

/-- A free 64-bit value, read with `State.freeCtr`: DRBG output (R349, R502), and what a reply leaves open (log 1). -/
opaque freeWord : Nat → Word64

/-- SHA-384 of a byte string (R493 names the standard; log 6). -/
opaque sha384 : List Byte → BitVec 384

/-- HMAC-SHA-384 under a key (R493, R500; log 6). -/
opaque hmac384 : List Byte → List Byte → BitVec 384

/-- ECDSA P-384 verification: public key (X then Y), digest, signature (r then s) (R493; log 6). -/
opaque ecdsaVerify : List Byte → BitVec 384 → List Byte → Bool

/-- CRC-32C of a byte string (R403, R522, R530; log 6). -/
opaque crc32c : List Byte → Word32

/-- The key stream of AES-256-GCM under a key and a nonce, by byte (R223, R415; log 6). -/
opaque gcmStream : BitVec 256 → BitVec 96 → Nat → Byte

/-- AES-256-GCM encryption, and decryption: the data with the key stream added (R223, R415; log 6). -/
def gcmSeal (key : BitVec 256) (nonce : BitVec 96) (data : List Byte) : List Byte :=
  data.zipIdx.map fun e => e.1 ^^^ gcmStream key nonce e.2

/-- AES-256-GCM tag: key, nonce, additional data, ciphertext (R223, R415; log 6). -/
opaque gcmTag : BitVec 256 → BitVec 96 → List Byte → List Byte → BitVec 128

/-- The 30 parity symbols of an RS(544,514) message (R398 names the code, not its polynomials; log 68). -/
opaque rsParity : BitVec 5140 → BitVec 300

/-- The repair request that a message to the root spells: pavilion, model, SHARD_ID, leaves (R378, which leaves its layout open;
log 56). -/
opaque repairRequest : List Byte → Option (Nat × Nat × Nat × List Nat)

/-- The byte address at which a NAND page lies: channel, chip enable, row address (R601; log 7). -/
opaque nandPage : Nat → Nat → Nat → Nat

/-- The byte range of the NAND block of a page: its first byte and its length (R602; log 7). -/
opaque nandBlock : Nat → Nat → Nat → Nat × Nat

/-- A byte that a failed maintenance command of the flash leaves: a free choice number, the byte's place (R632; log 1). -/
opaque freeByte : Nat → Nat → Byte

/-- The body of an SPDM, MCTP or PLDM reply, so far as the manual leaves it to its standard (R511, R515, R516; log 8). -/
opaque replyBody : Nat → List Byte

/-- SCALE_EXP of a record's INT4 and INT8 matrices, which R29 does not hold (log 19). -/
opaque adapterExp : Nat → Int

/-- d_in and d_out of a model's projection (R31), which the image does not hold (log 23). -/
opaque projDims : Nat → Nat → Nat × Nat

/-- The body of a steward's state record: state format, pavilion, step (R539); FORMAT fixes its layout, which the manual does not
give (log 27). -/
opaque stateBody : Nat → Nat → Nat → List Byte

end Sys2Proof.Config
end

