-- ==== Sys2Proof/Machine/Ops.lean ====
section
/-! DEFINITION. The named operations over tables, bytes, memory and the parts of the state. -/
namespace Sys2Proof.Machine
open Sys2Proof

/-- The outcome of a command: a next state. -/
abbrev Res := Host.Outcome State Fault Refusal

/-! ### Tables -/

/-- The value at an index; the default where none is listed. -/
def Tab.get {α : Type} (d : α) : Tab α → Nat → α
  | [], _ => d
  | (i, v) :: t, k => if i = k then v else Tab.get d t k

/-- Puts a value that is not the default at its place. -/
def Tab.ins {α : Type} : Tab α → Nat → α → Tab α
  | [], k, v => [(k, v)]
  | (i, w) :: t, k, v =>
    if k < i then (k, v) :: (i, w) :: t
    else if k = i then (k, v) :: t
    else (i, w) :: Tab.ins t k v

/-- Writes a value; writing the default removes the entry, so equal tables are equal data. -/
def Tab.put {α : Type} [DecidableEq α] (d : α) (t : Tab α) (k : Nat) (v : α) : Tab α :=
  if v = d then t.filter (fun e => e.1 != k) else Tab.ins t k v

/-- The canonical form: indexes rise strictly and no entry is the default. -/
def Tab.wf {α : Type} [DecidableEq α] (d : α) : Tab α → Bool
  | [] => true
  | (i, v) :: t => decide (v ≠ d) && (t.all fun e => decide (i < e.1)) && Tab.wf d t

/-- The indexes listed, in rising order. -/
def Tab.keys {α : Type} (t : Tab α) : List Nat := t.map (·.1)

/-- Applies a function to every listed entry. -/
def Tab.mapAll {α : Type} [DecidableEq α] (d : α) (f : Nat → α → α) (t : Tab α) : Tab α :=
  t.foldl (fun acc e => Tab.put d acc e.1 (f e.1 e.2)) t

/-! ### Bytes -/

/-- Little-endian value of a byte list (R5). -/
def leNat : List Byte → Nat
  | [] => 0
  | b :: bs => b.toNat + 256 * leNat bs

/-- A value as n little-endian bytes (R5). -/
def leBytes : Nat → Nat → List Byte
  | 0, _ => []
  | n + 1, v => BitVec.ofNat 8 v :: leBytes n (v / 256)

/-- The n bytes of a list from an offset; bytes beyond its end read 0. -/
def sub (bs : List Byte) (off n : Nat) : List Byte :=
  let t := (bs.drop off).take n
  t ++ List.replicate (n - t.length) 0

/-- Little-endian field of n bytes at an offset of a byte list. -/
def fld (bs : List Byte) (off n : Nat) : Nat := leNat (sub bs off n)

/-- All n bytes at an offset are zero. -/
def zeros (bs : List Byte) (off n : Nat) : Bool := fld bs off n == 0

/-- The low n bytes of a word, little-endian. -/
def bvBytes {w : Nat} (n : Nat) (v : BitVec w) : List Byte := leBytes n v.toNat

/-! ### Memory: bytes by address, unlisted bytes read 0 (log 3) -/

/-- What a byte reads that nothing has written (log 3). -/
def unwritten : Byte := 0

/-- Reads one byte. -/
def Mem.rd (m : List Host.Cell) (a : Nat) : Byte := Tab.get unwritten m a

/-- Writes one byte. -/
def Mem.wr (m : List Host.Cell) (a : Nat) (b : Byte) : List Host.Cell := Tab.put unwritten m a b

/-- Reads n bytes from an address upward. -/
def Mem.read (m : List Host.Cell) : Nat → Nat → List Byte
  | _, 0 => []
  | a, n + 1 => Mem.rd m a :: Mem.read m (a + 1) n

/-- Writes bytes from an address upward. -/
def Mem.write (m : List Host.Cell) : Nat → List Byte → List Host.Cell
  | _, [] => m
  | a, b :: bs => Mem.write (Mem.wr m a b) (a + 1) bs

/-- The canonical form of a memory. -/
def Memory.wf (m : List Host.Cell) : Bool := Tab.wf unwritten m

/-! ### Sets of indexes, rising -/

/-- Adds an index to a rising list. -/
def setIns (k : Nat) : List Nat → List Nat
  | [] => [k]
  | i :: t => if k < i then k :: i :: t else if k = i then i :: t else i :: setIns k t

/-- Removes an index. -/
def setDel (k : Nat) (t : List Nat) : List Nat := t.filter (· != k)

/-! ### Arithmetic helpers -/

/-- Division rounded up. -/
def cdiv (a b : Nat) : Nat := (a + b - 1) / b

/-- Rounded up to a multiple. -/
def roundUp (a b : Nat) : Nat := cdiv a b * b

/-- Exclusive-or over a list. -/
def xorAll (l : List Nat) : Nat := l.foldl (· ^^^ ·) 0

/-- Inserts an element before the first one that it does not rank after. -/
def insertBy {α : Type} (lt : α → α → Bool) (x : α) : List α → List α
  | [] => [x]
  | y :: ys => if lt y x then y :: insertBy lt x ys else x :: y :: ys

/-- Sorts so that no element ranks before its predecessor; elements of one rank keep their order. -/
def sortBy {α : Type} (lt : α → α → Bool) (l : List α) : List α := l.foldr (insertBy lt) []

/-- Lexicographic order of keys. -/
def lexLt : List Int → List Int → Bool
  | a :: as, b :: bs => if a < b then true else if b < a then false else lexLt as bs
  | _, _ => false

/-! ### Parts of the state -/

def State.plot (s : State) (p : Nat) : Plot := Tab.get {} s.plots p
def State.setPlot (s : State) (p : Nat) (v : Plot) : State := { s with plots := Tab.put {} s.plots p v }
def State.pav (s : State) (p : Nat) : Pav := Tab.get {} s.pavs p
def State.setPav (s : State) (p : Nat) (v : Pav) : State := { s with pavs := Tab.put {} s.pavs p v }
def State.terr (s : State) (t : Nat) : Terr := Tab.get {} s.terrs t
def State.setTerr (s : State) (t : Nat) (v : Terr) : State := { s with terrs := Tab.put {} s.terrs t v }
def State.port (s : State) (p : Nat) : Port := Tab.get {} s.ports p
def State.setPort (s : State) (p : Nat) (v : Port) : State := { s with ports := Tab.put {} s.ports p v }
def State.qp (s : State) (k : Nat) : Qp := Tab.get {} s.qps k
def State.setQp (s : State) (k : Nat) (v : Qp) : State := { s with qps := Tab.put {} s.qps k v }
def State.ent (s : State) (i : Nat) : DirEnt := Tab.get {} s.dir i
def State.setEnt (s : State) (i : Nat) (v : DirEnt) : State := { s with dir := Tab.put {} s.dir i v }
def State.adrec (s : State) (i : Nat) : AdRec := Tab.get {} s.recs i
def State.setAdrec (s : State) (i : Nat) (v : AdRec) : State := { s with recs := Tab.put {} s.recs i v }
def State.req (s : State) (i : Nat) : Req := Tab.get {} s.reqs i
def State.setReq (s : State) (i : Nat) (v : Req) : State := { s with reqs := Tab.put {} s.reqs i v }
def State.page (s : State) (i : Nat) : KvPage := Tab.get {} s.pages i
def State.setPage (s : State) (i : Nat) (v : KvPage) : State := { s with pages := Tab.put {} s.pages i v }
def State.obj (s : State) (i : Nat) : Obj := Tab.get {} s.objs i
def State.setObj (s : State) (i : Nat) (v : Obj) : State := { s with objs := Tab.put {} s.objs i v }
def State.wgt (s : State) (i : Nat) : Wgt := Tab.get {} s.wgts i
def State.setWgt (s : State) (i : Nat) (v : Wgt) : State := { s with wgts := Tab.put {} s.wgts i v }
def Wgt.shard (g : Wgt) (i : Nat) : Shard := Tab.get {} g.shards i
def Wgt.setShard (g : Wgt) (i : Nat) (v : Shard) : Wgt := { g with shards := Tab.put {} g.shards i v }
def Plot.gen (p : Plot) (g : Nat) : Gen := Tab.get {} p.gens g
def Plot.setGen (p : Plot) (g : Nat) (v : Gen) : Plot := { p with gens := Tab.put {} p.gens g v }
/-- The read counter of a lane phase (R154). -/
def Gen.phase (g : Gen) (p : Nat) : Word64 := Tab.get 0 g.c p
/-- VALUE and LIMIT of a tile counter (R117). -/
def State.tc (s : State) (t c : Nat) : Nat × Nat := Tab.get (0, 0) s.tcnt (t * 16 + c)
def State.setTc (s : State) (t c : Nat) (v : Nat × Nat) : State :=
  { s with tcnt := Tab.put (0, 0) s.tcnt (t * 16 + c) v }

/-- An integer register; x0 reads 0 (R98, RV32). -/
def Cpu.reg (c : Cpu) (i : Nat) : Word32 := if i = 0 then 0 else Tab.get 0 c.x i

/-- Writes an integer register; a write of x0 is discarded. -/
def Cpu.setReg (c : Cpu) (i : Nat) (v : Word32) : Cpu :=
  if i = 0 then c else { c with x := Tab.put 0 c.x i v }

/-- Appends an output. -/
def State.emit (s : State) (o : Out) : State := { s with out := s.out ++ [o] }

/-- A free 64-bit value (log 1). -/
def State.free64 (s : State) : Word64 := Config.freeWord s.freeCtr

/-- The state after a free value has been read. -/
def State.tickFree (s : State) : State := { s with freeCtr := s.freeCtr + 1 }

/-- A free choice among candidates (log 1). -/
def State.pick (s : State) (l : List Nat) : Option Nat := l[Config.choose s.freeCtr % l.length]?

/-- The tk from one tick to another on the 64-bit count of device time, below zero where the second lies before the first
(R71, R79). -/
def tkFrom (t now : Nat) : Int :=
  let x : Nat := (now + (2 ^ 64 - t % 2 ^ 64)) % 2 ^ 64
  if x < 2 ^ 63 then x else Int.ofNat x - 2 ^ 64

/-- At least n tk of device time have passed since a tick. -/
def State.passed (s : State) (t n : Nat) : Bool := decide ((n : Int) ≤ tkFrom t s.time)

/-- The terrace of a logical plot (R2, R93). -/
def terrOf (p : Nat) : Nat := (p / 64 / 8) * 8 + (p % 64) / 8

/-- The local index of a logical plot within its terrace (R93). -/
def localOf (p : Nat) : Nat := (p / 64 % 8) * 8 + p % 64 % 8

/-- The logical plot of a terrace and local index (R2, R93). -/
def plotAt (t k : Nat) : Nat := ((t / 8) * 8 + k / 8) * 64 + (t % 8) * 8 + k % 8

/-- Completes a command with a next state. -/
abbrev ok (s : State) : Res := .next s

/-- Takes an effect if its condition holds; otherwise the event does not occur and the state is unchanged (log 4). -/
def onlyIf (c : Bool) (s t : State) : Res := .next (if c then t else s)

end Sys2Proof.Machine
end

