-- ==== Sys2Proof/Machine/Registers.lean ====
section
/-! DEFINITION. The register fields of ch. 19 (R618 to R632): block, offset, place, access code, qualifier, reset value. -/
namespace Sys2Proof.Machine
open Sys2Proof

/-- Access codes (R7). -/
inductive Acc where
  | rw | ro | w1c | w1s | wo
  deriving DecidableEq, Repr

/-- Who may write a field (R612). -/
inductive Who where
  | any | steward | steward0 | pf | service
  deriving DecidableEq, Repr

/-- A register field. `own` marks a field whose write is a command of its own. -/
structure Field where
  blk : Nat
  off : Nat
  lo : Nat
  wid : Nat
  acc : Acc
  lock : Bool
  who : Who
  reset : Nat
  n : Nat
  stride : Nat
  own : Bool
  deriving DecidableEq, Repr

namespace R
/-- DEV_ID.PART (R618). -/
def devPart : Field := ⟨0, 0x0, 0, 16, .ro, false, .any, 28992, 1, 0, false⟩
/-- DEV_ID.GRADE (R618). -/
def devGrade : Field := ⟨0, 0x0, 16, 4, .ro, false, .any, 0, 1, 0, false⟩
/-- DEV_ID.REV (R618). -/
def devRev : Field := ⟨0, 0x0, 20, 8, .ro, false, .any, 0, 1, 0, false⟩
/-- DEV_STAT.STATE (R618). -/
def devState : Field := ⟨0, 0x4, 0, 3, .ro, false, .any, 0, 1, 0, false⟩
/-- DEV_STAT.RECOVERY (R618). -/
def devRecovery : Field := ⟨0, 0x4, 3, 1, .ro, false, .any, 0, 1, 0, false⟩
/-- DEV_STAT.FABRIC_READY (R618). -/
def devFabricReady : Field := ⟨0, 0x4, 4, 1, .ro, false, .any, 0, 1, 0, false⟩
/-- DEV_STAT.PLOT_MHZ (R618). -/
def devPlotMhz : Field := ⟨0, 0x4, 16, 16, .ro, false, .any, 1000, 1, 0, false⟩
/-- DEV_SERIAL (R618). -/
def devSerial : Field := ⟨0, 0x8, 0, 64, .ro, false, .any, 0, 1, 0, false⟩
/-- DEV_PWR.PLOT_TARGET (R618). -/
def plotTarget : Field := ⟨0, 0x10, 0, 12, .rw, true, .any, 1500, 1, 0, false⟩
/-- DEV_PWR.CAP_W (R618). -/
def capW : Field := ⟨0, 0x10, 16, 10, .rw, true, .any, 620, 1, 0, false⟩
/-- DEV_PWR.AVS_FAULT (R618). -/
def avsFault : Field := ⟨0, 0x10, 28, 1, .ro, false, .any, 0, 1, 0, false⟩
/-- DEV_PWR.AVS_RETRY (R618). -/
def avsRetry : Field := ⟨0, 0x10, 29, 1, .wo, false, .pf, 0, 1, 0, true⟩
/-- DEV_PWR.FAST_CAPS (R618). -/
def fastCaps : Field := ⟨0, 0x14, 0, 32, .ro, false, .any, 0, 1, 0, false⟩
/-- DEV_PWR.THROTTLES (R618). -/
def throttles : Field := ⟨0, 0x18, 0, 32, .ro, false, .any, 0, 1, 0, false⟩
/-- DEV_PWR.POWER_W (R618). -/
def powerW : Field := ⟨0, 0x1c, 0, 10, .ro, false, .any, 0, 1, 0, false⟩
/-- DEV_PWR.TJ (R618). -/
def tj : Field := ⟨0, 0x1c, 16, 8, .ro, false, .any, 0, 1, 0, false⟩
/-- THERM_CFG.THROTTLE_C (R618). -/
def throttleC : Field := ⟨0, 0x20, 0, 8, .rw, true, .any, 95, 1, 0, false⟩
/-- THERM_CFG.ASSERT_C (R618). -/
def assertC : Field := ⟨0, 0x20, 8, 8, .rw, true, .any, 105, 1, 0, false⟩
/-- UPDATE_CFG.CONFIRM_WINDOW (R618). -/
def confirmWindow : Field := ⟨0, 0x28, 0, 64, .rw, true, .any, 600000000, 1, 0, false⟩
/-- ROUTE_STAT.TIE_COUNT (R618). -/
def routeTies : Field := ⟨0, 0x30, 0, 32, .ro, false, .any, 0, 1, 0, false⟩
/-- DEV_CTL.ROUTE_TIE_CLR (R618). -/
def routeTieClr : Field := ⟨0, 0x34, 0, 1, .wo, false, .pf, 0, 1, 0, true⟩
/-- DEV_SVC_CMD (R618). -/
def svcCmd : Field := ⟨0, 0x100, 0, 32, .rw, false, .service, 0, 32, 4, false⟩
/-- DEV_SVC_CPL (R618). -/
def svcCpl : Field := ⟨0, 0x180, 0, 32, .ro, false, .any, 0, 4, 4, false⟩
/-- DEV_SVC_CTL.GO (R618). -/
def svcGo : Field := ⟨0, 0x190, 0, 1, .wo, false, .service, 0, 1, 0, true⟩
/-- DEV_SVC_STAT.BUSY (R618). -/
def svcBusy : Field := ⟨0, 0x194, 0, 1, .ro, false, .any, 0, 1, 0, false⟩
/-- DEV_SVC_STAT.DONE (R618). -/
def svcDone : Field := ⟨0, 0x194, 1, 1, .w1c, false, .service, 0, 1, 0, false⟩
/-- SDL_CFG.SRC (R618). -/
def sdlSrc : Field := ⟨1, 0x0, 0, 8, .rw, true, .any, 0, 1, 0, false⟩
/-- SDL_CFG.FRAMES_AFTER_LOCK (R618). -/
def framesAfterLock : Field := ⟨1, 0x0, 8, 1, .rw, true, .any, 0, 1, 0, false⟩
/-- SDL_CFG.OPEN_WITHOUT_LOCK (R618). -/
def openWithoutLock : Field := ⟨1, 0x0, 9, 1, .rw, true, .any, 0, 1, 0, false⟩
/-- SDL_CFG.FWD_MASK (R618). -/
def fwdMask : Field := ⟨1, 0x0, 16, 12, .rw, true, .any, 0, 1, 0, false⟩
/-- SDL_CFG.CADENCE (R618). -/
def cadence : Field := ⟨1, 0x4, 0, 14, .rw, true, .any, 500, 1, 0, false⟩
/-- SDL_STAT.STATE (R618). -/
def sdlState : Field := ⟨1, 0x8, 0, 3, .ro, false, .any, 0, 1, 0, false⟩
/-- SDL_STAT.TIME_VALID (R618). -/
def timeValid : Field := ⟨1, 0x8, 3, 1, .ro, false, .any, 0, 1, 0, false⟩
/-- SDL_STAT.HOPS (R618). -/
def sdlHops : Field := ⟨1, 0x8, 4, 4, .ro, false, .any, 0, 1, 0, false⟩
/-- SDL_STAT.MISMATCH (R618). -/
def sdlMismatch : Field := ⟨1, 0xc, 0, 32, .ro, false, .any, 0, 1, 0, false⟩
/-- SDL_TIME (R618). -/
def sdlTime : Field := ⟨1, 0x10, 0, 64, .ro, false, .any, 0, 1, 0, false⟩
/-- PAV_SCHED.TERRACES (R619). -/
def terraces : Field := ⟨2, 0x100, 0, 32, .rw, true, .any, 0, 1, 0, false⟩
/-- PAV_SCHED.MAX_RESIDENT (R619). -/
def maxResident : Field := ⟨2, 0x104, 0, 16, .rw, true, .any, 4096, 1, 0, false⟩
/-- PAV_SCHED.MIN_PREFILL (R619). -/
def minPrefill : Field := ⟨2, 0x104, 16, 5, .rw, true, .any, 1, 1, 0, false⟩
/-- PAV_SCHED.MIN_DECODE (R619). -/
def minDecode : Field := ⟨2, 0x104, 21, 5, .rw, true, .any, 1, 1, 0, false⟩
/-- PAV_SCHED.HOLD (R619). -/
def hold : Field := ⟨2, 0x104, 26, 4, .rw, true, .any, 3, 1, 0, false⟩
/-- PAV_SCHED.ADMIT_STRICT (R619). -/
def admitStrict : Field := ⟨2, 0x104, 30, 1, .rw, true, .any, 0, 1, 0, false⟩
/-- PAV_SCHED.DEADLINE_ACTION (R619). -/
def deadlineAction : Field := ⟨2, 0x104, 31, 1, .rw, true, .any, 0, 1, 0, false⟩
/-- PAV_SCHED.CHUNK (R619). -/
def chunk : Field := ⟨2, 0x108, 0, 16, .rw, true, .any, 512, 1, 0, false⟩
/-- PAV_SCHED.PF_TOKENS (R619). -/
def pfTokens : Field := ⟨2, 0x108, 16, 16, .rw, true, .any, 2048, 1, 0, false⟩
/-- PAV_SCHED.DEC_ROWS (R619). -/
def decRows : Field := ⟨2, 0x10c, 0, 16, .rw, true, .any, 256, 1, 0, false⟩
/-- PAV_SCHED.SLICE (R619). -/
def slice : Field := ⟨2, 0x10c, 16, 8, .rw, true, .any, 4, 1, 0, false⟩
/-- PAV_SCHED.BW_SHARE (R619). -/
def bwShare : Field := ⟨2, 0x10c, 24, 8, .rw, true, .any, 32, 1, 0, false⟩
/-- PAV_SCHED.AGE_LIMIT (R619). -/
def ageLimit : Field := ⟨2, 0x110, 0, 32, .rw, true, .any, 2000000, 1, 0, false⟩
/-- PAV_SCHED.HOLD_LIMIT (R619). -/
def holdLimit : Field := ⟨2, 0x114, 0, 32, .rw, true, .any, 5000000, 1, 0, false⟩
/-- PAV_SCHED.DRAIN_LIMIT (R619). -/
def drainLimit : Field := ⟨2, 0x118, 0, 32, .rw, true, .any, 60000000, 1, 0, false⟩
/-- PAV_SCHED.EST_INIT (R619). -/
def estInit : Field := ⟨2, 0x11c, 0, 32, .rw, true, .any, 10000, 1, 0, false⟩
/-- PAV_STAT.STATE (R619). -/
def pavState : Field := ⟨2, 0x120, 0, 3, .ro, false, .any, 0, 1, 0, false⟩
/-- PAV_STAT.N_P (R619). -/
def pavNP : Field := ⟨2, 0x120, 8, 6, .ro, false, .any, 0, 1, 0, false⟩
/-- PAV_STAT.N_SERV (R619). -/
def pavNServ : Field := ⟨2, 0x120, 16, 6, .ro, false, .any, 0, 1, 0, false⟩
/-- PAV_STAT.STREAK (R619). -/
def pavStreak : Field := ⟨2, 0x120, 24, 6, .ro, false, .any, 0, 1, 0, false⟩
/-- PAV_STAT.RESIDENT (R619). -/
def pavResident : Field := ⟨2, 0x124, 0, 16, .ro, false, .any, 0, 1, 0, false⟩
/-- PAV_STAT.STEP (R619). -/
def pavStep : Field := ⟨2, 0x128, 0, 32, .ro, false, .any, 0, 1, 0, false⟩
/-- PAV_STAT.A16 (R619). -/
def pavA16 : Field := ⟨2, 0x12c, 0, 16, .ro, false, .any, 16, 1, 0, false⟩
/-- PAV_LEN (R619). -/
def pavLen : Field := ⟨2, 0x140, 0, 32, .rw, false, .steward, 0, 16, 4, false⟩
/-- PAV_SPEC.DRAFT_MODEL (R619). -/
def draftModel : Field := ⟨2, 0x180, 0, 4, .rw, true, .any, 0, 1, 0, false⟩
/-- PAV_SPEC.DRAFT_EN (R619). -/
def draftEn : Field := ⟨2, 0x180, 4, 1, .rw, true, .any, 0, 1, 0, false⟩
/-- PAV_SPEC.MAX_DEPTH (R619). -/
def maxDepth : Field := ⟨2, 0x180, 8, 4, .rw, true, .any, 0, 1, 0, false⟩
/-- PAV_SPEC_STAT.ROUNDS (R619). -/
def specRounds : Field := ⟨2, 0x188, 0, 64, .ro, false, .any, 0, 1, 0, false⟩
/-- PAV_SPEC_STAT.DRAFTED (R619). -/
def specDrafted : Field := ⟨2, 0x190, 0, 64, .ro, false, .any, 0, 1, 0, false⟩
/-- PAV_SPEC_STAT.ACCEPTED (R619). -/
def specAccepted : Field := ⟨2, 0x198, 0, 64, .ro, false, .any, 0, 1, 0, false⟩
/-- PAV_KV.POOL_BASE (R619). -/
def poolBase : Field := ⟨2, 0x1a0, 0, 64, .rw, true, .any, 0, 1, 0, false⟩
/-- PAV_KV.POOL_PAGES (R619). -/
def poolPages : Field := ⟨2, 0x1a8, 0, 21, .rw, true, .any, 0, 1, 0, false⟩
/-- PAV_KV.DRAFT_POOL_BASE (R619). -/
def draftPoolBase : Field := ⟨2, 0x1b0, 0, 64, .rw, true, .any, 0, 1, 0, false⟩
/-- PAV_KV.DRAFT_POOL_PAGES (R619). -/
def draftPoolPages : Field := ⟨2, 0x1b8, 0, 21, .rw, true, .any, 0, 1, 0, false⟩
/-- PAV_KV.PT_BASE (R619). -/
def ptBase : Field := ⟨2, 0x1c0, 0, 64, .rw, true, .any, 0, 1, 0, false⟩
/-- PAV_KV.MAX_CTX (R619). -/
def maxCtx : Field := ⟨2, 0x1c8, 0, 19, .rw, true, .any, 0, 1, 0, false⟩
/-- PAV_KV.TTL_U (R619). -/
def ttlU : Field := ⟨2, 0x1cc, 0, 16, .rw, true, .any, 0, 1, 0, false⟩
/-- PAV_KV.SHARE_SCOPE (R619). -/
def shareScope : Field := ⟨2, 0x1cc, 16, 2, .rw, true, .any, 0, 1, 0, false⟩
/-- PAV_KV.CF_QUOTA (R619). -/
def cfQuota : Field := ⟨2, 0x1d0, 0, 32, .rw, true, .any, 0, 1, 0, false⟩
/-- PAV_KV_STAT.COLLIDE (R619). -/
def kvCollide : Field := ⟨2, 0x1e0, 0, 32, .ro, false, .any, 0, 1, 0, false⟩
/-- PAV_KV_STAT.FREE_PAGES (R619). -/
def kvFreePages : Field := ⟨2, 0x1e4, 0, 21, .ro, false, .any, 0, 1, 0, false⟩
/-- HEDGE_CFG.COLL (R619). -/
def hedgeColl : Field := ⟨8, 0x100, 0, 1, .rw, true, .any, 0, 1, 0, false⟩
/-- HEDGE_STAT.COLL_SUBST (R619). -/
def hedgeSubst : Field := ⟨8, 0x104, 0, 32, .ro, false, .any, 0, 1, 0, false⟩
/-- PLOT_CTL.RUN (R620). -/
def plotRun : Field := ⟨3, 0x100, 0, 1, .rw, false, .steward, 0, 1, 0, true⟩
/-- PLOT_CTL.STAT_CLR (R620). -/
def plotStatClr : Field := ⟨3, 0x100, 1, 1, .wo, false, .steward, 0, 1, 0, true⟩
/-- PLOT_LOAD.SRC (R620). -/
def loadSrc : Field := ⟨3, 0x108, 0, 64, .rw, false, .steward, 0, 1, 0, false⟩
/-- PLOT_LOAD.DST (R620). -/
def loadDst : Field := ⟨3, 0x110, 0, 19, .rw, false, .steward, 0, 1, 0, false⟩
/-- PLOT_LOAD.LEN (R620). -/
def loadLen : Field := ⟨3, 0x114, 0, 19, .rw, false, .steward, 0, 1, 0, false⟩
/-- PLOT_LOAD.GO (R620). -/
def loadGo : Field := ⟨3, 0x118, 0, 1, .w1s, false, .steward, 0, 1, 0, true⟩
/-- PLOT_ENTRY (R620). -/
def plotEntry : Field := ⟨3, 0x11c, 0, 19, .rw, false, .steward, 0, 1, 0, false⟩
/-- PLOT_SITE (R620). -/
def plotSite : Field := ⟨3, 0x120, 0, 12, .ro, false, .any, 0, 1, 0, false⟩
/-- PLOT_STAT.IN_TRAP (R620). -/
def inTrap : Field := ⟨3, 0x124, 0, 1, .ro, false, .any, 0, 1, 0, false⟩
/-- PLOT_STAT.INJ_FULL (R620). -/
def injFull : Field := ⟨3, 0x124, 1, 1, .w1c, false, .steward, 0, 1, 0, false⟩
/-- PLOT_STAT.MARGIN (R620). -/
def margin : Field := ⟨3, 0x124, 16, 8, .ro, false, .any, 255, 1, 0, false⟩
/-- PLOT_STAT.LATE_WRITES (R620). -/
def lateWrites : Field := ⟨3, 0x128, 0, 32, .ro, false, .any, 0, 1, 0, false⟩
/-- PLOT_STAT.CONV_SAT (R620). -/
def convSat : Field := ⟨3, 0x12c, 0, 32, .ro, false, .any, 0, 1, 0, false⟩
/-- PLOT_STAT.NONFINITE (R620). -/
def nonfinite : Field := ⟨3, 0x130, 0, 32, .ro, false, .any, 0, 1, 0, false⟩
/-- PLOT_STAT.ACC_SAT (R620). -/
def accSat : Field := ⟨3, 0x134, 0, 32, .ro, false, .any, 0, 1, 0, false⟩
/-- PLOT_STAT.PAD_SAT (R620). -/
def padSat : Field := ⟨3, 0x138, 0, 32, .ro, false, .any, 0, 1, 0, false⟩
/-- PLOT_STAT.TCNT_WRAP (R620). -/
def tcntWrap : Field := ⟨3, 0x13c, 0, 32, .ro, false, .any, 0, 1, 0, false⟩
/-- PLOT_INJ (R620). -/
def plotInj : Field := ⟨3, 0x140, 0, 32, .wo, false, .steward, 0, 8, 4, false⟩
/-- PLOT_MEM_ADDR (R620). -/
def memAddr : Field := ⟨3, 0x160, 2, 17, .rw, false, .steward, 0, 1, 0, false⟩
/-- PLOT_MEM_DATA (R620). -/
def memData : Field := ⟨3, 0x164, 0, 32, .rw, false, .steward, 0, 1, 0, true⟩
/-- PLOT_CFG.HALO_TIMEOUT (R620). -/
def haloTimeout : Field := ⟨3, 0x1000, 0, 32, .rw, true, .any, 1048576, 1, 0, false⟩
/-- PLOT_CFG.BARRIER_TIMEOUT (R620). -/
def barrierTimeout : Field := ⟨3, 0x1004, 0, 32, .rw, true, .any, 1073741824, 1, 0, false⟩
/-- TRL_CFG.STALL_LIMIT (R620). -/
def stallLimit : Field := ⟨4, 0x0, 0, 32, .rw, true, .any, 1048576, 1, 0, false⟩
/-- TRL_STAT.MSG_STALLS (R620). -/
def msgStalls : Field := ⟨4, 0x4, 0, 32, .ro, false, .any, 0, 1, 0, false⟩
/-- HBM_STACK.CE_COUNT (R623). -/
def ceCount : Field := ⟨5, 0x100, 0, 32, .ro, false, .any, 0, 1, 0, false⟩
/-- HBM_STACK.LANES_USED (R623). -/
def lanesUsed : Field := ⟨5, 0x104, 0, 7, .ro, false, .any, 0, 1, 0, false⟩
/-- HBM_CFG.LANE_THRESH (R623). -/
def hbmLaneThresh : Field := ⟨5, 0x1000, 0, 32, .rw, true, .any, 4096, 1, 0, false⟩
/-- HBM_HOME_IDX (R623). -/
def homeIdx : Field := ⟨5, 0x1004, 0, 18, .rw, false, .any, 0, 1, 0, false⟩
/-- HBM_HOME.TERRACE (R623). -/
def homeTerrace : Field := ⟨5, 0x1008, 0, 5, .rw, false, .steward, 0, 1, 0, true⟩
/-- HBM_HOME.HASHED (R623). -/
def homeHashed : Field := ⟨5, 0x1008, 7, 1, .rw, false, .steward, 1, 1, 0, true⟩
/-- CFM_STAT.CAPACITY (R623). -/
def cfmCapacity : Field := ⟨6, 0x0, 0, 64, .ro, false, .any, 0, 1, 0, false⟩
/-- CFM_STAT.INTERLEAVE (R623). -/
def cfmInterleave : Field := ⟨6, 0x8, 0, 1, .ro, false, .any, 0, 1, 0, false⟩
/-- CFM_STAT.LINK_0 (R623). -/
def cfmLink0 : Field := ⟨6, 0x8, 1, 1, .ro, false, .any, 0, 1, 0, false⟩
/-- CFM_STAT.LINK_1 (R623). -/
def cfmLink1 : Field := ⟨6, 0x8, 2, 1, .ro, false, .any, 0, 1, 0, false⟩
/-- CFM_STAT.TAG_FAILS (R623). -/
def tagFails : Field := ⟨6, 0xc, 0, 32, .ro, false, .any, 0, 1, 0, false⟩
/-- TVL_PORT.STATE (R625). -/
def portState : Field := ⟨7, 0x100, 0, 3, .ro, false, .any, 0, 1, 0, false⟩
/-- TVL_PORT.TX_HALF (R625). -/
def txHalf : Field := ⟨7, 0x100, 4, 1, .ro, false, .any, 0, 1, 0, false⟩
/-- TVL_PORT.RX_HALF (R625). -/
def rxHalf : Field := ⟨7, 0x100, 5, 1, .ro, false, .any, 0, 1, 0, false⟩
/-- TVL_PORT.ATTEMPTS (R625). -/
def attempts : Field := ⟨7, 0x100, 8, 2, .ro, false, .any, 0, 1, 0, false⟩
/-- TVL_PORT.RETRAIN (R625). -/
def retrain : Field := ⟨7, 0x100, 16, 1, .wo, false, .pf, 0, 1, 0, true⟩
/-- TVL_PORT.DELAY_ADJ (R625). -/
def delayAdj : Field := ⟨7, 0x104, 0, 32, .rw, true, .any, 0, 1, 0, false⟩
/-- TVL_PORT.DELAY (R625). -/
def tvlDelay : Field := ⟨7, 0x108, 0, 32, .ro, false, .any, 0, 1, 0, false⟩
/-- TVL_PORT.SPARED_TX (R625). -/
def sparedTx : Field := ⟨7, 0x10c, 0, 4, .ro, false, .any, 15, 1, 0, false⟩
/-- TVL_PORT.SPARED_RX (R625). -/
def sparedRx : Field := ⟨7, 0x10c, 4, 4, .ro, false, .any, 15, 1, 0, false⟩
/-- TVL_PORT.CORRECTED (R625). -/
def tvlCorrected : Field := ⟨7, 0x110, 0, 32, .ro, false, .any, 0, 1, 0, false⟩
/-- TVL_PORT.REPLAYS (R625). -/
def tvlReplays : Field := ⟨7, 0x114, 0, 32, .ro, false, .any, 0, 1, 0, false⟩
/-- TVL_PORT.AUTH_FAILS (R625). -/
def authFails : Field := ⟨7, 0x118, 0, 32, .ro, false, .any, 0, 1, 0, false⟩
/-- TVL_CFG.DEV_ID (R625). -/
def devId : Field := ⟨7, 0x1000, 0, 6, .rw, true, .any, 0, 1, 0, false⟩
/-- TVL_CFG.PORT_EN (R625). -/
def portEn : Field := ⟨7, 0x1000, 16, 12, .rw, true, .any, 4095, 1, 0, false⟩
/-- TVL_CFG.DOMAIN (R625). -/
def domain : Field := ⟨7, 0x1004, 0, 16, .rw, true, .any, 0, 1, 0, false⟩
/-- TVL_CFG.RX_BASE (R625). -/
def rxBase : Field := ⟨7, 0x1008, 0, 64, .rw, true, .any, 0, 1, 0, false⟩
/-- TVL_CFG.RX_SIZE (R625). -/
def rxSize : Field := ⟨7, 0x1010, 0, 64, .rw, true, .any, 0, 1, 0, false⟩
/-- TVL_CFG.E2E_TIMEOUT (R625). -/
def e2eTimeout : Field := ⟨7, 0x1018, 0, 32, .rw, true, .any, 1000, 1, 0, false⟩
/-- TVL_CFG.LANE_THRESH (R625). -/
def tvlLaneThresh : Field := ⟨7, 0x101c, 0, 32, .rw, true, .any, 65536, 1, 0, false⟩
/-- TVL_CFG.AUTH_LIMIT (R625). -/
def authLimit : Field := ⟨7, 0x1020, 0, 16, .rw, true, .any, 16, 1, 0, false⟩
/-- TVL_ROUTE.PRIMARY (R625). -/
def routePrimary : Field := ⟨7, 0x1100, 0, 4, .rw, true, .any, 15, 64, 4, false⟩
/-- TVL_ROUTE.ALTERNATE (R625). -/
def routeAlternate : Field := ⟨7, 0x1100, 4, 4, .rw, true, .any, 15, 64, 4, false⟩
/-- TVL_TREE.UP_PORT (R625). -/
def treeUp : Field := ⟨7, 0x1200, 0, 4, .rw, true, .any, 0, 16, 4, false⟩
/-- TVL_TREE.DOWN_MASK (R625). -/
def treeDown : Field := ⟨7, 0x1200, 4, 12, .rw, true, .any, 0, 16, 4, false⟩
/-- TVL_TREE.LOCAL (R625). -/
def treeLocal : Field := ⟨7, 0x1200, 16, 1, .rw, true, .any, 0, 16, 4, false⟩
/-- TVL_TREE.VALID (R625). -/
def treeValid : Field := ⟨7, 0x1200, 17, 1, .rw, true, .any, 0, 16, 4, false⟩
/-- TVL_STAT.BAD_CTRL (R625). -/
def badCtrl : Field := ⟨7, 0x1240, 0, 32, .ro, false, .any, 0, 1, 0, false⟩
/-- TVL_STAT.MC_WRONG_PORT (R625). -/
def mcWrongPort : Field := ⟨7, 0x1244, 0, 32, .ro, false, .any, 0, 1, 0, false⟩
/-- TVL_STAT.EARLY_PKT (R625). -/
def earlyPkt : Field := ⟨7, 0x1248, 0, 32, .ro, false, .any, 0, 1, 0, false⟩
/-- DIR_CFG.TIE_STRICT (R626). -/
def tieStrict : Field := ⟨9, 0x0, 0, 1, .rw, true, .any, 0, 1, 0, false⟩
/-- DIR_CFG.POOL_BASE (R626). -/
def dirPoolBase : Field := ⟨9, 0x8, 0, 64, .rw, true, .any, 0, 1, 0, false⟩
/-- DIR_CFG.POOL_UNITS (R626). -/
def dirPoolUnits : Field := ⟨9, 0x10, 0, 32, .rw, true, .any, 0, 1, 0, false⟩
/-- DIR_STAT.TIE_COUNT (R626). -/
def dirTies : Field := ⟨9, 0x20, 0, 16, .ro, false, .any, 0, 1, 0, false⟩
/-- DIR_STAT.COLD_READS (R626). -/
def coldReads : Field := ⟨9, 0x24, 0, 32, .ro, false, .any, 0, 1, 0, false⟩
/-- DIR_STAT.SAT_COUNT (R626). -/
def satCount : Field := ⟨9, 0x28, 0, 32, .ro, false, .any, 0, 1, 0, false⟩
/-- DIR_STAT.LIVE_ENTRIES (R626). -/
def liveEntries : Field := ⟨9, 0x2c, 0, 18, .ro, false, .any, 0, 1, 0, false⟩
/-- DIR_CTL.CLEAR_TIE_COUNT (R626). -/
def clrTies : Field := ⟨9, 0x30, 0, 1, .wo, false, .pf, 0, 1, 0, true⟩
/-- DIR_CTL.CLEAR_COLD_READS (R626). -/
def clrColdReads : Field := ⟨9, 0x30, 1, 1, .wo, false, .pf, 0, 1, 0, true⟩
/-- DIR_CTL.CLEAR_SAT_COUNT (R626). -/
def clrSatCount : Field := ⟨9, 0x30, 2, 1, .wo, false, .pf, 0, 1, 0, true⟩
/-- SEL_STAT.PAR_TIES (R626). -/
def parTies : Field := ⟨10, 0x100, 0, 32, .ro, false, .any, 0, 1, 0, false⟩
/-- SEL_CTL.CLEAR_PAR_TIES (R626). -/
def selCtlClr : Field := ⟨10, 0x104, 0, 1, .wo, false, .pf, 0, 1, 0, true⟩
/-- SEL_CFG.OBJ_BASE (R626). -/
def objBase : Field := ⟨10, 0x1000, 0, 64, .rw, true, .any, 0, 1, 0, false⟩
/-- SEL_CFG.OBJ_SIZE (R626). -/
def objSize : Field := ⟨10, 0x1008, 0, 64, .rw, true, .any, 0, 1, 0, false⟩
/-- SEL_STAT.OBJECTS (R626). -/
def objects : Field := ⟨10, 0x1010, 0, 13, .ro, false, .any, 0, 1, 0, false⟩
/-- WGT_PAV.MANIFEST (R626). -/
def wgtManifest : Field := ⟨11, 0x100, 0, 64, .rw, true, .any, 0, 16, 8, false⟩
/-- WGT_PAV.KEY_MASK (R626). -/
def keyMask : Field := ⟨11, 0x180, 0, 8, .rw, true, .any, 0, 1, 0, false⟩
/-- WGT_PAV.HBM_BASE (R626). -/
def hbmBase : Field := ⟨11, 0x188, 0, 64, .rw, true, .any, 0, 1, 0, false⟩
/-- WGT_PAV.HBM_SIZE (R626). -/
def hbmSize : Field := ⟨11, 0x190, 0, 64, .rw, true, .any, 0, 1, 0, false⟩
/-- WGT_PAV.CF_BASE (R626). -/
def cfBase : Field := ⟨11, 0x198, 0, 64, .rw, true, .any, 0, 1, 0, false⟩
/-- WGT_PAV.CF_SIZE (R626). -/
def cfSize : Field := ⟨11, 0x1a0, 0, 64, .rw, true, .any, 0, 1, 0, false⟩
/-- WGT_PAV.STAGE_BASE (R626). -/
def stageBase : Field := ⟨11, 0x1a8, 0, 64, .rw, true, .any, 0, 1, 0, false⟩
/-- WGT_PAV.STAGE_SIZE (R626). -/
def stageSize : Field := ⟨11, 0x1b0, 0, 64, .rw, true, .any, 0, 1, 0, false⟩
/-- WGT_STAT.UNIT (R626). -/
def wgtUnit : Field := ⟨11, 0x1c0, 0, 8, .ro, false, .any, 0, 1, 0, false⟩
/-- WGT_STAT.SWAP (R626). -/
def wgtSwap : Field := ⟨11, 0x1c0, 8, 4, .ro, false, .any, 0, 1, 0, false⟩
/-- WGT_STAT.MODEL (R626). -/
def wgtModel : Field := ⟨11, 0x1c0, 12, 4, .ro, false, .any, 0, 1, 0, false⟩
/-- WGT_STAT.SCRUB_LATE (R626). -/
def scrubLate : Field := ⟨11, 0x1c4, 0, 32, .ro, false, .any, 0, 1, 0, false⟩
/-- WGT_STAT.GEN (R626). -/
def wgtGen : Field := ⟨11, 0x200, 0, 32, .ro, false, .any, 0, 16, 4, false⟩
/-- WGT_CFG.ROOT (R626). -/
def wgtRoot : Field := ⟨11, 0x1000, 0, 1, .rw, true, .any, 0, 1, 0, false⟩
/-- WGT_CFG.FABRIC_LOAD (R626). -/
def fabricLoad : Field := ⟨11, 0x1000, 1, 1, .rw, true, .any, 0, 1, 0, false⟩
/-- WGT_CFG.TREE (R626). -/
def wgtTree : Field := ⟨11, 0x1000, 4, 4, .rw, true, .any, 0, 1, 0, false⟩
/-- WGT_CFG.SCRUB_INTERVAL (R626). -/
def scrubInterval : Field := ⟨11, 0x1008, 0, 64, .rw, true, .any, 3600000000, 1, 0, false⟩
/-- WGT_CFG.SCRUB_BW (R626). -/
def scrubBw : Field := ⟨11, 0x1010, 0, 7, .rw, true, .any, 16, 1, 0, false⟩
/-- ERR_PRIMARY (R628). -/
def errPrimary : Field := ⟨12, 0x100, 0, 32, .ro, false, .any, 0, 8, 4, false⟩
/-- ERR_RING.WR (R628). -/
def errWR : Field := ⟨12, 0x120, 0, 32, .ro, false, .any, 0, 1, 0, false⟩
/-- ERR_RING.RD (R628). -/
def errRD : Field := ⟨12, 0x124, 0, 32, .rw, false, .any, 0, 1, 0, true⟩
/-- ERR_COUNT.OVF (R628). -/
def errOVF : Field := ⟨12, 0x128, 0, 32, .ro, false, .any, 0, 1, 0, false⟩
/-- ERR_COUNT.CNT (R628). -/
def errCNT : Field := ⟨12, 0x12c, 0, 32, .ro, false, .any, 0, 1, 0, false⟩
/-- ERR_CTL.HIP_CLR (R628). -/
def hipClr : Field := ⟨12, 0x130, 0, 1, .wo, false, .steward0, 0, 1, 0, true⟩
/-- ERR_CTL.OVF_CLR (R628). -/
def ovfClr : Field := ⟨12, 0x130, 1, 1, .wo, false, .pf, 0, 1, 0, true⟩
/-- ERR_RING entries (R628). -/
def errEntry : Field := ⟨12, 0x200, 0, 32, .ro, false, .any, 0, 512, 4, false⟩
/-- ERR_CFG.HOST_MASK (R628). -/
def hostMask : Field := ⟨12, 0x1000, 0, 6, .rw, true, .any, 60, 1, 0, false⟩
/-- ERR_CFG.HIP_LIMIT (R628). -/
def hipLimit : Field := ⟨12, 0x1004, 0, 32, .rw, true, .any, 1000000, 1, 0, false⟩
/-- ERR_PLOG.IDX (R628). -/
def plogIdx : Field := ⟨12, 0x1010, 0, 16, .rw, false, .any, 0, 1, 0, false⟩
/-- ERR_PLOG.HEAD (R628). -/
def plogHead : Field := ⟨12, 0x1014, 0, 16, .ro, false, .any, 0, 1, 0, false⟩
/-- ERR_PLOG.DATA (R628). -/
def plogData : Field := ⟨12, 0x1020, 0, 32, .ro, false, .any, 0, 8, 4, false⟩
/-- REPAIR_CFG.WARN_PS (R630). -/
def warnPs : Field := ⟨13, 0x0, 0, 8, .rw, true, .any, 40, 1, 0, false⟩
/-- REPAIR_CFG.RETIRE_PS (R630). -/
def retirePs : Field := ⟨13, 0x0, 8, 8, .rw, true, .any, 15, 1, 0, false⟩
/-- REPAIR_CTL.RETIRE (R630). -/
def retireId : Field := ⟨13, 0x8, 0, 11, .wo, false, .pf, 0, 1, 0, true⟩
/-- REPAIR_CTL.RETIRE.GO (R630). -/
def retireGo : Field := ⟨13, 0x8, 31, 1, .wo, false, .pf, 0, 1, 0, true⟩
/-- REPAIR_CTL.LANE_CLR (R630). -/
def laneClrPort : Field := ⟨13, 0xc, 0, 4, .wo, false, .pf, 0, 1, 0, true⟩
/-- REPAIR_CTL.LANE_CLR.GO (R630). -/
def laneClrGo : Field := ⟨13, 0xc, 31, 1, .wo, false, .pf, 0, 1, 0, true⟩
/-- REPAIR_SPARES.COUNT (R630). -/
def sparesCount : Field := ⟨13, 0x10, 0, 6, .ro, false, .any, 0, 1, 0, false⟩
/-- REPAIR_SPARES.REGION_MAP (R630). -/
def regionMap : Field := ⟨13, 0x14, 0, 32, .ro, false, .any, 0, 1, 0, false⟩
/-- REPAIR_STAT.RETIRED (R630). -/
def retiredCount : Field := ⟨13, 0x18, 0, 16, .ro, false, .any, 0, 1, 0, false⟩
/-- REPAIR_STAT.ROWS_USED (R630). -/
def rowsUsed : Field := ⟨13, 0x1c, 0, 17, .ro, false, .any, 0, 1, 0, false⟩
/-- REPAIR_STAT.TVL_SPARED (R630). -/
def tvlSpared : Field := ⟨13, 0x20, 0, 5, .ro, false, .any, 0, 1, 0, false⟩
/-- REPAIR_STAT.TVL_HALF (R630). -/
def tvlHalf : Field := ⟨13, 0x20, 8, 5, .ro, false, .any, 0, 1, 0, false⟩
/-- REPAIR_STAT.HBM_USED (R630). -/
def hbmUsed : Field := ⟨13, 0x24, 0, 10, .ro, false, .any, 0, 1, 0, false⟩
/-- REPAIR_STAT.FMAX_CAP (R630). -/
def fmaxCap : Field := ⟨13, 0x28, 0, 12, .ro, false, .any, 1800, 1, 0, false⟩
/-- GATE_STAT.ERROR_STATE (R630). -/
def gateError : Field := ⟨14, 0x0, 0, 1, .ro, false, .any, 0, 1, 0, false⟩
/-- GATE_STAT.FMK_PRESENT (R630). -/
def fmkPresent : Field := ⟨14, 0x0, 1, 1, .ro, false, .any, 0, 1, 0, false⟩
/-- GATE_STAT.DEBUG (R630). -/
def gateDebug : Field := ⟨14, 0x0, 2, 1, .ro, false, .any, 0, 1, 0, false⟩
/-- GATE_STAT.SESSIONS (R630). -/
def gateSessions : Field := ⟨14, 0x0, 4, 2, .ro, false, .any, 0, 1, 0, false⟩
/-- GATE_STAT.SECURITY_VERSION (R630). -/
def gateSv : Field := ⟨14, 0x4, 0, 7, .ro, false, .any, 0, 1, 0, false⟩
/-- GATE_STAT.BOOT_BANK (R630). -/
def bootBank : Field := ⟨14, 0x4, 8, 1, .ro, false, .any, 0, 1, 0, false⟩
/-- GATE_OPROOT (R630). -/
def opRoot : Field := ⟨14, 0x100, 0, 32, .ro, true, .any, 0, 144, 4, false⟩
/-- NAND_MAINT.OP (R632). -/
def nandOp : Field := ⟨15, 0x0, 0, 2, .rw, false, .pf, 0, 1, 0, false⟩
/-- NAND_MAINT.CHANNEL (R632). -/
def nandChannel : Field := ⟨15, 0x0, 2, 4, .rw, false, .pf, 0, 1, 0, false⟩
/-- NAND_MAINT.CE (R632). -/
def nandCe : Field := ⟨15, 0x0, 6, 2, .rw, false, .pf, 0, 1, 0, false⟩
/-- NAND_MAINT.GO (R632). -/
def nandGo : Field := ⟨15, 0x0, 31, 1, .w1s, false, .pf, 0, 1, 0, true⟩
/-- NAND_MAINT.ROW (R632). -/
def nandRow : Field := ⟨15, 0x8, 0, 32, .rw, false, .pf, 0, 1, 0, false⟩
/-- NAND_STAT.BUSY (R632). -/
def nandBusy : Field := ⟨15, 0x10, 0, 1, .ro, false, .any, 0, 1, 0, false⟩
/-- NAND_STAT.MAINT_REFUSED (R632). -/
def maintRefused : Field := ⟨15, 0x10, 1, 1, .w1c, false, .pf, 0, 1, 0, false⟩
/-- NAND_STAT.FAIL (R632). -/
def nandFail : Field := ⟨15, 0x10, 2, 1, .w1c, false, .pf, 0, 1, 0, false⟩
/-- NAND_MAINT page buffer (R632). -/
def nandBuf : Field := ⟨15, 0x8000, 0, 32, .rw, false, .pf, 0, 8192, 4, false⟩
/-- QP_CTL.ENABLE (R632). -/
def qpEnable : Field := ⟨16, 0x100, 0, 1, .rw, false, .any, 0, 1, 0, true⟩
/-- QP_CTL.STATE (R632). -/
def qpState : Field := ⟨16, 0x100, 1, 2, .ro, false, .any, 0, 1, 0, false⟩
/-- QP_CFG.SQ_SIZE (R632). -/
def sqSize : Field := ⟨16, 0x104, 0, 9, .rw, false, .any, 0, 1, 0, false⟩
/-- QP_CFG.PAVILION (R632). -/
def qpPavilion : Field := ⟨16, 0x104, 16, 3, .rw, false, .any, 0, 1, 0, false⟩
/-- QP_CFG.VECTOR (R632). -/
def qpVector : Field := ⟨16, 0x104, 24, 5, .rw, false, .any, 0, 1, 0, false⟩
/-- QP_CFG.CQ_BASE (R632). -/
def cqBase : Field := ⟨16, 0x108, 0, 64, .rw, false, .any, 0, 1, 0, false⟩
/-- QP_CFG.CQ_SIZE (R632). -/
def cqSize : Field := ⟨16, 0x110, 0, 17, .rw, false, .any, 0, 1, 0, false⟩
/-- QP_CFG.COAL_COUNT (R632). -/
def coalCount : Field := ⟨16, 0x114, 0, 8, .rw, false, .any, 0, 1, 0, false⟩
/-- QP_CFG.COAL_TIME (R632). -/
def coalTime : Field := ⟨16, 0x114, 16, 16, .rw, false, .any, 0, 1, 0, false⟩
/-- QP_CFG.TPH_ST (R632). -/
def tphSt : Field := ⟨16, 0x118, 0, 8, .rw, false, .any, 0, 1, 0, false⟩
/-- QP_SQ_HEAD (R632). -/
def sqHead : Field := ⟨16, 0x120, 0, 8, .ro, false, .any, 0, 1, 0, false⟩
/-- QP_SQ_TAIL (R632). -/
def sqTail : Field := ⟨16, 0x124, 0, 8, .ro, false, .any, 0, 1, 0, false⟩
/-- QP_CQ_HEAD (R632). -/
def cqHead : Field := ⟨16, 0x128, 0, 16, .ro, false, .any, 0, 1, 0, false⟩
/-- QP_CQ_TAIL (R632). -/
def cqTail : Field := ⟨16, 0x12c, 0, 16, .ro, false, .any, 0, 1, 0, false⟩
/-- QP_STAT.BACKPRESSURE (R632). -/
def backpressure : Field := ⟨16, 0x130, 0, 32, .ro, false, .any, 0, 1, 0, false⟩
/-- FN_NOTIFY (R632). -/
def fnNotify : Field := ⟨17, 0x0, 0, 5, .w1c, false, .any, 0, 1, 0, false⟩
/-- FN_INFO (R632). -/
def fnInfo : Field := ⟨17, 0x4, 0, 6, .ro, false, .any, 0, 1, 0, false⟩
/-- FN_TENANTS (R632). -/
def fnTenants : Field := ⟨17, 0x100, 0, 32, .ro, true, .any, 0, 16, 4, false⟩
end R

/-- The fields of DEV. -/
def fieldsDev : List Field :=
  [R.devPart, R.devGrade, R.devRev, R.devState, R.devRecovery, R.devFabricReady, R.devPlotMhz, R.devSerial, R.plotTarget, R.capW, R.avsFault, R.avsRetry, R.fastCaps, R.throttles, R.powerW, R.tj, R.throttleC, R.assertC, R.confirmWindow, R.routeTies, R.routeTieClr, R.svcCmd, R.svcCpl, R.svcGo, R.svcBusy, R.svcDone]
/-- The fields of SDL. -/
def fieldsSdl : List Field :=
  [R.sdlSrc, R.framesAfterLock, R.openWithoutLock, R.fwdMask, R.cadence, R.sdlState, R.timeValid, R.sdlHops, R.sdlMismatch, R.sdlTime]
/-- The fields of PAV. -/
def fieldsPav : List Field :=
  [R.terraces, R.maxResident, R.minPrefill, R.minDecode, R.hold, R.admitStrict, R.deadlineAction, R.chunk, R.pfTokens, R.decRows, R.slice, R.bwShare, R.ageLimit, R.holdLimit, R.drainLimit, R.estInit, R.pavState, R.pavNP, R.pavNServ, R.pavStreak, R.pavResident, R.pavStep, R.pavA16, R.pavLen, R.draftModel, R.draftEn, R.maxDepth, R.specRounds, R.specDrafted, R.specAccepted, R.poolBase, R.poolPages, R.draftPoolBase, R.draftPoolPages, R.ptBase, R.maxCtx, R.ttlU, R.shareScope, R.cfQuota, R.kvCollide, R.kvFreePages]
/-- The fields of PLOT. -/
def fieldsPlot : List Field :=
  [R.plotRun, R.plotStatClr, R.loadSrc, R.loadDst, R.loadLen, R.loadGo, R.plotEntry, R.plotSite, R.inTrap, R.injFull, R.margin, R.lateWrites, R.convSat, R.nonfinite, R.accSat, R.padSat, R.tcntWrap, R.plotInj, R.memAddr, R.memData, R.haloTimeout, R.barrierTimeout]
/-- The fields of TRL. -/
def fieldsTrl : List Field :=
  [R.stallLimit, R.msgStalls]
/-- The fields of HBM. -/
def fieldsHbm : List Field :=
  [R.ceCount, R.lanesUsed, R.hbmLaneThresh, R.homeIdx, R.homeTerrace, R.homeHashed]
/-- The fields of CFM. -/
def fieldsCfm : List Field :=
  [R.cfmCapacity, R.cfmInterleave, R.cfmLink0, R.cfmLink1, R.tagFails]
/-- The fields of TVL. -/
def fieldsTvl : List Field :=
  [R.portState, R.txHalf, R.rxHalf, R.attempts, R.retrain, R.delayAdj, R.tvlDelay, R.sparedTx, R.sparedRx, R.tvlCorrected, R.tvlReplays, R.authFails, R.devId, R.portEn, R.domain, R.rxBase, R.rxSize, R.e2eTimeout, R.tvlLaneThresh, R.authLimit, R.routePrimary, R.routeAlternate, R.treeUp, R.treeDown, R.treeLocal, R.treeValid, R.badCtrl, R.mcWrongPort, R.earlyPkt]
/-- The fields of GEN. -/
def fieldsGen : List Field :=
  [R.hedgeColl, R.hedgeSubst]
/-- The fields of DIR. -/
def fieldsDir : List Field :=
  [R.tieStrict, R.dirPoolBase, R.dirPoolUnits, R.dirTies, R.coldReads, R.satCount, R.liveEntries, R.clrTies, R.clrColdReads, R.clrSatCount]
/-- The fields of SEL. -/
def fieldsSel : List Field :=
  [R.parTies, R.selCtlClr, R.objBase, R.objSize, R.objects]
/-- The fields of WGT. -/
def fieldsWgt : List Field :=
  [R.wgtManifest, R.keyMask, R.hbmBase, R.hbmSize, R.cfBase, R.cfSize, R.stageBase, R.stageSize, R.wgtUnit, R.wgtSwap, R.wgtModel, R.scrubLate, R.wgtGen, R.wgtRoot, R.fabricLoad, R.wgtTree, R.scrubInterval, R.scrubBw]
/-- The fields of ERR. -/
def fieldsErr : List Field :=
  [R.errPrimary, R.errWR, R.errRD, R.errOVF, R.errCNT, R.hipClr, R.ovfClr, R.errEntry, R.hostMask, R.hipLimit, R.plogIdx, R.plogHead, R.plogData]
/-- The fields of REPAIR. -/
def fieldsRepair : List Field :=
  [R.warnPs, R.retirePs, R.retireId, R.retireGo, R.laneClrPort, R.laneClrGo, R.sparesCount, R.regionMap, R.retiredCount, R.rowsUsed, R.tvlSpared, R.tvlHalf, R.hbmUsed, R.fmaxCap]
/-- The fields of GATE. -/
def fieldsGate : List Field :=
  [R.gateError, R.fmkPresent, R.gateDebug, R.gateSessions, R.gateSv, R.bootBank, R.opRoot]
/-- The fields of NAND. -/
def fieldsNand : List Field :=
  [R.nandOp, R.nandChannel, R.nandCe, R.nandGo, R.nandRow, R.nandBusy, R.maintRefused, R.nandFail, R.nandBuf]
/-- The fields of QP. -/
def fieldsQp : List Field :=
  [R.qpEnable, R.qpState, R.sqSize, R.qpPavilion, R.qpVector, R.cqBase, R.cqSize, R.coalCount, R.coalTime, R.tphSt, R.sqHead, R.sqTail, R.cqHead, R.cqTail, R.backpressure]
/-- The fields of FN. -/
def fieldsFn : List Field :=
  [R.fnNotify, R.fnInfo, R.fnTenants]

/-- The fields of a block (R607). -/
def fieldsOf : Nat → List Field
  | 0 => fieldsDev
  | 1 => fieldsSdl
  | 2 => fieldsPav
  | 3 => fieldsPlot
  | 4 => fieldsTrl
  | 5 => fieldsHbm
  | 6 => fieldsCfm
  | 7 => fieldsTvl
  | 8 => fieldsGen
  | 9 => fieldsDir
  | 10 => fieldsSel
  | 11 => fieldsWgt
  | 12 => fieldsErr
  | 13 => fieldsRepair
  | 14 => fieldsGate
  | 15 => fieldsNand
  | 16 => fieldsQp
  | 17 => fieldsFn
  | _ => []

/-- Instances of a replicated block, none for a block without instances (R607). -/
def instances : Nat → Option Nat
  | 2 => some 8
  | 3 => some 2048
  | 5 => some 8
  | 7 => some 12
  | 8 => some 8
  | 10 => some 8
  | 11 => some 8
  | 12 => some 5
  | 16 => some 16
  | _ => none

/-- The place of a field of an instance in the register file. -/
def Field.key (f : Field) (inst i : Nat) : Nat :=
  (((f.blk * 65536 + f.off + i * f.stride) * 64) + f.lo) * 2048 + inst

/-- The value of a field in the register file. -/
def State.rd (s : State) (f : Field) (inst : Nat := 0) (i : Nat := 0) : Nat :=
  Tab.get f.reset s.regs (f.key inst i)

/-- Sets a field in the register file. -/
def State.wr (s : State) (f : Field) (v : Nat) (inst : Nat := 0) (i : Nat := 0) : State :=
  { s with regs := Tab.put f.reset s.regs (f.key inst i) (v % 2 ^ f.wid) }

end Sys2Proof.Machine
end

