-- ==== Sys2Proof/Machine/Flags.lean ====
section
/-! DEFINITION. Counters and status bits: saturation, wrapping, clears, write-one bits, state codes as registers report them. -/
namespace Sys2Proof.Machine
open Sys2Proof

/-- Adds to a counter that saturates at its all-ones value (R615). -/
def State.inc (s : State) (f : Field) (inst : Nat := 0) (by' : Nat := 1) : State :=
  s.wr f (min (s.rd f inst + by') (2 ^ f.wid - 1)) inst

/-- Adds to a counter that wraps (R301). -/
def State.incWrap (s : State) (f : Field) (inst : Nat := 0) (by' : Nat := 1) : State :=
  s.wr f (s.rd f inst + by') inst

/-- Clears a counter (R615). -/
def State.clr (s : State) (f : Field) (inst : Nat := 0) : State := s.wr f 0 inst

/-- A 32-bit count that saturates (R554). -/
def satInc32 (v : Word32) : Word32 := if v = BitVec.allOnes 32 then v else v + 1

/-- What a write stores in a field by its access code (R7): the old value, the value written. -/
def Acc.store : Acc → Nat → Nat → Nat
  | .rw, _, v => v
  | .ro, o, _ => o
  | .w1c, o, v => o &&& (o ^^^ v)
  | .w1s, o, v => o ||| v
  | .wo, o, _ => o

/-- DEV_STAT.STATE (R14). -/
def DevState.num : DevState → Nat
  | .dormant => 0 | .waking => 1 | .rooting => 2 | .loading => 3 | .opened => 4 | .tending => 5 | .shuttered => 6

/-- PAV_STAT.STATE (R15). -/
def PavState.num : PavState → Nat
  | .closed => 0 | .loading => 1 | .opened => 2 | .draining => 3 | .swapping => 4

/-- SDL_STAT.STATE (R74). -/
def SdlState.num : SdlState → Nat
  | .search => 0 | .acquiring => 1 | .locked => 2 | .holdover => 3 | .lost => 4

/-- SDL_STAT.TIME_VALID (R73). -/
def SdlState.valid : SdlState → Bool
  | .locked => true | .holdover => true | _ => false

/-- TVL_PORT.STATE (R421). -/
def PortState.num : PortState → Nat
  | .down => 0 | .training => 1 | .linked => 2 | .ready => 3

/-- QP_CTL.STATE (R632). -/
def QpState.num : QpState → Nat
  | .disabled => 0 | .enabled => 1 | .error => 2

/-- WGT_STAT.SWAP (R627). -/
def SwapStage.num : SwapStage → Nat
  | .reading => 0 | .queued => 5 | .accepted => 1 | .staging => 1 | .verified => 2 | .copying => 3

/-- READY is driven high in OPEN and TENDING (R581). -/
def State.readyPin (s : State) : Bool := s.dev.st == .opened || s.dev.st == .tending

/-- FAULT_N is asserted while a DEVICE primary's HIP is set or in SHUTTERED; never in DORMANT or WAKING (R558, R561, R580). -/
def State.faultN (s : State) : Bool :=
  s.dev.st != .dormant && s.dev.st != .waking && (s.errs.device.hip || s.dev.st == .shuttered)

/-- The device has left ROOTING, so image-locked fields are locked (R9). -/
def State.locked (s : State) : Bool :=
  match s.dev.st with
  | .dormant => false | .waking => false | .rooting => false | _ => true

/-- The hardware runs: not DORMANT, not WAKING, not ROOTING, not SHUTTERED. -/
def State.serving (s : State) : Bool :=
  match s.dev.st with
  | .loading => true | .opened => true | .tending => true | _ => false

/-- HDR-DDR is available on the service port (R514, R641). -/
def State.hdrDdr (s : State) : Bool := s.dev.everOpen

end Sys2Proof.Machine
end

