-- ==== Sys2Proof/Machine/Framing.lean ====
section
/-! DEFINITION. How a Torvol link frames bits and keeps codewords for replay: slots, the codeword's 257-bit blocks and control
word, the scrambler, the RS(544,514) code, the lanes, the numbering (R396 to R403). -/
namespace Sys2Proof.Machine
open Sys2Proof

/-! ### Slots and codewords (R398, R399, R403) -/

/-- A control symbol's slot: TYPE, its content from byte 1, the CRC-32C of bytes 0 to 59 (R403). -/
def symSlot (typ : Nat) (body : List Byte) : Slot :=
  let b := sub (BitVec.ofNat 8 typ :: body) 0 60
  { ctrl := true, bytes := b ++ bvBytes 4 (Config.crc32c b) }

/-- A data slot. -/
def dataSlot (bs : List Byte) : Slot := { ctrl := false, bytes := sub bs 0 64 }

/-- A control symbol's CRC is good (R403). -/
def Slot.good (sl : Slot) : Bool := Config.crc32c (sub sl.bytes 0 60) == BitVec.ofNat 32 (fld sl.bytes 60 4)

/-- The word CW of a codeword: slot kinds, SEQ, NOSEQ (R399). -/
def Cw.control (c : Cw) : Nat :=
  (List.range 10).foldl (fun n i => if (c.slots.getD i {}).ctrl then n + 2 ^ i else n) 0 + c.seq.toNat * 2 ^ 10
    + (if c.noseq then 2 ^ 18 else 0)

/-- The message of a codeword: 20 blocks of a half-slot, byte 0 first and least significant bit first, and a control bit
(R398, R399). -/
def Cw.message (c : Cw) : Nat :=
  (List.range 20).foldl (fun n b =>
    n + (leNat (sub (c.slots.getD (b / 2) {}).bytes (b % 2 * 32) 32) + (if c.control.testBit b then 2 ^ 256 else 0)) * 2 ^ (257 * b)) 0

/-- The codeword that a message spells (R398, R399). -/
def Cw.ofMessage (m : Nat) : Cw :=
  let cw := (List.range 20).foldl (fun n b => if m.testBit (257 * b + 256) then n + 2 ^ b else n) 0
  let half (b : Nat) : List Byte := leBytes 32 (m / 2 ^ (257 * b) % 2 ^ 256)
  { noseq := cw.testBit 18
    seq := BitVec.ofNat 8 (cw / 2 ^ 10)
    slots := (List.range 10).map fun i => { ctrl := cw.testBit i, bytes := half (2 * i) ++ half (2 * i + 1) } }

/-! ### Scrambler (R398) -/

/-- Scrambles n runs of 39 bits after the 58 bits already sent, the latest highest: each bit is added to the bits sent 39 and 58
before it (R398). -/
def scramble : Nat → Nat → Nat → Nat
  | 0, _, _ => 0
  | n + 1, sent, m =>
    let x := (m ^^^ sent ^^^ (sent / 2 ^ 19)) % 2 ^ 39
    x + 2 ^ 39 * scramble n ((sent + x * 2 ^ 58) / 2 ^ 39) (m / 2 ^ 39)

/-- A message of 5,140 bits scrambled. -/
def scrambled (sent : BitVec 58) (m : Nat) : BitVec 5140 := BitVec.ofNat 5140 (scramble 132 sent.toNat m)

/-- A message descrambled: the same sum over the bits received, which need no common start (R398). -/
def descrambled (got : BitVec 58) (m : BitVec 5140) : Nat :=
  let f := got.toNat + m.toNat * 2 ^ 58
  (f ^^^ (f * 2 ^ 39) ^^^ (f * 2 ^ 58)) / 2 ^ 58 % 2 ^ 5140

/-! ### The code and the lanes (R396 to R398, R400) -/

/-- The 544 symbols of a codeword: the 514 of the message, then the parity (R398; log 68). -/
def codeSymbols (m : BitVec 5140) : List (BitVec 10) :=
  let n := m.toNat + (Config.rsParity m).toNat * 2 ^ 5140
  (List.range 544).map fun i => BitVec.ofNat 10 (n / 2 ^ (10 * i))

/-- RS(544,514) corrects a codeword with at most 15 symbols in error (R398; log 68). -/
def correctable (errs : List Nat) : Bool := decide (errs.length ≤ 15)

/-- The symbols of each logical lane: symbol i is dealt to lane i mod w (R400). -/
def dealt (w : Nat) (l : List (BitVec 10)) : List (List (BitVec 10)) :=
  (List.range w).map fun k => (List.range (l.length / w)).map fun j => l.getD (j * w + k) 0

/-- The physical lanes of a direction's logical lanes: 0 to 7, or the four of half width, and the spare in place of a lane spared
(R396, R397, R425, R426). Directions: 0 transmit, 1 receive. -/
def State.laneMap (s : State) (i dir : Nat) : List Nat :=
  let half := Tab.get [] s.nvm.repair.tvlHalf (i * 2 + dir)
  let base := if half.isEmpty then List.range 8 else half
  match Tab.get none s.nvm.repair.tvlLane (i * 2 + dir) with
  | some k => base.set k 8
  | none => base

/-- The lanes on which a direction carries the symbols of a codeword. -/
def State.onLanes (s : State) (i : Nat) (m : BitVec 5140) : List (Nat × List (BitVec 10)) :=
  let map := s.laneMap i 0
  map.zip (dealt map.length (codeSymbols m))

/-! ### Sending (R401, R402) -/

/-- A codeword leaves a port. What the scrambler has sent before it, of the codewords of IDLE slots that need no number, is free
(R398, R401; log 1, log 68). -/
def State.putCw (s : State) (i : Nat) (c : Cw) : State :=
  (s.emit (.codeword i (s.onLanes i (scrambled (s.free64.setWidth 58) c.message)))).tickFree

/-- A lane swap that the sender has announced takes effect with the codeword of its switch SEQ (R425). -/
def State.switchLane (s : State) (i dir lane : Nat) : State :=
  { s with
    nvm := { s.nvm with repair := { s.nvm.repair with tvlLane := Tab.put none s.nvm.repair.tvlLane (i * 2 + dir) (some lane) } }
    errs := { s.errs with repairPending := true } }

/-- The next numbered codeword, filled with IDLE symbols: SEQ rises, and the replay buffer keeps it (R401). -/
def State.number (s : State) (i : Nat) (slots : List Slot) : State :=
  let p := s.port i
  let c : Cw := { seq := p.txSeq, slots := slots ++ List.replicate (10 - slots.length) (symSlot 0 []) }
  let t := s.setPort i { p with
    txSeq := p.txSeq + 1
    replay := p.replay ++ [c]
    txSwap := p.txSwap.filter fun e => e.1 != p.txSeq }
  match p.txSwap with
  | some (x, lane) => if x = p.txSeq then (t.switchLane i 0 lane).putCw i c else t.putCw i c
  | none => t.putCw i c

/-- Up to ten slots to send: in the next numbered codeword, or held while the replay buffer is full (R401; log 43). -/
def State.sendSlots (s : State) (i : Nat) (slots : List Slot) : State :=
  let p := s.port i
  if p.held.isEmpty && decide (p.replay.length < 128) then s.number i slots
  else s.setPort i { p with held := p.held ++ [slots] }

/-- Slots held go out as far as the replay buffer has room. -/
def State.sendHeld (s : State) (i : Nat) : State :=
  let p := s.port i
  p.held.foldl (fun (t : State) l => t.sendSlots i l) (s.setPort i { p with held := [] })

/-- Slots cut into codewords. -/
def tens : Nat → List Slot → List (List Slot)
  | 0, _ => []
  | n + 1, l => if l.isEmpty then [] else l.take 10 :: tens n (l.drop 10)

/-- A port sends a control symbol, in a codeword of its own (R403; log 43). -/
def State.sendSym (s : State) (i typ : Nat) (body : List Byte) : State :=
  (s.emit (.symbol i typ body)).sendSlots i [symSlot typ body]

end Sys2Proof.Machine
end

