-- ==== Sys2Proof/Machine/Errors.lean ====
section
/-! DEFINITION. Notifications, error entry, nesting and SHUTTERED (R453, R454, R550 to R562). -/
namespace Sys2Proof.Machine
open Sys2Proof

/-! ### Interrupts to the host -/

/-- A word of the MSI-X table; vector control resets masked (log 21). -/
def State.msixWord (s : State) (k : Nat) : Word32 := Tab.get (if k % 4 = 3 then 1 else 0) s.msixTab k

def State.setMsixWord (s : State) (k : Nat) (v : Word32) : State :=
  { s with msixTab := Tab.put (if k % 4 = 3 then 1 else 0) s.msixTab k v }

/-- A vector is masked by bit 0 of its vector control. -/
def State.masked (s : State) (fn vec : Nat) : Bool := (s.msixWord (fn * 128 + vec * 4 + 3)).getLsbD 0

/-- Fires a vector: sent, or pending while masked (R453); nothing in SHUTTERED (R467). -/
def State.fire (s : State) (fn vec : Nat) : State :=
  if s.dev.st = .shuttered then s
  else if s.masked fn vec then { s with msixPend := Tab.put false s.msixPend (fn * 32 + vec) true }
  else s.emit (.msix fn vec)

/-- Sets a bit of FN_NOTIFY; vector 31 fires when it goes from 0 to 1 (R454). -/
def State.notify (s : State) (fn bit : Nat) : State :=
  if (s.rd R.fnNotify fn).testBit bit then s
  else (s.wr R.fnNotify (s.rd R.fnNotify fn + 2 ^ bit) fn).fire fn 31

/-- Sets a bit of FN_NOTIFY of every function, once the functions are answered (log 22). -/
def State.notifyAll (s : State) (bit : Nat) : State :=
  if s.dev.cfgReady then (List.range 64).foldl (fun t fn => t.notify fn bit) s else s

/-- Enters a device state; DEVICE_STATE is notified (R14, R454). -/
def State.goDev (s : State) (d : DevState) : State :=
  if s.dev.st = d then s
  else State.notifyAll { s with dev := { s.dev with st := d, everOpen := s.dev.everOpen || d == .opened } } 1

/-! ### Records -/

def Errs.bank (e : Errs) : Cls → ErrBank
  | .corrected => e.corrected | .deferred => e.deferred | .request => e.request
  | .pavilion => e.pavilion | .device => e.device

def Errs.setBank (e : Errs) (c : Cls) (b : ErrBank) : Errs :=
  match c with
  | .corrected => { e with corrected := b } | .deferred => { e with deferred := b }
  | .request => { e with request := b } | .pavilion => { e with pavilion := b } | .device => { e with device := b }

/-- The highest class whose primary has HIP set, 0 if none (R556). -/
def Errs.highest (e : Errs) : Nat :=
  if e.device.hip then 5 else if e.pavilion.hip then 4 else if e.request.hip then 3
  else if e.deferred.hip then 2 else if e.corrected.hip then 1 else 0

/-- The class of the highest HIP. -/
def Errs.highestCls (e : Errs) : Option Cls := Cls.ofInst (e.highest - 1) |>.filter fun _ => e.highest != 0

def flag (b : Bool) (i : Nat) : Nat := if b then 2 ^ i else 0

/-- The 32-byte record of an error (R553). -/
def Err.record (e : Err) (cls : Cls) (hip promoted early : Bool) (time : Nat) (seq : Word32) : BitVec 256 :=
  BitVec.ofNat 256
    (cls.code e.event + flag true 16 + flag hip 17 + flag promoted 18 + flag early 20
      + e.pav.getD 0 % 8 * 2 ^ 24 + flag e.pav.isNone 27
      + e.unit % 256 * 2 ^ 32 + e.inst % 65536 * 2 ^ 40
      + time % 2 ^ 64 * 2 ^ 64 + e.d0 % 2 ^ 64 * 2 ^ 128 + e.d1 % 2 ^ 32 * 2 ^ 192 + seq.toNat * 2 ^ 224)

/-- Enters a record in its class's ring; the oldest unread one is overwritten when 64 are unread (R555). -/
def ErrBank.put (b : ErrBank) (r : BitVec 256) : ErrBank :=
  let full := b.wr - b.rd = 64
  { b with
    ring := Tab.put 0 b.ring (b.wr.toNat % 64) r
    wr := b.wr + 1
    rd := if full then b.rd + 1 else b.rd
    ovf := if full then satInc32 b.ovf else b.ovf }

/-- Enters a record in a ring, with a copy to steward 0's mailbox (R555). -/
def State.ringPut (s : State) (c : Cls) (r : BitVec 256) : State :=
  { s with errs := { s.errs.setBank c ((s.errs.bank c).put r) with mailbox := s.errs.mailbox ++ [r] } }

/-! ### Ports and SHUTTERED -/

/-- A port that has gone DOWN: its buffers, credits and link keys are gone (R427, R497). -/
def Port.dropped (p : Port) (reason now : Nat) : Port :=
  { ({} : Port) with downReason := reason, downAt := now, delays := p.delays }

/-- The port carries codewords. -/
def Port.linkedUp (p : Port) : Bool := p.st == .linked || p.st == .ready

/-- Sends DOWN while the transmit direction carries codewords (R404). -/
def State.sendDown (s : State) (i reason : Nat) : State :=
  if (s.port i).linkedUp then s.sendSym i 0x0E [BitVec.ofNat 8 reason] else s

/-- The reason that DETAIL1 of TVL_LINK_DOWN records: the one sent or received, else 0xFF; a port that carries no codewords has
sent none (R404). -/
def Port.reason (p : Port) (reason : Nat) : Nat := if p.linkedUp then reason else 0xFF

/-- Counts an error in its class (R554). -/
def State.countErr (s : State) (c : Cls) : State :=
  { s with errs := s.errs.setBank c { s.errs.bank c with cnt := satInc32 (s.errs.bank c).cnt } }

/-- The next raise sequence number is taken (R553). -/
def State.nextSeq (s : State) : State := { s with errs := { s.errs with seq := s.errs.seq + 1 } }

/-- One port at entry to SHUTTERED: DOWN with reason 0x02, the error enters the ring only (R561, R562). -/
def State.shutPort (s : State) (i : Nat) : State :=
  if (s.port i).st = .down then s
  else
    let d1 := (s.port i).reason 2
    let t := (s.sendDown i 2).setPort i ((s.port i).dropped d1 s.time)
    let e : Err := { cls := .corrected, event := Code.tvlLinkDown, unit := 6, inst := i, d1 := d1 }
    ((t.countErr .corrected).ringPut .corrected
      (e.record .corrected false false false s.time s.errs.seq)).nextSeq

/-- A plot at entry to SHUTTERED stops at once, its macro-ops not completed (R561). -/
def Plot.cutOff (p : Plot) : Plot := { p with run := false, running := none }

/-- Entry to SHUTTERED (R561): plots and ports stop, the entry awaits the persistent log (R559). -/
def State.shutter (s : State) (r : BitVec 256) : State :=
  let t := { s with
    dev := { s.dev with st := .shuttered }
    plots := Tab.mapAll {} (fun _ p => p.cutOff) s.plots
    errs := { s.errs with plogPending := s.errs.plogPending ++ [r] } }
  (List.range 12).foldl State.shutPort t

/-! ### Error entry -/

/-- A primary is written: HIP set, steward 0 interrupted, the PF told if HOST_MASK says so, the persistent log owed for
PAVILION and DEVICE (R556, R558, R559). -/
def State.putPrimary (s : State) (c : Cls) (r : BitVec 256) : State :=
  let e := s.errs.setBank c
    { s.errs.bank c with primary := r, hip := true, hipAt := s.time, timedOut := false }
  let e := { e with
    mailbox := e.mailbox ++ [r]
    irq := e.irq ++ [c]
    plogPending := if c.num ≥ 4 then e.plogPending ++ [r] else e.plogPending }
  let t := { s with errs := e }
  if (s.rd R.hostMask).testBit c.num then t.notify 0 3 else t

/-- Marks the primary of the preempted class (R556). -/
def State.preempt (s : State) : State :=
  match s.errs.highestCls with
  | none => s
  | some h =>
    let b := s.errs.bank h
    { s with errs := s.errs.setBank h { b with primary := b.primary ||| BitVec.ofNat 256 (2 ^ 19) } }

/-- A DEVICE error during a trial is a fallback cause (R549). -/
def State.trialCause (s : State) (c : Cls) : State :=
  if c = .device ∧ s.upd.trial = true ∧ s.upd.cause = none then
    { s with upd := { s.upd with cause := some 2 } }
  else s

/-- A record goes to the persistent log though it is no PAVILION or DEVICE primary: a plot retirement, and at boot a plot without
a spare (R559, R564). -/
def Err.logged (e : Err) (early : Bool) : Bool :=
  e.event == Code.plotRetired || (early && e.event == Code.plotNoSpare)

/-- A record enters its ring only; where the persistent log wants it, it waits for it. -/
def State.ringOnly (s : State) (e : Err) (early : Bool) (c : Cls) (r : BitVec 256) : State :=
  let t := s.ringPut c r
  if e.logged early then { t with errs := { t.errs with plogPending := t.errs.plogPending ++ [r] } } else t

/-- A record becomes its class's primary. -/
def State.primaryIn (s : State) (e : Err) (c : Cls) (r : BitVec 256) : State :=
  let t := (s.preempt).putPrimary c r
  if e.event = Code.plotRetired ∧ c.num < 4 then { t with errs := { t.errs with plogPending := t.errs.plogPending ++ [r] } } else t

/-- `err_enter` (R556). -/
def State.enter (s : State) (e : Err) (early : Bool := false) : State :=
  let s1 := (s.countErr e.cls).nextSeq
  let promoted := e.inHandler && e.cls != .device && s.dev.st != .shuttered
  let c := if promoted then e.cls.up else e.cls
  let rec' (hip : Bool) := e.record c hip promoted early s.time s.errs.seq
  if s.dev.st = .shuttered then s1.ringOnly e early c (rec' false)
  else if c = .device ∧ s.errs.device.hip = true then
    ((s1.ringPut c (rec' false)).trialCause c).shutter (rec' false)
  else if c.num ≤ s.errs.highest then s1.ringOnly e early c (rec' false)
  else (s1.primaryIn e c (rec' true)).trialCause c

/-- Raises an error: held by the Gatehouse until the records are available (R489), then entered (R556). -/
def State.raise (s : State) (e : Err) : State :=
  match s.dev.st with
  | .dormant => s
  | .waking => { s with boot := { s.boot with early := s.boot.early ++ [e] } }
  | .rooting => { s with boot := { s.boot with early := s.boot.early ++ [e] } }
  | _ => s.enter e

/-- A DEVICE_WIDE CORRECTED error. -/
def corrErr (event unit inst : Nat) (d0 d1 : Nat := 0) : Err :=
  { cls := .corrected, event := event, unit := unit, inst := inst, d0 := d0, d1 := d1 }

/-- A port goes DOWN (R427): DOWN is sent for a cause of R404, TVL_LINK_DOWN is raised. -/
def State.portDown (s : State) (i reason : Nat) (send : Bool) : State :=
  if (s.port i).st = .down then s
  else
    let d1 := (s.port i).reason reason
    let t := if send then s.sendDown i reason else s
    ((t.setPort i ((s.port i).dropped d1 s.time)).wr R.attempts 0 i).raise (corrErr Code.tvlLinkDown 6 i 0 d1)

/-- Every port goes DOWN for one cause. -/
def State.allPortsDown (s : State) (reason : Nat) (send : Bool) : State :=
  (List.range 12).foldl (fun t i => t.portDown i reason send) s

end Sys2Proof.Machine
end

