-- ==== Sys2Proof/Machine/Access.lean ====
section
/-! DEFINITION. Register accesses: what a read returns, which writes take effect (R7 to R13, R607 to R635). -/
namespace Sys2Proof.Machine
open Sys2Proof

/-! ### Sites and terraces -/

/-- The site of a region and its index j (R92). -/
def siteAt (region j : Nat) : Nat := (region / 4 * 5 + j / 13) * 52 + region % 4 * 13 + j % 13

/-- The site that serves a logical plot (R94, R97). -/
def State.siteOf (s : State) (p : Nat) : Nat :=
  match Tab.get 0 s.nvm.repair.site p with
  | 0 => siteAt (terrOf p) (localOf p)
  | n + 1 => n

/-- The region holds a spare (R95). -/
def State.hasSpare (s : State) (region : Nat) : Bool := !s.nvm.repair.spareGone.contains region

/-- The defined pavilion that owns a terrace (R248). -/
def State.pavOfTerr (s : State) (t : Nat) : Option Nat :=
  (List.range 8).find? fun p => (s.rd R.terraces p).testBit t

/-- The terraces of a pavilion that serve (R248). -/
def State.servTerrs (s : State) (p : Nat) : List Nat :=
  (List.range 32).filter fun t => (s.rd R.terraces p).testBit t && !(s.terr t).withdrawn

/-- A pavilion is defined by the image (R474, R619). -/
def State.defined (s : State) (p : Nat) : Bool := s.rd R.terraces p != 0

/-! ### What live fields read -/

def b2n (b : Bool) : Nat := if b then 1 else 0

/-- The repair counters read 0 before the repair record loads (R617). -/
def State.repairRead (s : State) (v : Nat) : Nat := if s.locked then v else 0

/-- Spare rows in use at the sites that serve logical plots (R568). -/
def State.rowsUsed (s : State) : Nat :=
  s.nvm.repair.rows.foldl (fun n e => if (List.range 2048).any (fun p => s.siteOf p == e.1 / 12) then n + e.2 else n) 0

/-- The record of the persistent log a requester's IDX names (R559, R629). -/
def State.plogWord (s : State) (r i : Nat) : Nat :=
  ((Tab.get 0 s.nvm.plog (Tab.get 0 s.acc.plogIdx r)).toNat / 2 ^ (32 * i)) % 2 ^ 32

/-- A word of a 32-byte record. -/
def recWord (v : BitVec 256) (i : Nat) : Nat := (v.toNat / 2 ^ (32 * i)) % 2 ^ 32

/-- An ERR register (R628). -/
def State.errRead (s : State) (inst r off i : Nat) : Option Nat :=
  match Cls.ofInst inst with
  | none => some 0
  | some c =>
    let b := s.errs.bank c
    match off with
    | 0x100 => some (recWord b.primary i)
    | 0x120 => some b.wr.toNat
    | 0x124 => some b.rd.toNat
    | 0x128 => some b.ovf.toNat
    | 0x12c => some b.cnt.toNat
    | 0x200 => some (recWord (Tab.get 0 b.ring (i / 8)) (i % 8))
    | 0x1010 => some (Tab.get 0 s.acc.plogIdx r)
    | 0x1014 => some s.nvm.plogHead
    | 0x1020 => some (s.plogWord r i)
    | _ => none

/-- The swap of a pavilion as WGT_STAT reports it (R627). -/
def State.swapNum (s : State) (p : Nat) : Nat := match (s.pav p).swap with | none => 0 | some w => if w.back then 4 else w.stage.num

/-- The generation of a model in a pavilion: that of the manifest whose shards are all in place, kept in the register
file (R380). -/
def State.gen (s : State) (p m : Nat) : Nat := s.rd R.wgtGen p m

/-- Lanes used on an HBM stack (R623). -/
def State.stackLanes (s : State) (stack : Nat) : Nat :=
  s.nvm.repair.hbm.foldl (fun n e => if e.1 / 32 = stack then n + e.2 else n) 0

/-- Fields whose value other state holds; none for a field of the register file. Blocks are numbered as in R607. -/
def State.live (s : State) (blk off lo inst r i : Nat) : Option Nat :=
  match blk, off, lo with
  | 0, 0x0, 16 => some s.fuses.grade.toNat
  | 0, 0x0, 20 => some s.fuses.rev.toNat
  | 0, 0x4, 0 => some s.dev.st.num
  | 0, 0x4, 3 => some (b2n s.dev.recovery)
  | 0, 0x4, 4 => some (b2n s.dev.fabricReady)
  | 0, 0x8, _ => some s.fuses.serial.toNat
  | 1, 0x8, 0 => some s.sdl.st.num
  | 1, 0x8, 3 => some (b2n s.sdl.st.valid)
  | 1, 0x10, _ => some s.time
  | 2, 0x120, 0 => some (s.pav inst).st.num
  | 2, 0x120, 8 => some (if (s.pav inst).st = .closed then 0 else (s.pav inst).np)
  | 2, 0x120, 16 => some (s.servTerrs inst).length
  | 2, 0x120, 24 => some (min (s.pav inst).streak 63)
  | 2, 0x124, _ => some (s.reqs.countP fun e => e.2.pav == inst)
  | 2, 0x128, _ => some (s.pav inst).step
  | 2, 0x12c, _ => some (s.pav inst).a16
  | 2, 0x1e4, _ => some (s.rd R.poolPages inst - s.pages.countP fun e =>
      e.1 / 2097152 == inst && e.1 % 2097152 < 1048576 && e.2.st != .free)
  | 3, 0x100, 0 => some (b2n (s.plot inst).run)
  | 3, 0x120, _ => some (s.siteOf inst)
  | 3, 0x124, 0 => some (b2n (s.plot inst).inTrap)
  | 3, 0x164, _ => some 0
  | 5, 0x104, _ => some (s.stackLanes inst)
  | 5, 0x1004, _ => some (Tab.get 0 s.acc.homeIdx r)
  | 5, 0x1008, 0 => some (if Tab.get 0 s.acc.homeIdx r < 147456
      then (Tab.get 0x80 s.homes (Tab.get 0 s.acc.homeIdx r)).toNat % 32 else 0)
  | 5, 0x1008, 7 => some (if Tab.get 0 s.acc.homeIdx r < 147456
      then (Tab.get 0x80 s.homes (Tab.get 0 s.acc.homeIdx r)).toNat / 128 else 0)
  | 7, 0x100, 0 => some (s.port inst).st.num
  | 7, 0x100, 4 => some (b2n !(Tab.get [] s.nvm.repair.tvlHalf (inst * 2)).isEmpty)
  | 7, 0x100, 5 => some (b2n !(Tab.get [] s.nvm.repair.tvlHalf (inst * 2 + 1)).isEmpty)
  | 7, 0x10c, 0 => some ((Tab.get none s.nvm.repair.tvlLane (inst * 2)).getD 15)
  | 7, 0x10c, 4 => some ((Tab.get none s.nvm.repair.tvlLane (inst * 2 + 1)).getD 15)
  | 9, 0x2c, _ => some (s.dir.countP fun e => e.2.st == .live)
  | 10, 0x1010, _ => some s.objs.length
  | 11, 0x1c0, 0 => some (match (s.pav inst).swap with | none => 0 | some w => w.unit)
  | 11, 0x1c0, 8 => some (s.swapNum inst)
  | 11, 0x1c0, 12 => some (match (s.pav inst).swap with | none => 0 | some w => w.model)
  | 11, 0x1c4, _ => some (s.rd R.scrubLate)
  | 12, o, _ => s.errRead inst r o i
  | 13, 0x10, _ => some (s.repairRead (32 - s.nvm.repair.spareGone.length))
  | 13, 0x14, _ => some (s.repairRead ((List.range 32).foldl (fun n g => if s.hasSpare g then n + 2 ^ g else n) 0))
  | 13, 0x18, _ => some (s.repairRead s.nvm.repair.retired)
  | 13, 0x1c, _ => some (s.repairRead s.rowsUsed)
  | 13, 0x20, 0 => some (s.repairRead (s.nvm.repair.tvlLane.countP fun e => e.2.isSome))
  | 13, 0x20, 8 => some (s.repairRead (s.nvm.repair.tvlHalf.countP fun e => !e.2.isEmpty))
  | 13, 0x24, _ => some (s.repairRead (s.nvm.repair.hbm.foldl (fun n e => n + e.2) 0))
  | 13, 0x28, _ => some (if s.locked then s.nvm.repair.fmaxCap else 1800)
  | 14, 0x0, 0 => some (b2n s.gate.errorState)
  | 14, 0x0, 1 => some (b2n s.gate.fmk.isSome)
  | 14, 0x0, 2 => some (b2n s.gate.debug)
  | 14, 0x0, 4 => some s.gate.sessions.length
  | 14, 0x4, 0 => some s.fuses.sv
  | 14, 0x4, 8 => some s.boot.bootBank
  | 16, 0x100, 0 => some (b2n ((s.qp inst).st != .disabled))
  | 16, 0x100, 1 => some (s.qp inst).st.num
  | 16, 0x120, _ => some (s.qp inst).sqHead
  | 16, 0x124, _ => some (s.qp inst).sqTail
  | 16, 0x128, _ => some (s.qp inst).cqHead
  | 16, 0x12c, _ => some (s.qp inst).cqTail
  | 17, 0x4, _ => some inst
  | _, _, _ => none

/-! ### Who reaches what -/

/-- The block of a BAR0 offset (R607); none in a reserved range. -/
def blkOf (off : Nat) : Option Nat := if off / 65536 < 18 then some (off / 65536) else none

/-- A VF-visible register (R607). -/
def vfVisible (blk o : Nat) : Bool :=
  match blk with
  | 0 => o / 4 == 0 || o / 4 == 1
  | 1 => decide (8 ≤ o) && decide (o < 0x18)
  | 16 => true
  | 17 => true
  | _ => false

/-- PCIe answers BAR requests (R431, R469). -/
def State.barsUp (s : State) : Bool := s.dev.cfgReady && s.dev.pcieUp && !s.dev.perst

/-- A block is answered in recovery: DEV and ERR only (R471). -/
def State.recoveryOk (s : State) (r blk : Nat) : Bool :=
  !s.dev.recovery || decide (64 < r) || blk == 0 || blk == 12

/-- The requester may reach the register (R433, R471, R480, R613, R614). -/
def State.reaches (s : State) (r blk o : Nat) : Bool :=
  s.recoveryOk r blk &&
  (if r < 64 then s.barsUp && (r == 0 || vfVisible blk o)
   else if r = 64 then blk != 16 && blk != 17 &&
     (s.serving || s.dev.st == .shuttered || (s.dev.svcReady && blk == 0 && o / 4 == 1))
   else blk != 16 && blk != 17)

/-- A read is answered (R467, R635). -/
def State.readable (s : State) (r blk o : Nat) : Bool :=
  s.reaches r blk o &&
  (s.dev.st != .shuttered || r == 64 || (r == 0 && (blk == 12 || (blk == 0 && decide (o < 8)))))

/-- A write may take effect (R480, R614, R635). -/
def State.writable (s : State) (r blk o : Nat) : Bool :=
  s.reaches r blk o && s.serving

/-- A requester's selection in a block (R11). -/
def State.sel (s : State) (r blk : Nat) : Nat := Tab.get 0 s.acc.chsel (blk * 73 + r)

/-- The instance an offset reaches for a requester; none beyond the instance count or in a reserved range (R10, R13, R608). -/
def State.instOf (s : State) (r blk o : Nat) : Option Nat :=
  match instances blk with
  | none => some (if blk = 17 then r else 0)
  | some n =>
    if 0x1000 ≤ o then some 0
    else if o < 0x100 then none
    else if s.sel r blk < n then some (if blk = 16 then r * 16 + s.sel r blk else s.sel r blk)
    else none

/-! ### Reads -/

/-- The element of a field and its half that the word at an offset holds. -/
def Field.hit (f : Field) (o : Nat) : Option (Nat × Nat) :=
  let w := if f.wid = 64 then 8 else 4
  let step := if f.n ≤ 1 then w else f.stride
  if o < f.off then none
  else
    let i := (o - f.off) / step
    if i < max f.n 1 ∧ (o - f.off) % step < w then some (i, (o - f.off) % step / 4) else none

/-- A field's value as the requester reads it (R7). -/
def State.fieldRead (s : State) (f : Field) (inst r i : Nat) : Nat :=
  if f.acc = .wo then 0
  else match s.live f.blk f.off f.lo inst r i with
    | some v => v % 2 ^ f.wid
    | none => s.rd f inst i

/-- The word at a 4-byte aligned block offset of an instance. -/
def State.word (s : State) (r blk inst o : Nat) : Nat :=
  (fieldsOf blk).foldl (fun acc f =>
    match f.hit o with
    | none => acc
    | some (i, h) =>
      acc + (if f.wid = 64 then s.fieldRead f inst r i / 2 ^ (32 * h) % 2 ^ 32
             else s.fieldRead f inst r i * 2 ^ f.lo)) 0

/-- A word of BAR0 as a requester reads it (R608, R634). -/
def State.read32 (s : State) (r off : Nat) : Nat :=
  match blkOf off with
  | none =>
    if r < 64 ∧ s.barsUp = true ∧ s.dev.st ≠ .shuttered ∧ 0xF00000 ≤ off ∧ off < 0xF00200 ∧ s.dev.recovery = false then
      (s.msixWord (r * 128 + (off - 0xF00000) / 4)).toNat
    else if r < 64 ∧ s.barsUp = true ∧ s.dev.st ≠ .shuttered ∧ off = 0xF01000 ∧ s.dev.recovery = false then
      (List.range 32).foldl (fun n v => n + (if Tab.get false s.msixPend (r * 32 + v) then 2 ^ v else 0)) 0
    else 0
  | some blk =>
    let o := off % 65536
    if s.readable r blk o = false then 0
    else if (instances blk).isSome ∧ o = 0 then s.sel r blk
    else match s.instOf r blk o with
      | none => 0
      | some inst => s.word r blk inst o

/-- The offset is the low half of a 64-bit register. -/
def lowHalf (off : Nat) : Bool :=
  match blkOf off with
  | none => false
  | some blk => (fieldsOf blk).any fun f => f.wid == 64 && f.hit (off % 65536) == some ((off % 65536 - f.off) / (if f.n ≤ 1 then 8 else f.stride), 0)

/-- Sets what a requester has latched in the block of an offset. -/
def State.setLatch (s : State) (r off : Nat) (v : Nat × Word32) : State :=
  { s with acc := { s.acc with latch := Tab.put (0, 0) s.acc.latch (off / 65536 * 73 + r) v } }

/-- The latch of a requester and a block is dropped by its next access to the block (R611). -/
def State.dropLatch (s : State) (r off : Nat) : State := s.setLatch r off (0, 0)

/-- A 4-byte read: a low half latches its high half, a high half returns what was latched (R611). -/
def State.busRead (s : State) (r off : Nat) : Nat × State :=
  let l := Tab.get (0, 0) s.acc.latch (off / 65536 * 73 + r)
  let v := if l.1 = off ∧ off ≠ 0 then l.2.toNat else s.read32 r off
  let t := s.dropLatch r off
  if lowHalf off then (v, t.setLatch r off (off + 4, BitVec.ofNat 32 (s.read32 r (off + 4))))
  else (v, t)

/-- LOW_HALF_READ (R611). A read of another register, or one not aligned, latches nothing. -/
def execLowHalfRead (r off : Nat) (s : State) : Res :=
  if off % 4 = 0 then ok ((s.busRead r off).2.emit (.readData r (BitVec.ofNat 64 (s.busRead r off).1)))
  else ok (s.emit (.readData r 0))

/-! ### Writes -/

/-- The requester is one the field's qualifier lets write (R612). -/
def Who.admits (w : Who) (r : Nat) : Bool :=
  match w with
  | .any => true
  | .steward => decide (64 < r)
  | .steward0 => r == 65
  | .pf => r == 0
  | .service => r == 64

/-- A vector's mask bit goes to 0: what was pending is sent (R453). -/
def State.unmask (s : State) (fn vec : Nat) : State :=
  let t := s.setMsixWord (fn * 128 + vec * 4 + 3) (s.msixWord (fn * 128 + vec * 4 + 3) &&& ~~~1)
  if Tab.get false s.msixPend (fn * 32 + vec) ∧ s.masked fn vec = true then
    State.fire { t with msixPend := Tab.put false t.msixPend (fn * 32 + vec) false } fn vec
  else t

/-- A write of a word of the MSI-X table (R435, R453). -/
def State.msixWrite (s : State) (fn k : Nat) (v : Word32) : State :=
  if k % 4 = 3 ∧ v.getLsbD 0 = false then (s.unmask fn (k / 4)).setMsixWord (fn * 128 + k) v
  else s.setMsixWord (fn * 128 + k) v

/-- A write of 4 bytes of a submission ring (R435, R439). -/
def State.ringWrite (s : State) (fn o : Nat) (v : Word32) : State :=
  let k := fn * 16 + o / 65536
  let p := s.qp k
  let slot := o % 65536 / 128
  let sh := o % 128 * 8
  let old := Tab.get 0 p.ring slot
  let cleared := old &&& ~~~(BitVec.ofNat 1024 ((2 ^ 32 - 1) * 2 ^ sh))
  if o % 65536 < 32768 then
    s.setQp k { p with ring := Tab.put 0 p.ring slot (cleared ||| BitVec.ofNat 1024 (v.toNat * 2 ^ sh)) }
  else s

/-- The queue pair's configuration may be written only while it is DISABLED (R437). -/
def State.qpOpenForWrite (s : State) (f : Field) (inst : Nat) : Bool :=
  !(f.blk == 16 && f.acc == .rw) || (s.qp inst).st == .disabled

/-- Writes to NAND_MAINT are ignored while BUSY is 1 (R633). -/
def State.nandOpen (s : State) (f : Field) : Bool :=
  !(f.blk == 15 && f.off != 0x10) || s.rd R.nandBusy == 0

/-- PLOT_LOAD and PLOT_ENTRY take no write while the plot runs (R128). -/
def Field.late (f : Field) : Bool :=
  f.blk == 3 && (f.off == 0x108 || f.off == 0x110 || f.off == 0x114 || f.off == 0x118 || f.off == 0x11c)

/-- The value a half-word write leaves in a 64-bit field. -/
def half64 (old h v : Nat) : Nat :=
  if h = 0 then old / 2 ^ 32 * 2 ^ 32 + v % 2 ^ 32 else old % 2 ^ 32 + v % 2 ^ 32 * 2 ^ 32

/-- One field takes the bits of a word written at an offset (R7 to R9, R612). A field with a command of its own is left to
that command. -/
def State.fieldWrite (s : State) (r inst o v : Nat) (f : Field) : State :=
  match f.hit o with
  | none => s
  | some (i, h) =>
    if f.own || (f.lock && s.locked) || !f.who.admits r || !s.qpOpenForWrite f inst || !s.nandOpen f then s
    else if f.late && (s.plot inst).run then s
    else if f.blk = 5 ∧ f.off = 0x1004 then
      { s with acc := { s.acc with homeIdx := Tab.put 0 s.acc.homeIdx r (v % 2 ^ 18) } }
    else if f.blk = 12 ∧ f.off = 0x1010 then
      { s with acc := { s.acc with plogIdx := Tab.put 0 s.acc.plogIdx r (v % 2 ^ 16) } }
    else if f.blk = 3 ∧ f.off = 0x140 then
      if i < 7 then s.setPlot inst { s.plot inst with injStage := Tab.put 0 (s.plot inst).injStage i (BitVec.ofNat 32 v) }
      else s
    else if f.wid = 64 then s.wr f (f.acc.store (s.rd f inst i) (half64 (s.rd f inst i) h v)) inst i
    else s.wr f (f.acc.store (s.rd f inst i) (v / 2 ^ f.lo % 2 ^ f.wid)) inst i

/-- A word written to PLOT_LOAD or PLOT_ENTRY, or to either's half of a register; GO set to 1 is the command PLOT_LOAD_GO. -/
def lateWord (o v : Nat) : Bool :=
  fieldsPlot.any fun f => f.late && (f.hit o).isSome && (f.off != 0x118 || v % 2 == 0)

/-- A write to PLOT_LOAD or PLOT_ENTRY while RUN is 1 counts in LATE_WRITES, once whatever its size (R128). -/
def State.countLate (s : State) (r inst o size v : Nat) : State :=
  if 64 < r ∧ (s.plot inst).run = true ∧
      (lateWord o (v % 2 ^ 32) || (size == 8 && lateWord (o + 4) (v / 2 ^ 32))) = true then s.inc R.lateWrites inst
  else s

/-- A NAND_MAINT.GO with an OP that is neither PAGE PROGRAM nor BLOCK ERASE is refused (R632, R633). -/
def State.nandRefuses (s : State) (r blk o v : Nat) : Bool :=
  blk == 15 && o == 0 && r == 0 && v.testBit 31 && (v % 4 == 0 || v % 4 == 3) && s.rd R.nandBusy == 0

/-- A write of one word of a block (R608, R634). -/
def State.wordWrite (s : State) (r blk o v : Nat) : State :=
  match s.instOf r blk o with
  | none => s
  | some inst =>
    let t := (fieldsOf blk).foldl (fun t f => t.fieldWrite r inst o v f) s
    if s.nandRefuses r blk o v then t.wr R.maintRefused 1 else t

/-- A write of one word anywhere in BAR0. -/
def State.write32 (s : State) (r off v : Nat) : State :=
  match blkOf off with
  | some blk => if s.writable r blk (off % 65536) then s.wordWrite r blk (off % 65536) v else s
  | none =>
    if 64 ≤ r ∨ s.barsUp = false ∨ s.dev.recovery = true ∨ s.dev.st = .shuttered then s
    else if 0xF00000 ≤ off ∧ off < 0xF00200 then s.msixWrite r ((off - 0xF00000) / 4) (BitVec.ofNat 32 v)
    else if 0x1000000 ≤ off ∧ off < 0x1100000 then s.ringWrite r (off - 0x1000000) (BitVec.ofNat 32 v)
    else s

/-- A register write as R611 to R613 take it: 4 or 8 bytes, naturally aligned; any other access is ignored. -/
def State.regWrite (s : State) (r off size : Nat) (v : Word64) : State :=
  if ¬(size = 4 ∨ size = 8) ∨ off % size ≠ 0 then s
  else
    let t := s.dropLatch r off
    let c := match blkOf off with
      | some 3 => if t.writable r 3 (off % 65536) then
          (match t.instOf r 3 (off % 65536) with
           | some inst => t.countLate r inst (off % 65536) size v.toNat
           | none => t) else t
      | _ => t
    let lo := c.write32 r off (v.toNat % 2 ^ 32)
    if size = 8 then lo.write32 r (off + 4) (v.toNat / 2 ^ 32) else lo

/-- REGISTER_WRITE. -/
def execRegisterWrite (r off size : Nat) (v : Word64) (s : State) : Res := ok (s.regWrite r off size v)

/-- A requester writes its copy of a BLOCK_CHSEL (R10, R11). -/
def State.chselWrite (s : State) (r blk : Nat) (v : Word32) : State :=
  if (instances blk).isSome && s.writable r blk 0 then
    let t := s.dropLatch r (blk * 65536)
    { t with acc := { t.acc with chsel := Tab.put 0 t.acc.chsel (blk * 73 + r) v.toNat } }
  else s

/-- CHSEL_WRITE (R10, R11). -/
def execChselWrite (r blk : Nat) (v : Word32) (s : State) : Res := ok (s.chselWrite r blk v)

/-! ### Fields with a command of their own -/

/-- The instance a requester's window reaches, if its write takes effect there: `who` gives the qualifier (R10, R612). -/
def State.target (s : State) (r blk o : Nat) (who : Who) : Option Nat :=
  if s.writable r blk o && who.admits r then s.instOf r blk o else none

/-- A command that writes a field of its own: the requester's instance, if the write takes effect. -/
def State.own (s : State) (r blk o : Nat) (who : Who) (act : Nat → State → State) : State :=
  match s.target r blk o who with
  | none => s
  | some i => act i (s.dropLatch r (blk * 65536))

/-- PLOT_CTL_STAT_CLR: the counters at 0x128 to 0x13C are cleared (R615, R620). -/
def execPlotCtlStatClr (r : Nat) (s : State) : Res :=
  ok (s.own r 3 0x100 .steward fun i t =>
    [R.lateWrites, R.convSat, R.nonfinite, R.accSat, R.padSat, R.tcntWrap].foldl (fun u f => u.clr f i) t)

/-- SEL_CTL_CLEAR: PAR_TIES is cleared (R615, R626). -/
def execSelCtlClear (r : Nat) (s : State) : Res := ok (s.own r 10 0x104 .pf fun i t => t.clr R.parTies i)

/-- DEV_CTL_ROUTE_TIE_CLR: ROUTE_STAT.TIE_COUNT is cleared (R615, R618). -/
def execDevCtlRouteTieClr (r : Nat) (s : State) : Res := ok (s.own r 0 0x34 .pf fun _ t => t.clr R.routeTies)

/-- DIR_CTL_CLEAR_TIE_COUNT (R615, R626). -/
def execDirCtlClearTieCount (r : Nat) (s : State) : Res := ok (s.own r 9 0x30 .pf fun _ t => t.clr R.dirTies)

/-- DIR_CTL_CLEAR_COLD_READS (R615, R626). -/
def execDirCtlClearColdReads (r : Nat) (s : State) : Res := ok (s.own r 9 0x30 .pf fun _ t => t.clr R.coldReads)

/-- DIR_CTL_CLEAR_SAT_COUNT (R615, R626). -/
def execDirCtlClearSatCount (r : Nat) (s : State) : Res := ok (s.own r 9 0x30 .pf fun _ t => t.clr R.satCount)

end Sys2Proof.Machine
end

