-- ==== Sys2Proof/Machine/Operands.lean ====
section
/-! DEFINITION. The operand forms: fields of descriptors, commands, macro-ops, instructions and packets. -/
namespace Sys2Proof.Machine
open Sys2Proof

/-- The field of w bits from bit lo (R6). -/
def bits {n : Nat} (v : BitVec n) (lo w : Nat) : Nat := v.toNat / 2 ^ lo % 2 ^ w

/-- The n bytes from byte b of a little-endian structure. -/
def byteAt {n : Nat} (v : BitVec n) (b len : Nat) : Nat := bits v (8 * b) (8 * len)

/-! ### Request descriptor (R444) -/

namespace Rd
def reqId (d : BitVec 1024) : Nat := byteAt d 0 8
def pavilion (d : BitVec 1024) : Nat := bits d 64 3
def model (d : BitVec 1024) : Nat := bits d 72 4
def advance (d : BitVec 1024) : Bool := d.getLsbD 76
def finalOnly (d : BitVec 1024) : Bool := d.getLsbD 77
def cls (d : BitVec 1024) : Nat := bits d 80 3
def depth (d : BitVec 1024) : Nat := bits d 88 4
def tenant (d : BitVec 1024) : Nat := byteAt d 12 4
def hash (d : BitVec 1024) : Nat := byteAt d 16 4
def maxTokens (d : BitVec 1024) : Nat := byteAt d 20 4
def deadline (d : BitVec 1024) : Nat := byteAt d 24 8
def seed (d : BitVec 1024) : Nat := byteAt d 32 8
def handle (d : BitVec 1024) : Nat := byteAt d 40 4
def promptLen (d : BitVec 1024) : Nat := byteAt d 44 4
def promptAddr (d : BitVec 1024) : Nat := byteAt d 48 8
def outAddr (d : BitVec 1024) : Nat := byteAt d 56 8
/-- INV_TEMP, the FP16 bits of β (R338). -/
def invTemp (d : BitVec 1024) : Nat := byteAt d 64 2
def topK (d : BitVec 1024) : Nat := byteAt d 66 2
def topP (d : BitVec 1024) : Nat := byteAt d 68 2
def repLog (d : BitVec 1024) : Nat := byteAt d 70 1
def penPrompt (d : BitVec 1024) : Bool := d.getLsbD 568
def presPen (d : BitVec 1024) : Nat := byteAt d 72 2
def freqPen (d : BitVec 1024) : Nat := byteAt d 74 2
def penWindow (d : BitVec 1024) : Nat := byteAt d 76 2
/-- A reserved bit outside the sampling block is set (R444). -/
def reserved (d : BitVec 1024) : Bool :=
  bits d 67 5 != 0 || bits d 78 2 != 0 || bits d 83 5 != 0 || bits d 92 4 != 0 || byteAt d 80 48 != 0
/-- A reserved bit of the sampling block is set (R338). -/
def sampReserved (d : BitVec 1024) : Bool := bits d 569 7 != 0 || byteAt d 78 2 != 0
end Rd

/-! ### Administrative command (R455, R457) -/

namespace Ad
def opcode (c : BitVec 1024) : Nat := byteAt c 0 1
def cid (c : BitVec 1024) : Word32 := BitVec.ofNat 32 (byteAt c 4 4)
def dataAddr (c : BitVec 1024) : Nat := byteAt c 8 8
def dataLen (c : BitVec 1024) : Nat := byteAt c 16 8
/-- Whether the bytes from `lo` up to `hi` are zero. -/
def zero (c : BitVec 1024) (lo hi : Nat) : Bool := byteAt c lo (hi - lo) == 0

/-- The opcode is one of the table's, and every byte it leaves unused is 0 (R455, R457). Reserved bits inside a used byte
count as well, but for those of a directory entry image, which R56 gives BAD_ADAPTER_RECORD. -/
def wellFormed (c : BitVec 1024) : Bool :=
  zero c 1 4 &&
  match opcode c with
  | 0x10 => zero c 41 48 && zero c 56 128 && byteAt c 40 1 < 4
  | 0x11 => zero c 8 24 && zero c 32 128
  | 0x12 => zero c 32 128
  | 0x13 => zero c 8 24 && byteAt c 36 1 < 4 && zero c 37 128
  | 0x14 => zero c 8 24 && byteAt c 32 1 < 16 && zero c 33 128
  | 0x20 => zero c 26 128
  | 0x21 => zero c 26 128
  | 0x22 => zero c 8 24 && zero c 28 128
  | 0x30 => zero c 8 24 && byteAt c 26 1 < 2 && zero c 27 32 && zero c 40 128
  | 0x31 => zero c 8 24 && zero c 26 128
  | 0x40 => zero c 8 24 && zero c 25 128
  | 0x41 => zero c 8 24 && zero c 25 128
  | 0x50 => zero c 8 24 && zero c 32 128
  | _ => false
end Ad

/-! ### Macro-op (R170) -/

namespace Mo
def opcode (m : BitVec 256) : Nat := bits m 0 8
def mode (m : BitVec 256) : Nat := bits m 8 4
def rnd (m : BitVec 256) : Nat := bits m 12 2
/-- The generator bank of SR_BANK: 0 is G3, then G0, G1, G2 (R156). -/
def srBank (m : BitVec 256) : Nat := (bits m 14 2 + 3) % 4
def srPhase (m : BitVec 256) : Nat := bits m 16 4
def walk (m : BitVec 256) : Nat := bits m 20 2
def accOut (m : BitVec 256) : Bool := m.getLsbD 22
def tcnt (m : BitVec 256) : Nat := bits m 24 4
def hedgeA (m : BitVec 256) : Nat × Nat := (bits m 32 2, bits m 34 4)
def hedgeB (m : BitVec 256) : Nat × Nat := (bits m 38 2, bits m 40 4)
def tm (m : BitVec 256) : Nat := 4 * bits m 48 8
def tn (m : BitVec 256) : Nat := 4 * bits m 56 8
def tk (m : BitVec 256) : Nat := 16 * bits m 64 8
def tile (m : BitVec 256) : Nat := bits m 72 24
def storeBase (m : BitVec 256) : Nat := 64 * bits m 96 16
/-- The allocation in bytes (R170). -/
def alloc (m : BitVec 256) : Nat := if bits m 112 16 = 0 then 245760 else 64 * bits m 112 16
/-- The descriptor field of an operand: 0 SRC0, 1 SRC1, 2 SRC2, 3 DST. -/
def desc (m : BitVec 256) (k : Nat) : Nat := bits m (128 + 16 * k) 16
def aux (m : BitVec 256) : Nat := bits m 192 32
def aux2 (m : BitVec 256) : Nat := bits m 224 32
/-- A reserved bit is set, or TILE is not 0 where the walk is not EXPLICIT (R170). -/
def reserved (m : BitVec 256) : Bool :=
  m.getLsbD 23 || bits m 28 4 != 0 || bits m 44 4 != 0 || (walk m != 2 && tile m != 0)
/-- The image with another WALK and TILE (R206). -/
def explicit (m : BitVec 256) (t : Nat) : BitVec 256 :=
  BitVec.ofNat 256 (m.toNat - bits m 20 2 * 2 ^ 20 - bits m 72 24 * 2 ^ 72 + 2 * 2 ^ 20 + t % 2 ^ 24 * 2 ^ 72)
end Mo

/-! ### Tensor descriptor (R172) -/

/-- A decoded tensor descriptor. -/
structure Desc where
  base : Nat
  sbase : Nat
  dims : List Nat
  strides : List Nat
  fmt : Nat
  sexp : Int
  lenReg : Option Nat
  lenDim : Nat
  pad : Nat
  reserved : Bool
  deriving DecidableEq, Repr

/-- Decodes the 64 bytes of a tensor descriptor (R172). -/
def Desc.ofBytes (b : List Byte) : Desc :=
  { base := fld b 0 8
    sbase := fld b 8 8
    dims := [fld b 16 4, fld b 20 4, fld b 24 4, fld b 28 4]
    strides := [fld b 32 4, fld b 36 4, fld b 40 4]
    fmt := fld b 44 1 % 16
    sexp := if fld b 45 1 < 128 then fld b 45 1 else Int.ofNat (fld b 45 1) - 256
    lenReg := if fld b 46 1 / 16 % 2 = 1 then some (fld b 46 1 % 16) else none
    lenDim := fld b 46 1 / 32 % 4
    pad := fld b 48 4
    reserved := fld b 44 1 / 32 != 0 || fld b 46 1 / 128 != 0 || fld b 47 1 != 0 || fld b 52 12 != 0 }

def Desc.dim (d : Desc) (k : Nat) : Nat := d.dims.getD k 1
def Desc.stride (d : Desc) (k : Nat) : Nat := 64 * d.strides.getD (k - 1) 0

/-- Bytes of a row of n elements of a format (R140). -/
def rowBytes (fmt n : Nat) : Nat :=
  match fmt with
  | 1 => 3 * cdiv n 4
  | 2 => 20 * cdiv n 32
  | 3 => cdiv n 2
  | 7 => cdiv n 2
  | 9 => 2 * n
  | 0xA => 2 * n
  | 0xB => 4 * n
  | _ => n

/-! ### Custom plot instruction (R100) -/

namespace In
def opcode (w : Word32) : Nat := bits w 0 7
def rd (w : Word32) : Nat := bits w 7 5
def funct3 (w : Word32) : Nat := bits w 12 3
def rs1 (w : Word32) : Nat := bits w 15 5
def rs2 (w : Word32) : Nat := bits w 20 5
def flag (w : Word32) : Bool := w.getLsbD 25
def high (w : Word32) : Nat := bits w 26 6
/-- The encoding R100 lists: opcode, funct3, whether bit 25 is a named flag, whether rs2 must be x0. -/
def legal (w : Word32) (op f3 : Nat) (hasFlag rs2x0 : Bool) : Bool :=
  opcode w == op && funct3 w == f3 && high w == 0 && (hasFlag || !flag w) && (!rs2x0 || rs2 w == 0)
end In

/-! ### Packet HEAD (R405) -/

namespace Hd
def typ (h : BitVec 512) : Nat := byteAt h 0 1
def vc (h : BitVec 512) : Nat := bits h 8 2
def dest (h : BitVec 512) : Nat := bits h 16 6
def mcast (h : BitVec 512) : Bool := h.getLsbD 22
def src (h : BitVec 512) : Nat := bits h 24 6
def tree (h : BitVec 512) : Nat := bits h 32 4
def op (h : BitVec 512) : Nat := byteAt h 5 1
def len (h : BitVec 512) : Nat := byteAt h 6 2
def addr (h : BitVec 512) : Nat := bits h 64 48
def nonce (h : BitVec 512) : Nat := byteAt h 16 8
def xid (h : BitVec 512) : Word32 := BitVec.ofNat 32 (byteAt h 24 4)
def status (h : BitVec 512) : Nat := byteAt h 28 1
/-- A HEAD from its fields; NONCE_CTR and the CRC are the sender's to fill. -/
def mk (vc dest src tree op len addr : Nat) (xid : Word32) (status : Nat) (mcast : Bool := false) : BitVec 512 :=
  BitVec.ofNat 512 (1 + vc % 4 * 2 ^ 8 + dest % 64 * 2 ^ 16 + (if mcast then 2 ^ 22 else 0) + src % 64 * 2 ^ 24
    + tree % 16 * 2 ^ 32 + op % 256 * 2 ^ 40 + len % 65536 * 2 ^ 48 + addr % 2 ^ 48 * 2 ^ 64
    + xid.toNat * 2 ^ 192 + status % 256 * 2 ^ 224)
end Hd

/-! ### Directory entry and adapter record (R18, R29) -/

/-- The key fields of a directory entry image; STATE and CUR_REC are the device's (R18, R457). -/
def DirEnt.ofImage (v : BitVec 128) : DirEnt :=
  { tenant := BitVec.ofNat 32 (bits v 0 32)
    hash := BitVec.ofNat 32 (bits v 32 32)
    modelMask := BitVec.ofNat 16 (bits v 64 16)
    layerFirst := bits v 80 8
    layerLast := bits v 88 8
    prio := bits v 96 4
    anyHash := v.getLsbD 102 }

def EntState.num : EntState → Nat | .free => 0 | .live => 1 | .retiring => 2
def Loc.num : Loc → Nat | .hbm => 0 | .cold => 1 | .both => 2
/-- LOC of its code; 0b11 is reserved. -/
def Loc.ofNum : Nat → Option Loc | 0 => some .hbm | 1 => some .cold | 2 => some .both | _ => none
/-- VSTATE codes (R48). -/
def VState.num : VState → Nat
  | .free => 0 | .loading => 1 | .staged => 2 | .current => 3 | .superseded => 4 | .retiring => 5 | .failed => 6

/-- The 16 bytes of a directory entry (R18). -/
def DirEnt.image (e : DirEnt) : Nat :=
  e.tenant.toNat + e.hash.toNat * 2 ^ 32 + e.modelMask.toNat * 2 ^ 64 + e.layerFirst % 256 * 2 ^ 80
    + e.layerLast % 256 * 2 ^ 88 + e.prio % 16 * 2 ^ 96 + e.st.num * 2 ^ 100 + b2n e.anyHash * 2 ^ 102
    + e.cur % 2 ^ 17 * 2 ^ 104

/-- The 128 bytes of an adapter record (R29). -/
def AdRec.bytes (r : AdRec) : List Byte :=
  leBytes 4 r.tenant.toNat ++ leBytes 4 r.hash.toNat ++ leBytes 4 r.version.toNat
    ++ leBytes 1 r.rankQ ++ leBytes 1 (r.fmt % 16 + r.mode % 16 * 16) ++ leBytes 1 r.proj.toNat
    ++ leBytes 1 (b2n r.kvClean + 2 * b2n r.scaleNeg + 4 * b2n r.scaleZero) ++ leBytes 2 r.scaleLog.toNat
    ++ leBytes 1 r.layerFirst ++ leBytes 1 r.layerLast ++ leBytes 1 r.vst.num ++ leBytes 1 r.loc.num ++ [0, 0]
    ++ leBytes 4 r.pins ++ [0, 0, 0, 0] ++ leBytes 8 r.location ++ leBytes 8 r.size
    ++ (leBytes 48 r.digest.toNat).reverse ++ List.replicate 32 0

end Sys2Proof.Machine
end

