-- ==== Sys2Proof/Machine/Ends.lean ====
section
/-! DEFINITION. Marking a request to end (R207, R278, R299): it leaves at its next step boundary. -/
namespace Sys2Proof.Machine
open Sys2Proof

/-- The request is resident. -/
def State.hasReq (s : State) (i : Nat) : Bool := s.reqs.any fun e => e.1 == i

/-- REQ_ID of a request. -/
def Req.id (r : Req) : Nat := Rd.reqId r.desc

/-- A request is marked to end with a status; the first cause stands (log 36). -/
def State.markEnd (s : State) (i status : Nat) : State :=
  if s.hasReq i && (s.req i).ending.isNone then s.setReq i { s.req i with ending := some status } else s

/-- A REQUEST error: it is raised, and the request is marked to end with its code (R278, R551). -/
def State.failReq (s : State) (i ev : Nat) (d1 : Nat := 0) : State :=
  if s.hasReq i && (s.req i).ending.isNone then
    let r := s.req i
    (s.raise { cls := .request, event := ev, pav := some r.pav, unit := 3, inst := r.pav, d0 := r.id, d1 := d1 }).markEnd i
      (Cls.request.code ev)
  else s

end Sys2Proof.Machine
end

