-- ==== Sys2Proof/Machine/Memory.lean ====
section
/-! DEFINITION. Device memory: the address map, POISON, homes' writes, HBM errors, the cold frame, plot store and the store
buffer (R209 to R245, R568, R569). -/
namespace Sys2Proof.Machine
open Sys2Proof

def coldBase : Nat := 0x100000000000
def selfBase : Nat := 0x300000000000
def storeSize : Nat := 393216

/-- Where a device address lies (R209). -/
inductive Region where
  | hbm | priv | cold | self | none
  deriving DecidableEq, Repr

/-- CFM_STAT.CAPACITY of a raw capacity in all (R223), at most 4 TiB (R4). -/
def usable (raw : Nat) : Nat := min (raw * 127 / 128 / 4096 * 4096) (2 ^ 42)

/-- CFM_STAT.CAPACITY (R223). -/
def State.capacity (s : State) : Nat := s.rd R.cfmCapacity

/-- The region of an address, the cold frame up to its capacity (R209, R210). -/
def State.region (s : State) (a : Nat) : Region :=
  if a < 0x47C0000000 then .hbm
  else if a < 0x4800000000 then .priv
  else if coldBase ≤ a ∧ a < coldBase + min s.capacity (2 ^ 42) then .cold
  else if selfBase ≤ a ∧ a < selfBase + storeSize then .self
  else .none

/-- The line of an address. -/
def lineOf (a : Nat) : Nat := a / 64

/-- The lines that n bytes from an address touch. -/
def linesOf (a n : Nat) : List Nat := (List.range (if n = 0 then 0 else (a + n - 1) / 64 - a / 64 + 1)).map (a / 64 + ·)

/-- The cold-frame port that serves a cold-frame offset (R222). -/
def State.coldPort (s : State) (off : Nat) : Nat :=
  if s.rd R.cfmInterleave = 1 then off / 4096 % 2
  else match s.cfm.order with
    | [] => 0
    | p :: rest =>
      let cap := (if p = 0 then s.cfm.port0 else s.cfm.port1).raw * 127 / 128 / 4096 * 4096
      if off < cap then p else rest.headD p

/-- A port of the cold frame. -/
def CfmS.port (c : CfmS) (i : Nat) : CfmPort := if i = 0 then c.port0 else c.port1

/-- A line reads POISON: it is marked, its HBM stack or cold-frame port is lost, or its page has failed authentication
(R216, R224, R245, R519, R571). -/
def State.poisonLine (s : State) (l : Nat) : Bool :=
  s.poison.contains l ||
  (match s.region (l * 64) with
   | .hbm => s.cfm.lostStacks.contains (l * 64 / 256 % 8)
   | .priv => s.cfm.lostStacks.contains (l * 64 / 256 % 8)
   | .cold => s.gate.errorState || (s.cfm.port (s.coldPort (l * 64 - coldBase))).lost || s.cfm.badPages.contains ((l * 64 - coldBase) / 4096)
   | _ => false)

/-- Some line of n bytes reads POISON. -/
def State.poisoned (s : State) (a n : Nat) : Bool := (linesOf a n).any s.poisonLine

/-- Marks a line POISON. -/
def State.markPoison (s : State) (l : Nat) : State := { s with poison := setIns l s.poison }

/-- The lines of n bytes at a line's address that read POISON, counted from that address. -/
def State.badLines (s : State) (a n : Nat) : List Nat := (List.range (cdiv n 64)).filter fun k => s.poisonLine (a / 64 + k)

/-- A copy of lines that read POISON carries the marks to where it is written (log 25). -/
def State.spoilLines (s : State) (a : Nat) (bad : List Nat) : State := bad.foldl (fun (t : State) k => t.markPoison (a / 64 + k)) s

/-- A write at the home slice: bytes change, a line written whole loses its mark (R221, R244). -/
def State.homeWrite (s : State) (a : Nat) (bs : List Byte) : State :=
  let whole := (linesOf a bs.length).filter fun l => a ≤ l * 64 ∧ l * 64 + 64 ≤ a + bs.length
  { s with mem := Mem.write s.mem a bs, poison := s.poison.filter fun l => !whole.contains l }

/-! ### Home slices (R217 to R219) -/

/-- The hash home of an address: the exclusive-or of its eight 5-bit fields from bit 6 on (R218). -/
def hashHome (a : Nat) : Nat := xorAll ((List.range 8).map fun k => a / 2 ^ (6 + 5 * k) % 32)

/-- The terrace whose slice is home to an address: what the granule's entry names, or the hash home; the cold frame always has
the hash home (R217). -/
def State.homeOf (s : State) (a : Nat) : Nat :=
  let e : Byte := Tab.get 0x80 s.homes (a / 2097152)
  if a < 0x4800000000 ∧ e.getLsbD 7 = false then e.toNat % 32 else hashHome a

/-- The granule of an HBM address is changing its home: accesses to it wait (R219). -/
def State.homeWaits (s : State) (a : Nat) : Bool := s.homeBusy.any fun e => e.1 == a / 2097152

/-- One of n bytes from an address lies in a granule that is changing its home (R219). -/
def State.spanWaits (s : State) (a n : Nat) : Bool :=
  s.homeBusy.any fun e => decide (a < (e.1 + 1) * 2097152) && decide (e.1 * 2097152 < a + n)

/-! ### Errors of HBM -/

/-- The stack and pseudo-channel of an address (R215). -/
def hbmChan (a : Nat) : Nat := a / 256 % 8 * 32 + a / 2048 % 32

/-- A lane's corrected-symbol count rises; over the threshold the lane is remapped to a spare (R572). -/
def State.laneCount (s : State) (chan lane : Nat) : State :=
  let n := Tab.get 0 s.hbmLane (chan * 64 + lane % 64) + 1
  let t := { s with hbmLane := Tab.put 0 s.hbmLane (chan * 64 + lane % 64) n }
  if s.rd R.hbmLaneThresh < n ∧ Tab.get 0 s.nvm.repair.hbm chan < 2 then
    State.raise
      { t with
        hbmLane := Tab.put 0 t.hbmLane (chan * 64 + lane % 64) 0
        nvm := { t.nvm with repair := { t.nvm.repair with hbm := Tab.put 0 t.nvm.repair.hbm chan (Tab.get 0 t.nvm.repair.hbm chan + 1) } }
        errs := { t.errs with repairPending := true } }
      (corrErr Code.hbmLaneRepaired 4 chan)
  else t

/-- What the protection of HBM reports on an access of a line (R216, R572). -/
def State.hbmEvent (s : State) (a : Nat) (ev : MemEvent) : State :=
  match ev with
  | .clean => s
  | .corrected lane =>
    ((s.inc R.ceCount (a / 256 % 8)).raise (corrErr Code.hbmCe 4 (hbmChan a) (a / 64 * 64))).laneCount (hbmChan a) lane
  | .uncorrectable =>
    (s.markPoison (lineOf a)).raise
      { cls := .deferred, event := Code.hbmUe, unit := 4, inst := hbmChan a, d0 := a / 64 * 64 }

/-- What the protection of HBM reports on the lines that a mover or a scrub engine reads (R216). -/
def State.hbmEvents (s : State) (evs : List (Nat × MemEvent)) : State :=
  evs.foldl (fun t e => if t.region e.1 = .hbm then t.hbmEvent e.1 e.2 else t) s

/-! ### Plot store -/

/-- The plot's pavilion for an error record: its terrace's, or none. -/
def State.plotPav (s : State) (p : Nat) : Option Nat := s.pavOfTerr (terrOf p)

/-- A plot-store row is due for repair (R568). -/
def Plot.wantRow (p : Plot) (row : Nat) : Plot := { p with rowRepair := setIns row p.rowRepair }

/-- A plot-store read is corrected: the third within 1,000,000 tk makes the row due for repair (R568). -/
def Plot.corrected (p : Plot) (row now : Nat) : Plot :=
  let times := now :: (Tab.get [] p.ce row).filter fun t => tkFrom t now < 1000000
  let q := { p with ce := Tab.put [] p.ce row times }
  if 3 ≤ times.length then q.wantRow row else q

/-- What the protection of plot store reports on a read (R568, R569). -/
def State.storeEvent (s : State) (p a : Nat) (ev : MemEvent) : State :=
  match ev with
  | .clean => s
  | .corrected _ => s.setPlot p ((s.plot p).corrected (a / 64) s.time)
  | .uncorrectable => s.setPlot p (Plot.wantRow { s.plot p with bad := setIns (a / 8) (s.plot p).bad } (a / 64))

/-- Some 8-byte word of n bytes of plot store is uncorrectable. -/
def Plot.badIn (p : Plot) (a n : Nat) : Bool := p.bad.any fun w => a < w * 8 + 8 && w * 8 < a + n

/-- A write to plot store; a word written whole has new check bits (R568). -/
def Plot.write (p : Plot) (a : Nat) (bs : List Byte) : Plot :=
  { p with store := Mem.write p.store a bs, bad := p.bad.filter fun w => !(a ≤ w * 8 && w * 8 + 8 ≤ a + bs.length) }

/-- Bytes of plot store. -/
def Plot.bytes (p : Plot) (a n : Nat) : List Byte := Mem.read p.store a n

/-! ### Reads of the cold frame (R224) -/

/-- A page has been authenticated: it is in the page buffer, which holds the last 256. -/
def CfmS.enterPage (c : CfmS) (page : Nat) : CfmS :=
  { c with buf := (page :: c.buf.filter (· != page)).take 256, badPages := setDel page c.badPages }

/-- The cold-frame pages that n bytes from an address touch. -/
def State.coldPages (s : State) (a n : Nat) : List Nat :=
  if s.region a = .cold then
    (List.range (if n = 0 then 0 else (a + n - 1) / 4096 - a / 4096 + 1)).map ((a - coldBase) / 4096 + ·)
  else []

/-- A read of n bytes reads each cold-frame page that is not in the page buffer as a whole (R224). The expander returns what it
stores, so the page is authenticated (log 67); one that fails comes with CFM_PAGE_READ. -/
def State.coldOpen (s : State) (a n : Nat) : State :=
  (s.coldPages a n).foldl (fun t page =>
    if t.cfm.buf.contains page || t.poisonLine ((coldBase + page * 4096) / 64) then t
    else { t with cfm := t.cfm.enterPage page }) s

/-! ### Macro-op accesses -/

/-- What the memory protection reports on lines that an access reads (R216, R568): addresses and events. -/
def State.accessEvents (s : State) (p : Nat) (evs : List (Nat × MemEvent)) : State :=
  evs.foldl (fun t e =>
    match t.region e.1 with
    | .hbm => t.hbmEvent e.1 e.2
    | .self => t.storeEvent p (e.1 - selfBase) e.2
    | _ => t) s

/-- The bytes a macro-op of a plot reads at a device address (R172, R209). -/
def State.devBytes (s : State) (p a n : Nat) : List Byte :=
  if s.region a = .self then (s.plot p).bytes (a - selfBase) n else Mem.read s.mem a n

/-- The execution fault of a macro-op's read (R210, R569). -/
def State.readFault (s : State) (p a n : Nat) : Option Nat :=
  if n = 0 then none
  else match s.region a, s.region (a + n - 1) with
    | .hbm, .hbm => none
    | .cold, .cold => none
    | .self, .self => if (s.plot p).badIn (a - selfBase) n then some Code.sramUe else none
    | _, _ => some Code.addrUnmapped

/-- The execution fault of a macro-op's write (R210, R225). -/
def State.writeFault (s : State) (a n : Nat) : Option Nat :=
  if n = 0 then none
  else match s.region a, s.region (a + n - 1) with
    | .hbm, .hbm => none
    | .self, .self => none
    | .cold, _ => some Code.cfmWriteDenied
    | _, _ => some Code.addrUnmapped

/-- A macro-op's source read returns POISON (R208). -/
def State.readPoison (s : State) (a n : Nat) : Bool := s.region a != .self && s.poisoned a n

/-- A macro-op's write. -/
def State.devWrite (s : State) (p a : Nat) (bs : List Byte) : State :=
  if s.region a = .self then s.setPlot p ((s.plot p).write (a - selfBase) bs) else s.homeWrite a bs

/-- Words of plot store become uncorrectable (R207). -/
def Plot.spoil (p : Plot) (a n : Nat) : Plot :=
  let ws := (List.range (if n = 0 then 0 else (a + n - 1) / 8 - a / 8 + 1)).map (a / 8 + ·)
  { p with bad := ws.foldl (fun l w => setIns w l) p.bad }

/-- Marks n bytes POISON: lines of memory, or words of the plot's own store (R207, R208). -/
def State.poisonSpan (s : State) (p a n : Nat) : State :=
  if s.region a = .self then s.setPlot p ((s.plot p).spoil (a - selfBase) n)
  else (linesOf a n).foldl State.markPoison s

/-! ### The store buffer -/

/-- Performs the oldest buffered store at its home (R236); messages and macro-ops that wait on stores count down. A store to a
lost stack changes bytes that read POISON all the same. -/
def State.performStore (s : State) (p : Nat) : State :=
  match (s.plot p).sb with
  | [] => s
  | w :: rest =>
    let q := s.plot p
    let q := { q with
      sb := rest
      fence := q.fence - 1
      outq := q.outq.map fun m => { m with stores := m.stores - 1 }
      queue := q.queue.map fun o => { o with stores := o.stores - 1 } }
    (s.homeWrite w.addr w.bytes).setPlot p q

/-- Some of the n oldest buffered stores wait for a granule. -/
def State.storesWait (s : State) (p n : Nat) : Bool := ((s.plot p).sb.take n).any fun w => s.homeWaits w.addr

/-- Performs the n oldest stores. -/
def State.drain (s : State) (p : Nat) : Nat → State
  | 0 => s
  | n + 1 => State.drain (s.performStore p) p n

/-- Performs every buffered store. -/
def State.drainAll (s : State) (p : Nat) : State := s.drain p (s.plot p).sb.length

/-- The byte a load sees: the youngest buffered store that covers it, else memory (R236). -/
def State.seen (s : State) (p a : Nat) : Byte :=
  match (s.plot p).sb.reverse.find? (fun w => w.addr ≤ a && a < w.addr + w.bytes.length) with
  | some w => w.bytes.getD (a - w.addr) 0
  | none => Mem.rd s.mem a

end Sys2Proof.Machine
end

