-- ==== Sys2Proof/Machine/Admin.lean ====
section
/-! DEFINITION. Administrative commands: acceptance, execution and completion (R433, R443, R455 to R457, R463), free space,
and the steward page mover's writes (R225). -/
namespace Sys2Proof.Machine
open Sys2Proof

/-- A free choice among candidates, the first where there is only one (log 1). -/
def State.pickD (s : State) (l : List Nat) : Nat := l.getD (Config.choose s.freeCtr % l.length) (l.headD 0)

/-- The command comes from the PF or the service port (R433, R463). -/
def pfRights (src : Nat) : Bool := src == 0 || src == 64

/-- Commands a VF may not issue (R433). -/
def privileged (op : Nat) : Bool := op == 0x30 || op == 0x31 || op == 0x40 || op == 0x41

/-- The accepted command of a source with an opcode and a CID, not yet started. -/
def State.findCmd (s : State) (src : Nat) (cid : Word32) (op : Nat) : Option AdminCmd :=
  s.accepted.find? fun a => a.src == src && Ad.cid a.img == cid && Ad.opcode a.img == op && !a.started

/-- Marks the first accepted command of a source and CID that has not started. -/
def markStarted (src : Nat) (cid : Word32) (op : Nat) : List AdminCmd → List AdminCmd
  | [] => []
  | a :: t =>
    if a.src = src ∧ Ad.cid a.img = cid ∧ Ad.opcode a.img = op ∧ a.started = false then { a with started := true } :: t
    else a :: markStarted src cid op t

/-- Removes the first started command of a source and CID. -/
def dropStarted (src : Nat) (cid : Word32) : List AdminCmd → List AdminCmd
  | [] => []
  | a :: t => if a.src = src ∧ Ad.cid a.img = cid ∧ a.started = true then t else a :: dropStarted src cid t

/-- The 16 bytes of an administrative completion, PHASE 0 (R456). -/
def cplWord (cid : Word32) (status head : Nat) (more : Bool) (result : Nat) : BitVec 128 :=
  BitVec.ofNat 128 (cid.toNat + status % 65536 * 2 ^ 32 + head % 256 * 2 ^ 48 + b2n more * 2 ^ 57
    + result % 2 ^ 64 * 2 ^ 64)

/-- The queue pair takes events and descriptors: it is ENABLED and no write of ENABLE = 0 waits for its buffer (R438, R442). -/
def Qp.live (q : Qp) : Bool := q.st == .enabled && !q.draining

/-- An event enters a queue pair's event buffer; none is taken once it has left ENABLED (R442, R451). -/
def State.putEvent (s : State) (k : Nat) (e : Ev) : State :=
  if (s.qp k).live then s.setQp k { s.qp k with evbuf := (s.qp k).evbuf ++ [e] } else s

/-- The completion of the service mailbox (R463); its SQ head and PHASE are 0 (log 24). -/
def State.svcComplete (s : State) (w : BitVec 128) (more : Bool) : State :=
  let t := (List.range 4).foldl (fun (u : State) i => u.wr R.svcCpl (bits w (32 * i) 32) 0 i) s
  let u := t.wr R.svcDone 1
  if more then u else u.wr R.svcBusy 0

/-- Commands of a source accepted and not yet completed (R443). -/
def State.outstanding (s : State) (src : Nat) : Nat := s.accepted.countP fun a => a.src == src

/-- A completion is delivered to its source (R456, R463). -/
def State.deliver (s : State) (src : Nat) (cid : Word32) (status result : Nat) (more : Bool) : State :=
  if src = 64 then s.svcComplete (cplWord cid status 0 more result) more
  else s.putEvent (src * 16) { admin := true, w := cplWord cid status (s.qp (src * 16)).sqHead more result }

/-- The command at the head of a function's administrative queue is accepted: the head advances; a reserved opcode or a nonzero
reserved field completes it at once with BAD_COMMAND (R443, R455), after NOT_PERMITTED (R461). -/
def State.acceptHead (s : State) (src : Nat) : State :=
  let k := src * 16
  let q := s.qp k
  let img := Tab.get 0 q.ring q.sqHead
  let t := s.setQp k { q with sqHead := if s.rd R.sqSize k ≤ q.sqHead + 1 then 0 else q.sqHead + 1 }
  if !(privileged (Ad.opcode img) && !pfRights src) && !Ad.wellFormed img then
    t.deliver src (Ad.cid img) Code.badCommand 0 false
  else { t with accepted := t.accepted ++ [{ src := src, img := img }] }

/-- Waiting commands of a function are accepted while at most 64 are outstanding (R443). -/
def State.pumpAdmin (s : State) (src : Nat) : Nat → State
  | 0 => s
  | n + 1 =>
    let q := s.qp (src * 16)
    if src < 64 ∧ q.live = true ∧ q.sqHead ≠ q.sqTail ∧ s.outstanding src < 64 then (s.acceptHead src).pumpAdmin src n else s

/-- A command completes; the entry of an accepted command stays only while a second completion follows, and the next waiting
command is accepted in its place (R443, R456). -/
def State.complete (s : State) (src : Nat) (cid : Word32) (status : Nat) (result : Nat := 0) (more : Bool := false) : State :=
  if s.accepted.any (fun a => a.src == src && Ad.cid a.img == cid && a.started) then
    let t : State := if more then s else { s with accepted := dropStarted src cid s.accepted }
    (t.deliver src cid status result more).pumpAdmin src 256
  else s

/-- Executes an accepted command of an opcode, once (R457). -/
def State.runCmd (s : State) (src : Nat) (cid : Word32) (op : Nat) (act : BitVec 1024 → State → State) : State :=
  match s.findCmd src cid op with
  | none => s
  | some a =>
    let t : State := { s with accepted := markStarted src cid op s.accepted }
    if privileged op && !pfRights src then t.complete src cid Code.notPermitted
    else act a.img t

/-- A tenant that the image assigns to a function (R432). -/
def State.tenantOk (s : State) (fn tenant : Nat) : Bool :=
  tenant != 0 && (List.range 16).any fun k => s.rd R.fnTenants fn k == tenant

/-! ### The page mover -/

/-- A page as the expander stores it: AES-256-GCM under the cold-frame key, with the page index and its write counter as the
nonce (R223). Before there is a key nothing is stored. -/
def State.sealPage (s : State) (page : Nat) (bs : List Byte) : State :=
  match s.gate.cfKey with
  | none => s
  | some key =>
    let n : Word64 := Tab.get 0 s.cfm.ctr page
    let iv : BitVec 96 := BitVec.ofNat 96 (page + n.toNat * 2 ^ 32)
    let ct := Config.gcmSeal key iv bs
    let e := bvBytes 16 (Config.gcmTag key iv [] ct) ++ bvBytes 8 n ++ List.replicate 8 0
    { s with cfm := { s.cfm with cipher := Tab.put [] s.cfm.cipher page ct, entry := Tab.put [] s.cfm.entry page e } }

/-- The steward page mover writes whole pages: the write counter rises, the page is encrypted and leaves the buffer, and a failed
page is whole again (R223 to R225). A write to a lost port is discarded (R245). -/
def State.movePage (s : State) (page : Nat) (bs : List Byte) : State :=
  if (s.cfm.port (s.coldPort (page * 4096))).lost then s
  else
    let t := s.homeWrite (coldBase + page * 4096) (sub bs 0 4096)
    State.sealPage
      { t with cfm := { t.cfm with
        ctr := Tab.put 0 t.cfm.ctr page (Tab.get 0 t.cfm.ctr page + 1)
        buf := t.cfm.buf.filter (· != page)
        badPages := t.cfm.badPages.filter (· != page) } }
      page (sub bs 0 4096)

/-- Writes bytes to the cold frame from a page boundary. -/
def State.moveOut (s : State) (addr : Nat) (bs : List Byte) : State :=
  (List.range (cdiv bs.length 4096)).foldl
    (fun (t : State) i => t.movePage ((addr - coldBase) / 4096 + i) (bs.drop (4096 * i))) s

/-- Two byte ranges meet. -/
def meets (a n b m : Nat) : Bool := n != 0 && m != 0 && a < b + m && b < a + n

/-- A cold-frame range holds no weights, no adapter blob and no spilled page. -/
def State.coldUnused (s : State) (a n : Nat) : Bool :=
  a + n ≤ coldBase + s.capacity &&
  !((List.range 8).any fun p => meets a n (s.rd R.cfBase p) (s.rd R.cfSize p)) &&
  !(s.recs.any fun e => match e.2.coldAt with | none => false | some b => meets a n b (roundUp e.2.size 4096)) &&
  !(s.reqs.any fun e => e.2.spill.any fun g => meets a n g.coldAt g.size)

/-- Page-aligned cold-frame addresses at which n bytes are unused. -/
def State.coldFits (s : State) (n : Nat) : List Nat :=
  ((List.range (s.capacity / 4096)).map fun k => coldBase + k * 4096).filter fun a => s.coldUnused a (roundUp n 4096)

/-! ### Memory tiers -/

/-- HBM_HOME: a steward writes the home entry its HOME_IDX names; the change of the granule starts (R217, R219, R623). -/
def execHbmHome (r : Nat) (v : Word32) (s : State) : Res :=
  ok (s.own r 5 0x1008 .steward fun _ t =>
    let g := Tab.get 0 t.acc.homeIdx r
    if g < 147456 then
      { t with homeBusy := t.homeBusy ++ [(g, BitVec.ofNat 8 (bits v 0 5 + bits v 7 1 * 128))] }
    else t)

/-- The first change that waits on a granule. -/
def State.homeChange (s : State) (g : Nat) : Option Byte := (s.homeBusy.find? fun e => e.1 == g).map (·.2)

/-- Removes the first entry of a granule. -/
def dropFirstOf (g : Nat) : List (Nat × Byte) → List (Nat × Byte)
  | [] => []
  | e :: t => if e.1 = g then t else e :: dropFirstOf g t

/-- HOME_CHANGE_COMPLETE: the old slice holds no line of the granule, and the entry takes effect (R219). -/
def execHomeChangeComplete (granule : Nat) (s : State) : Res :=
  match s.homeChange granule with
  | none => ok s
  | some b => ok { s with
      homes := Tab.put 0x80 s.homes granule b
      homeBusy := dropFirstOf granule s.homeBusy }

/-- CFM_LINK_DOWN: the port's range reads POISON from now on (R245). -/
def execCfmLinkDown (port : Nat) (s : State) : Res :=
  onlyIf ((port == 0 || port == 1) && (s.cfm.port port).linked && !(s.cfm.port port).lost && s.serving) s
    (State.raise
      { s with cfm := if port = 0 then { s.cfm with port0 := { s.cfm.port0 with lost := true } }
                      else { s.cfm with port1 := { s.cfm.port1 with lost := true } } }
      { cls := .pavilion, event := Code.cfmLinkDown, unit := 5, inst := port })

/-- COLD_FRAME_HOT_ENUMERATION: a port that linked before the device first enters OPEN is mapped after what is mapped
(R642). -/
def execColdFrameHotEnumeration (port raw : Nat) (s : State) : Res :=
  let p : CfmPort := { linked := true, raw := raw, lost := false }
  let c := if port = 0 then { s.cfm with port0 := p } else { s.cfm with port1 := p }
  let t : State := { s with cfm := { c with order := s.cfm.order ++ [port] } }
  onlyIf ((port == 0 || port == 1) && !(s.cfm.port port).linked && s.serving && !s.dev.everOpen) s
    ((t.wr R.cfmCapacity (usable (t.cfm.port0.raw + t.cfm.port1.raw))).wr (if port = 0 then R.cfmLink0 else R.cfmLink1) 1)

/-- HBM_LANE_WINDOW_START: every lane's count restarts (R572). -/
def execHbmLaneWindowStart (s : State) : Res := ok { s with hbmLane := [] }

end Sys2Proof.Machine
end

