-- ==== Sys2Proof/Machine/Arith.lean ====
section
/-! DEFINITION. Arithmetic without multipliers: log terms, formats, TERM(k), the accumulator, rounding, generators and HEDGE
streams (R132 to R169, R643). Every value is exact: an integer times a power of two. -/
namespace Sys2Proof.Machine
open Sys2Proof

/-! ### Exact values -/

/-- The value m × 2^e. -/
structure Dy where
  m : Int := 0
  e : Int := 0
  deriving DecidableEq, Repr

/-- The numerator of a value over 2^e, exact where e is at most the value's exponent. -/
def Dy.over (v : Dy) (e : Int) : Int := v.m * 2 ^ (v.e - e).toNat

def Dy.isZero (v : Dy) : Bool := v.m == 0
def Dy.neg (v : Dy) : Dy := { v with m := -v.m }
def Dy.isNeg (v : Dy) : Bool := decide (v.m < 0)
def Dy.abs (v : Dy) : Dy := { v with m := v.m.natAbs }
def Dy.add (a b : Dy) : Dy := { m := a.over (min a.e b.e) + b.over (min a.e b.e), e := min a.e b.e }
def Dy.sub (a b : Dy) : Dy := a.add b.neg
def Dy.lt (a b : Dy) : Bool := decide (a.over (min a.e b.e) < b.over (min a.e b.e))
def Dy.le (a b : Dy) : Bool := decide (a.over (min a.e b.e) ≤ b.over (min a.e b.e))
def Dy.dbl (a : Dy) : Dy := { a with e := a.e + 1 }

/-- ⌊log2 |v|⌋ of a value that is not zero. -/
def Dy.log2 (v : Dy) : Int := Int.ofNat (Nat.log2 v.m.natAbs) + v.e

/-- ⌊|v| ÷ 2^s⌋. -/
def Dy.floorAt (v : Dy) (s : Int) : Nat :=
  if s ≤ v.e then v.m.natAbs * 2 ^ (v.e - s).toNat else v.m.natAbs / 2 ^ (s - v.e).toNat

/-- 2^e. -/
def Dy.pow2 (e : Int) : Dy := { m := 1, e := e }

/-- |v| ÷ 2^s rounded to the nearest integer, ties to even. -/
def Dy.rneAt (v : Dy) (s : Int) : Nat :=
  let n := v.floorAt s
  let r : Dy := Dy.sub v.abs { m := n, e := s }
  let h := Dy.pow2 (s - 1)
  if h.lt r || (!(r.lt h) && n % 2 == 1) then n + 1 else n

/-! ### Log terms -/

/-- T[f] (R133). -/
def antilog : Nat → Nat
  | 0 => 524288 | 1 => 547500 | 2 => 571740 | 3 => 597053 | 4 => 623487 | 5 => 651091 | 6 => 679917 | 7 => 710020
  | 8 => 741455 | 9 => 774282 | 10 => 808563 | 11 => 844361 | 12 => 881744 | 13 => 920782 | 14 => 961548 | _ => 1004120

/-- λ & 15. -/
def lamLow (l : Int) : Nat := (l % 16).toNat

/-- t(λ) (R132). -/
def tval (l : Int) : Dy := { m := antilog (lamLow l), e := l / 16 - 19 }

/-- A log term (R132). -/
structure Term where
  zero : Bool := true
  neg : Bool := false
  lam : Int := 0
  deriving DecidableEq, Repr

/-- The linear value of a term. -/
def Term.val (t : Term) : Dy := if t.zero then {} else if t.neg then (tval t.lam).neg else tval t.lam

/-- A conversion's log value is clamped to 13 bits (R133). -/
def clampLam (l : Int) : Int := max (-4096) (min l 4095)

/-- The largest f below n with t(16 o + f) at most v; 0 if there is none. -/
def lamFind (v : Dy) (o : Int) : Nat → Nat
  | 0 => 0
  | n + 1 => if (tval (16 * o + n)).le v then n else lamFind v o n

/-- The λ with t(λ) ≤ |v| < t(λ + 1) (R135). -/
def lamFloor (v : Dy) : Int := 16 * v.log2 + lamFind v.abs v.log2 16

/-- The nearest term of a value (R135, R133). -/
def nearestTerm (v : Dy) : Term :=
  if v.isZero then {}
  else
    let l := lamFloor v
    let up := ((tval l).add (tval (l + 1))).lt v.abs.dbl
    { zero := false, neg := v.isNeg, lam := clampLam (if up then l + 1 else l) }

/-- `term_split` (R143). -/
def termSplit (v : Dy) : Nat → List Term
  | 0 => []
  | k + 1 => nearestTerm v :: termSplit (v.sub (nearestTerm v).val) k

/-- A product of two terms (R134). -/
def Term.mul (a b : Term) : Term :=
  if a.zero || b.zero then {} else { zero := false, neg := a.neg != b.neg, lam := a.lam + b.lam }

/-- A quotient of two terms; the divisor is not zero (R134). -/
def Term.div (a b : Term) : Term :=
  if a.zero then {} else { zero := false, neg := a.neg != b.neg, lam := a.lam - b.lam }

/-! ### The accumulator -/

/-- An accumulator (R146). -/
structure AccV where
  S : Int := 0
  X : Int := -128
  sat : Bool := false
  deriving DecidableEq, Repr

/-- A part (R146). -/
structure Part where
  mant : Nat
  q : Int
  top : Int
  neg : Bool
  deriving DecidableEq, Repr

/-- A zero part. -/
def Part.zero : Part := ⟨0, 0, 0, false⟩

/-- The part of a LOG or TERM product (R146). -/
def Term.part (t : Term) : Part :=
  if t.zero then Part.zero else ⟨antilog (lamLow t.lam), t.lam / 16 - 19, t.lam / 16, t.neg⟩

def max39 : Int := 549755813887

/-- The largest top and the first part that has it (R146). -/
def topOf (X : Int) (ps : List Part) : Int × Option Part :=
  ps.foldl (fun a p => if p.mant ≠ 0 ∧ a.1 < p.top then (p.top, some p) else a) (X, none)

/-- A part shifted to the accumulator's exponent, toward zero (R146). -/
def Part.at (p : Part) (X : Int) : Int :=
  let sh := p.q - X + 24
  let m : Nat := if 0 ≤ sh then p.mant * 2 ^ sh.toNat else if -32 < sh then p.mant / 2 ^ (-sh).toNat else 0
  if p.neg then -(m : Int) else m

/-- The renormalising loop of `acc_group`. -/
def accNorm : Nat → Int → Int → AccV
  | 0, t, X => { S := t, X := X }
  | n + 1, t, X =>
    if max39 < t ∨ t < -max39 - 1 then
      if X = 127 then { S := if t < 0 then -max39 else max39, X := X, sat := true }
      else accNorm n (t / 2) (X + 1)
    else { S := t, X := X }

/-- `acc_group` (R146). -/
def accGroup (a : AccV) (ps : List Part) : AccV :=
  if a.sat then a
  else
    let (top, big) := topOf a.X ps
    if 127 < top then { a with sat := true, S := if (big.map (·.neg)).getD false then -max39 else max39 }
    else
      let S0 := a.S / 2 ^ (top - a.X).toNat
      accNorm 300 (ps.foldl (fun t p => if p.mant = 0 then t else t + p.at top) S0) top

/-- The value S × 2^(X − 24). -/
def AccV.val (a : AccV) : Dy := { m := a.S, e := a.X - 24 }

/-- A list cut in runs of n. -/
def chunks {α : Type} (n : Nat) : Nat → List α → List (List α)
  | 0, _ => []
  | _, [] => []
  | f + 1, l => l.take n :: chunks n f (l.drop n)

/-- Adds a list of parts in groups of 4, in order (R147). -/
def accAll (a : AccV) (ps : List Part) : AccV := (chunks 4 ps.length ps).foldl accGroup a

/-- The 8-byte accumulator image (R178). -/
def AccV.image (a : AccV) : Nat :=
  (a.S % 2 ^ 40).toNat + (a.X % 256).toNat * 2 ^ 40 + (if a.sat then 2 ^ 48 else 0)

/-- A two's complement value of w bits. -/
def sext (w n : Nat) : Int := if n % 2 ^ w < 2 ^ (w - 1) then n % 2 ^ w else Int.ofNat (n % 2 ^ w) - 2 ^ w

/-- The accumulator an image holds (R178). -/
def AccV.ofImage (n : Nat) : AccV := { S := sext 40 n, X := sext 8 (n / 2 ^ 40), sat := n.testBit 48 }

/-! ### Formats on entry -/

/-- A value as an element holds it: a log term of LNS8 or LNS6, or a linear value (R140). -/
inductive Val where
  | lns (t : Term)
  | lin (v : Dy)
  deriving DecidableEq, Repr

def Val.dy : Val → Dy | .lns t => t.val | .lin v => v
/-- The single term an element enters as (R140). -/
def Val.term : Val → Term | .lns t => t | .lin v => nearestTerm v
/-- The k terms of a weight element (R143, R144). -/
def Val.terms (k : Nat) : Val → List Term
  | .lns t => t :: List.replicate (k - 1) {}
  | .lin v => termSplit v k

/-- A floating-point format: exponent bits, fraction bits, bias, the largest finite value. -/
structure Flt where
  eb : Nat
  fb : Nat
  bias : Int
  top : Dy

def fltE4M3 : Flt := ⟨4, 3, 7, { m := 448 }⟩
def fltE5M2 : Flt := ⟨5, 2, 15, { m := 57344 }⟩
def fltHalf : Flt := ⟨5, 10, 15, { m := 65504 }⟩
def fltBf16 : Flt := ⟨8, 7, 127, { m := 255, e := 120 }⟩
def fltSingle : Flt := ⟨8, 23, 127, { m := 16777215, e := 104 }⟩
/-- FP4 E2M1 without its scale. -/
def fltFp4 : Flt := ⟨2, 1, 1, { m := 6 }⟩

/-- The floating-point format of a format code (R140). -/
def fltOf : Nat → Option Flt
  | 5 => some fltE4M3 | 6 => some fltE5M2 | 9 => some fltHalf | 0xA => some fltBf16 | 0xB => some fltSingle | _ => none

/-- The value of an encoding as a number, and whether it is a NaN or an infinity (R140, R141). -/
def Flt.dec (f : Flt) (fmt n : Nat) : Dy × Bool :=
  let neg := n.testBit (f.eb + f.fb)
  let ex := n / 2 ^ f.fb % 2 ^ f.eb
  let fr := n % 2 ^ f.fb
  let sg (v : Dy) : Dy := if neg then v.neg else v
  if fmt = 5 ∧ ex = 15 ∧ fr = 7 then ({}, true)
  else if fmt ≠ 5 ∧ fmt ≠ 7 ∧ ex = 2 ^ f.eb - 1 then (if fr = 0 then (sg f.top, true) else ({}, true))
  else if ex = 0 then (sg { m := fr, e := 1 - f.bias - f.fb }, false)
  else (sg { m := 2 ^ f.fb + fr, e := Int.ofNat ex - f.bias - f.fb }, false)

/-- Formats with one block scale per 32 elements (R140). -/
def scaled (fmt : Nat) : Bool := fmt == 0 || fmt == 1 || fmt == 2 || fmt == 7 || fmt == 8

/-- A stored element: its raw bits, its block-scale byte, the tensor's SCALE_EXP; its value, and whether it is a NaN or
an infinity (R136, R137, R140, R141). UNARY4 is decoded as its exact value. -/
def decElem (fmt raw scale : Nat) (sexp : Int) : Val × Bool :=
  let E := sext 8 scale
  match fmt with
  | 0 =>
    if raw % 128 = 0 then (.lns {}, false)
    else (.lns { zero := false, neg := raw.testBit 7, lam := 16 * E + Int.ofNat (raw % 128) - 127 }, false)
  | 1 =>
    if raw % 32 = 0 then (.lns {}, false)
    else (.lns { zero := false, neg := raw.testBit 5, lam := 16 * E + 2 * Int.ofNat (raw % 32) - 62 }, false)
  | 2 =>
    let v : Dy := { m := raw % 16, e := E - 4 }
    (.lin (if raw.testBit 4 then v.neg else v), false)
  | 3 => (.lin { m := sext 4 raw, e := sexp }, false)
  | 4 => (.lin { m := sext 8 raw, e := sexp }, false)
  | 7 =>
    if scale % 256 = 255 then (.lin {}, false)
    else (.lin { ((fltFp4.dec 7 raw).1) with e := (fltFp4.dec 7 raw).1.e + Int.ofNat (scale % 256) - 127 }, false)
  | 8 =>
    if scale % 256 = 255 then (.lin {}, false)
    else (.lin { m := sext 8 raw, e := Int.ofNat (scale % 256) - 133 }, false)
  | _ =>
    match fltOf fmt with
    | some f => (.lin (f.dec fmt raw).1, (f.dec fmt raw).2)
    | none => (.lin {}, false)

/-! ### Rounding out of the accumulator -/

/-- Rounding of an element: the mode RND and, for stochastic rounding, its random byte (R149, R156). -/
structure Rnd where
  mode : Nat := 0
  rho : Nat := 0
  deriving DecidableEq, Repr

/-- Whether the upper of two neighbouring magnitudes is chosen; `tieUp` decides a tie to nearest (R149, R157). -/
def Rnd.up (r : Rnd) (v lo hi : Dy) (tieUp : Bool) : Bool :=
  match r.mode with
  | 0 => (lo.add hi).lt v.dbl || (!(v.dbl.lt (lo.add hi)) && !v.dbl.isZero && lo.lt v && tieUp)
  | 1 =>
    let num := v.sub lo
    let den := hi.sub lo
    let e := min num.e den.e
    let a := 256 * (num.over e).toNat
    let d := (den.over e).toNat
    let n := a / d
    let rest := 2 * (a % d)
    let phi := if d < rest || (d == rest && n % 2 == 1) then n + 1 else n
    decide (r.rho < phi)
  | _ => false

/-- The magnitude of a value on the grid of step 2^s, in steps. -/
def Rnd.toGrid (r : Rnd) (v : Dy) (s : Int) : Nat :=
  let n := v.floorAt s
  if r.up v.abs { m := n, e := s } { m := n + 1, e := s } (n % 2 == 1) then n + 1 else n

/-- The step of a floating-point format at a magnitude. -/
def Flt.step (f : Flt) (v : Dy) : Int :=
  if v.isZero then 1 - f.bias - (f.fb : Int) else max (v.log2 - (f.fb : Int)) (1 - f.bias - (f.fb : Int))

/-- A rounded element: its magnitude, whether it saturated, its sign. -/
structure Out1 where
  mag : Dy
  sat : Bool
  neg : Bool
  deriving DecidableEq, Repr

/-- Rounds a magnitude to a grid and saturates it at a largest magnitude (R149, R151). -/
def roundLin (r : Rnd) (v : Dy) (step : Int) (top : Dy) : Out1 :=
  let m : Dy := { m := r.toGrid v step, e := step }
  if top.lt m then ⟨top, true, v.isNeg⟩ else ⟨m, false, v.isNeg⟩

/-- The encoding of a magnitude of a floating-point format. -/
def Flt.enc (f : Flt) (o : Out1) : Nat :=
  let sg := if o.neg then 2 ^ (f.eb + f.fb) else 0
  if o.mag.isZero then sg
  else
    let st := f.step o.mag
    let n := o.mag.floorAt st
    if n < 2 ^ f.fb then sg + n
    else sg + (st + f.fb + f.bias).toNat * 2 ^ f.fb + (n - 2 ^ f.fb)

/-- The element limit of a two's complement format for a sign (R151). -/
def intTop (w : Nat) (neg : Bool) : Nat := if neg then 2 ^ (w - 1) else 2 ^ (w - 1) - 1

/-- The two's complement encoding of a magnitude in steps. -/
def intEnc (w : Nat) (neg : Bool) (n : Nat) : Nat := (if neg then 2 ^ w - n else n) % 2 ^ w

/-- The grid of λ of an LNS format: every λ for LNS8, even λ for LNS6 (R149). -/
def lnsStep (fmt : Nat) : Int := if fmt = 1 then 2 else 1

/-- A value rounded to a term of an LNS format (R149). -/
def lnsRound (fmt : Nat) (r : Rnd) (v : Dy) : Term :=
  if v.isZero then {}
  else
    let st := lnsStep fmt
    let l := lamFloor v / st * st
    let hi := l + st
    { zero := false, neg := v.isNeg, lam := clampLam (if r.up v.abs (tval l) (tval hi) false then hi else l) }

/-- The largest code of an LNS format (R138). -/
def lnsMax (fmt : Nat) : Int := if fmt = 1 then 31 else 127

/-- The exponent R138 calls for. -/
def lnsWant (ts : List Term) : Option Int :=
  ts.foldl (fun a t => if t.zero then a else some (match a with | none => -((-t.lam) / 16) | some e => max e (-((-t.lam) / 16)))) none

/-- An element's code in a block of exponent E before limits (R136, R137). -/
def lnsCode (fmt : Nat) (E : Int) (t : Term) : Int :=
  if fmt = 1 then (t.lam - 16 * E + 62) / 2 else t.lam - 16 * E + 127

/-- The byte or 6-bit code of an element, and whether it was set to the largest code (R138, R139). -/
def lnsEnc (fmt : Nat) (E : Int) (t : Term) : Nat × Bool :=
  let c := lnsCode fmt E t
  let sg := if t.neg then (if fmt = 1 then 32 else 128) else 0
  if t.zero || decide (c < 1) then (0, false)
  else if lnsMax fmt < c then (sg + (lnsMax fmt).toNat, true)
  else (sg + c.toNat, false)

/-- A block as it is stored: codes, the scale byte, and which elements saturated. -/
structure Blk where
  codes : List Nat
  scale : Nat
  sat : List Bool
  deriving DecidableEq, Repr

/-- How many of n elements from an offset saturated. -/
def Blk.satsIn (b : Blk) (off n : Nat) : Nat := ((b.sat.drop off).take n).countP id

/-- A block normalised by R138 and R139. -/
def lnsBlock (fmt : Nat) (ts : List Term) : Blk :=
  let E := match lnsWant ts with | none => 0 | some e => max (-128) (min e 127)
  let cs := ts.map (lnsEnc fmt E)
  { codes := cs.map (·.1), scale := (E % 256).toNat, sat := cs.map (·.2) }

/-- The largest finite magnitude of an output format for a sign (R151, R153). -/
def fmtTop (fmt : Nat) (sexp : Int) (neg : Bool) : Dy :=
  match fmt with
  | 0 => Dy.pow2 127
  | 1 => Dy.pow2 127
  | 3 => { m := intTop 4 neg, e := sexp }
  | 4 => { m := intTop 8 neg, e := sexp }
  | 7 => { m := 6, e := 127 }
  | 8 => { m := intTop 8 neg, e := 121 }
  | _ => ((fltOf fmt).map (·.top)).getD {}

/-- The value an accumulator converts from: the format's largest if it has saturated (R149, R153). -/
def AccV.outVal (a : AccV) (fmt : Nat) (sexp : Int) : Dy :=
  if a.sat then (if a.S < 0 then (fmtTop fmt sexp true).neg else fmtTop fmt sexp false) else a.val

/-- X of an MX block (R152). -/
def mxScale (fmt : Nat) (vs : List Dy) : Nat :=
  let amax := vs.foldl (fun a v => if a.lt v.abs then v.abs else a) {}
  if amax.isZero then 0
  else (max 0 (min (amax.log2 + (if fmt = 7 then 125 else 127)) 254)).toNat

/-- Rounds one block of values into a format, with the rounding of each element (R149 to R152). -/
def encBlock (fmt : Nat) (sexp : Int) (vs : List (Dy × Rnd)) : Blk :=
  match fmt with
  | 0 => lnsBlock 0 (vs.map fun v => lnsRound 0 v.2 v.1)
  | 1 => lnsBlock 1 (vs.map fun v => lnsRound 1 v.2 v.1)
  | 3 =>
    let os := vs.map fun v => roundLin v.2 v.1 sexp { m := intTop 4 v.1.isNeg, e := sexp }
    { codes := os.map fun o => intEnc 4 o.neg (o.mag.floorAt sexp), scale := 0, sat := os.map (·.sat) }
  | 4 =>
    let os := vs.map fun v => roundLin v.2 v.1 sexp { m := intTop 8 v.1.isNeg, e := sexp }
    { codes := os.map fun o => intEnc 8 o.neg (o.mag.floorAt sexp), scale := 0, sat := os.map (·.sat) }
  | 7 =>
    let X := mxScale 7 (vs.map (·.1))
    let sh : Int := Int.ofNat X - 127
    let os := vs.map fun v =>
      let u : Dy := { v.1 with e := v.1.e - sh }
      roundLin v.2 u (fltFp4.step u) fltFp4.top
    { codes := os.map fltFp4.enc, scale := X, sat := os.map (·.sat) }
  | 8 =>
    let X := mxScale 8 (vs.map (·.1))
    let st : Int := Int.ofNat X - 133
    let os := vs.map fun v => roundLin v.2 v.1 st { m := intTop 8 v.1.isNeg, e := st }
    { codes := os.map fun o => intEnc 8 o.neg (o.mag.floorAt st), scale := X, sat := os.map (·.sat) }
  | _ =>
    match fltOf fmt with
    | none => { codes := [], scale := 0, sat := [] }
    | some f =>
      let os := vs.map fun v => roundLin v.2 v.1 (f.step v.1) f.top
      { codes := os.map f.enc, scale := 0, sat := os.map (·.sat) }

/-! ### Generators -/

/-- One round of `gen_word`. -/
def genRound (s : Word32 × Word32 × Word32 × Word32) (r : Nat) : Word32 × Word32 × Word32 × Word32 :=
  let (a, b, k0, k1) := s
  let a := (a.rotateLeft 24 + b) ^^^ k0
  let b := b.rotateLeft 3 ^^^ a
  let k0 := (k0.rotateLeft 24 + k1) ^^^ (0x7F4A7C15 + BitVec.ofNat 32 r)
  let k1 := k1.rotateLeft 3 ^^^ k0
  (a, b, k0, k1)

/-- `gen_word` (R154). -/
def genWord (key ctr : Word64) : Word32 :=
  let s := (List.range 12).foldl genRound
    (ctr.setWidth 32, (ctr >>> 32).setWidth 32, key.setWidth 32, (key >>> 32).setWidth 32)
  s.1 ^^^ s.2.1.rotateLeft 16

/-- `phase_word` (R154). -/
def phaseWord (key ctr : Word64) (p : Nat) : Word32 := (genWord key ctr).rotateLeft (2 * p)

/-! ### HEDGE -/

/-- `hedge_stream` (R160). -/
def hedgeStream (m : Nat) (w0 w1 : Word32) : BitVec 16 :=
  (List.range 16).foldl (fun s b =>
    let w := if b < 8 then w0 else w1
    if (w.toNat / 2 ^ (4 * (b % 8))) % 16 < m then s ||| BitVec.ofNat 16 (2 ^ b) else s) 0

/-- The number of ones of a stream. -/
def popcount (v : BitVec 16) : Nat := (List.range 16).foldl (fun n b => if v.getLsbD b then n + 1 else n) 0

/-- A UNARY4 block: its exponent and the signed magnitudes of its elements (R160, R643). -/
structure UBlk where
  E : Int
  els : List (Bool × Nat)
  /-- Elements counted in CONV_SAT (R643). -/
  sats : Nat
  deriving DecidableEq, Repr

/-- The smallest E with every |v| at most 2^E (R643). -/
def unaryWant (vs : List Dy) : Option Int :=
  vs.foldl (fun a v =>
    if v.isZero then a
    else
      let e := if (Dy.pow2 v.log2).lt v.abs then v.log2 + 1 else v.log2
      some (match a with | none => e | some x => max x e)) none

/-- A converted HEDGE block (R643); `own` is the exponent a stored LNS block keeps. -/
def unaryBlock (own : Option Int) (vs : List Dy) : UBlk :=
  let want := own.getD ((unaryWant vs).getD 0)
  let E := max (-128) (min want 127)
  let ms := vs.map fun v => (v.isNeg, v.rneAt (E - 4))
  { E := E
    els := ms.map fun p => (p.1, min p.2 15)
    sats := if own.isNone ∧ 127 < want then ms.countP (fun p => decide (16 < p.2)) else 0 }

/-- One HEDGE group of 16 as a part (R162). -/
def hedgePart (Ea Eb : Int) (prods : List Int) : Part :=
  let G := prods.foldl (· + ·) 0
  ⟨G.natAbs, Ea + Eb - 4, Ea + Eb + 4, decide (G < 0)⟩

/-- The signed estimate of an element pair (R162). -/
def hedgeEst (a b : Bool × Nat) (wa wb : Word32 × Word32) : Int :=
  let n : Int := popcount (hedgeStream a.2 wa.1 wa.2 &&& hedgeStream b.2 wb.1 wb.2)
  if a.1 != b.1 then -n else n

end Sys2Proof.Machine
end

