-- ==== Sys2Proof/Machine/Adapters.lean ====
section
/-! DEFINITION. The adapter directory, its records and their commands (R18 to R32, R43 to R63). -/
namespace Sys2Proof.Machine
open Sys2Proof

/-! ### Sizes (R31) -/

/-- Bytes of a matrix of rows by columns of a format, with its block-scale array (R31, R140, R173). -/
def matBytes (fmt rows cols : Nat) : Nat := rows * rowBytes fmt cols + (if scaled fmt then rows * cdiv cols 32 else 0)

/-- Appends a matrix at the next 64-byte boundary (R31). -/
def addMat (at' : Nat) (fmt rows cols : Nat) : Nat := roundUp at' 64 + matBytes fmt rows cols

/-- The projections a record carries, in ascending bit order (R29, R31). -/
def AdRec.projs (r : AdRec) : List Nat := (List.range 7).filter fun p => r.proj.getLsbD p

/-- Where A then B of each of some projections end, laid from a byte of the blob (R31). -/
def AdRec.lay (r : AdRec) (model at' : Nat) (ps : List Nat) : Nat :=
  ps.foldl (fun (b : Nat) p =>
    addMat (addMat b r.fmt (4 * r.rankQ) (Config.projDims model p).1) r.fmt (Config.projDims model p).2 (4 * r.rankQ)) at'

/-- Where the first n layers of a blob end (R31). -/
def AdRec.layers (r : AdRec) (model n : Nat) : Nat :=
  (List.range n).foldl (fun (b : Nat) _ => r.lay model b r.projs) 0

/-- The size of a blob with a record's fields, for a model (R31). -/
def blobSize (r : AdRec) (model : Nat) : Nat := r.layers model (r.layerLast + 1 - r.layerFirst)

/-- Where A of a projection begins, in a layer that begins after a byte of the blob (R31). -/
def AdRec.aOff (r : AdRec) (model from' p : Nat) : Nat := roundUp (r.lay model from' (r.projs.filter (· < p))) 64

/-- Where B of a projection begins: after its A (R31). -/
def AdRec.bOff (r : AdRec) (model from' p : Nat) : Nat :=
  roundUp (addMat (r.aOff model from' p) r.fmt (4 * r.rankQ) (Config.projDims model p).1) 64

/-- 64 KiB units of a blob (R58). -/
def unitsOf (size : Nat) : Nat := cdiv size 65536

/-! ### The record image (R29) -/

/-- SHA-384 of stored bytes, in the order the standard produces. -/
def digestOf (b : List Byte) (off : Nat) : BitVec 384 := BitVec.ofNat 384 (leNat (sub b off 48).reverse)

/-- The record of a 128-byte image, loaded for an entry with or without ANY_HASH: the NAME_HASH of one with it is 0 (R29).
What the device sets itself is ignored (R32, R457). -/
def AdRec.ofImage (b : List Byte) (anyHash : Bool) : AdRec :=
  { tenant := BitVec.ofNat 32 (fld b 0 4)
    hash := if anyHash then 0 else BitVec.ofNat 32 (fld b 4 4)
    version := BitVec.ofNat 32 (fld b 8 4)
    rankQ := fld b 12 1
    fmt := fld b 13 1 % 16
    mode := fld b 13 1 / 16
    proj := BitVec.ofNat 7 (fld b 14 1)
    kvClean := fld b 14 1 / 2 % 4 == 0
    scaleNeg := fld b 15 1 / 2 % 2 == 1
    scaleZero := fld b 15 1 / 4 % 2 == 1
    scaleLog := BitVec.ofNat 12 (fld b 16 2)
    layerFirst := fld b 18 1
    layerLast := fld b 19 1
    size := fld b 40 8
    digest := digestOf b 48 }

/-- A reserved field of the image is nonzero (R29, R56). -/
def imageReserved (b : List Byte) : Bool :=
  fld b 14 1 / 128 != 0 || fld b 15 1 / 8 != 0 || fld b 16 2 / 4096 != 0 || fld b 20 1 / 8 != 0 || fld b 21 1 / 4 != 0
    || !zeros b 22 2 || !zeros b 28 4 || !zeros b 96 32

/-- The lowest model of a mask: a blob's size is reckoned with its dimensions, also where the mask has other bits, and with
model 0's where it has none. R56 does not say which model's dimensions apply (DESIGN CHOICE, log 70). -/
def firstModel (m : BitVec 16) : Nat := ((List.range 16).find? fun k => m.getLsbD k).getD 0

/-- The first code that rejects an image (R29, R30, R56): FMT before the rest. The record image's TENANT, NAME_HASH and layer
range are not compared with the entry image's, which R56 does not ask (DESIGN CHOICE, log 70). -/
def imageFault (e : DirEnt) (eReserved : Bool) (b : List Byte) : Option Nat :=
  let r := AdRec.ofImage b e.anyHash
  if r.fmt = 2 ∨ 12 ≤ r.fmt then some Code.badFormat
  else if eReserved || imageReserved b || r.rankQ == 0 || decide (64 < r.rankQ) || decide (4 < r.mode)
      || (!e.anyHash && (e.hash == 0 || r.hash == 0)) || decide (e.layerLast < e.layerFirst)
      || decide (r.layerLast < r.layerFirst) || r.size != blobSize r (firstModel e.modelMask) then
    some Code.badAdapterRecord
  else none

/-! ### Slots and records -/

/-- The records of an entry, by index. -/
def State.recsOf (s : State) (slot : Nat) : List Nat := (s.recs.filter fun e => e.2.slot == slot).map (·.1)

/-- A directory slot that is not FREE, or holds records of a first version not yet flipped (log 25). -/
def State.slotUsed (s : State) (slot : Nat) : Bool := (s.ent slot).st != .free || !(s.recsOf slot).isEmpty

/-- The entry an ADAPTER_LOAD adds a version to (R458). -/
def State.sameKey (s : State) (e : DirEnt) : Option Nat :=
  (s.dir.find? fun x =>
    !x.2.dead && x.2.st != .retiring && s.slotUsed x.1 && x.2.tenant == e.tenant && x.2.hash == e.hash
      && x.2.anyHash == e.anyHash && x.2.modelMask == e.modelMask && x.2.layerFirst == e.layerFirst
      && x.2.layerLast == e.layerLast).map (·.1)

/-- The version is not greater than every CURRENT, STAGED or LOADING version of the entry (R52). -/
def State.stale (s : State) (slot : Nat) (v : Word32) : Bool :=
  s.recs.any fun e => e.2.slot == slot && (e.2.vst == .current || e.2.vst == .staged || e.2.vst == .loading)
    && v ≤ e.2.version

/-- Records resident in HBM (R58). -/
def State.hbmRecs (s : State) : Nat := s.recs.countP fun e => e.2.loc != .cold

/-- An HBM pool range of units is unused. -/
def State.poolUnused (s : State) (a units : Nat) : Bool :=
  !(s.recs.any fun e => e.2.loc != .cold && meets a (units * 65536) e.2.location (unitsOf e.2.size * 65536))

/-- Addresses in the HBM adapter pool at which a blob fits (R58). -/
def State.poolFits (s : State) (size : Nat) : List Nat :=
  if 16384 ≤ s.hbmRecs then []
  else ((List.range (s.rd R.dirPoolUnits + 1 - unitsOf size)).map fun k => s.rd R.dirPoolBase + k * 65536).filter
    fun a => s.poolUnused a (unitsOf size)

/-- Free record indexes (R58). -/
def State.freeRecs (s : State) : List Nat := (List.range 131072).filter fun i => !(s.recs.any fun e => e.1 == i)

/-- Free directory slots (R58). -/
def State.freeSlots (s : State) : List Nat := (List.range 131072).filter fun i => !s.slotUsed i

/-- Removes a record. -/
def State.dropRec (s : State) (i : Nat) : State := { s with recs := s.recs.filter fun e => e.1 != i }

/-- The entry is free with its last record (R53); a RETIRING delete then completes with DELETED (R55). -/
def State.settleEntry (s : State) (slot : Nat) : State :=
  if (s.recsOf slot).isEmpty then
    let e := s.ent slot
    let t : State := { s with dir := s.dir.filter fun x => x.1 != slot }
    match e.deleter with
    | none => t
    | some (src, cid) => t.complete src cid Code.deleted
  else s

/-- A record returns to FREE (R48), its ADAPTER_LOAD completing with a status if one waits. -/
def State.freeRec (s : State) (i status : Nat) : State :=
  let r := s.adrec i
  let t := (s.dropRec i).settleEntry r.slot
  match r.load with
  | none => t
  | some (src, cid) => t.complete src cid status

/-- A newer version of a record's entry is CURRENT (R48). -/
def State.outdated (s : State) (i : Nat) : Bool :=
  let r := s.adrec i
  let e := s.ent r.slot
  e.st == .live && (s.adrec e.cur).vst == .current && r.version < (s.adrec e.cur).version

/-- A record with no pins left is FREE where its state says so (R48). -/
def State.maybeFree (s : State) (i : Nat) : State :=
  let r := s.adrec i
  if r.pins ≠ 0 then s
  else match r.vst with
    | .superseded => s.freeRec i 0
    | .retiring => s.freeRec i 0
    | .failed => if (s.ent r.slot).dead || s.outdated i then s.freeRec i 0 else s
    | _ => s

/-- A request pins a record (R43). -/
def State.pinRec (s : State) (i : Nat) : State :=
  s.setAdrec i { s.adrec i with pins := (s.adrec i).pins + 1, lastUse := s.time }

/-- A request releases a record (R43, R48). -/
def State.unpinRec (s : State) (i : Nat) : State :=
  State.maybeFree (s.setAdrec i { s.adrec i with pins := (s.adrec i).pins - 1 }) i

/-! ### ADAPTER_LOAD -/

/-- Places a blob: LOC, LOCATION, the cold copy's address; none if it does not fit (R58). A record in both places is located
in HBM (log 25). -/
def State.placeBlob (s : State) (r : AdRec) (want : Loc) : Option (AdRec × State) :=
  let hs := s.poolFits r.size
  let cs := s.coldFits r.size
  match want with
  | .hbm => if hs.isEmpty then none else
      some ({ r with loc := .hbm, location := s.pickD hs, coldAt := none }, s.tickFree)
  | .cold => if cs.isEmpty then none else
      some ({ r with loc := .cold, location := s.pickD cs, coldAt := some (s.pickD cs) }, s.tickFree)
  | .both => if hs.isEmpty || cs.isEmpty then none else
      some ({ r with loc := .both, location := s.pickD hs, coldAt := some (s.tickFree.pickD cs) }, s.tickFree.tickFree)

/-- Writes a blob where its record places it; bad are the lines of its source that read POISON. -/
def State.writeBlob (s : State) (r : AdRec) (blob : List Byte) (bad : List Nat) : State :=
  let t := if r.loc = .cold then s else (s.homeWrite r.location blob).spoilLines r.location bad
  match r.coldAt with
  | none => t
  | some a => (t.moveOut a blob).spoilLines a bad

/-- The source record of a CF_SRC, if the command may copy it (R459). -/
def State.cfSource (s : State) (tenant : Word32) (i : Nat) : Option AdRec :=
  (s.recs.find? fun e => e.1 == i).bind fun e =>
    let r := e.2
    if r.tenant == tenant && (r.vst == .staged || r.vst == .current || r.vst == .superseded || r.vst == .retiring)
        && r.coldAt.isSome then some r else none

/-- The load has its slot: it takes a record and places the blob (R48, R58). -/
def State.loadAt (s : State) (src : Nat) (cid : Word32) (slot : Nat) (new : Option DirEnt) (r : AdRec) (want : Loc)
    (blob : List Byte) (bad : List Nat) : State :=
  let s1 := s.tickFree
  if s1.freeRecs.isEmpty then s1.complete src cid Code.recordTableFull
  else
    let i := s1.pickD s1.freeRecs
    match s1.tickFree.placeBlob r want with
    | none => s1.complete src cid Code.adapterPoolFull
    | some (q, t) =>
      let q : AdRec := { q with vst := .loading, slot := slot, serial := t.loadSerial, load := some (src, cid) }
      let t : State := { t with loadSerial := t.loadSerial + 1 }
      let t := match new with
        | none => t
        | some e => t.setEnt slot { e with st := .free, cur := 131072, born := q.serial }
      (t.setAdrec i q).writeBlob q blob bad

/-- The load finds its entry, or takes a slot for a new one (R52, R58, R458). -/
def State.loadInto (s : State) (src : Nat) (cid : Word32) (e : DirEnt) (r : AdRec) (want : Loc) (blob : List Byte)
    (bad : List Nat) : State :=
  match s.sameKey e with
  | some k => if s.stale k r.version then s.complete src cid Code.adapterVersionStale else s.loadAt src cid k none r want blob bad
  | none =>
    if s.freeSlots.isEmpty then s.complete src cid Code.directoryFull
    else s.loadAt src cid (s.pickD s.freeSlots) (some e) r want blob bad

/-- The directory-entry image of a command has a reserved bit set or a reserved STATE (R18, R56). -/
def entReserved (c : BitVec 1024) : Bool :=
  bits c (192 + 100) 2 == 3 || c.getLsbD (192 + 103) || bits c (192 + 121) 7 != 0

/-- ADAPTER_LOAD (R55, R56, R457 to R459): the data is the record image, and the blob unless CF_SRC names a record. -/
def execAdapterLoad (src : Nat) (cid : Word32) (data : List Byte) (dmaOk : Bool) (s : State) : Res :=
  ok (s.runCmd src cid 0x10 fun c t =>
    let e := DirEnt.ofImage (BitVec.ofNat 128 (byteAt c 24 16))
    let cf := byteAt c 48 8
    let b := data.take 128
    let r := AdRec.ofImage b e.anyHash
    match Loc.ofNum (byteAt c 40 1) with
    | none => t.complete src cid Code.badCommand
    | some want =>
      if cf ≠ 0 ∧ (cf / 2 ^ 63 = 0 ∨ cf % 2 ^ 63 / 2 ^ 17 ≠ 0 ∨ Ad.dataLen c ≠ 128) then t.complete src cid Code.badCommand
      else if dmaOk = false then t.complete src cid Code.hostDmaFail
      else if t.tenantOk src e.tenant.toNat = false then t.complete src cid Code.adapterNotFound
      else match imageFault e (entReserved c) b with
        | some k => t.complete src cid k
        | none =>
          if cf = 0 then t.loadInto src cid e r want (sub data 128 r.size) []
          else match t.cfSource e.tenant (cf % 2 ^ 17) with
            | none => t.complete src cid Code.adapterNotFound
            | some q =>
              if q.size ≠ r.size then t.complete src cid Code.badAdapterRecord
              else t.loadInto src cid e r want (Mem.read t.mem (q.coldAt.getD 0) r.size) (t.badLines (q.coldAt.getD 0) r.size))

/-- The bytes of a record's blob. -/
def State.blob (s : State) (r : AdRec) : List Byte := Mem.read s.mem r.location r.size

/-- The blob's bytes are read without POISON and hash to its digest (R61, R62). -/
def State.blobGood (s : State) (r : AdRec) : Bool :=
  !s.poisoned r.location r.size && Config.sha384 (s.blob r) == r.digest

/-- ADAPTER_DIGEST_CHECK (R48, R61). -/
def execAdapterDigestCheck (rec : Nat) (s : State) : Res :=
  let r := s.adrec rec
  if r.vst = .loading then
    if s.blobGood r then ok (s.setAdrec rec { r with vst := .staged })
    else ok (s.freeRec rec Code.adapterDigestFail)
  else ok s

/-! ### The other commands -/

/-- The entry a command names by slot and tenant (R55, R57). -/
def State.named (s : State) (src : Nat) (c : BitVec 1024) : Option Nat :=
  let slot := byteAt c 24 4
  let tenant := byteAt c 28 4
  if s.tenantOk src tenant && s.slotUsed slot && (s.ent slot).tenant.toNat == tenant then some slot else none

/-- ADAPTER_DELETE: the entry goes at the next boundary (R53, R55). -/
def execAdapterDelete (src : Nat) (cid : Word32) (s : State) : Res :=
  ok (s.runCmd src cid 0x11 fun c t =>
    match (t.named src c).filter fun k => !(t.ent k).dead with
    | none => t.complete src cid Code.adapterNotFound
    | some k => { t with dirOps := t.dirOps ++ [.delete k (t.ent k).born src cid t.loadSerial] })

/-- ADAPTER_QUERY: the entry's 16 bytes and its records' 128 bytes each, in index order, are written to DATA_ADDR
(R55, R457). -/
def execAdapterQuery (src : Nat) (cid : Word32) (s : State) : Res :=
  ok (s.runCmd src cid 0x12 fun c t =>
    match t.named src c with
    | none => t.complete src cid Code.adapterNotFound
    | some k =>
      let rs := t.recsOf k
      let body := leBytes 16 (t.ent k).image ++ (rs.map fun i => (t.adrec i).bytes).flatten
      (t.emit (.hostWrite src (Ad.dataAddr c) body)).complete src cid 0 rs.length)

/-- Moves a record, or keeps it in both places; none if it does not fit (R55, R58). -/
def State.placeRec (s : State) (i : Nat) (want : Loc) : Option State :=
  let r := s.adrec i
  let body := s.blob r
  let bad := s.badLines r.location r.size
  let hs := s.poolFits r.size
  let cs := s.coldFits r.size
  let needH := want != .cold && r.loc == .cold
  let needC := want != .hbm && r.coldAt.isNone
  if (needH && hs.isEmpty) || (needC && cs.isEmpty) then none
  else
    let h := if needH then s.pickD hs else r.location
    let c := if want = .hbm then none else if needC then some (s.tickFree.pickD cs) else r.coldAt
    let q : AdRec := { r with
      loc := want
      location := if want = .cold then c.getD 0 else h
      coldAt := c }
    let t := s.tickFree.tickFree.setAdrec i q
    let t := if needH then (t.homeWrite h body).spoilLines h bad else t
    some (if needC then (t.moveOut (c.getD 0) body).spoilLines (c.getD 0) bad else t)

/-- ADAPTER_PLACE (R55): a version that has been copied moves. -/
def execAdapterPlace (src : Nat) (cid : Word32) (s : State) : Res :=
  ok (s.runCmd src cid 0x13 fun c t =>
    match Loc.ofNum (byteAt c 36 1) with
    | none => t.complete src cid Code.badCommand
    | some want =>
      match (t.named src c).bind fun k =>
          (t.recsOf k).find? fun i => (t.adrec i).version.toNat == byteAt c 32 4 && (t.adrec i).vst != .loading with
      | none => t.complete src cid Code.adapterNotFound
      | some i => match t.placeRec i want with
        | none => t.complete src cid Code.adapterPoolFull
        | some u => u.complete src cid 0 want.num)

/-- ADAPTER_SET_PRIO (R55). -/
def execAdapterSetPrio (src : Nat) (cid : Word32) (s : State) : Res :=
  ok (s.runCmd src cid 0x14 fun c t =>
    match (t.named src c).filter fun k => !(t.ent k).dead with
    | none => t.complete src cid Code.adapterNotFound
    | some k => { t with dirOps := t.dirOps ++ [.setPrio k (t.ent k).born (byteAt c 32 1 % 16) src cid t.loadSerial] })

/-! ### The boundary (R49 to R54) -/

def DirOp.at' : DirOp → Nat
  | .delete _ _ _ _ a => a
  | .setPrio _ _ _ _ _ a => a

/-- The order in which changes apply: that of their acceptance (R54). -/
def DirAct.key : DirAct → Nat
  | .flip _ serial => 2 * serial + 1
  | .op o => 2 * o.at'

/-- A higher version of the same entry is STAGED among the records due (R51). -/
def State.overtaken (s : State) (due : List Nat) (i : Nat) : Bool :=
  due.any fun j => (s.adrec j).slot == (s.adrec i).slot && (s.adrec j).vst == .staged
    && (s.adrec i).version < (s.adrec j).version

/-- Takes a request's ADVANCE due after a flip (R45). -/
def State.dueAdvance (s : State) (slot : Nat) : State :=
  { s with reqs := Tab.mapAll {} (fun _ q =>
      if q.res.any (fun o => (o.map (·.1)) == some slot) then { q with advance := true } else q) s.reqs }

/-- A STAGED version becomes CURRENT (R48, R49); one whose entry was deleted since is FREE with ADAPTER_DELETED, one behind
the CURRENT version, or behind another that is due, with ADAPTER_SUPERSEDED. A FAILED record that it replaces is FREE once no
request pins it. -/
def State.flipRec (s : State) (due : List Nat) (i : Nat) : State :=
  let r := s.adrec i
  let e := s.ent r.slot
  if r.vst ≠ .staged then s
  else if e.dead then s.freeRec i Code.adapterDeleted
  else if s.overtaken due i || (e.st == .live && r.version ≤ (s.adrec e.cur).version) then s.freeRec i Code.adapterSuperseded
  else
    let t := s.setAdrec i { r with vst := .current, load := none }
    let t := t.setEnt r.slot { e with st := .live, cur := i }
    let t := if e.st = .live ∧ (t.adrec e.cur).vst = .current then
        t.setAdrec e.cur { t.adrec e.cur with vst := .superseded }
      else t
    let t := ((s.recsOf r.slot).filter (· != i)).foldl State.maybeFree t
    let t := t.dueAdvance r.slot
    match r.load with
    | none => t
    | some (src, cid) => t.complete src cid Code.activated (r.version.toNat + r.slot * 2 ^ 32)

/-- One record of a deleted entry (R48, R53). -/
def State.retireRec (s : State) (i : Nat) : State :=
  match (s.adrec i).vst with
  | .staged => s.freeRec i Code.adapterDeleted
  | .current => (s.setAdrec i { s.adrec i with vst := .retiring }).maybeFree i
  | _ => s.maybeFree i

/-- The entry that a command named still stands in its slot. -/
def State.stands (s : State) (slot born : Nat) : Bool :=
  s.slotUsed slot && (s.ent slot).born == born && !(s.ent slot).dead

/-- ADAPTER_DELETE takes effect (R53, R55). -/
def State.applyDelete (s : State) (slot src : Nat) (cid : Word32) : State :=
  let pinned := s.recs.any fun e => e.2.slot == slot && e.2.pins != 0
  let t := s.setEnt slot { s.ent slot with
    dead := true
    st := if pinned then .retiring else .free
    deleter := if pinned then some (src, cid) else none }
  let t := if pinned then t.complete src cid Code.retiring 0 true else t.complete src cid Code.deleted
  (s.recsOf slot).foldl State.retireRec t

/-- ADAPTER_SET_PRIO takes effect. -/
def State.applyPrio (s : State) (slot prio src : Nat) (cid : Word32) : State :=
  (s.setEnt slot { s.ent slot with prio := prio }).complete src cid 0

/-- One change takes effect; a command whose entry has gone completes with ADAPTER_NOT_FOUND (R54, R55). -/
def State.applyDir (due : List Nat) (s : State) : DirAct → State
  | .flip i serial => if (s.adrec i).serial = serial then s.flipRec due i else s
  | .op (.delete k b src cid _) => if s.stands k b then s.applyDelete k src cid else s.complete src cid Code.adapterNotFound
  | .op (.setPrio k b p src cid _) => if s.stands k b then s.applyPrio k p src cid else s.complete src cid Code.adapterNotFound

/-- The directory changes due at a boundary, in the order in which they apply (R54). -/
def State.dirActs (s : State) : List DirAct :=
  let flips := (s.recs.filter fun e => e.2.vst == .staged).map fun e => DirAct.flip e.1 e.2.serial
  sortBy (fun a b => a.key < b.key) (flips ++ s.dirOps.map DirAct.op)

/-- The records that some changes flip. -/
def flipsOf (l : List DirAct) : List Nat := l.filterMap fun
  | .flip i _ => some i
  | .op _ => none

/-- Directory changes take effect (R49 to R54). -/
def State.applyActs (s : State) (l : List DirAct) : State := l.foldl (State.applyDir (flipsOf l)) s

/-- The directory's part of a cadence boundary (R49 to R54). -/
def State.dirBoundary (s : State) : State := State.applyActs { s with dirOps := [] } s.dirActs

/-- A boundary that falls in steward 0's pause: its directory changes wait for the resumption (R538). -/
def State.oweDir (s : State) : State :=
  { s with dirOps := [], upd := { s.upd with flipDue := s.upd.flipDue ++ s.dirActs } }

/-- Steward 0 applies what fell due in its pause (R538). -/
def State.payDir (s : State) : State := State.applyActs { s with upd := { s.upd with flipDue := [] } } s.upd.flipDue

/-! ### Resolution (R20 to R28) -/

/-- An entry matches a request's key at a layer (R21). -/
def DirEnt.hit (e : DirEnt) (tenant hash model layer : Nat) : Bool :=
  e.st == .live && e.tenant.toNat == tenant && (e.anyHash || e.hash.toNat == hash) && e.modelMask.getLsbD model
    && e.layerFirst ≤ layer && layer ≤ e.layerLast

/-- `dir_match`: the slot of the highest PRIO, the lowest slot among equals, and whether there was a tie (R21, R26). -/
def State.dirMatch (s : State) (tenant hash model layer : Nat) : Option Nat × Bool :=
  let hits := s.dir.filter fun e => e.2.hit tenant hash model layer
  let best := hits.foldl (fun (m : Nat) e => max m (e.2.prio + 1)) 0
  let top := hits.filter fun e => e.2.prio + 1 == best
  (top.head?.map (·.1), decide (1 < top.length))

/-- The record that serves at a layer: the winning slot's CUR_REC, if it carries the layer (R22, R33). -/
def State.resolve (s : State) (tenant hash model layers : Nat) : List (Option (Nat × Nat)) :=
  if hash = 0 then List.replicate layers none
  else (List.range layers).map fun l => (s.dirMatch tenant hash model l).1.map fun k => (k, (s.ent k).cur)

/-- Some layer was decided by the lowest-slot rule (R27, R28). -/
def State.tied (s : State) (tenant hash model layers : Nat) : Bool :=
  hash != 0 && (List.range layers).any fun l => (s.dirMatch tenant hash model l).2

/-- The distinct records of a resolution. -/
def recsIn (res : List (Option (Nat × Nat))) : List Nat := (res.filterMap fun o => o.map (·.2)).eraseDups

/-- The rejection of order 10 of R445 (R23, R24, R28, R63), in the order in which R445 lists the codes. -/
def State.adapterReject (s : State) (hash : Nat) (res : List (Option (Nat × Nat))) (tie : Bool) : Option Nat :=
  if hash = 0 then none
  else if (recsIn res).isEmpty then some Code.adapterNotFound
  else if 4 < (recsIn res).length then some Code.adapterTooManyParts
  else if tie ∧ s.rd R.tieStrict = 1 then some Code.adapterAmbiguous
  else if (recsIn res).any fun i => (s.adrec i).vst == .failed then some Code.adapterCorrupt
  else none

/-- Demotes a record with a cold-frame copy out of HBM (R59). -/
def State.demote (s : State) (i : Nat) : State :=
  let r := s.adrec i
  s.setAdrec i { r with loc := .cold, location := r.coldAt.getD 0 }

/-- Records that may be demoted, least recently used first (R59). R59 does not say what a use is: it is the last pin, and of
two records pinned in one tick the one with the lower index goes first (DESIGN CHOICE, log 70). -/
def State.demotable (s : State) : List Nat :=
  (sortBy (fun a b => a.2.lastUse < b.2.lastUse)
    (s.recs.filter fun e => e.2.loc == .both && e.2.pins == 0)).map (·.1)

/-- Copies a cold record into HBM, if it fits (R59). -/
def State.promote (s : State) (i : Nat) : Option State :=
  let r := s.adrec i
  let hs := s.poolFits r.size
  if hs.isEmpty then none
  else
    let a := s.pickD hs
    let t := (s.tickFree.setAdrec i { r with loc := .both, location := a }).homeWrite a (s.blob r)
    some (t.spoilLines a (s.badLines r.location r.size))

/-- Demotes records one by one until a blob fits (R59). -/
def State.makeRoom (s : State) (size : Nat) : List Nat → State
  | [] => s
  | i :: t => if (s.poolFits size).isEmpty then (s.demote i).makeRoom size t else s

/-- An admission needs its record in HBM (R59); if no room can be made it runs from the cold frame. R59 does not say when an
admission needs it, nor what LOC becomes: every cold record of a resolution is copied in and keeps its cold-frame copy (LOC both),
and the demotions made for it stand where room is still short (DESIGN CHOICE, log 70). -/
def State.wantHbm (s : State) (i : Nat) : State :=
  if (s.adrec i).loc = .cold then
    let t := s.makeRoom (s.adrec i).size s.demotable
    match t.promote i with
    | some u => u
    | none => t
  else s

/-- A request pins the records of its resolution, and then each is wanted in HBM: all are pinned before the first demotion, so
that none of them is demoted for another (R43, R59). -/
def State.takeRecs (s : State) (l : List Nat) : State := l.foldl State.wantHbm (l.foldl State.pinRec s)

end Sys2Proof.Machine
end

