-- ==== Sys2Proof/Machine/Selection.lean ====
section
/-! DEFINITION. Token selection, selection objects and Parterre grammars (R335 to R365). -/
namespace Sys2Proof.Machine
open Sys2Proof

/-! ### Arithmetic of the selection unit (R340) -/

/-- Rounds once to binary32, to nearest with ties to even; an exact zero gives +0 (R340). A result beyond the largest finite
magnitude becomes that magnitude, since the device never produces an infinity (R141; log 26). -/
def round32 (v : Dy) : Dy :=
  if v.isZero then {}
  else
    let s := max (v.log2 - 23) (-149)
    let n := v.rneAt s
    let r : Dy := { m := n, e := s }
    let r := if fltSingle.top.lt r then fltSingle.top else r
    if v.isNeg then r.neg else r

/-- The sum of the values of terms. -/
def sumTerms (ts : List Term) : Dy := ts.foldl (fun (a : Dy) t => a.add t.val) {}

/-- `scale_log` (R340). -/
def scaleLog (z : Dy) (mu : Int) : Dy :=
  round32 (sumTerms ((termSplit z 4).map fun t => { t with lam := t.lam + mu }))

/-- `mul` (R340). -/
def mul32 (a b : Dy) : Dy :=
  let ta := termSplit a 4
  let tb := termSplit b 4
  round32 (sumTerms ((ta.map fun x => tb.map fun y => x.mul y).flatten))

/-- binary32 subtraction. -/
def sub32 (a b : Dy) : Dy := round32 (a.sub b)

/-- The value of an FP16 parameter. -/
def half (n : Nat) : Dy := (fltHalf.dec 9 n).1

/-- The value of a binary32 logit; a NaN reads 0 and an infinity the largest value, as R141 reads them (log 26). -/
def logit (w : Word32) : Dy := (fltSingle.dec 0xB w.toNat).1

/-! ### The stages (R335 to R347) -/

/-- ±0 of an FP16 encoding. -/
def halfZero (n : Nat) : Bool := n % 32768 == 0

/-- Stage 2 for a token that occurs n times (R342). -/
def penalise (d : BitVec 1024) (z : Dy) (n : Nat) : Dy :=
  if n = 0 then z
  else
    let r : Int := Int.ofNat (Rd.repLog d)
    let z1 := if r = 0 then z else if !z.isZero && !z.isNeg then scaleLog z (-r) else scaleLog z r
    let z2 := if halfZero (Rd.presPen d) then z1 else sub32 z1 (half (Rd.presPen d))
    if halfZero (Rd.freqPen d) then z2 else sub32 z2 (mul32 (half (Rd.freqPen d)) { m := n })

/-- The history a draw counts: prompt tokens if PEN_PROMPT, then the draw's path, cut to PEN_WINDOW (R341). -/
def history (d : BitVec 1024) (prompt path : List Nat) : List Nat :=
  let h := (if Rd.penPrompt d then prompt else []) ++ path
  if Rd.penWindow d = 0 then h else h.drop (h.length - Rd.penWindow d)

/-- Stage 3 (R343). -/
def temper (d : BitVec 1024) (z : Dy) : Dy :=
  if halfZero (Rd.invTemp d) || Rd.invTemp d == 0x3C00 then z else mul32 z (half (Rd.invTemp d))

/-- Ranks tokens by value descending, then by token ID (R344). -/
def rankLt (a b : Nat × Dy) : Bool := b.2.lt a.2 || (!(a.2.lt b.2) && decide (a.1 < b.1))

/-- The binary32 constant L (R345). -/
def constL : Dy := (fltSingle.dec 0xB 0x41B8AA3B).1

/-- n of a distance below the first candidate (R345). -/
def stepsBelow (zmax z : Dy) : Nat := min 4095 ((mul32 (sub32 zmax z) constL).rneAt 0)

/-- The weight of a candidate (R345). -/
def weightOf (n : Nat) : Nat :=
  let lam : Int := - Int.ofNat n
  let sh := (-(lam / 16)).toNat
  if 32 ≤ sh then 0 else antilog (lamLow lam) / 2 ^ sh

/-- Prefix sums. -/
def prefixSums (l : List Nat) : List Nat := (List.range l.length).map fun j => (l.take (j + 1)).sum

/-- The kept count under TOP_P (R346). -/
def keptCount (topP : Nat) (c : List Nat) : Nat :=
  if topP = 0 then c.length
  else match (List.range c.length).find? fun j => topP * c.getLastD 0 ≤ c.getD j 0 * 65536 with
    | some j => j + 1
    | none => c.length

/-- word_i of a draw (R348). -/
def drawWord (seed : Word64) (pos purpose i : Nat) : Nat :=
  (genWord seed (BitVec.ofNat 64 (pos * 2 ^ 32 + purpose * 256 + i))).toNat

/-- A uniform number below a bound (R347). -/
def drawBelow (seed : Word64) (pos purpose bound : Nat) : Nat :=
  let b := Nat.log2 bound + 1
  let rs := (List.range 8).map fun i => drawWord seed pos purpose i % 2 ^ b
  match rs.find? fun r => r < bound with
  | some r => r
  | none => rs.getLastD 0 - bound

/-- Stages 3 to 7 on the allowed tokens with their penalised logits (R343 to R347). -/
def sampleFrom (d : BitVec 1024) (seed : Word64) (pos purpose : Nat) (zs : List (Nat × Dy)) : Option Nat :=
  let k := if Rd.topK d = 0 then 256 else Rd.topK d
  let cand := (sortBy rankLt (zs.map fun e => (e.1, temper d e.2))).take k
  let zmax := (cand.headD (0, {})).2
  let c := prefixSums (cand.map fun e => weightOf (stepsBelow zmax e.2))
  let kept := keptCount (Rd.topP d) c
  let r := drawBelow seed pos purpose (c.getD (kept - 1) 0)
  ((List.range kept).find? fun j => r < c.getD j 0).bind fun j => (cand[j]?).map (·.1)

/-- Selects a token from a row of logits (R335, R336); none if no token is allowed. -/
def select (d : BitVec 1024) (seed : Word64) (pos purpose vocab : Nat) (allowed : Nat → Bool) (hist : List Nat)
    (logits : List Word32) : Option Nat :=
  let zs := ((List.range vocab).filter allowed).map fun t =>
    (t, penalise d (logit (logits.getD t 0)) (hist.count t))
  if zs.isEmpty then none
  else if halfZero (Rd.invTemp d) then ((sortBy rankLt zs).head?).map (·.1)
  else sampleFrom d seed pos purpose zs

/-! ### Objects (R352 to R356) -/

/-- An object with its handle, if it is known. -/
def State.hasObj (s : State) (h : Nat) : Bool := s.objs.any fun e => e.1 == h

/-- The bytes of an object. -/
def State.objBytes (s : State) (o : Obj) : List Byte := Mem.read s.mem o.addr o.size

/-- The class of a token in a grammar blob (R356). -/
def parClass (b : List Byte) (t : Nat) : Nat := fld b (fld b 32 8 + 2 * t) 2

/-- A transition of a grammar: first and last class, target, priority, default (R356). -/
structure Trans where
  lo : Nat
  hi : Nat
  target : Nat
  prio : Nat
  dflt : Bool
  deriving DecidableEq, Repr

/-- Transition i of a grammar. -/
def parTrans (b : List Byte) (i : Nat) : Trans :=
  let o := fld b 48 8 + 8 * i
  { lo := fld b o 2, hi := fld b (o + 2) 2, target := fld b (o + 4) 3, prio := fld b (o + 7) 1 % 16
    dflt := (fld b (o + 7) 1).testBit 4 }

/-- The transitions of a state, in index order. -/
def parTransOf (b : List Byte) (st : Nat) : List Trans :=
  let o := fld b 40 8 + 8 * st
  (List.range (fld b (o + 4) 2)).map fun k => parTrans b (fld b o 4 + k)

/-- ACCEPT of a state. -/
def parAccept (b : List Byte) (st : Nat) : Bool := (fld b (fld b 40 8 + 8 * st + 6) 1).testBit 0

/-- The transitions of a state that match a class (R358). -/
def parMatches (b : List Byte) (st c : Nat) : List Trans :=
  let ts := parTransOf b st
  let ex := ts.filter fun t => !t.dflt && t.lo ≤ c && c ≤ t.hi
  if ex.isEmpty then ts.filter (·.dflt) else ex

/-- The state after a token and whether the lowest-index rule decided; a stop token leaves it unchanged (R359). -/
def parMove (b : List Byte) (stops : List Nat) (st tok : Nat) : Nat × Bool :=
  if stops.contains tok then (st, false)
  else
    let m := parMatches b st (parClass b tok)
    let best := m.foldl (fun (n : Nat) t => max n (t.prio + 1)) 0
    let top := m.filter fun t => t.prio + 1 == best
    match top with
    | [] => (st, false)
    | t :: _ => (t.target, decide (1 < top.length))

/-- The state after a path of tokens. -/
def parPath (b : List Byte) (stops : List Nat) (st : Nat) (path : List Nat) : Nat :=
  path.foldl (fun (x : Nat) t => (parMove b stops x t).1) st

/-- Whether an object allows a token in a grammar state (R354, R358). -/
def allows (o : Obj) (b : List Byte) (stops : List Nat) (st tok : Nat) : Bool :=
  if o.grammar then
    if stops.contains tok then parAccept b st else !(parMatches b st (parClass b tok)).isEmpty
  else (fld b (tok / 8) 1).testBit (tok % 8)

/-! ### The image's models -/

/-- The entry of a model in a pavilion (R475). -/
def State.model (s : State) (pav id : Nat) : Option Model := s.boot.models.find? fun m => m.id == id && m.pav == pav

/-! ### Registering (R351 to R357) -/

/-- Addresses of the object area at which a blob fits (R352). -/
def State.objFits (s : State) (n : Nat) : List Nat :=
  ((List.range ((s.rd R.objSize + 64 - roundUp n 64) / 64)).map fun k => s.rd R.objBase + k * 64).filter fun a =>
    !(s.objs.any fun e => meets a (roundUp n 64) e.2.addr (roundUp e.2.size 64))

/-- A list blob for a vocabulary is well formed (R354). -/
def listGood (v : Nat) (b : List Byte) : Bool :=
  b.length == roundUp (cdiv v 8) 64 &&
  (List.range (8 * b.length - v)).all fun k => !((fld b ((v + k) / 8) 1).testBit ((v + k) % 8))

/-- Sections of a grammar: offset and length. -/
def parSections (b : List Byte) : List (Nat × Nat) :=
  [(0, 64), (fld b 32 8, 2 * fld b 8 4), (fld b 40 8, 8 * fld b 12 4), (fld b 48 8, 8 * fld b 24 4)]

/-- No section meets an earlier one. -/
def apart : List (Nat × Nat) → Bool
  | [] => true
  | e :: t => !(t.any fun x => meets e.1 e.2 x.1 x.2) && apart t

/-- A transition entry is well formed (R356, R357). -/
def transGood (b : List Byte) (i : Nat) : Bool :=
  let t := parTrans b i
  let o := fld b 48 8 + 8 * i
  t.target < fld b 12 4 && fld b (o + 7) 1 / 32 == 0
    && (if t.dflt then t.lo == 0 && t.hi == 0 else t.hi < fld b 20 4 && t.lo ≤ t.hi)

/-- A grammar blob for a vocabulary is well formed (R355 to R357). -/
def grammarGood (v : Nat) (b : List Byte) : Bool :=
  fld b 0 4 == 0x54524150 && fld b 4 2 == 1 && zeros b 6 2 && zeros b 28 4 && fld b 8 4 == v
    && 1 ≤ fld b 12 4 && fld b 12 4 ≤ 2 ^ 24 && fld b 16 4 < fld b 12 4 && 1 ≤ fld b 20 4 && fld b 20 4 ≤ 65536
    && fld b 56 8 == b.length
    && (parSections b).all (fun e => e.1 % 64 == 0 && e.1 + e.2 ≤ fld b 56 8) && apart (parSections b)
    && (List.range v).all (fun t => parClass b t < fld b 20 4)
    && (List.range (fld b 12 4)).all (fun st =>
        let o := fld b 40 8 + 8 * st
        fld b o 4 + fld b (o + 4) 2 ≤ fld b 24 4 && fld b (o + 6) 1 < 2 && zeros b (o + 7) 1)
    && (List.range (fld b 24 4)).all (transGood b)

/-- The shared body of LIST_LOAD and GRAMMAR_LOAD: rights, shape, room, then the handle (R351, R352, R461). DESIGN CHOICE (log 69): once
every 32-bit handle has been assigned, a load completes with OBJECT_AREA_FULL. -/
def State.objLoad (s : State) (src : Nat) (cid : Word32) (c : BitVec 1024) (grammar : Bool) (data : List Byte)
    (dmaOk : Bool) : State :=
  let m := byteAt c 24 1
  let p := byteAt c 25 1
  if 8 ≤ p ∨ s.defined p = false then s.complete src cid Code.pavUndefined
  else match s.model p m with
    | none => s.complete src cid Code.modelNotFound
    | some e =>
      let b := data.take (Ad.dataLen c)
      let good := b.length == Ad.dataLen c && (if grammar then grammarGood e.vocab b else listGood e.vocab b)
      if dmaOk = false then s.complete src cid Code.hostDmaFail
      else if good = false then s.complete src cid Code.badGrammar
      else if 4096 ≤ s.objs.length ∨ 67108864 < b.length ∨ (s.objFits b.length).isEmpty = true ∨ 2 ^ 32 ≤ s.nextHandle then
        s.complete src cid Code.objectAreaFull
      else
        let a := s.pickD (s.objFits b.length)
        let h := s.nextHandle
        let o : Obj := { grammar := grammar, fn := src, pav := p, vocab := e.vocab, addr := a, size := b.length }
        let t := (s.tickFree.setObj h o).homeWrite a b
        State.complete { t with nextHandle := h + 1 } src cid 0 h

/-- LIST_LOAD (R351, R354). -/
def execListLoad (src : Nat) (cid : Word32) (data : List Byte) (dmaOk : Bool) (s : State) : Res :=
  ok (s.runCmd src cid 0x20 fun c t => t.objLoad src cid c false data dmaOk)

/-- GRAMMAR_LOAD (R351, R357). -/
def execGrammarLoad (src : Nat) (cid : Word32) (data : List Byte) (dmaOk : Bool) (s : State) : Res :=
  ok (s.runCmd src cid 0x21 fun c t => t.objLoad src cid c true data dmaOk)

/-- Frees an object; a RETIRING one completes with DELETED and its function is told (R353, R454). -/
def State.freeObj (s : State) (h : Nat) : State :=
  let o := s.obj h
  let t : State := { s with objs := s.objs.filter fun e => e.1 != h }
  if o.retiring then
    let u := t.notify o.fn 4
    match o.deleter with
    | none => u
    | some (src, cid) => u.complete src cid Code.deleted
  else t

/-- An object is removed, or is RETIRING while pinned (R353). -/
def State.deleteObj (s : State) (h : Nat) (by' : Option (Nat × Word32)) : State :=
  if (s.obj h).pins = 0 then s.freeObj h
  else s.setObj h { s.obj h with retiring := true, deleter := by' }

/-- A pin is released (R353). -/
def State.unpinObj (s : State) (h : Nat) : State :=
  if h = 0 ∨ s.hasObj h = false then s
  else
    let o := s.obj h
    let t := s.setObj h { o with pins := o.pins - 1 }
    if o.retiring ∧ o.pins ≤ 1 then t.freeObj h else t

/-- SEL_OBJ_DELETE (R351, R353). -/
def execSelObjDelete (src : Nat) (cid : Word32) (s : State) : Res :=
  ok (s.runCmd src cid 0x22 fun c t =>
    let h := byteAt c 24 4
    if t.hasObj h = false ∨ (t.obj h).fn ≠ src ∨ (t.obj h).retiring = true then t.complete src cid Code.grammarNotFound
    else if (t.obj h).pins = 0 then (t.deleteObj h none).complete src cid Code.deleted
    else (t.deleteObj h (some (src, cid))).complete src cid Code.retiring 0 true)

end Sys2Proof.Machine
end

