-- ==== Sys2Proof/Machine/Kv.lean ====
section
/-! DEFINITION. KV pages: sizes, the prefix index, allocation, reclaim, page tables, spills and page-ins (R309 to R334). -/
namespace Sys2Proof.Machine
open Sys2Proof

/-! ### Sizes and places (R309 to R313) -/

/-- Bytes of a layer's block in a page: K rows, K scales, V rows, V scales, each 64-byte aligned (R310). -/
def Model.blockBytes (m : Model) : Nat :=
  let rows := 16 * roundUp (rowBytes m.kvFmt m.kvDim) 64
  let sc := if m.kvFmt = 0 then roundUp (16 * (m.kvDim / 32)) 64 else 0
  2 * (rows + sc)

/-- A model's page size (R310). -/
def Model.pageBytes (m : Model) : Nat := roundUp (m.layers * m.blockBytes) 4096

/-- The models of a pavilion. -/
def State.modelsOf (s : State) (p : Nat) : List Model := s.boot.models.filter fun m => m.pav == p

/-- The page size of a pavilion's pools: the largest of its target models', or that of DRAFT_MODEL (R312). -/
def State.poolPageBytes (s : State) (p : Nat) (draft : Bool) : Nat :=
  ((s.modelsOf p).filter fun m => m.draft == draft && (!draft || m.id == s.rd R.draftModel p)).foldl (fun (n : Nat) m => max n m.pageBytes) 0

/-- The index of page k of a pool (R316). -/
def pageId (p k : Nat) (draft : Bool) : Nat := p * 2097152 + (if draft then 1048576 else 0) + k

/-- The device address of a page. -/
def State.pageAddr (s : State) (g : Nat) : Nat :=
  let p := g / 2097152
  let k := g % 2097152
  if k < 1048576 then s.rd R.poolBase p + k * s.poolPageBytes p false
  else s.rd R.draftPoolBase p + (k - 1048576) * s.poolPageBytes p true

/-- The pavilion speculates (R282). -/
def State.drafting (s : State) (p : Nat) : Bool := s.rd R.draftEn p == 1

/-- The first pavilion a request index belongs to, and its resident slot (R313). -/
def slotOf (i : Nat) : Nat := i % 32768

/-- PT_STRIDE (R313). -/
def State.ptStride (s : State) (p : Nat) : Nat :=
  roundUp (64 + 4 * cdiv (s.rd R.maxCtx p) 16 * (if s.drafting p then 2 else 1)) 64

/-- DRAFT_OFF (R313). -/
def State.draftOff (s : State) (p : Nat) : Nat := if s.drafting p then 64 + 4 * cdiv (s.rd R.maxCtx p) 16 else 0

/-- A page-table entry (R313). -/
def State.ptEntry (s : State) (o : Option Nat) : List Byte :=
  match o with
  | none => leBytes 4 0
  | some g => leBytes 4 (s.pageAddr g / 4096)

/-- The steward writes a request's page table; entries beyond those in use are 0 (R313, R314). -/
def State.writePt (s : State) (i : Nat) : State :=
  let r := s.req i
  let base := s.rd R.ptBase r.pav + slotOf i * s.ptStride r.pav
  let head := leBytes 4 r.commitLen ++ leBytes 4 r.len ++ leBytes 4 r.pages.length
    ++ leBytes 4 (s.draftOff r.pav) ++ leBytes 48 0
  let n := cdiv (s.rd R.maxCtx r.pav) 16
  let entries (l : List (Option Nat)) : List Byte := (l.map s.ptEntry).flatten ++ leBytes (4 * (n - l.length)) 0
  let t := s.homeWrite base (head ++ entries r.pages)
  if s.drafting r.pav then t.homeWrite (base + s.draftOff r.pav) (entries r.draftPages) else t

/-! ### Keys (R318 to R320) -/

/-- The value R319 takes for a layer. -/
def State.layerSerial (s : State) (o : Option (Nat × Nat)) : Nat :=
  match o with
  | none => 0
  | some (_, i) => if (s.adrec i).kvClean then 0 else (s.adrec i).serial

/-- The first 8 bytes of a digest, read little-endian. -/
def digest8 (v : BitVec 384) : Word64 := BitVec.ofNat 64 (leNat ((leBytes 48 v.toNat).reverse.take 8))

/-- The KV class of a resolution (R319). -/
def State.classOf (s : State) (res : List (Option (Nat × Nat))) : Word64 :=
  let vs := res.map s.layerSerial
  if vs.all (· == 0) then 0 else digest8 (Config.sha384 ((vs.map (leBytes 8)).flatten))

/-- The key of a page from that of the page before it (R320). -/
def State.pageKey (s : State) (r : Req) (prev : Word64) (toks : List Nat) : Word64 :=
  digest8 (Config.sha384 (leBytes 8 prev.toNat ++ leBytes 8 (s.classOf r.res).toNat ++ leBytes 1 r.model
    ++ leBytes 4 r.wgenAdm ++ leBytes 4 (if s.rd R.shareScope r.pav = 1 then Rd.tenant r.desc else 0)
    ++ (toks.map (leBytes 4)).flatten))

/-- Committed tokens of a request in position order. -/
def Req.tokens (r : Req) : List Nat := r.prompt ++ r.out

/-- The 16 tokens of page j. -/
def Req.pageTokens (r : Req) (j : Nat) : List Nat := (r.tokens.drop (16 * j)).take 16

/-- The keys of pages 0 to n − 1: those a request has, and new ones for the rest. -/
def State.keysUpTo (s : State) (r : Req) (n : Nat) : List Word64 :=
  (List.range (n - r.keys.length)).foldl
    (fun (ks : List Word64) _ => ks ++ [s.pageKey r (ks.getLastD 0) (r.pageTokens ks.length)]) r.keys

/-- The index entry of a key in a pavilion's pool (R321); none that holds POISON (R333). -/
def State.indexed (s : State) (p : Nat) (k : Word64) : Option Nat :=
  (s.pages.find? fun e => e.1 / 2097152 == p && e.1 % 2097152 < 1048576
    && (e.2.st == .shared || e.2.st == .cached) && e.2.key == some k
    && !s.poisoned (s.pageAddr e.1) (s.poolPageBytes p false)).map (·.1)

/-! ### Pages -/

/-- Free pages of a pool. -/
def State.freePages (s : State) (p : Nat) (draft : Bool) : List Nat :=
  ((List.range (s.rd (if draft then R.draftPoolPages else R.poolPages) p)).map fun k => pageId p k draft).filter
    fun g => (s.page g).st == .free

/-- Pages reserved by requests of a pavilion other than i (R324). -/
def State.reservedBut (s : State) (p i : Nat) : Nat :=
  s.reqs.foldl (fun (n : Nat) e => if e.2.pav = p ∧ e.1 ≠ i then n + e.2.reserved else n) 0

/-- CACHED pages of a pavilion in the order of eviction (R325). -/
def State.evictable (s : State) (p : Nat) : List Nat :=
  (sortBy (fun a b => decide (a.2.relTick < b.2.relTick) || (a.2.relTick == b.2.relTick && decide (b.2.j < a.2.j)))
    (s.pages.filter fun e => e.1 / 2097152 == p && e.2.st == .cached)).map (·.1)

/-- A page is evicted or released to FREE; the index forgets it. -/
def State.freePage (s : State) (g : Nat) : State := s.setPage g {}

/-- Evicts CACHED pages until n target pages are free beyond what others have reserved (R325). -/
def State.evictFor (s : State) (p i n : Nat) : List Nat → State
  | [] => s
  | g :: t =>
    if n + s.reservedBut p i ≤ (s.freePages p false).length then s else (s.freePage g).evictFor p i n t

/-- n target pages and m draft pages can be had for request i now. -/
def State.roomFor (s : State) (p i n m : Nat) : Bool :=
  n + s.reservedBut p i ≤ (s.freePages p false).length &&
  (m == 0 || m + (if s.drafting p then s.reservedBut p i else 0) ≤ (s.freePages p true).length)

/-- Allocates one page as PRIVATE (R316). -/
def State.allocPage (s : State) (p j : Nat) (draft : Bool) : Nat × State :=
  let g := s.pickD (s.freePages p draft)
  (g, s.tickFree.setPage g { st := .owned, refs := 1, j := j })

/-- A request's reference to a page is released (R316). -/
def State.releasePage (s : State) (g : Nat) : State :=
  let q := s.page g
  match q.st with
  | .shared =>
    if q.refs ≤ 1 then s.setPage g { q with refs := 0, st := .cached, relTick := s.time }
    else s.setPage g { q with refs := q.refs - 1 }
  | _ => if q.refs ≤ 1 then s.freePage g else s.setPage g { q with refs := q.refs - 1 }

/-- A page is matched: one more reference (R316, R322). -/
def State.takePage (s : State) (g : Nat) : State :=
  s.setPage g { s.page g with st := .shared, refs := (s.page g).refs + 1 }

/-- 4 KiB pages that a spill of a request takes (R327). -/
def State.spillCost (s : State) (i : Nat) : Nat :=
  let r := s.req i
  (r.pages.countP (·.isSome)) * (s.poolPageBytes r.pav false / 4096)
    + (r.draftPages.countP (·.isSome)) * (s.poolPageBytes r.pav true / 4096)

/-- Releases every page a request holds in HBM, and frees its cold-frame copies (R278, R331). -/
def State.dropPages (s : State) (i : Nat) : State :=
  let r := s.req i
  let t := (r.pages ++ r.draftPages).foldl (fun (u : State) o => match o with | none => u | some g => u.releasePage g) s
  let used := r.spill.foldl (fun (n : Nat) g => n + g.size / 4096) (if r.phase = .spilling then s.spillCost i else 0)
  let t : State := { t with cfUsed := Tab.put 0 t.cfUsed r.pav (Tab.get 0 t.cfUsed r.pav - used) }
  t.setReq i { t.req i with pages := [], draftPages := [], spill := [], toMove := 0, reserved := 0, expiry := none }

/-- Extends a request's pages to cover its length, draft pages alike (R326). -/
def State.growPages (s : State) (i : Nat) (draft : Bool) : Nat → State
  | 0 => s
  | n + 1 =>
    let r := s.req i
    let (g, t) := s.allocPage r.pav (if draft then r.draftPages.length else r.pages.length) draft
    let q : Req := if draft then { r with draftPages := r.draftPages ++ [some g] }
      else { r with pages := r.pages ++ [some g], reserved := r.reserved - 1 }
    (t.setReq i q).growPages i draft n

/-- Pages missing for a length. -/
def Req.missing (r : Req) (len : Nat) : Nat := cdiv len 16 - r.pages.length
def Req.draftMissing (r : Req) (len : Nat) (drafting : Bool) : Nat := if drafting then cdiv len 16 - r.draftPages.length else 0

/-- Evicts what a request's coming step needs, and says whether it can be had (R326). -/
def State.stepRoom (s : State) (i len : Nat) : Bool × State :=
  let r := s.req i
  let t := s.evictFor r.pav i (r.missing len) (s.evictable r.pav)
  (t.roomFor r.pav i (r.missing len) (r.draftMissing len (s.drafting r.pav)), t)

/-- Allocates the pages of a request up to a length. -/
def State.claim (s : State) (i len : Nat) : State :=
  let r := s.req i
  (s.growPages i false (r.missing len)).growPages i true (r.draftMissing len (s.drafting r.pav))

/-- Allocates the pages of a request up to a length, and LEN takes it. -/
def State.cover (s : State) (i len : Nat) : State :=
  (s.claim i len).setReq i { (s.claim i len).req i with len := len }

/-- Pages beyond the committed length are released, and those of the prompt stay reserved; entries at or beyond COMMIT_LEN are gone
(R296, R324; log 38). The page table follows (R313). -/
def State.trim (s : State) (i : Nat) : State :=
  let r := s.req i
  let n := cdiv r.commitLen 16
  let t := ((r.pages.drop n) ++ (r.draftPages.drop n)).foldl
    (fun (u : State) o => match o with | none => u | some g => u.releasePage g) s
  let own := cdiv r.prompt.length 16
  (t.setReq i { r with
    pages := r.pages.take n
    draftPages := r.draftPages.take n
    len := r.commitLen
    draftLen := min r.draftLen r.commitLen
    reserved := r.reserved + (min r.pages.length own - min n own) }).writePt i

/-! ### The prefix index (R321, R322) -/

/-- Enters the pages from a first one on that lie wholly below COMMIT_LEN in the index, where R321 lets them. -/
def State.indexFrom (s : State) (i lo : Nat) : State :=
  let r := s.req i
  let n := r.commitLen / 16
  let ks := s.keysUpTo r n
  let t := s.setReq i { r with keys := ks }
  if s.rd R.shareScope r.pav = 2 ∨ r.classChanged = true then t
  else (List.range n).foldl (fun (u : State) j =>
    match (r.pages[j]?).bind id, ks[j]? with
    | some g, some k =>
      let q := u.page g
      if lo ≤ j ∧ q.st = .owned ∧ q.refs ≤ 1 ∧ q.swapMade = false ∧ (u.indexed r.pav k).isNone = true
          ∧ u.poisoned (u.pageAddr g) (u.poolPageBytes r.pav false) = false then
        u.setPage g { q with
          st := .shared
          key := some k
          tokens := r.pageTokens j
          parent := if j = 0 then none else (r.pages[j - 1]?).bind id
          j := j
          model := r.model
          gen := r.wgenAdm }
      else u
    | _, _ => u) t

/-- The pages that have become eligible since the request's keys were last taken enter the index (R293, R321). -/
def State.indexPages (s : State) (i : Nat) : State := s.indexFrom i (s.req i).keys.length

/-- The match of a prompt, page by page; the pages matched so far (R322). -/
def State.matchPrompt (s : State) (i : Nat) : Nat → State
  | 0 => s
  | n + 1 =>
    let r := s.req i
    let j := r.pages.length
    let k := s.pageKey r (r.keys.getLastD 0) (r.pageTokens j)
    match s.indexed r.pav k with
    | none => s
    | some g =>
      let q := s.page g
      if q.tokens = r.pageTokens j ∧ q.parent = (if j = 0 then none else (r.pages[j - 1]?).bind id) then
        State.matchPrompt ((s.takePage g).setReq i { r with
          pages := r.pages ++ [some g]
          keys := r.keys ++ [k]
          todo := r.todo - 16
          commitLen := r.commitLen + 16
          len := r.len + 16
          reserved := r.reserved - 1
          report := { r.report with matched := r.report.matched + 16 } }) i n
      else s.inc R.kvCollide r.pav

/-- PREFIX_MATCH: once, when the request is first selected for prefill (R322). -/
def State.prefixMatch (s : State) (i : Nat) : State :=
  let r := s.req i
  if r.matchedOnce ∨ s.rd R.shareScope r.pav = 2 then s.setReq i { r with matchedOnce := true }
  else State.matchPrompt (s.setReq i { r with matchedOnce := true }) i ((r.prompt.length - 1) / 16)

/-- An indexed page that holds POISON leaves the index (R333). -/
def State.dropPoisoned (s : State) : State :=
  { s with pages := Tab.mapAll {} (fun g q =>
      if q.st = .shared ∨ q.st = .cached then
        if s.poisoned (s.pageAddr g) (s.poolPageBytes (g / 2097152) false) then
          (if q.st = .cached then {} else { q with st := .owned, key := none }) else q
      else q) s.pages }

/-! ### Spills (R325, R327, R329, R334) -/

/-- Whether all of a request's KV pages are in HBM (R261, R268). -/
def Req.inHbm (r : Req) : Bool := r.spill.isEmpty

/-- Paused requests that may be spilled, in order (R325). -/
def State.spillable (s : State) (p : Nat) : List Nat :=
  (sortBy (fun a b => decide (b.2.sched.cls < a.2.sched.cls)
      || (a.2.sched.cls == b.2.sched.cls && decide (b.2.seq < a.2.seq)))
    (s.reqs.filter fun e => e.2.pav == p && e.2.phase == .paused && e.2.ending.isNone && e.2.inHbm
      && !e.2.pages.isEmpty && Tab.get 0 s.cfUsed p + s.spillCost e.1 ≤ s.rd R.cfQuota p)).map (·.1)

/-- SPILL_START (R327). -/
def State.spillStart (s : State) (i : Nat) : State :=
  let r := s.req i
  let t := s.setReq i { r with phase := .spilling, toMove := r.pages.length + r.draftPages.length }
  { t with cfUsed := Tab.put 0 t.cfUsed r.pav (Tab.get 0 t.cfUsed r.pav + s.spillCost i) }

/-- Pages of a pool that spills under way will free. -/
def State.comingFree (s : State) (p : Nat) (draft : Bool) : Nat :=
  s.reqs.foldl (fun (n : Nat) e =>
    if e.2.pav = p ∧ e.2.phase = .spilling then n + (if draft then e.2.draftPages else e.2.pages).countP (·.isSome) else n) 0

/-- PAGE_RECLAIM's second part: a paused request is spilled if what is coming free does not suffice for n target and m draft pages
(R325). -/
def State.spillFor (s : State) (p n m : Nat) : State :=
  if n ≤ (s.freePages p false).length + s.comingFree p false ∧
      (m = 0 ∨ m ≤ (s.freePages p true).length + s.comingFree p true) then s
  else match s.spillable p with
    | [] => s
    | i :: _ => s.spillStart i

/-- The next page of a spill: its j, whether it is a draft page, the page. -/
def Req.nextSpill (r : Req) : Option (Nat × Bool × Nat) :=
  match (List.range r.pages.length).findSome? fun j => (r.pages[j]?).join.map fun g => (j, false, g) with
  | some x => some x
  | none => (List.range r.draftPages.length).findSome? fun j => (r.draftPages[j]?).join.map fun g => (j, true, g)

/-- The expiry tick of a spill that completes now (R329). -/
def State.expiryTick (s : State) (p : Nat) : Option Nat :=
  if s.rd R.ttlU p = 0 then none else some (roundUp (s.time + s.rd R.ttlU p * 65536) 65536)

/-- A spill has no page left to write (R329). -/
def State.spillDone (s : State) (i : Nat) : State :=
  let r := s.req i
  match r.nextSpill with
  | some _ => s
  | none => s.setReq i { r with phase := .spilled, toMove := 0, expiry := s.expiryTick r.pav }

/-- SPILL_PAGE_WRITE: the next page is in the cold frame, or its write failed (R327, R329, R334), or it meets POISON
(R563); in the Gatehouse's error state every write fails (R519). -/
def execSpillPageWrite (req : Nat) (okw : Bool) (evs : List (Nat × MemEvent)) (s0 : State) : Res :=
  let s := s0.hbmEvents evs
  let r := s.req req
  match (if r.phase = .spilling then r.nextSpill else none) with
  | none => ok s0
  | some (j, draft, g) =>
    let n := s.poolPageBytes r.pav draft
    if s.spanWaits (s.pageAddr g) n then ok s0 else
    let cs := s.coldFits n
    if s.poisoned (s.pageAddr g) n then
      let t := s.setReq req { r with phase := .paused, toMove := 0 }
      let t : State := { t with cfUsed := Tab.put 0 t.cfUsed r.pav (Tab.get 0 t.cfUsed r.pav - s.spillCost req) }
      ok (t.failReq req Code.kvLost)
    else if okw && !s.gate.errorState && !cs.isEmpty then
      let a := s.pickD cs
      let t := s.tickFree.moveOut a (Mem.read s.mem (s.pageAddr g) n)
      let t := t.releasePage g
      let e : SpPage := {
        j := j
        draft := draft
        coldAt := a
        size := n
        key := if draft then none else r.keys[j]?
        swapMade := (s.page g).swapMade }
      let q : Req := if draft then { r with draftPages := r.draftPages.set j none } else { r with pages := r.pages.set j none }
      ok (State.spillDone ((t.setReq req { q with spill := r.spill ++ [e], toMove := r.toMove - 1 }).writePt req) req)
    else
      let left := s.spillCost req
      let t := s.setReq req { r with phase := .paused, toMove := 0 }
      let t : State := { t with cfUsed := Tab.put 0 t.cfUsed r.pav (Tab.get 0 t.cfUsed r.pav - left) }
      ok (t.raise { cls := .corrected, event := Code.cfmWriteFail, pav := some r.pav, unit := 5, d0 := r.id })

/-! ### Page-ins (R268, R328, R332) -/

/-- A copy in the cold frame is freed. -/
def State.dropCopy (s : State) (i : Nat) (e : SpPage) : State :=
  let r := s.req i
  let t := s.setReq i { r with spill := r.spill.filter (· != e), toMove := r.toMove - 1 }
  { t with cfUsed := Tab.put 0 t.cfUsed r.pav (Tab.get 0 t.cfUsed r.pav - e.size / 4096) }

/-- Matches a spilled request's keys against the index in ascending j (R328). -/
def State.matchSpill (s : State) (i : Nat) : List SpPage → State
  | [] => s
  | e :: t =>
    match e.key.bind (s.indexed (s.req i).pav) with
    | none => s
    | some g =>
      let u := s.takePage g
      let u := u.setReq i { u.req i with pages := (u.req i).pages.set e.j (some g) }
      ((u.dropCopy i e).writePt i).matchSpill i t

/-- Some of a request's pages are in the cold frame and it waits for them: its spill is complete, or a write of it failed
(R327, R334; log 38). -/
def Req.needsPageIn (r : Req) : Bool := r.phase == .spilled || (r.phase == .paused && !r.spill.isEmpty)

/-- PAGE_IN_START: the TTL is cancelled and matched pages are taken (R328, R329). -/
def State.pageInStart (s : State) (i : Nat) : State :=
  let r := s.req i
  let t := s.setReq i { r with phase := .pagingIn, expiry := none, toMove := r.spill.length }
  t.matchSpill i (sortBy (fun a b => a.j < b.j) (r.spill.filter fun e => !e.draft))

/-- A page-in starts if the pages it reads back, and those of the coming step, can be had; they are reserved (R268, R326,
R328). -/
def State.pageInTry (s : State) (i len : Nat) : Bool × State :=
  let u := s.pageInStart i
  let q := u.req i
  let n := q.spill.countP fun e => !e.draft
  let m := q.spill.countP fun e => e.draft
  let n' := n + q.missing len
  let m' := m + q.draftMissing len (s.drafting q.pav)
  let v := u.evictFor q.pav i n' (u.evictable q.pav)
  if v.roomFor q.pav i n' m' then (true, v.setReq i { v.req i with reserved := q.reserved + n })
  else
    let w := s.evictFor q.pav i n' (s.evictable q.pav)
    (false, w.spillFor q.pav (n' + w.reservedBut q.pav i) (if m' = 0 then 0 else m' + w.reservedBut q.pav i))

/-- Reads one spilled page into a fresh PRIVATE page (R328). -/
def State.readBack (s : State) (i : Nat) (e : SpPage) : State :=
  let r := s.req i
  let (g, t) := s.allocPage r.pav e.j e.draft
  let t := (t.coldOpen e.coldAt e.size).homeWrite (s.pageAddr g) (Mem.read s.mem e.coldAt e.size)
  let t := t.setPage g { t.page g with swapMade := e.swapMade }
  let q : Req := if e.draft then { r with draftPages := r.draftPages.set e.j (some g) }
    else { r with pages := r.pages.set e.j (some g), reserved := r.reserved - 1 }
  ((t.setReq i q).dropCopy i e).writePt i

end Sys2Proof.Machine
end

