-- ==== Sys2Proof/Machine/Manifest.lean ====
section
/-! DEFINITION. Manifests, Merkle roots, the placement of shards, and the leaves of a shard (R366 to R372, R384). -/
namespace Sys2Proof.Machine
open Sys2Proof

/-! ### The manifest (R366, R367) -/

namespace Man
def count (b : List Byte) : Nat := fld b 12 4
def layers (b : List Byte) : Nat := fld b 16 2
def gen (b : List Byte) : Nat := fld b 8 4
def keySlot (b : List Byte) : Nat := fld b 7 1
/-- The 96 bytes of a shard entry. -/
def entry (b : List Byte) (i : Nat) : List Byte := sub b (128 + 96 * i) 96
def id (b : List Byte) (i : Nat) : Nat := fld (entry b i) 0 4
def first (b : List Byte) (i : Nat) : Nat := fld (entry b i) 4 1
def last (b : List Byte) (i : Nat) : Nat := fld (entry b i) 5 1
def role (b : List Byte) (i : Nat) : Nat := fld (entry b i) 6 1
def place (b : List Byte) (i : Nat) : Nat := fld (entry b i) 7 1
def size (b : List Byte) (i : Nat) : Nat := fld (entry b i) 8 8
def root (b : List Byte) (i : Nat) : BitVec 384 := digestOf (entry b i) 32
/-- Leaves of a shard (R368). -/
def leaves (b : List Byte) (i : Nat) : Nat := cdiv (size b i) 65536
/-- Bytes of a leaf (R368). -/
def leafLen (b : List Byte) (i k : Nat) : Nat := min 65536 (size b i - k * 65536)
/-- The swap unit of a shard (R384). -/
def unitOf (b : List Byte) (i : Nat) : Nat :=
  if role b i = 0 then first b i else if role b i = 1 then 0 else layers b - 1
/-- The units, ascending. -/
def units (b : List Byte) : List Nat := (List.range (count b)).foldl (fun l i => setIns (unitOf b i) l) []
/-- The shards of a unit, in entry order. -/
def inUnit (b : List Byte) (u : Nat) : List Nat := (List.range (count b)).filter fun i => unitOf b i == u
def unitSize (b : List Byte) (u : Nat) : Nat := ((inUnit b u).map (size b)).sum

/-- A shard entry's fields lie in their ranges (R366). -/
def entryGood (b : List Byte) (i : Nat) : Bool :=
  let e := entry b i
  (role b i == 1 || role b i == 2 || (role b i == 0 && first b i ≤ last b i && last b i < layers b))
    && place b i < 3 && 1 ≤ size b i && size b i ≤ 268435456 && fld e 16 8 % 65536 == 0 && zeros e 24 8 && zeros e 80 16

/-- No two SHARD_IDs are equal. -/
def idsApart (b : List Byte) : Bool := ((List.range (count b)).map (id b)).eraseDups.length == count b

/-- Every check of R366 and R367 but the signature and its key. -/
def fieldsGood (b : List Byte) (model : Nat) : Bool :=
  fld b 0 4 == 0x4E414D57 && fld b 4 2 == 1 && fld b 6 1 == model && keySlot b < 8 && 1 ≤ gen b
    && 1 ≤ count b && count b ≤ 16384 && 1 ≤ layers b && layers b ≤ 256 && zeros b 18 6 && zeros b 32 96
    && b.length == 224 + 96 * count b && (List.range (count b)).all (entryGood b) && idsApart b
    && fld b 24 8 == ((List.range (count b)).map (size b)).sum

/-- Entry i of two manifests has one shape (R383). -/
def sameShape (a b : List Byte) (i : Nat) : Bool :=
  id a i == id b i && role a i == role b i && place a i == place b i && size a i == size b i
    && (role a i != 0 || (first a i == first b i && last a i == last b i))

/-- Two manifests have one shape (R383). -/
def shape (a b : List Byte) : Bool :=
  count a == count b && layers a == layers b && (List.range (count a)).all (sameShape a b)
end Man

/-- The signature of a manifest verifies under its key slot (R366, R367, R496); nothing verifies in the Gatehouse's error
state (R519). -/
def State.manifestSigned (s : State) (b : List Byte) : Bool :=
  let n := b.length - 96
  Config.ecdsaVerify (sub (Tab.get [] s.nvm.weightKeys (Man.keySlot b)) 32 96) (Config.sha384 (b.take n)) (b.drop n)

/-- The Gatehouse accepts a manifest (R367). -/
def State.manifestGood (s : State) (p m : Nat) (b : List Byte) : Bool :=
  !s.gate.errorState && Man.fieldsGood b m && (s.rd R.keyMask p).testBit (Man.keySlot b) && s.manifestSigned b

/-! ### Merkle roots (R368) -/

/-- The bytes of a digest in the standard's order. -/
def digestBytes (v : BitVec 384) : List Byte := (bvBytes 48 v).reverse

/-- The hash of a leaf. -/
def leafHash (id i : Nat) (d : List Byte) : BitVec 384 := Config.sha384 ([0x00] ++ leBytes 4 id ++ leBytes 4 i ++ d)

/-- One level of the tree; an odd node is promoted. -/
def merkleLevel : List (BitVec 384) → List (BitVec 384)
  | a :: b :: t => Config.sha384 ([0x01] ++ digestBytes a ++ digestBytes b) :: merkleLevel t
  | l => l

/-- The root of a list of leaf hashes, in at most `fuel` levels. -/
def merkle : Nat → List (BitVec 384) → BitVec 384
  | 0, l => l.headD 0
  | fuel + 1, l => if l.length ≤ 1 then l.headD 0 else merkle fuel (merkleLevel l)

/-- The root built from a leaf table (R368). -/
def rootOf (hashes : List (BitVec 384)) : BitVec 384 := merkle 13 hashes

/-- The leaf hashes of a shard's bytes (R368). -/
def shardLeaves (id n : Nat) (d : List Byte) : List (BitVec 384) :=
  (List.range n).map fun i => leafHash id i ((d.drop (i * 65536)).take 65536)

/-! ### Placement (R369, R370) -/

/-- Bytes of a shard's leaf table, rounded as the HBM region counts it (R369, R370). -/
def tableBytes (b : List Byte) (i : Nat) : Nat := roundUp (48 * Man.leaves b i) 64

/-- What the other models of a pavilion hold: HBM ranges when `cold` is false, cold-frame ranges otherwise. -/
def State.heldBy (s : State) (p m : Nat) (cold : Bool) : List (Nat × Nat) :=
  (s.modelsOf p).flatMap fun x =>
    let g := s.wgt (p * 16 + x.id)
    if x.id = m ∨ g.good = false then []
    else (List.range (Man.count g.manifest)).flatMap fun i =>
      let h := g.shard i
      if cold then (if h.cold then [(h.addr, roundUp (Man.size g.manifest i) 4096)] else [])
      else (if h.cold then [] else [(h.addr, roundUp (Man.size g.manifest i) 64)]) ++ [(h.tableAt, tableBytes g.manifest i)]

/-- The first address from a on at which n bytes miss every range held, trying past each range once. -/
def bump (held : List (Nat × Nat)) (n : Nat) : Nat → Nat → Nat
  | 0, a => a
  | k + 1, a => match held.find? (fun e => meets a n e.1 e.2) with
    | none => a
    | some e => bump held n k (e.1 + e.2)

/-- The allocator of a region: the next address, the end, and what others hold there. -/
structure Space where
  next : Nat
  stop : Nat
  held : List (Nat × Nat)

/-- n bytes from the next address on; none if they do not fit. -/
def Space.take (r : Space) (n : Nat) : Option (Nat × Space) :=
  let a := bump r.held n (r.held.length + 1) r.next
  if a + n ≤ r.stop then some (a, { r with next := a + n }) else none

/-- A shard and its table in HBM (R370). -/
def placeHbm (b : List Byte) (i : Nat) (h : Space) : Option (Shard × Space) :=
  match h.take (roundUp (Man.size b i) 64) with
  | none => none
  | some (a, h) => match h.take (tableBytes b i) with
    | none => none
    | some (t, h) => some ({ addr := a, tableAt := t }, h)

/-- A shard in the cold frame, its table in HBM (R370). -/
def placeCold (b : List Byte) (i : Nat) (h c : Space) : Option (Shard × Space × Space) :=
  match c.take (roundUp (Man.size b i) 4096), h.take (tableBytes b i) with
  | some (a, c), some (t, h) => some ({ cold := true, addr := a, tableAt := t }, h, c)
  | _, _ => none

/-- Places the shards of a list in order (R370); none if one does not fit. -/
def placeAll (b : List Byte) : List Nat → Space → Space → Tab Shard → Option (Tab Shard)
  | [], _, _, t => some t
  | i :: l, h, c, t =>
    let hbm := if Man.place b i = 2 then none else placeHbm b i h
    match hbm with
    | some (x, h) => placeAll b l h c (Tab.put {} t i x)
    | none =>
      if Man.place b i = 0 then none
      else match placeCold b i h c with
        | some (x, h, c) => placeAll b l h c (Tab.put {} t i x)
        | none => none

/-- SHARD_PLACEMENT (R370): three passes over the manifest. -/
def State.placement (s : State) (p m : Nat) (b : List Byte) : Option (Tab Shard) :=
  let pass (k : Nat) : List Nat := (List.range (Man.count b)).filter fun i => Man.place b i == k
  placeAll b (pass 0 ++ pass 1 ++ pass 2)
    { next := s.rd R.hbmBase p, stop := s.rd R.hbmBase p + s.rd R.hbmSize p, held := s.heldBy p m false }
    { next := roundUp (s.rd R.cfBase p) 4096
      stop := min (s.rd R.cfBase p + s.rd R.cfSize p) (coldBase + s.capacity)
      held := s.heldBy p m true } []

/-! ### The leaves of a shard in place -/

/-- The manifest that a shard's place now holds: the new one's where its unit has been copied (R386). -/
def State.manifestAt (s : State) (p m i : Nat) : List Byte :=
  let g := s.wgt (p * 16 + m)
  match (s.pav p).swap with
  | some w => if w.model = m ∧ w.copied.contains (Man.unitOf g.manifest i) = true then w.manifest else g.manifest
  | none => g.manifest

/-- The address of a leaf. -/
def Shard.leafAt (h : Shard) (k : Nat) : Nat := h.addr + k * 65536

/-- Writes bytes at a shard's place: HBM lines whole, cold-frame pages by the page mover (R371, R372). -/
def State.writeShard (s : State) (h : Shard) (a : Nat) (bs : List Byte) : State :=
  if h.cold then s.moveOut a bs else s.homeWrite a (sub bs 0 (roundUp bs.length 64))

/-- Writes a leaf table (R369). -/
def State.writeTable (s : State) (h : Shard) (hashes : List (BitVec 384)) : State :=
  let bs := hashes.flatMap digestBytes
  s.homeWrite h.tableAt (sub bs 0 (roundUp bs.length 64))

/-- The hash of a leaf as it stands; none if it reads POISON. -/
def State.leafNow (s : State) (h : Shard) (b : List Byte) (i k : Nat) : Option (BitVec 384) :=
  let n := Man.leafLen b i k
  if s.poisoned (h.leafAt k) n then none else some (leafHash (Man.id b i) k (Mem.read s.mem (h.leafAt k) n))

/-- The entry of a leaf in the table as it stands; none if it reads POISON. -/
def State.tableNow (s : State) (h : Shard) (k : Nat) : Option (BitVec 384) :=
  if s.poisoned (h.tableAt + 48 * k) 48 then none else some (digestOf (Mem.read s.mem (h.tableAt + 48 * k) 48) 0)

/-- The root built from values that may be missing matches. -/
def rootIs (l : List (Option (BitVec 384))) (root : BitVec 384) : Bool :=
  l.all Option.isSome && rootOf (l.filterMap fun x => x) == root

/-- A pavilion's steps wait for a restoration (R391). -/
def State.restoring (s : State) (p : Nat) : Bool := s.scrub.restores.any fun r => r.pav == p

/-! ### Flash (R375) -/

/-- What a byte of flash reads that nothing has programmed: an erased one (log 3). -/
def erased : Byte := 0xFF

/-- Reads a byte of flash. -/
def Flash.rd (m : List Host.Cell) (a : Nat) : Byte := Tab.get erased m a

/-- Writes bytes of flash from an address upward. -/
def Flash.put (m : List Host.Cell) (a : Nat) (bs : List Byte) : List Host.Cell :=
  (bs.foldl (fun (x : Nat × List Host.Cell) b => (x.1 + 1, Tab.put erased x.2 x.1 b)) (a, m)).2

/-! ### The broadcast (R375 to R379) -/

/-- The manifest of a model that the root broadcasts: that of its swap once it is accepted, else the one it loads by (log 56). -/
def State.rootManifest (s : State) (p m : Nat) : List Byte :=
  let g := s.wgt (p * 16 + m)
  let mine := if g.good then g.manifest else []
  match (s.pav p).swap with
  | some w => if w.model = m ∧ w.back = false ∧ w.manifest.isEmpty = false then w.manifest else mine
  | none => mine

/-- What a model's broadcast sends, in order (R377, R378). -/
def partsOf (b : List Byte) (p m : Nat) : List BcastPart :=
  if b.isEmpty then []
  else .manifest p m :: (List.range (Man.count b)).flatMap fun i =>
    [.entry p m i, .table p m i] ++ (List.range (Man.leaves b i)).map (BcastPart.leaf p m i) ++ [.marker p m i]

/-- What the root's broadcast sends: each model of each pavilion in turn (R377; log 56). -/
def State.bcastParts (s : State) : List BcastPart :=
  (List.range 8).flatMap fun p => (s.modelsOf p).flatMap fun m => partsOf (s.rootManifest p m.id) p m.id

/-- The bytes of a leaf in the root's flash (R366, R375). -/
def State.flashLeaf (s : State) (b : List Byte) (i k : Nat) : List Byte :=
  (List.range (Man.leafLen b i k)).map fun j => Flash.rd s.flash (fld (Man.entry b i) 16 8 + 65536 * k + j)

/-- The broadcast runs from now on: the root has everything to send, a receiver takes what comes (R376). -/
def State.bcastRun (s : State) : State :=
  { s with bcast := { s.bcast with st := .running, left := if s.rd R.wgtRoot = 1 then s.bcastParts else [] } }

/-- The root sends one part (R377, R378). -/
def State.sendPart (s : State) (x : BcastPart) : State :=
  let tree := s.rd R.wgtTree
  match x with
  | .manifest p m => s.emit (.broadcast tree (.manifest p m (s.rootManifest p m)))
  | .entry p m i => s.emit (.broadcast tree (.entry p m i (Man.entry (s.rootManifest p m) i)))
  | .table p m i =>
    let b := s.rootManifest p m
    s.emit (.broadcast tree (.leafTable p m i ((List.range (Man.leaves b i)).map fun k =>
      leafHash (Man.id b i) k (s.flashLeaf b i k))))
  | .leaf p m i k => s.emit (.broadcast tree (.leaf p m i k (s.flashLeaf (s.rootManifest p m) i k)))
  | .marker p m i => s.emit (.shardEnd tree p m i)

/-- The root sends the next part of its broadcast; with the last one the broadcast ends (R91, R377; log 5, log 56). -/
def State.bcastSend (s : State) : State :=
  if s.bcast.st = .running ∧ s.rd R.wgtRoot = 1 then
    match s.bcast.left with
    | x :: l => State.sendPart { s with bcast := { s.bcast with left := l } } x
    | [] => { s with bcast := { s.bcast with st := .idle } }
  else s

/-- A receiver asks the root, by unicast, for what it misses: the manifests it has not had, and the leaves of the shards that it
loads or stages and has not verified (R379). -/
def State.requestMissing (s : State) : State :=
  (List.range 8).foldl (fun (t : State) p => (s.modelsOf p).foldl (fun (u : State) m =>
    let g := s.wgt (p * 16 + m.id)
    let ask (v : State) (b : List Byte) (i : Nat) (h : Shard) : State :=
      if h.verified then v
      else v.emit (.repairRequest p m.id (Man.id b i) ((List.range (Man.leaves b i)).filter fun k => !h.got.contains k))
    let u :=
      if (s.pav p).st = .loading ∧ g.tried = false then u.emit (.manifestRequest p m.id)
      else if g.good then (List.range (Man.count g.manifest)).foldl (fun v i => ask v g.manifest i (g.shard i)) u
      else u
    match (s.pav p).swap with
    | some w =>
      let b := if w.back then g.manifest else w.manifest
      if w.model ≠ m.id then u
      else if w.stage = .reading then u.emit (.manifestRequest p m.id)
      else if w.stage = .staging then (Man.inUnit b w.unit).foldl (fun v i => ask v b i (Tab.get {} w.staged i)) u
      else u
    | none => u) t) s

/-- The leaves that a repair request asks for are sent again by unicast (R378). -/
def State.resend (s : State) (dest p m shard : Nat) (ks : List Nat) : State :=
  let b := s.rootManifest p m
  match (List.range (Man.count b)).find? fun i => Man.id b i == shard with
  | some i => (ks.filter fun k => decide (k < Man.leaves b i)).foldl (fun (u : State) k =>
      u.emit (.unicastItem dest (.leaf p m i k (s.flashLeaf b i k)))) s
  | none => s

end Sys2Proof.Machine
end

