-- ==== Sys2Proof/Machine/Rv.lean ====
section
/-! DEFINITION. The RV32IMC and Zicsr instructions of a plot controller that no command stands for (R98, R99; their meanings by
the RISC-V specifications, log 15). -/
namespace Sys2Proof.Machine
open Sys2Proof

/-- What the controller does with the instruction at its pc. -/
inductive RvRes where
  /-- It executes, and these are the registers after it. -/
  | next (c : Cpu)
  /-- It raises an exception: the cause and mtval. -/
  | trap (cause : Nat) (tval : Word32)
  /-- A command stands for it, and the plot executes it when the command comes (log 16). -/
  | wait
  deriving DecidableEq, Repr

namespace Rv

/-! ### Encodings -/

/-- A word of the R-type layout. -/
def r (f7 rs2 rs1 f3 rd op : Nat) : Word32 :=
  BitVec.ofNat 32 (f7 * 2 ^ 25 + rs2 * 2 ^ 20 + rs1 * 2 ^ 15 + f3 * 2 ^ 12 + rd * 2 ^ 7 + op)

/-- A word of the I-type layout; the immediate is taken modulo 2¹². -/
def i (imm rs1 f3 rd op : Nat) : Word32 := r (imm / 32 % 128) (imm % 32) rs1 f3 rd op

/-- A word of the S-type layout. -/
def s (imm rs2 rs1 f3 op : Nat) : Word32 := r (imm / 32 % 128) rs2 rs1 f3 (imm % 32) op

/-- A word of the B-type layout. -/
def b (imm rs2 rs1 f3 : Nat) : Word32 :=
  r (imm / 4096 % 2 * 64 + imm / 32 % 64) rs2 rs1 f3 (imm / 2 % 16 * 2 + imm / 2048 % 2) 0x63

/-- A JAL. -/
def j (imm rd : Nat) : Word32 :=
  BitVec.ofNat 32 (imm / 2 ^ 20 % 2 * 2 ^ 31 + imm / 2 % 1024 * 2 ^ 21 + imm / 2048 % 2 * 2 ^ 20 + imm / 4096 % 256 * 2 ^ 12 +
    rd * 2 ^ 7 + 0x6F)

/-- The immediate of an I-type word. -/
def immI (w : Word32) : Word32 := BitVec.ofInt 32 (sext 12 (bits w 20 12))

/-- The immediate of a B-type word. -/
def immB (w : Word32) : Word32 :=
  BitVec.ofInt 32 (sext 13 (bits w 31 1 * 4096 + bits w 7 1 * 2048 + bits w 25 6 * 32 + bits w 8 4 * 2))

/-- The immediate of a J-type word. -/
def immJ (w : Word32) : Word32 :=
  BitVec.ofInt 32 (sext 21 (bits w 31 1 * 2 ^ 20 + bits w 12 8 * 4096 + bits w 20 1 * 2048 + bits w 21 10 * 2))

/-- The immediate of a U-type word. -/
def immU (w : Word32) : Word32 := w &&& 0xFFFFF000

/-! ### The C extension -/

/-- A value of n bits, sign-extended and taken modulo 2³². -/
def sx (n v : Nat) : Nat := (BitVec.ofInt 32 (sext n v) : Word32).toNat

/-- The offset of C.J and C.JAL. -/
def offJ (h : BitVec 16) : Nat :=
  sx 12 (bits h 12 1 * 2048 + bits h 11 1 * 16 + bits h 9 2 * 256 + bits h 8 1 * 1024 + bits h 7 1 * 64 + bits h 6 1 * 128 +
    bits h 3 3 * 2 + bits h 2 1 * 32)

/-- The offset of C.BEQZ and C.BNEZ. -/
def offB (h : BitVec 16) : Nat :=
  sx 9 (bits h 12 1 * 256 + bits h 10 2 * 8 + bits h 5 2 * 64 + bits h 3 2 * 2 + bits h 2 1 * 32)

/-- The offset of C.LW and C.SW. -/
def offW (h : BitVec 16) : Nat := bits h 10 3 * 8 + bits h 6 1 * 4 + bits h 5 1 * 64

/-- The arithmetic on two registers of quadrant 1. -/
def expandArith (h : BitVec 16) : Option Word32 :=
  let d := 8 + bits h 7 3
  let t := 8 + bits h 2 3
  match bits h 10 2, bits h 12 1 with
  | 0, 0 => some (i (bits h 2 5) d 5 d 0x13)
  | 1, 0 => some (i (1024 + bits h 2 5) d 5 d 0x13)
  | 2, n => some (i (sx 6 (32 * n + bits h 2 5)) d 7 d 0x13)
  | 3, 0 =>
    match bits h 5 2 with
    | 0 => some (r 32 t d 0 d 0x33)
    | 1 => some (r 0 t d 4 d 0x33)
    | 2 => some (r 0 t d 6 d 0x33)
    | _ => some (r 0 t d 7 d 0x33)
  | _, _ => none

/-- The jumps, moves and additions of quadrant 2. -/
def expandJump (h : BitVec 16) : Option Word32 :=
  let d := bits h 7 5
  let t := bits h 2 5
  match bits h 12 1, t with
  | 0, 0 => if d = 0 then none else some (i 0 d 0 0 0x67)
  | 0, _ => some (r 0 t 0 0 d 0x33)
  | _, 0 => some (if d = 0 then 0x00100073 else i 0 d 0 1 0x67)
  | _, _ => some (r 0 t d 0 d 0x33)

/-- The 32-bit word that a compressed instruction of RV32C expands to. -/
def expand (h : BitVec 16) : Option Word32 :=
  let d := bits h 7 5
  let imm := sx 6 (32 * bits h 12 1 + bits h 2 5)
  match bits h 0 2, bits h 13 3 with
  | 0, 0 =>
    let u := bits h 11 2 * 16 + bits h 7 4 * 64 + bits h 6 1 * 4 + bits h 5 1 * 8
    if u = 0 then none else some (i u 2 0 (8 + bits h 2 3) 0x13)
  | 0, 2 => some (i (offW h) (8 + bits h 7 3) 2 (8 + bits h 2 3) 0x03)
  | 0, 6 => some (s (offW h) (8 + bits h 2 3) (8 + bits h 7 3) 2 0x23)
  | 1, 0 => some (i imm d 0 d 0x13)
  | 1, 1 => some (j (offJ h) 1)
  | 1, 2 => some (i imm 0 0 d 0x13)
  | 1, 3 =>
    if imm = 0 then none
    else if d = 2 then
      some (i (sx 10 (bits h 12 1 * 512 + bits h 6 1 * 16 + bits h 5 1 * 64 + bits h 3 2 * 128 + bits h 2 1 * 32)) 2 0 2 0x13)
    else some (BitVec.ofNat 32 (imm * 2 ^ 12 + d * 2 ^ 7 + 0x37))
  | 1, 4 => expandArith h
  | 1, 5 => some (j (offJ h) 0)
  | 1, 6 => some (b (offB h) 0 (8 + bits h 7 3) 0)
  | 1, 7 => some (b (offB h) 0 (8 + bits h 7 3) 1)
  | 2, 0 => if bits h 12 1 = 1 then none else some (i (bits h 2 5) d 1 d 0x13)
  | 2, 2 => if d = 0 then none else some (i (bits h 12 1 * 32 + bits h 4 3 * 4 + bits h 2 2 * 64) 2 2 d 0x03)
  | 2, 4 => expandJump h
  | 2, 6 => some (s (bits h 9 4 * 4 + bits h 7 2 * 64) (bits h 2 5) 2 2 0x23)
  | _, _ => none

/-! ### Arithmetic -/

/-- The operations of OP and OP-IMM; `alt` is bit 30. -/
def alu (f3 : Nat) (alt : Bool) (a b : Word32) : Word32 :=
  let sh := b.toNat % 32
  match f3 with
  | 0 => if alt then a - b else a + b
  | 1 => a <<< sh
  | 2 => if a.slt b then 1 else 0
  | 3 => if a.toNat < b.toNat then 1 else 0
  | 4 => a ^^^ b
  | 5 => if alt then a.sshiftRight sh else a >>> sh
  | 6 => a ||| b
  | _ => a &&& b

/-- The operations of the M extension. -/
def muldiv (f3 : Nat) (a b : Word32) : Word32 :=
  match f3 with
  | 0 => a * b
  | 1 => BitVec.ofInt 32 (a.toInt * b.toInt / 2 ^ 32)
  | 2 => BitVec.ofInt 32 (a.toInt * (b.toNat : Int) / 2 ^ 32)
  | 3 => BitVec.ofNat 32 (a.toNat * b.toNat / 2 ^ 32)
  | 4 => if b = 0 then BitVec.allOnes 32 else BitVec.ofInt 32 (a.toInt.tdiv b.toInt)
  | 5 => if b = 0 then BitVec.allOnes 32 else BitVec.ofNat 32 (a.toNat / b.toNat)
  | 6 => if b = 0 then a else BitVec.ofInt 32 (a.toInt.tmod b.toInt)
  | _ => if b = 0 then a else BitVec.ofNat 32 (a.toNat % b.toNat)

/-- A branch is taken; none for a reserved encoding. -/
def taken (f3 : Nat) (a b : Word32) : Option Bool :=
  match f3 with
  | 0 => some (a == b)
  | 1 => some (a != b)
  | 4 => some (a.slt b)
  | 5 => some (!a.slt b)
  | 6 => some (decide (a.toNat < b.toNat))
  | 7 => some (!decide (a.toNat < b.toNat))
  | _ => none

/-- The funct7 of an OP or a shifting OP-IMM word names an operation. -/
def f7Ok (f3 f7 : Nat) : Bool := f7 == 0 || (f7 == 32 && (f3 == 0 || f3 == 5))

/-! ### CSRs -/

/-- A write of a CSR leaves this value: the bits that the register has (R99, R118, R211, log 15). -/
def csrStore (c : Cpu) (n : Nat) (v : Word32) : Cpu :=
  match n with
  | 0x300 => { c with mstatus := (c.mstatus &&& ~~~(0x88 : Word32)) ||| (v &&& 0x88) }
  | 0x304 => { c with mie := v &&& 0x888 }
  | 0x305 => { c with mtvec := v &&& 0xFFFFFFFD }
  | 0x340 => { c with mscratch := v }
  | 0x341 => { c with mepc := v &&& 0xFFFFFFFE }
  | 0x342 => { c with mcause := v }
  | 0x343 => { c with mtval := v }
  | 0x7C3 => { c with aarg := v }
  | 0x7C4 => { c with acmp := v }
  | _ => c

/-- The CSRs that a command of the table writes: tcnt_arm, dwin0 and dwin1. -/
def csrCommand (n : Nat) : Bool := n == 0x7C0 || n == 0x7C1 || n == 0x7C2

/-- The new value that a CSR instruction writes; none if it writes nothing. -/
def csrNew (w old x : Word32) : Option Word32 :=
  match In.funct3 w % 4 with
  | 1 => some x
  | 2 => if In.rs1 w = 0 then none else some (old ||| x)
  | _ => if In.rs1 w = 0 then none else some (old &&& ~~~x)

/-- The source of a CSR instruction: a register or the immediate in its place. -/
def csrSrc (c : Cpu) (w : Word32) : Word32 :=
  if 4 ≤ In.funct3 w then BitVec.ofNat 32 (In.rs1 w) else c.reg (In.rs1 w)

/-! ### One instruction -/

/-- An instruction of `len` bytes writes rd and goes on at the next. -/
def done (c : Cpu) (len rd : Nat) (v : Word32) : RvRes :=
  let d := c.setReg rd v
  .next { d with pc := c.pc + BitVec.ofNat 32 len }

/-- A CSR instruction; `csr` gives what each CSR reads, none where there is none. -/
def csrInsn (c : Cpu) (csr : Nat → Option Word32) (w : Word32) (len : Nat) : RvRes :=
  let n := bits w 20 12
  match csr n with
  | none => .trap 2 w
  | some old =>
    match csrNew w old (csrSrc c w) with
    | none => done c len (In.rd w) old
    | some v =>
      if csrCommand n then .wait
      else if n / 1024 = 3 then .trap 2 w
      else done (csrStore c n v) len (In.rd w) old

/-- A SYSTEM instruction. -/
def system (c : Cpu) (csr : Nat → Option Word32) (w : Word32) (len : Nat) : RvRes :=
  if In.funct3 w % 4 ≠ 0 then csrInsn c csr w len
  else if w = 0x00000073 then .trap 11 0
  else if w = 0x00100073 then .trap 3 c.pc
  else if w = 0x30200073 then .wait
  else if w = 0x10500073 then done c len 0 0
  else .trap 2 w

/-- A jump to an address, with the return address in rd. -/
def jump (c : Cpu) (len rd : Nat) (to' : Word32) : RvRes :=
  let d := c.setReg rd (c.pc + BitVec.ofNat 32 len)
  .next { d with pc := to' &&& 0xFFFFFFFE }

/-- A 32-bit instruction word, or the one a compressed instruction expands to, of `len` bytes; `raw` is the encoding as it
stands in plot store. Loads, stores, fences, MRET and the custom instructions have commands of their own. -/
def insn (c : Cpu) (csr : Nat → Option Word32) (w : Word32) (len : Nat) (raw : Word32) : RvRes :=
  let a := c.reg (In.rs1 w)
  let b := c.reg (In.rs2 w)
  let f3 := In.funct3 w
  let f7 := bits w 25 7
  match In.opcode w with
  | 0x03 => if f3 ≤ 2 ∨ f3 = 4 ∨ f3 = 5 then .wait else .trap 2 raw
  | 0x0B => if f3 ≤ 4 then .wait else .trap 2 raw
  | 0x0F => if f3 ≤ 1 then .wait else .trap 2 raw
  | 0x13 =>
    if f3 = 1 ∧ f7 ≠ 0 ∨ f3 = 5 ∧ f7Ok 5 f7 = false then .trap 2 raw
    else done c len (In.rd w) (alu f3 (f3 == 5 && f7 == 32) a (immI w))
  | 0x17 => done c len (In.rd w) (c.pc + immU w)
  | 0x23 => if f3 ≤ 2 then .wait else .trap 2 raw
  | 0x2B => if f3 ≤ 2 then .wait else .trap 2 raw
  | 0x33 =>
    if f7 = 1 then done c len (In.rd w) (muldiv f3 a b)
    else if f7Ok f3 f7 then done c len (In.rd w) (alu f3 (f7 == 32) a b)
    else .trap 2 raw
  | 0x37 => done c len (In.rd w) (immU w)
  | 0x63 =>
    match taken f3 a b with
    | none => .trap 2 raw
    | some t => .next { c with pc := c.pc + (if t then immB w else BitVec.ofNat 32 len) }
  | 0x67 => if f3 = 0 then jump c len (In.rd w) (a + immI w) else .trap 2 raw
  | 0x6F => jump c len (In.rd w) (c.pc + immJ w)
  | 0x73 => system c csr w len
  | _ => .trap 2 raw

end Rv

/-- The halfword of plot store at an address. -/
def Plot.half (q : Plot) (a : Nat) : BitVec 16 := BitVec.ofNat 16 (leNat (q.bytes a 2))

/-- The length in bytes of the instruction at the pc: 2 for a compressed one (R98). -/
def Plot.insnLen (q : Plot) : Nat := if (Rv.expand (q.half q.cpu.pc.toNat)).isSome then 2 else 4

/-- rd of the instruction at the pc if it is an access of a CSR; 0 otherwise. -/
def Plot.csrRd (q : Plot) (n : Nat) : Nat :=
  let w : Word32 := BitVec.ofNat 32 (leNat (q.bytes q.cpu.pc.toNat 4))
  if In.opcode w = 0x73 ∧ In.funct3 w % 4 ≠ 0 ∧ bits w 20 12 = n then In.rd w else 0

/-- The controller at its pc. A fetch beyond plot store, or of an uncorrectable word, is an instruction access fault (R210, R213;
log 16); a halfword of zeros is one that nothing has written, and the plot waits there (log 16). -/
def Plot.runInsn (q : Plot) (csr : Nat → Option Word32) : RvRes :=
  let a := q.cpu.pc.toNat
  if storeSize < a + 2 ∨ q.badIn a 2 = true then .trap 1 q.cpu.pc
  else
    let h := q.half a
    if h = 0 then .wait
    else if bits h 0 2 < 3 then
      match Rv.expand h with
      | none => .trap 2 (h.setWidth 32)
      | some w => Rv.insn q.cpu csr w 2 (h.setWidth 32)
    else if storeSize < a + 4 ∨ q.badIn (a + 2) 2 = true then .trap 1 (q.cpu.pc + 2)
    else
      let w : Word32 := BitVec.ofNat 32 (leNat (q.bytes a 4))
      Rv.insn q.cpu csr w 4 w

end Sys2Proof.Machine
end

