-- ==== Sys2Proof/Machine/Plot.lean ====
section
/-! DEFINITION. The plot controller: exceptions, custom instructions, loads, stores, atomics, messages, and the PLOT window
(R98 to R130, R211 to R214, R231 to R243, R620 to R622). A stalled instruction leaves the state unchanged (log 4). -/
namespace Sys2Proof.Machine
open Sys2Proof

/-! ### Traps -/

/-- The plot executes instructions: it runs and waits on no halo exchange. -/
def Plot.active (q : Plot) : Bool := q.run && !q.halted && q.halo.isNone

/-- The registers of a controller that takes a trap (R129; mstatus and mtvec by the RISC-V privileged layout, log 15). -/
def Cpu.trap (c : Cpu) (cause : Nat) (tval : Word32) : Cpu :=
  { c with
    mepc := c.pc
    mcause := BitVec.ofNat 32 cause
    mtval := tval
    pc := c.mtvec &&& 0xFFFFFFFC
    mstatus := (c.mstatus &&& ~~~(0x1888 : Word32)) ||| 0x1800 |||
      (if c.mstatus.getLsbD 3 then 0x80 else 0) }

/-- The registers after MRET (RISC-V, log 15). -/
def Cpu.mret (c : Cpu) : Cpu :=
  { c with
    pc := c.mepc
    mstatus := (c.mstatus &&& ~~~(0x88 : Word32)) ||| 0x80 ||| (if c.mstatus.getLsbD 7 then 0x8 else 0) }

/-- An exception of a plot: a trap to mtvec, or while IN_TRAP is 1 the plot halts (R129, R130). -/
def State.trap (s : State) (p cause : Nat) (tval : Word32) : State :=
  let q := s.plot p
  if q.inTrap then
    (s.setPlot p { q with halted := true, run := false }).raise
      { cls := .pavilion, event := Code.plotDoubleTrap, pav := s.plotPav p, unit := 1, inst := p, d0 := p }
  else s.setPlot p { q with inTrap := true, cpu := q.cpu.trap cause tval }

/-- An instruction of n bytes completes with a value for rd; the pc moves to the next instruction (log 16). -/
def State.insnDone (s : State) (p rd : Nat) (v : Word32) (n : Nat := 4) : State :=
  let q := s.plot p
  let c := q.cpu.setReg rd v
  s.setPlot p { q with cpu := { c with pc := c.pc + BitVec.ofNat 32 n } }

/-- An instruction without a result completes. -/
def State.insnNext (s : State) (p : Nat) (n : Nat := 4) : State := s.insnDone p 0 0 n

/-- n bytes from an address lie in plot store, aligned (R102). -/
def inStore (a n al : Nat) : Bool := a % al == 0 && decide (a + n ≤ storeSize)

/-- A custom instruction of a plot that executes: decoded, or an illegal instruction (R100). -/
def State.custom (s : State) (p : Nat) (w : Word32) (op f3 : Nat) (hasFlag rs2x0 : Bool)
    (body : Word32 → Word32 → State) : Res :=
  let q := s.plot p
  if !q.active then ok s
  else if !In.legal w op f3 hasFlag rs2x0 then ok (s.trap p 2 w)
  else ok (body (q.cpu.reg (In.rs1 w)) (q.cpu.reg (In.rs2 w)))

/-! ### Messages (R101 to R104, R114 to R116) -/

def flitsOf (l : List Message) : Nat := l.foldl (fun n m => n + m.flits) 0

/-- A destination lies in the sender's pavilion, or is the sender (R103). -/
def State.destOk (s : State) (p dest : Nat) : Bool :=
  dest == p || (match s.plotPav p with
    | none => false
    | some v => if dest < 2048 then s.plotPav dest == some v else dest - 2048 == v)

/-- MSG_SEND (R103, R239). DESIGN CHOICE (log 67): where several exceptions of R129 apply to one instruction, PLOT_BAD_OPERAND comes
first, then PLOT_BAD_ADDR, then the instruction's own; and where only the end of a span lies outside plot store, mtval holds the
span's start, as R102 calls both the offending address. -/
def execMsgSend (plot : Nat) (insn : Word32) (s : State) : Res :=
  s.custom plot insn 0x0B 0 true false fun a w =>
    let dest := bits w 0 12
    let n := bits w 12 4 + 1
    let q := s.plot plot
    if bits w 24 8 != 0 || decide (0x807 < dest) then s.trap plot 26 w
    else if !inStore a.toNat (64 * n) 64 then s.trap plot 25 a
    else if !s.destOk plot dest then s.trap plot 24 w
    else if 64 < flitsOf q.outq + n then s
    else
      let rel := In.flag insn
      let m : Message :=
        { src := plot, dst := dest, flits := n, tag := BitVec.ofNat 8 (bits w 16 8), rel := rel
          payload := q.bytes a.toNat (64 * n)
          stores := if rel then q.sb.length else 0
          ops := if rel then q.queue.length else 0 }
      (s.setPlot plot { q with outq := q.outq ++ [m] }).insnDone plot (In.rd insn) 0

/-- The receive header of a message (R101). -/
def Message.header (m : Message) : Word32 :=
  BitVec.ofNat 32 (m.src + (m.flits - 1) * 2 ^ 12 + m.tag.toNat * 2 ^ 16 + (if m.rel then 2 ^ 24 else 0))

/-- A message matches a filter word (R101, R104). -/
def Message.matches (w : Word32) (m : Message) : Bool := w.getLsbD 8 || m.tag == w.setWidth 8

/-- Removes the first element that satisfies a test. -/
def dropFirst {α : Type} (f : α → Bool) : List α → List α
  | [] => []
  | x :: xs => if f x then xs else x :: dropFirst f xs

/-- MSG_RECV (R104, R240). -/
def execMsgRecv (plot : Nat) (insn : Word32) (s : State) : Res :=
  s.custom plot insn 0x0B 1 true false fun a w =>
    let q := s.plot plot
    if bits w 9 23 != 0 then s.trap plot 26 w
    else if !inStore a.toNat 64 64 then s.trap plot 25 a
    else match q.inq.find? (Message.matches w) with
      | none => if In.flag insn then s.insnDone plot (In.rd insn) 0xFFFFFFFF else s
      | some m =>
        if !inStore a.toNat (64 * m.flits) 64 then s.trap plot 25 a
        else
          let q := { q with inq := dropFirst (Message.matches w) q.inq }
          (s.setPlot plot (q.write a.toNat m.payload)).insnDone plot (In.rd insn) m.header

/-- Messages at the front of the outbound buffer that nothing holds back (R239). -/
def Message.ready (m : Message) : Bool := m.stores == 0 && m.ops == 0

/-- The messages of a plot that may be injected enter the Trellis, in order (R114, R239). -/
def State.inject (s : State) (p : Nat) : State :=
  let q := s.plot p
  { s.setPlot p { q with outq := q.outq.dropWhile Message.ready } with
    trellis := s.trellis ++ q.outq.takeWhile Message.ready }

/-- A message is from one source to one destination. -/
def Message.between (src dst : Nat) (m : Message) : Bool := m.src == src && m.dst == dst

/-- The inbound buffer of a destination has room for a message; a steward's mailbox always has (R116, log 17). -/
def State.inRoom (s : State) (m : Message) : Bool :=
  decide (2048 ≤ m.dst) || decide (flitsOf (s.plot m.dst).inq + m.flits ≤ 64)

/-- A message enters its destination. -/
def State.arrive (s : State) (m : Message) : State :=
  if m.dst < 2048 then
    let q := s.plot m.dst
    s.setPlot m.dst { q with inq := q.inq ++ [m] }
  else { s with mbox := s.mbox ++ [(m.dst - 2048, m.payload)] }

/-- MESSAGE_DELIVERY: the oldest message of a source to a destination enters its inbound buffer (R104, R114, R116). -/
def execMessageDelivery (src dst : Nat) (s : State) : Res :=
  let t := if src < 2048 then s.inject src else s
  match t.trellis.find? (Message.between src dst) with
  | none => ok t
  | some m =>
    if t.inRoom m then ok (State.arrive { t with trellis := dropFirst (Message.between src dst) t.trellis } m)
    else ok t

/-- TRL_MSG_STALL: a message has waited too long at a full inbound buffer; it stays in the Trellis (R116). -/
def execTrlMsgStall (src dst : Nat) (s : State) : Res :=
  let t := if src < 2048 then s.inject src else s
  match t.trellis.find? (Message.between src dst) with
  | none => ok s
  | some m =>
    onlyIf (!t.inRoom m) s
      ((t.inc R.msgStalls).raise
        { cls := .pavilion, event := Code.trlMsgStall, pav := t.plotPav dst, unit := 1, inst := dst })

/-! ### Tile counters (R117 to R120) -/

/-- Draws from a counter of a terrace (R117). -/
def State.draw (s : State) (t c : Nat) : Option Nat × State :=
  let v := s.tc t c
  if v.1 = v.2 then (none, s) else (some v.1, s.setTc t c ((v.1 + 1) % 2 ^ 24, v.2))

/-- TCNT_NEXT (R117). -/
def execTcntNext (plot : Nat) (insn : Word32) (s : State) : Res :=
  s.custom plot insn 0x0B 2 false true fun a _ =>
    if bits a 4 28 != 0 then s.trap plot 26 a
    else
      let (v, t) := s.draw (terrOf plot) (bits a 0 4)
      t.insnDone plot (In.rd insn) (match v with | none => 0xFFFFFFFF | some n => BitVec.ofNat 32 n)

/-- TCNT_ARM: a write of the CSR tcnt_arm (R118); what rd of the instruction takes is free (log 15). -/
def execTcntArm (plot : Nat) (v : Word32) (s : State) : Res :=
  if !(s.plot plot).active then ok s
  else if bits v 28 4 != 0 then ok (s.trap plot 26 v)
  else ok (((s.setTc (terrOf plot) (bits v 24 4) (0, bits v 0 24)).insnDone plot ((s.plot plot).csrRd 0x7C0)
    (s.free64.setWidth 32)).tickFree)

/-! ### Sequencer queue (R109, R110) -/

/-- SEQ_PUSH (R109). DESIGN CHOICE (log 67): the macro-op in execution counts among the 256 that the queue holds until it ends. -/
def execSeqPush (plot : Nat) (insn : Word32) (s : State) : Res :=
  s.custom plot insn 0x0B 3 false true fun a _ =>
    let q := s.plot plot
    if !inStore a.toNat 32 32 then s.trap plot 25 a
    else if 256 ≤ q.queue.length then s
    else
      let o : QOp :=
        { ticket := q.nextTicket, img := BitVec.ofNat 256 (leNat (q.bytes a.toNat 32)), stores := q.sb.length }
      (s.setPlot plot { q with queue := q.queue ++ [o], nextTicket := q.nextTicket + 1 }).insnDone plot
        (In.rd insn) q.nextTicket

/-- Every macro-op up to a ticket has finished (R110). -/
def Plot.finished (q : Plot) (ticket : Word32) : Bool :=
  q.queue.all fun o => decide (2 ^ 31 ≤ (ticket - o.ticket).toNat)

/-- SEQ_WAIT (R110, R204). -/
def execSeqWait (plot : Nat) (insn : Word32) (s : State) : Res :=
  s.custom plot insn 0x0B 4 false true fun a _ =>
    let q := s.plot plot
    let d := (q.nextTicket - a).toNat
    if d = 0 ∨ 2 ^ 31 < d then s.trap plot 27 a
    else if !q.finished a then s
    else match q.fault with
      | none => s.insnDone plot (In.rd insn) 0
      | some c =>
        (s.setPlot plot { q with fault := none, discarding := false }).insnDone plot (In.rd insn) (BitVec.ofNat 32 c)

/-! ### Halo exchange (R106 to R108) -/

/-- The logical neighbour in a direction; none beyond the grid (R101, R107). -/
def neighbour (p dir : Nat) : Option Nat :=
  match dir with
  | 0 => if p < 64 then none else some (p - 64)
  | 1 => if p % 64 = 63 then none else some (p + 1)
  | 2 => if p / 64 = 31 then none else some (p + 64)
  | _ => if p % 64 = 0 then none else some (p - 1)

/-- The halo word of a begun exchange. -/
def Halo.word (h : Halo) : Word32 := BitVec.ofNat 32 (h.dir + h.len / 16 % 256 * 4 + h.recv / 16 * 4096)

/-- A plot has begun an exchange in a direction. -/
def State.haloOf (s : State) (p dir : Nat) : Option Halo := (s.plot p).halo.filter fun h => h.dir == dir

/-- A plot's exchange is over: bytes are written at RADDR and rd takes their count. -/
def State.haloEnd (s : State) (p : Nat) (h : Halo) (bs : List Byte) : State :=
  let q := { s.plot p with halo := none }
  (s.setPlot p (q.write h.recv bs)).insnDone p h.rd (BitVec.ofNat 32 bs.length)

/-- A plot's exchange traps. -/
def State.haloTrap (s : State) (p cause : Nat) (h : Halo) : State :=
  (s.setPlot p { s.plot p with halo := none }).trap p cause h.word

/-- HALO_XCH (R106, R107). -/
def execHaloXch (plot : Nat) (insn : Word32) (s : State) : Res :=
  s.custom plot insn 0x2B 0 false false fun a w =>
    let len := if bits w 2 8 = 0 then 4096 else 16 * bits w 2 8
    let h : Halo := { dir := bits w 0 2, len := len, send := a.toNat, recv := 16 * bits w 12 20, rd := In.rd insn }
    if bits w 10 2 != 0 then s.trap plot 26 w
    else if !inStore h.send len 16 then s.trap plot 25 a
    else if !inStore h.recv len 16 then s.trap plot 25 (BitVec.ofNat 32 h.recv)
    else match neighbour plot h.dir with
      | none => s.insnDone plot h.rd 0
      | some n =>
        match s.haloOf n ((h.dir + 2) % 4) with
        | none => s.setPlot plot { s.plot plot with halo := some h }
        | some g =>
          if g.len = len then
            (s.haloEnd plot h ((s.plot n).bytes g.send len)).haloEnd n g ((s.plot plot).bytes h.send len)
          else (s.haloTrap plot 28 h).haloTrap n 28 g

/-! ### Generators (R111, R112, R154) -/

/-- The banks a macro-op draws from (R155, R156, R161). -/
def Mo.banks (m : BitVec 256) : List Nat :=
  (if Mo.mode m = 5 then [(Mo.hedgeA m).1, (Mo.hedgeB m).1] else []) ++ (if Mo.rnd m = 1 then [Mo.srBank m] else [])

/-- A macro-op in execution draws from a bank (R112). -/
def Plot.drawing (q : Plot) (bank : Nat) : Bool :=
  match q.running with
  | none => false
  | some r => (Mo.banks r.op.img).contains bank

/-- A seeded bank (R111). -/
def Gen.seed (key c0 : Word64) : Gen :=
  { key := key, d := c0, c := (List.range 16).foldl (fun t i => Tab.put 0 t i c0) [] }

/-- GEN_SEED (R111, R112). -/
def execGenSeed (plot : Nat) (insn : Word32) (s : State) : Res :=
  s.custom plot insn 0x2B 1 false false fun a w =>
    let q := s.plot plot
    if bits w 2 30 != 0 then s.trap plot 26 w
    else if !inStore a.toNat 16 16 then s.trap plot 25 a
    else if q.drawing (bits w 0 2) then s
    else
      let g := Gen.seed (BitVec.ofNat 64 (leNat (q.bytes a.toNat 8))) (BitVec.ofNat 64 (leNat (q.bytes (a.toNat + 8) 8)))
      (s.setPlot plot (q.setGen (bits w 0 2) g)).insnDone plot (In.rd insn) 0

/-- GEN_READ (R111, R112, R154). -/
def execGenRead (plot : Nat) (insn : Word32) (s : State) : Res :=
  s.custom plot insn 0x2B 2 false true fun a _ =>
    let q := s.plot plot
    let g := q.gen (bits a 0 2)
    let ph := bits a 2 4
    if bits a 6 26 != 0 then s.trap plot 26 a
    else if q.drawing (bits a 0 2) then s
    else
      (s.setPlot plot (q.setGen (bits a 0 2) { g with c := Tab.put 0 g.c ph (g.phase ph + 1) })).insnDone plot
        (In.rd insn) (phaseWord g.key (g.phase ph) ph)

/-! ### System instructions -/

/-- MRET (R130). -/
def execMret (plot : Nat) (s : State) : Res :=
  let q := s.plot plot
  onlyIf q.active s (s.setPlot plot { q with inTrap := false, cpu := q.cpu.mret })

/-- The sets of a FENCE order loads after stores (R237). -/
def fenceOrders (w : Word32) : Bool := (w.getLsbD 24 || w.getLsbD 26) && (w.getLsbD 21 || w.getLsbD 23)

/-- FENCE: later loads wait for the stores now in the buffer, or nothing beyond R236 is ordered (R237). -/
def execFence (plot : Nat) (insn : Word32) (s : State) : Res :=
  let q := s.plot plot
  onlyIf (q.active && In.opcode insn == 0x0F && In.funct3 insn == 0) s
    ((if fenceOrders insn then s.setPlot plot { q with fence := q.sb.length } else s).insnNext plot)

/-- FENCE_I is not implemented: an illegal instruction (R213). -/
def execFenceI (plot : Nat) (s : State) : Res := onlyIf (s.plot plot).active s (s.trap plot 2 0x0000100F)

/-- DWIN_WRITE: dwin0, or dwin1 if `which` (R212); rd of the instruction takes the old value. -/
def execDwinWrite (plot : Nat) (which : Bool) (v : Word32) (s : State) : Res :=
  let q := s.plot plot
  if !q.active then ok s
  else if (if which then bits v 21 11 else bits v 18 14) != 0 then ok (s.trap plot 26 v)
  else
    let c := if which then { q.cpu with dwin1 := v } else { q.cpu with dwin0 := v }
    let n := if which then 0x7C2 else 0x7C1
    ok ((s.setPlot plot { q with cpu := c }).insnDone plot (q.csrRd n) (if which then q.cpu.dwin1 else q.cpu.dwin0))

/-! ### Loads and stores (R211, R214, R236) -/

/-- The device address of a data-window address (R211). -/
def Cpu.window (c : Cpu) (a : Nat) : Nat := c.dwin0.toNat % 2 ^ 18 * 2 ^ 30 + (a - 0x80000000)

/-- A loaded value, sign-extended if the load is signed. -/
def loadValue (bs : List Byte) (signed : Bool) : Word32 :=
  if signed then BitVec.ofInt 32 (sext (8 * bs.length) (leNat bs)) else BitVec.ofNat 32 (leNat bs)

/-- Every byte of a load lies in older buffered stores (R236). -/
def Plot.forwards (q : Plot) (a n : Nat) : Bool :=
  (List.range n).all fun i => q.sb.any fun w => w.addr ≤ a + i && a + i < w.addr + w.bytes.length

/-- A poisoned line is consumed by a plot: the access fault, then POISON_CONSUMED (R243). -/
def State.consumed (s : State) (p : Nat) (addr : Word32) (dev : Nat) : State :=
  (s.trap p 5 addr).raise
    { cls := .pavilion, event := Code.poisonConsumed, pav := s.plotPav p, unit := 1, inst := p, d0 := dev }

/-- Some of n bytes of plot store lie in the allocation of a macro-op that has not completed (R170, R229). -/
def Plot.inUse (q : Plot) (a n : Nat) : Bool :=
  q.queue.any fun o => decide (a < Mo.storeBase o.img + Mo.alloc o.img) && decide (Mo.storeBase o.img < a + n)

/-- A load from plot store, after the stores that a FENCE makes it wait for (R226, R237, R569). From the allocation of a macro-op
that has not completed it returns a free value (R229, log 67). -/
def State.loadStore (s : State) (p rd : Nat) (addr : Word32) (width : Nat) (signed : Bool) (ev : MemEvent) : State :=
  if s.storesWait p (s.plot p).fence then s else
  let t := (s.drain p (s.plot p).fence).storeEvent p addr.toNat ev
  let q := t.plot p
  if q.inUse addr.toNat width then
    (t.insnDone p rd (loadValue (leBytes width t.free64.toNat) signed) q.insnLen).tickFree
  else if q.badIn addr.toNat width then
    ((t.setPlot p (q.wantRow (addr.toNat / 64))).trap p 5 addr).raise
      { cls := .pavilion, event := Code.sramUe, pav := t.plotPav p, unit := 1, inst := p, d0 := selfBase + addr.toNat }
  else t.insnDone p rd (loadValue (q.bytes addr.toNat width) signed) q.insnLen

/-- A load through the data window (R211, R214, R236, R243). -/
def State.loadWindow (s : State) (p rd : Nat) (addr : Word32) (width : Nat) (signed : Bool) (ev : MemEvent) : State :=
  let a := (s.plot p).cpu.window addr.toNat
  let f := (s.plot p).fence
  if addr.toNat % width ≠ 0 then s.trap p 4 addr
  else if s.region a != .hbm && s.region a != .cold then s.trap p 5 addr
  else if s.storesWait p f || s.homeWaits a then s
  else
    let t := (s.drain p f).coldOpen a width
    if (t.plot p).forwards a width then t.insnDone p rd (loadValue ((List.range width).map fun i => t.seen p (a + i)) signed) (s.plot p).insnLen
    else
      let u := if t.region a = .hbm then t.hbmEvent a ev else t
      if u.poisoned a width then u.consumed p addr a
      else u.insnDone p rd (loadValue ((List.range width).map fun i => u.seen p (a + i)) signed) (s.plot p).insnLen

/-! ### Atomics (R231 to R234) -/

/-- The new value of an atomic (R231). -/
def atomicNew (code : Nat) (old arg cmp : Word32) : Word32 :=
  match code with
  | 0 => old + arg
  | 1 => arg
  | 2 => if old = cmp then arg else old
  | 3 => old &&& arg
  | 4 => old ||| arg
  | 5 => old ^^^ arg
  | 6 => if old.toNat < arg.toNat then arg else old
  | _ => if arg.toNat < old.toNat then arg else old

/-- The device address of an atomic-window address (R231). -/
def Cpu.atomicAddr (c : Cpu) (a : Nat) : Nat := c.dwin1.toNat % 2 ^ 21 * 2 ^ 27 + a % 2 ^ 27

/-- An atomic of an operation code: the older stores are performed first, and the store buffer is then empty (R216, R231 to R234,
R243). -/
def State.atomic (s : State) (code p rd : Nat) (addr : Word32) (width : Nat) (ev : MemEvent) : State :=
  let c := (s.plot p).cpu
  let a := c.atomicAddr addr.toNat
  if width ≠ 4 then s.trap p 5 addr
  else if addr.toNat % 4 ≠ 0 then s.trap p 4 addr
  else if s.region a = .cold then s.trap p 7 addr
  else if s.region a ≠ .hbm then s.trap p 5 addr
  else if s.storesWait p 8 || s.homeWaits a then s
  else
    let t := (s.drainAll p).hbmEvent a ev
    if t.poisoned a 4 then t.consumed p addr a
    else
      let old : Word32 := BitVec.ofNat 32 (leNat (Mem.read t.mem a 4))
      (t.homeWrite a (leBytes 4 (atomicNew code old c.aarg c.acmp).toNat)).insnDone p rd old (s.plot p).insnLen

/-- The operation code of an atomic-window address (R231). -/
def atomicCode (addr : Word32) : Nat := bits addr 27 3

/-- An atomic command: a load from the atomic window whose address names the operation (R231). -/
def State.atomicCmd (s : State) (code p rd : Nat) (addr : Word32) (width : Nat) (ev : MemEvent) : Res :=
  onlyIf ((s.plot p).active && bits addr 30 2 == 3 && atomicCode addr == code) s (s.atomic code p rd addr width ev)

/-- ATOMIC_ADD (R231). -/
def execAtomicAdd (plot rd : Nat) (addr : Word32) (width : Nat) (ev : MemEvent) (s : State) : Res :=
  s.atomicCmd 0 plot rd addr width ev
/-- ATOMIC_SWAP (R231). -/
def execAtomicSwap (plot rd : Nat) (addr : Word32) (width : Nat) (ev : MemEvent) (s : State) : Res :=
  s.atomicCmd 1 plot rd addr width ev
/-- ATOMIC_CAS (R231). -/
def execAtomicCas (plot rd : Nat) (addr : Word32) (width : Nat) (ev : MemEvent) (s : State) : Res :=
  s.atomicCmd 2 plot rd addr width ev
/-- ATOMIC_AND (R231). -/
def execAtomicAnd (plot rd : Nat) (addr : Word32) (width : Nat) (ev : MemEvent) (s : State) : Res :=
  s.atomicCmd 3 plot rd addr width ev
/-- ATOMIC_OR (R231). -/
def execAtomicOr (plot rd : Nat) (addr : Word32) (width : Nat) (ev : MemEvent) (s : State) : Res :=
  s.atomicCmd 4 plot rd addr width ev
/-- ATOMIC_XOR (R231). -/
def execAtomicXor (plot rd : Nat) (addr : Word32) (width : Nat) (ev : MemEvent) (s : State) : Res :=
  s.atomicCmd 5 plot rd addr width ev
/-- ATOMIC_MAXU (R231). -/
def execAtomicMaxu (plot rd : Nat) (addr : Word32) (width : Nat) (ev : MemEvent) (s : State) : Res :=
  s.atomicCmd 6 plot rd addr width ev
/-- ATOMIC_MINU (R231). -/
def execAtomicMinu (plot rd : Nat) (addr : Word32) (width : Nat) (ev : MemEvent) (s : State) : Res :=
  s.atomicCmd 7 plot rd addr width ev

/-- CONTROLLER_LOAD (R210, R211, R214, R234, R236). -/
def execControllerLoad (plot rd : Nat) (addr : Word32) (width : Nat) (signed : Bool) (ev : MemEvent) (s : State) : Res :=
  let a := addr.toNat
  if !(s.plot plot).active then ok s
  else if a + width ≤ storeSize then ok (s.loadStore plot rd addr width signed ev)
  else if a < 0x80000000 then ok (s.trap plot 5 addr)
  else if a < 0xC0000000 then ok (s.loadWindow plot rd addr width signed ev)
  else ok (s.atomic (atomicCode addr) plot rd addr width ev)

/-- A store to device memory enters the store buffer; it waits while the buffer is full (R236). -/
def State.storeWindow (s : State) (p : Nat) (addr : Word32) (bs : List Byte) : State :=
  let q := s.plot p
  let a := q.cpu.window addr.toNat
  if addr.toNat % bs.length ≠ 0 then s.trap p 6 addr
  else if s.region a ≠ .hbm then s.trap p 7 addr
  else if 8 ≤ q.sb.length then s
  else (s.setPlot p { q with sb := q.sb ++ [{ addr := a, bytes := bs }] }).insnNext p q.insnLen

/-- A store to plot store (R226). In the allocation of a macro-op that has not completed it may be overwritten: what it leaves there
is free (R229, log 67). -/
def State.storeStore (s : State) (p a width : Nat) (v : Word32) : State :=
  let q := s.plot p
  if q.inUse a width then ((s.setPlot p (q.write a (leBytes width s.free64.toNat))).insnNext p q.insnLen).tickFree
  else (s.setPlot p (q.write a (leBytes width v.toNat))).insnNext p q.insnLen

/-- CONTROLLER_STORE (R210, R211, R214, R225, R234, R236, R568). -/
def execControllerStore (plot : Nat) (addr : Word32) (width : Nat) (v : Word32) (s : State) : Res :=
  let a := addr.toNat
  let bs := leBytes width v.toNat
  if !(s.plot plot).active then ok s
  else if a + width ≤ storeSize then ok (s.storeStore plot a width v)
  else if a < 0x80000000 then ok (s.trap plot 7 addr)
  else if a < 0xC0000000 then ok (s.storeWindow plot addr bs)
  else ok (s.trap plot 7 addr)

/-- STORE_PERFORM: the oldest buffered store is performed at its home (R219, R236, R244). -/
def execStorePerform (plot : Nat) (ev : MemEvent) (s : State) : Res :=
  match (s.plot plot).sb with
  | [] => ok s
  | w :: _ => if s.homeWaits w.addr then ok s else ok ((s.hbmEvent w.addr ev).performStore plot)

/-! ### The PLOT window (R125 to R128, R620 to R622) -/

/-- The pavilion number a starting plot receives in a2; free where its terrace has none (R126, log 18). -/
def State.startPav (s : State) (p : Nat) : Nat × State :=
  match s.plotPav p with
  | some v => (v, s)
  | none => (s.free64.toNat % 8, s.tickFree)

/-- A plot as it starts (R126). -/
def Plot.started (q : Plot) (p entry pav : Nat) : Plot :=
  let c : Cpu := { ({} : Cpu) with pc := BitVec.ofNat 32 entry, mcause := q.cpu.mcause, mtval := q.cpu.mtval }
  { q with
    run := true, halted := false, inTrap := false
    cpu := ((c.setReg 10 (BitVec.ofNat 32 p)).setReg 11 (BitVec.ofNat 32 (terrOf p))).setReg 12 (BitVec.ofNat 32 pav)
    queue := [], nextTicket := 0, running := none, fault := none, discarding := false
    outq := [], inq := [], halo := none, barrier := none, faultOn := [], injHold := [], fence := 0 }

/-- A plot starts at PLOT_ENTRY. -/
def State.startPlot (s : State) (p : Nat) : State :=
  let (v, t) := s.startPav p
  t.setPlot p ((t.plot p).started p (t.rd R.plotEntry p) v)

/-- PLOT_START: PLOT_CTL.RUN is set (R126); a plot that runs, or that has not yet stopped, is not started again. -/
def execPlotStart (r : Nat) (s : State) : Res :=
  ok (s.own r 3 0x100 .steward fun i t => if (t.plot i).run || (t.plot i).stopping then t else t.startPlot i)

/-- A stopped plot: its inbound buffer is discarded, plot store stays (R127). -/
def Plot.stopped (q : Plot) : Plot := { q with run := false, stopping := false, inq := [], halo := none }

/-- PLOT_STOP: PLOT_CTL.RUN is cleared; the plot stops once its macro-op in execution completes (R127). -/
def execPlotStop (r : Nat) (s : State) : Res :=
  ok (s.own r 3 0x100 .steward fun i t =>
    let q := t.plot i
    if !q.run then t
    else if q.running.isSome then t.setPlot i { q with run := false, stopping := true }
    else t.setPlot i q.stopped)

/-- PLOT_LOAD_GO: the copy starts, unless the plot runs, which counts as a late write (R125, R128). -/
def execPlotLoadGo (r : Nat) (s : State) : Res :=
  ok (s.own r 3 0x118 .steward fun i t =>
    if (t.plot i).run then t.inc R.lateWrites i else t.wr R.loadGo 1 i)

/-- The copy of a plot program: the bytes that lie in plot store; words from poisoned lines are uncorrectable (R125). -/
def State.loadProgram (s : State) (p : Nat) : State :=
  let src := s.rd R.loadSrc p
  let dst := s.rd R.loadDst p
  let n := min (s.rd R.loadLen p) (storeSize - dst)
  let q := (s.plot p).write dst (Mem.read s.mem src n)
  let bad := (List.range ((n + 63) / 64)).filter fun k => s.poisonLine (src / 64 + k)
  s.setPlot p (bad.foldl (fun t k => t.spoil (dst + 64 * k) (min 64 (n - 64 * k))) q)

/-- PLOT_LOAD_COMPLETE: PLOT_LOAD.GO reads 0 (R125). A source that is no readable memory copies nothing (R210). The copy waits for a
granule that changes its home (R219). DESIGN CHOICE (log 67): SRC, DST and LEN count as they stand when the copy ends, and a copy
that ends after RUN has been set writes plot store all the same. -/
def execPlotLoadComplete (plot : Nat) (evs : List (Nat × MemEvent)) (s : State) : Res :=
  let src := s.rd R.loadSrc plot
  let t := (s.accessEvents plot evs).coldOpen src (s.rd R.loadLen plot)
  let ok' := s.region src = .hbm ∨ s.region src = .cold
  onlyIf (s.rd R.loadGo plot == 1 && !s.spanWaits src (s.rd R.loadLen plot)) s
    ((if ok' then t.loadProgram plot else s).wr R.loadGo 0 plot)

/-- The image formed by the staged words and the last one (R621). -/
def Plot.injImage (q : Plot) (v : Word32) : BitVec 256 :=
  BitVec.ofNat 256 ((List.range 7).foldl (fun n i => n + (Tab.get 0 q.injStage i).toNat * 2 ^ (32 * i)) (v.toNat * 2 ^ 224))

/-- PLOT_INJ: the write to the last word injects the image, or sets INJ_FULL (R201, R621). -/
def execPlotInj (r : Nat) (v : Word32) (s : State) : Res :=
  ok (s.own r 3 0x15C .steward fun i t =>
    let q := t.plot i
    if q.inj.length < 16 then t.setPlot i { q with inj := q.inj ++ [q.injImage v] } else t.wr R.injFull 1 i)

/-- The plot-store address after an access of PLOT_MEM_DATA (R622). -/
def State.stepMemAddr (s : State) (p : Nat) : State := 
  s.wr R.memAddr (if s.rd R.memAddr p = 98303 then 0 else s.rd R.memAddr p + 1) p

/-- PLOT_MEM_DATA (R226, R230, R622). -/
def execPlotMemData (r : Nat) (write : Bool) (v : Word32) (s : State) : Res :=
  match s.target r 3 0x164 .steward with
  | none => ok (if write then s else s.emit (.readData r 0))
  | some i =>
    let t := s.dropLatch r (3 * 65536)
    let a := 4 * t.rd R.memAddr i
    if write then
      ok ((if a < storeSize then t.setPlot i ((t.plot i).write a (leBytes 4 v.toNat)) else t).stepMemAddr i)
    else ok ((t.emit (.readData r (BitVec.ofNat 64 (leNat ((t.plot i).bytes a 4))))).stepMemAddr i)

end Sys2Proof.Machine
end

