-- ==== Sys2Proof/Machine/Sundial.lean ====
section
/-! DEFINITION. The Sundial receiver, device time and time forwarding (R65 to R91, R418 to R420). -/
namespace Sys2Proof.Machine
open Sys2Proof

/-! ### Ticks, frames and the CRC -/

/-- The symbol of a tick of a period and a high time in ns (R65, R66); an invalid tick is an invalid symbol. -/
def tickSym (period high : Nat) : Sym :=
  if period < 980 ∨ 1020 < period then .invalid
  else if 15 * period ≤ 100 * high ∧ 100 * high ≤ 35 * period then .zero
  else if 65 * period ≤ 100 * high ∧ 100 * high ≤ 85 * period then .one
  else .invalid

/-- The bit a symbol carries; none for an invalid one (R65). -/
def Sym.bit : Sym → Option Bool
  | .zero => some false | .one => some true | .invalid => none

/-- The symbol that carries a bit. -/
def Sym.ofBit (b : Bool) : Sym := if b then .one else .zero

/-- Value of bits, most significant first (R68). -/
def bitsNat (l : List Bool) : Nat := l.foldl (fun a b => 2 * a + (if b then 1 else 0)) 0

/-- The n bits of a value, most significant first (R68). -/
def natBits : Nat → Nat → List Bool
  | 0, _ => []
  | n + 1, v => v.testBit n :: natBits n v

/-- One step of `sdl_crc` (R69). -/
def sdlCrcStep (c : BitVec 16) (b : Bool) : BitVec 16 :=
  let fb := c.getLsbD 15 != b
  if fb then (c <<< 1) ^^^ 0x1021 else c <<< 1

/-- `sdl_crc` over bits in the order sent (R69). -/
def sdlCrc (bits : List Bool) : BitVec 16 := bits.foldl sdlCrcStep 0xFFFF

/-- A frame's EPOCH and FLAGS. -/
structure Frame where
  epoch : Nat
  flags : BitVec 16
  deriving DecidableEq, Repr

/-- The bits of 128 ticks, if all are valid (R70). -/
def frameBits (ticks : List Sym) : Option (List Bool) :=
  if ticks.length < 128 then none else (ticks.take 128).reverse.mapM Sym.bit

/-- The good frame the last 128 ticks form, if they do (R68, R70). -/
def goodFrame (ticks : List Sym) : Option Frame :=
  (frameBits ticks).bind fun b =>
    let f : Frame := { epoch := bitsNat ((b.drop 16).take 64), flags := BitVec.ofNat 16 (bitsNat ((b.drop 80).take 16)) }
    if bitsNat (b.take 16) = 0xE5C2
        ∧ BitVec.ofNat 16 (bitsNat (b.drop 112)) = sdlCrc ((b.drop 16).take 96)
        ∧ f.flags.getLsbD 15 = true then some f else none

/-- The 128 ticks of a frame, in the order sent (R68, R420). -/
def frameTicks (epoch : Nat) (flags : BitVec 16) : List Sym :=
  let mid := natBits 64 epoch ++ natBits 16 flags.toNat ++ natBits 16 0
  (natBits 16 0xE5C2 ++ mid ++ natBits 16 (sdlCrc mid).toNat).map Sym.ofBit

/-- HOPS of a frame (R68). -/
def Frame.hops (f : Frame) : Nat := (f.flags.toNat / 512) % 16

/-- STEP_NEXT of a frame (R68). -/
def Frame.stepNext (f : Frame) : Bool := f.flags.getLsbD 13

/-! ### Device time -/

/-- Device time takes a value of its 64-bit count, and the events of its tick are due (R71, R72, R82). -/
def State.setTime (s : State) (t : Nat) : State :=
  { s with time := t % 2 ^ 64, sdl := { s.sdl with cadDone := false, ttlDone := false, agingDone := false, powerDone := false, cancelled := [] } }

/-- The values from a to b, b included, hold a multiple of w (R78). -/
def crosses (a b w : Nat) : Bool := w != 0 && a / w < b / w

/-- A tick from which an interval runs, shifted by the first lock's offset on the 64-bit count (R79). -/
def shiftTick (d : Int) (t : Nat) : Nat := ((Int.ofNat t + d) % 2 ^ 64).toNat

/-- The time of a scheduled event, shifted (R79). -/
def shiftAt (d : Int) (t : Nat) : Nat := (Int.ofNat t + d).toNat

/-- The times a plot keeps, shifted (R79). -/
def Plot.shift (d : Int) (p : Plot) : Plot :=
  { p with resid := p.resid.map (shiftTick d), ce := p.ce.map fun e => (e.1, e.2.map (shiftTick d)) }

/-- The times a queue pair keeps, shifted (R79). -/
def Qp.shift (d : Int) (q : Qp) : Qp :=
  { q with posted := q.posted.map fun e => (e.1, shiftTick d e.2), written := q.written.map (shiftTick d) }

/-- The times a request keeps, shifted (R79). -/
def Req.shift (d : Int) (r : Req) : Req :=
  { r with
    expiry := r.expiry.map (shiftAt d)
    deadline := r.deadline.map (shiftAt d)
    sched := { r.sched with noRow := shiftTick d r.sched.noRow } }

/-- The times a port keeps, shifted (R79). -/
def Port.shift (d : Int) (p : Port) : Port :=
  { p with authTimes := p.authTimes.map (shiftTick d), downAt := shiftTick d p.downAt }

def ErrBank.shift (d : Int) (b : ErrBank) : ErrBank := { b with hipAt := shiftTick d b.hipAt }

/-- At the first lock d is added to the time of every event scheduled before it (R79). -/
def State.shiftEvents (s : State) (d : Int) : State :=
  { s with
    sdl := { s.sdl with scrubSeen := none, fwdDone := none }
    plots := Tab.mapAll {} (fun _ p => p.shift d) s.plots
    qps := Tab.mapAll {} (fun _ q => q.shift d) s.qps
    reqs := Tab.mapAll {} (fun _ r => r.shift d) s.reqs
    pavs := Tab.mapAll {} (fun _ p => { p with since := shiftTick d p.since }) s.pavs
    ports := Tab.mapAll {} (fun _ p => p.shift d) s.ports
    xacts := s.xacts.map fun e => (e.1, { e.2 with sentAt := shiftTick d e.2.sentAt })
    bcast := { s.bcast with start := if s.bcast.st = .idle then 0 else shiftAt d s.bcast.start }
    upd := { s.upd with
      windowEnd := s.upd.windowEnd.map (shiftAt d)
      paused := s.upd.paused.map fun e => (e.1, shiftTick d e.2)
      lastMsg := shiftTick d s.upd.lastMsg }
    pwr := { s.pwr with belowSince := s.pwr.belowSince.map (shiftTick d) }
    errs := { s.errs with
      corrected := s.errs.corrected.shift d, deferred := s.errs.deferred.shift d
      request := s.errs.request.shift d, pavilion := s.errs.pavilion.shift d, device := s.errs.device.shift d } }

/-- Periodic events that a step forward from a to b owes (R78, R574). -/
def State.oweOver (s : State) (a b : Nat) : State :=
  let o := s.sdl.owed
  { s with sdl := { s.sdl with owed := {
      cad := o.cad || crosses a b (s.rd R.cadence)
      ttl := o.ttl || crosses a b 65536
      scrub := o.scrub || crosses a b (s.rd R.scrubInterval)
      aging := o.aging || crosses a b 1000000 } } }

/-- The cadence boundary that the first lock's step forward from a to b owes a device that has boundaries (R79, R82). -/
def State.oweCad (s : State) (a b : Nat) : State :=
  { s with sdl := { s.sdl with owed := { s.sdl.owed with
      cad := s.sdl.owed.cad || (s.serving && crosses a b (s.rd R.cadence)) } } }

/-- The extra tk of a slew forward (R77). -/
def State.paySlew (s : State) : State :=
  State.setTime { s with sdl := { s.sdl with slewOwed := false, slew := s.sdl.slew - 1 } } (s.time + 1)

/-- Device time advances by one tick of its source, faster or slower while a slew runs (R72, R77). An extra tk still owed when
the next tick comes is paid first, and the periodic events of its value are owed. -/
def State.advance (s : State) : State :=
  let s := if s.sdl.slewOwed then (s.oweOver s.time (s.time + 1)).paySlew else s
  if s.sdl.slew = 0 then s.setTime (s.time + 1)
  else if s.sdl.slewPhase + 1 < 1024 then
    State.setTime { s with sdl := { s.sdl with slewPhase := s.sdl.slewPhase + 1 } } (s.time + 1)
  else if 0 < s.sdl.slew then
    State.setTime { s with sdl := { s.sdl with slewPhase := 0, slewOwed := true } } (s.time + 1)
  else { s with sdl := { s.sdl with slewPhase := 0, slew := s.sdl.slew + 1 } }

/-- Any slew in progress ends. -/
def State.stopSlew (s : State) : State :=
  { s with sdl := { s.sdl with slew := 0, slewPhase := 0, slewOwed := false } }

/-- The next frame's tick 0 is at a device time; ticks counted beyond the frame that ended are its own (R70). -/
def State.frameFrom (s : State) (t : Nat) : State :=
  { s with sdl := { s.sdl with pos := s.sdl.pos - 128, frameAt := t } }

/-- A correction by d at a later lock or under R80: a slew (R77) or a step (R78). -/
def State.correct (s : State) (d : Int) : State :=
  if d.natAbs ≤ 64 then { s.stopSlew with sdl := { s.stopSlew.sdl with slew := d } }
  else
    let t := shiftTick d s.time
    let u := if 0 < d then s.stopSlew.oweOver s.time t else s.stopSlew
    ((u.setTime t).frameFrom t).raise (corrErr Code.sundialStep 3 0)

/-- Lock at the edge that ends the second good frame, which is tick 0 of the following one (R71, R74, R77 to R79). That frame's
STEP_NEXT speaks of the next (R80). -/
def State.lock (s : State) (f : Frame) : State :=
  let now := (f.epoch + 128) % 2 ^ 64
  let d : Int := Int.ofNat now - Int.ofNat s.time
  let sd := { s.sdl with st := .locked, everLocked := true, prevEpoch := none, notGood := 0, bad := 0,
                         mism := none, prevStepNext := f.stepNext, accNs := 0, accTk := 0 }
  let t := State.frameFrom { s with sdl := sd } s.time
  if s.sdl.everLocked then t.correct d
  else (((t.shiftEvents d).oweCad s.time now).setTime now).frameFrom now

/-! ### Edges -/

/-- The tk by which an event of the input advances the count (R66, R71). A valid tick counts one. The manual does not say what
bad edges do to the count: each brings it to the nearest whole number of tk elapsed since the last valid tick's edge, so that a
missing edge which then comes late, or an edge too many, counts once (DESIGN CHOICE, log 71). -/
def SdlS.tkOf (sd : SdlS) (z : Sym) (ns : Nat) : Nat :=
  if z = .invalid then (sd.accNs + ns + 500) / 1000 - sd.accTk else 1

/-- A tick closes with a symbol after ns, or an edge is missing: the count of consecutive bad edges, the tick positions, and
while LOCKED device time (R66, R70, R71). -/
def State.symTick (s : State) (y : Sym) (missing : Bool) (ns : Nat) : State :=
  if s.sdl.rxEn = false then s
  else
    let sd := s.sdl
    let z := if missing ∨ sd.refMoved = true then Sym.invalid else y
    let n := sd.tkOf z ns
    let t := { s with sdl := { sd with
      refMoved := missing
      bad := if z = .invalid then sd.bad + 1 else 0
      ticks := (z :: sd.ticks).take 128
      pos := sd.pos + n
      accNs := if z = .invalid then sd.accNs + ns else 0
      accTk := if z = .invalid then sd.accTk + n else 0 } }
    if sd.st = .locked then (List.range n).foldl (fun (u : State) _ => u.advance) t else t

/-- SUNDIAL_EDGE: an edge arrives at the pins with the period and high time (ns) of the tick it closes, or 1.02 µs pass
without one (R66). Edges on the pins count only while they are the source (R85). -/
def execSundialEdge (missing : Bool) (period high : Nat) (s : State) : Res :=
  onlyIf (missing || s.rd R.sdlSrc == 0) s
    (s.symTick (tickSym period high) missing (if missing then 1020 else min period 1020))

/-- One tick with no command waiting: a regenerated Sundial tick, the extra tk of a slew, or a tick of the AON
oscillator (R73, R75, R77, R89, R420; log 5). -/
def State.idle (s : State) : State :=
  if s.dev.st = .dormant then s
  else
    let u : State := { s with sdl := { s.sdl with regen := s.sdl.regen.tail } }
    match s.sdl.regen.head?.join with
    | some y =>
      let t := u.symTick y false 1000
      if s.sdl.st = .locked then t else t.advance
    | none =>
      if s.sdl.slewOwed then u.paySlew
      else if s.sdl.st = .locked then u
      else u.advance

/-- SUNDIAL_RECEIVER_ENABLE (R67). -/
def execSundialReceiverEnable (s : State) : Res :=
  onlyIf (s.dev.st != .dormant) s { s with sdl := { s.sdl with rxEn := true } }

/-! ### Frame ends -/

/-- The receiver searches for SYNC at every tick position: it is not locked and no good frame is waited on (R70). -/
def SdlS.searching (sd : SdlS) : Bool :=
  match sd.st with
  | .search => true | .lost => true | .acquiring => false | .locked => false
  | .holdover => sd.prevEpoch.isNone

/-- HOPS of the last good frame is reported (R618). -/
def State.noteHops (s : State) (f : Frame) : State := s.wr R.sdlHops f.hops

/-- A good frame ends while LOCKED and is compared with the reference time at its tick 0 (R80). The second mismatching frame,
which is applied as a correction, is not counted in MISMATCH as well: the manual does not say whether it is (DESIGN CHOICE,
log 71). -/
def State.goodLocked (s : State) (f : Frame) : State :=
  let sd := s.sdl
  let ref := (Int.ofNat s.time - 128 + sd.slew) % 2 ^ 64
  let d : Int := Int.ofNat ((f.epoch + 128) % 2 ^ 64) - Int.ofNat s.time
  let t := State.frameFrom { s with sdl := { sd with notGood := 0, prevStepNext := f.stepNext, mism := none } } s.time
  if ref = Int.ofNat f.epoch then t
  else if sd.prevStepNext ∨ (sd.mism.map fun e => (e + 128) % 2 ^ 64) = some f.epoch then t.correct d
  else State.inc { t with sdl := { t.sdl with mism := some f.epoch } } R.sdlMismatch

/-- A frame ends that is not good (R74, R88); the next one's tick 0 is at a device time. -/
def State.badFrame (s : State) (next : Nat) : State :=
  let t := State.frameFrom { s with sdl := { s.sdl with prevEpoch := none, mism := none, prevStepNext := false } } next
  match s.sdl.st with
  | .acquiring =>
    if s.sdl.everLocked then State.raise { t with sdl := { t.sdl with st := .lost } } (corrErr Code.sundialLost 3 0)
    else { t with sdl := { t.sdl with st := .search } }
  | .locked => { t with sdl := { t.sdl with notGood := s.sdl.notGood + 1 } }
  | _ => t

/-- A good frame ends while the receiver is not LOCKED (R74). -/
def State.goodUnlocked (s : State) (f : Frame) : State :=
  if s.sdl.prevEpoch = some ((f.epoch + 2 ^ 64 - 128) % 2 ^ 64) then s.lock f
  else
    { s with sdl := { s.sdl with
      pos := 0
      frameAt := s.time
      prevEpoch := some f.epoch
      st := if s.sdl.st = .holdover then .holdover else .acquiring } }

/-- A good frame ends. -/
def State.goodEnd (s : State) (f : Frame) : State :=
  if s.sdl.st = .locked then (s.noteHops f).goodLocked f else (s.noteHops f).goodUnlocked f

/-- SUNDIAL_FRAME_END: the frame that ends is judged and R74 to R80 take effect. An expected frame ends at the edge that closes
its tick 127, or 128 tk of device time after its tick 0 (R70). -/
def execSundialFrameEnd (s : State) : Res :=
  let sd := s.sdl
  let closed := decide (128 ≤ sd.pos)
  let next := if closed then s.time else (sd.frameAt + 128) % 2 ^ 64
  if sd.rxEn = false then ok s
  else if sd.searching then
    match goodFrame sd.ticks with
    | none => ok s
    | some f => ok (s.goodEnd f)
  else if !closed && !s.passed sd.frameAt 128 then ok s
  else if sd.st = .locked ∧ s.rd R.framesAfterLock = 1 then ok (s.frameFrom next)
  else match (goodFrame sd.ticks).filter fun _ => closed with
    | none => ok (s.badFrame next)
    | some f => ok (s.goodEnd f)

/-- SLEW_COMPLETE: the offset is removed, and device time runs at the tick rate again (R77). -/
def execSlewComplete (s : State) : Res :=
  onlyIf (s.sdl.slew == 0) s s.stopSlew

/-! ### Loss -/

/-- HOLDOVER: the third consecutive bad edge, or with CHECK the third frame not good, has ended LOCKED (R74, R88). -/
def execHoldover (s : State) : Res :=
  let sd := s.sdl
  onlyIf (sd.st == .locked && (decide (3 ≤ sd.bad) || (s.rd R.framesAfterLock == 0 && decide (3 ≤ sd.notGood)))) s
    (State.raise { s with sdl := { sd with
      st := .holdover, holdAt := s.time, prevEpoch := none, mism := none, prevStepNext := false, notGood := 0 } }
      (corrErr Code.sundialHoldover 3 0))

/-- What a receiver holds of the shards that it loads or stages and has not verified is discarded (R379). -/
def State.dropUnverified (s : State) : State :=
  let drop (h : Shard) : Shard := if h.verified then h else { h with leaves := [], got := [], rounds := 0 }
  let all (t : Tab Shard) : Tab Shard := Tab.mapAll {} (fun _ h => drop h) t
  { s with
    wgts := Tab.mapAll {} (fun _ g => { g with shards := all g.shards }) s.wgts
    pavs := Tab.mapAll {} (fun _ v => { v with swap := v.swap.map fun w => { w with staged := all w.staged } }) s.pavs }

/-- A broadcast in progress aborts: the root tells its receivers, and a receiver discards the shards not yet verified (R91,
R379). -/
def State.abortBroadcast (s : State) : State :=
  if s.bcast.st = .running then
    let t : State := { s with bcast := { s.bcast with st := .retry, left := [] } }
    if s.rd R.wgtRoot = 1 then t.emit (.broadcast (s.rd R.wgtTree) .aborted) else t.dropUnverified
  else s

/-- SUNDIAL_LOST: 10,000,000 tk have passed in HOLDOVER (R74, R88, R89, R91). -/
def execSundialLost (s : State) : Res :=
  onlyIf (s.sdl.st == .holdover && s.passed s.sdl.holdAt 10000000) s
    (State.raise
      (State.abortBroadcast { s with sdl := { s.sdl with st := .lost, prevEpoch := none } })
      (corrErr Code.sundialLost 3 0))

/-! ### Forwarding -/

/-- The content of a TIME symbol from byte 1 (R403). -/
def timeBody (epoch : Nat) (flags : BitVec 16) (offset : Nat) : List Byte :=
  List.replicate 7 0 ++ leBytes 8 epoch ++ leBytes 2 flags.toNat ++ [0, 0] ++ leBytes 4 offset

/-- FLAGS a device forwards (R68, R86). -/
def State.fwdFlags (s : State) : BitVec 16 :=
  BitVec.ofNat 16 (0x8000 + (if s.sdl.st = .holdover then 0x4000 else 0) + (s.rd R.sdlHops + 1) % 16 * 512)

/-- A port sends a TIME symbol (R418). -/
def State.sendTime (s : State) (epoch offset i : Nat) : State :=
  if (s.rd R.fwdMask).testBit i && (s.port i).linkedUp then s.sendSym i 0x08 (timeBody epoch s.fwdFlags offset) else s

/-- OFFSET of a TIME symbol sent now for a tick 0 that is n tk away, in ps; the part of a tk that has passed is free (R418,
log 1). -/
def State.timeOffset (s : State) (n : Nat) : Nat := n * 1000000 - (if n = 32 then 0 else s.free64.toNat % 1000000)

/-- TIME_FORWARD: one TIME symbol on each port of FWD_MASK for a frame whose tick 0, at a multiple of 128 tk, is 32 to 96 µs away
(R86, R418). -/
def execTimeForward (s : State) : Res :=
  let e := (s.time / 128 + 1) * 128
  let n := e - s.time
  onlyIf (s.sdl.st.valid && s.rd R.sdlHops != 15 && s.sdl.fwdDone != some e && decide (32 ≤ n) && decide (n ≤ 96)) s
    ((List.range 12).foldl (fun t i => t.sendTime (e % 2 ^ 64) (s.timeOffset n) i)
      (State.tickFree { s with sdl := { s.sdl with fwdDone := some e } }))

/-- The port is the selected source of time (R85). -/
def State.timePort (s : State) (i : Nat) : Bool :=
  s.rd R.sdlSrc == 16 + i && (s.port i).linkedUp

/-- The mean of a list of measurements. -/
def meanOf (l : List Int) : Int := l.sum / (max l.length 1 : Nat)

/-- The delay of a port's link, in ps: the mean of the last 8 measurements plus DELAY_ADJ (R419). -/
def State.linkDelay (s : State) (i : Nat) : Int := meanOf (s.port i).delays + (BitVec.ofNat 32 (s.rd R.delayAdj i)).toInt

/-- Ticks placed n tk from now among those already regenerated, whose later ones give way (R420). -/
def placeTicks (l : List (Option Sym)) (n : Nat) (ys : List Sym) : List (Option Sym) :=
  l.take n ++ List.replicate (n - l.length) none ++ ys.map some

/-- TIME: the symbol's frame is regenerated for the receiver, unless its codeword was replayed. Tick 0 lies OFFSET less the link
delay after the codeword's arrival, to the nearest tk (R420; log 5). -/
def execTime (port : Nat) (epoch : Word64) (flags : BitVec 16) (offset : Word32) (replayed : Bool) (s : State) : Res :=
  onlyIf (s.timePort port && !replayed) s
    { s with sdl := { s.sdl with
      regen := placeTicks s.sdl.regen (((offset.toNat : Int) - s.linkDelay port + 500000) / 1000000).toNat (frameTicks epoch.toNat flags)
      tvlLast := some (epoch.toNat, flags)
      tvlMiss := 0 } }

/-- TIME_FRAME_MISSING: the first missing frame is regenerated with EPOCH + 128, a second one is not (R420). -/
def execTimeFrameMissing (port : Nat) (s : State) : Res :=
  if s.timePort port then
    match s.sdl.tvlLast with
    | none => ok s
    | some (e, f) =>
      if s.sdl.tvlMiss = 0 then
        let e' := (e + 128) % 2 ^ 64
        ok { s with sdl := { s.sdl with
          regen := s.sdl.regen ++ (frameTicks e' f).map some, tvlLast := some (e', f), tvlMiss := 1 } }
      else ok { s with sdl := { s.sdl with tvlMiss := s.sdl.tvlMiss + 1 } }
  else ok s

end Sys2Proof.Machine
end

