-- ==== Sys2Proof/Machine/Controller.lean ====
section
/-! DEFINITION. The plot controllers run between commands: one instruction of each plot that executes, on a tick on which no
command waits (R98, R99; log 16). -/
namespace Sys2Proof.Machine
open Sys2Proof

/-- The CSR plotid of a plot (R97, R99); the pavilion field is free where its terrace has none (log 18). -/
def State.plotid (s : State) (p : Nat) : Word32 :=
  BitVec.ofNat 32
    (p % 2048 + terrOf p * 2 ^ 11 + (s.startPav p).1 * 2 ^ 16 + s.siteOf p * 2 ^ 20)

/-- What a CSR reads; none where the controller has no such CSR (R99, R118, R211, log 15). What tcnt_arm and the counters of
cycles and of instructions read is free (log 15). -/
def State.csrRead (s : State) (p n : Nat) : Option Word32 :=
  let c := (s.plot p).cpu
  match n with
  | 0x300 => some c.mstatus
  | 0x301 => some 0x40001104
  | 0x304 => some c.mie
  | 0x305 => some c.mtvec
  | 0x310 => some 0
  | 0x320 => some 0
  | 0x340 => some c.mscratch
  | 0x341 => some c.mepc
  | 0x342 => some c.mcause
  | 0x343 => some c.mtval
  | 0x344 => some 0
  | 0x7C0 => some (s.free64.setWidth 32)
  | 0x7C1 => some c.dwin0
  | 0x7C2 => some c.dwin1
  | 0x7C3 => some c.aarg
  | 0x7C4 => some c.acmp
  | 0xF14 => some (BitVec.ofNat 32 p)
  | 0xFC0 => some (s.plotid p)
  | _ =>
    if n = 0xB00 ∨ n = 0xB02 ∨ n = 0xB80 ∨ n = 0xB82 then some (s.free64.setWidth 32)
    else if 0xB03 ≤ n ∧ n < 0xB20 ∨ 0xB83 ≤ n ∧ n < 0xBA0 ∨ 0x323 ≤ n ∧ n < 0x340 ∨ 0xF11 ≤ n ∧ n ≤ 0xF15 then some 0
    else none

/-- A plot that executes goes on by one instruction, unless a command stands for it (R98, R129, R130). -/
def State.runPlot (s : State) (p : Nat) : State :=
  let q := s.plot p
  if !q.active then s
  else match q.runInsn (s.csrRead p) with
    | .next c => (s.setPlot p { q with cpu := c }).tickFree
    | .trap cause v => s.trap p cause v
    | .wait => s

/-- Every plot goes on by one instruction, in ascending order. -/
def State.runPlots (s : State) : State := (Tab.keys s.plots).foldl State.runPlot s

/-- One tick on which no command waits: device time, then, on a device that serves, the root's broadcast and the plots (log 5). -/
def State.tick (s : State) : State :=
  let t := s.idle
  if t.serving then t.bcastSend.runPlots else t

end Sys2Proof.Machine
end

