-- ==== Sys2Proof/Machine/Image.lean ====
section
/-! DEFINITION. The Icrutin image: its layout, what verification checks, and what applying it sets (R470 to R479, R523, R609). -/
namespace Sys2Proof.Machine
open Sys2Proof

/-! ### Layout (R473) -/

/-- A section-table entry. -/
structure Section where
  typ : Nat
  off : Nat
  size : Nat
  digest : BitVec 384

namespace Img
def keySlot (b : List Byte) : Nat := fld b 6 1
def count (b : List Byte) : Nat := fld b 7 1
def size (b : List Byte) : Nat := fld b 8 4
def sv (b : List Byte) : Nat := fld b 12 4
def pubkey (b : List Byte) : List Byte := sub b 24 96
/-- The 64 bytes of a section-table entry. -/
def entry (b : List Byte) (i : Nat) : List Byte := sub b (256 + 64 * i) 64
/-- The section table. -/
def sections (b : List Byte) : List Section :=
  (List.range (count b)).map fun i =>
    let e := entry b i
    { typ := fld e 0 2, off := fld e 4 4, size := fld e 8 4, digest := digestOf e 16 }
/-- The bytes of the section of a type; empty if there is none. -/
def body (b : List Byte) (typ : Nat) : List Byte :=
  match (sections b).find? fun x => x.typ == typ with
  | some x => sub b x.off x.size
  | none => []
/-- A section cut into entries of n bytes. -/
def entries (b : List Byte) (typ n : Nat) : List (List Byte) :=
  let x := body b typ
  (List.range (x.length / n)).map fun i => sub x (n * i) n
end Img

/-- A section-table entry is legal: its reserved bytes are 0, its offset a multiple of 64, its size at least 1 (R473). -/
def secEntryGood (e : List Byte) : Bool :=
  zeros e 2 2 && zeros e 12 4 && fld e 4 4 % 64 == 0 && 1 ≤ fld e 8 4

/-- The header alone is good (R472, R473). -/
def State.headerGood (s : State) (b : List Byte) : Bool :=
  fld b 0 4 == 0x54524349 && fld b 4 2 == 1 && Img.keySlot b < 4 && 4 ≤ Img.count b && Img.count b ≤ 16
    && Img.size b % 65536 == 0 && 1 ≤ Img.size b && Img.size b ≤ 29360128 && zeros b 20 4 && zeros b 120 136
    && Config.sha384 (Img.pubkey b) == Tab.get 0 s.fuses.keyDigest (Img.keySlot b)

/-- Whole entries of a section (R476). -/
def Section.sizeGood (x : Section) : Bool :=
  match x.typ with
  | 4 => x.size % 16 == 0
  | 5 => x.size % 64 == 0
  | 6 => x.size % 16 == 0 && x.size / 16 ≤ 256
  | 7 => x.size == 4096
  | _ => true

/-- Ranges that do not overlap, pairwise. -/
def disjoint : List (Nat × Nat) → Bool
  | [] => true
  | (a, n) :: l => (l.all fun e => !meets a n e.1 e.2) && disjoint l

/-- The sections are good (R473, R476). -/
def sectionsGood (b : List Byte) : Bool :=
  let l := Img.sections b
  let types := l.map (·.typ)
  let bound := Img.size b - 96
  ((List.range (Img.count b)).all fun i => secEntryGood (Img.entry b i))
    && (l.all fun x => decide (1 ≤ x.typ) && decide (x.typ ≤ 7) && x.sizeGood && decide (256 + 64 * Img.count b ≤ x.off)
      && decide (x.off + x.size ≤ bound) && Config.sha384 (sub b x.off x.size) == x.digest)
    && types.eraseDups.length == types.length && [1, 2, 3, 4].all (fun t => types.contains t)
    && disjoint (l.map fun x => (x.off, x.size))

/-- The signature over every preceding byte verifies (R473). -/
def imageSigned (b : List Byte) : Bool :=
  let n := Img.size b - 96
  Config.ecdsaVerify (Img.pubkey b) (Config.sha384 (b.take n)) (sub b n 96)

/-! ### REG_INIT (R474, R609) -/

/-- A register-file key of an image-locked field. -/
def lockedKey (k : Nat) : Bool :=
  let lo := k / 2048 % 64
  let off := k / 131072 % 65536
  (fieldsOf (k / 131072 / 65536)).any fun f =>
    f.lock && f.lo == lo && (List.range (max f.n 1)).any fun i => f.off + i * f.stride == off

/-- The bits of a mask taken from a value, the others from the old one. -/
def mergeBits (old v mask : Nat) : Nat := (old ^^^ (old &&& mask)) ||| (v &&& mask)

/-- A field takes the bits of a REG_INIT entry (R474). -/
def State.initField (s : State) (inst o v mask : Nat) (f : Field) : State :=
  match f.hit o with
  | none => s
  | some (i, h) =>
    if f.lock = false then s
    else if f.wid = 64 then
      s.wr f (mergeBits (s.rd f inst i) (v % 2 ^ 32 * 2 ^ (32 * h)) (mask % 2 ^ 32 * 2 ^ (32 * h))) inst i
    else s.wr f (mergeBits (s.rd f inst i) (v / 2 ^ f.lo) (mask / 2 ^ f.lo)) inst i

/-- One REG_INIT entry is applied (R474). -/
def State.initEntry (s : State) (e : List Byte) : State :=
  (fieldsOf (fld e 0 2)).foldl (fun t f => t.initField (fld e 2 2) (fld e 4 4) (fld e 8 4) (fld e 12 4) f) s

/-- The bits of a word that image-locked fields hold. -/
def lockedBits (blk o : Nat) : Nat :=
  (fieldsOf blk).foldl (fun m f => if f.lock && (f.hit o).isSome then m ||| ((2 ^ min f.wid 32 - 1) * 2 ^ f.lo) else m) 0

/-- A REG_INIT entry names an existing word and instance, and sets image-locked bits only (R609). -/
def initEntryGood (e : List Byte) : Bool :=
  let blk := fld e 0 2
  let o := fld e 4 4
  let inst := fld e 2 2
  blk < 18 && o < 65536 && o % 4 == 0
    && (match instances blk with
        | none => inst == 0
        | some n => if 0x1000 ≤ o then inst == 0 else decide (inst < n))
    && (fld e 12 4 &&& lockedBits blk o) == fld e 12 4

/-- A value in a range, a multiple of a step. -/
def between (lo hi step v : Nat) : Bool := lo ≤ v && v ≤ hi && v % step == 0

/-- A port number, or 0xF for none (R412, R413). -/
def portNum (v : Nat) : Bool := v < 12 || v == 15

/-- The range the manual states for an image-locked field (R85, R249, R273, R282, R312, R412, R413, R618, R626, R628). -/
def Field.inRange (f : Field) (v : Nat) : Bool :=
  match f.blk, f.off, f.lo with
  | 0, 0x10, 0 => between 600 1800 50 v
  | 0, 0x10, 16 => between 300 700 1 v
  | 0, 0x20, 0 => between 80 105 1 v
  | 0, 0x20, 8 => between 90 110 1 v
  | 0, 0x28, 0 => between 10000000 86400000000 1 v
  | 1, 0x0, 0 => v == 0 || between 0x10 0x1B 1 v
  | 1, 0x4, 0 => between 100 10000 1 v
  | 2, 0x104, 0 => between 1 32768 1 v
  | 2, 0x104, 16 => between 1 31 1 v
  | 2, 0x104, 21 => between 1 31 1 v
  | 2, 0x104, 26 => between 1 15 1 v
  | 2, 0x108, 0 => between 16 4096 16 v
  | 2, 0x108, 16 => between 256 8192 16 v
  | 2, 0x10c, 0 => between 16 8192 16 v
  | 2, 0x10c, 16 => between 1 255 1 v
  | 2, 0x10c, 24 => between 1 255 1 v
  | 2, 0x118, 0 => 1 ≤ v
  | 2, 0x11c, 0 => 1 ≤ v
  | 2, 0x180, 8 => v ≤ 8
  | 2, 0x1a0, 0 => v % 4096 == 0 && v < 0x47C0000000
  | 2, 0x1a8, 0 => between 1 1048576 1 v
  | 2, 0x1c0, 0 => v % 64 == 0 && v < 0x47C0000000
  | 2, 0x1c8, 0 => between 16 262144 16 v
  | 2, 0x1cc, 16 => v ≤ 2
  | 7, 0x1100, 0 => portNum v
  | 7, 0x1100, 4 => portNum v
  | 7, 0x1200, 0 => portNum v
  | 11, 0x1008, 0 => between 60000000 86400000000 1 v
  | 11, 0x1010, 0 => between 1 64 1 v
  | 12, 0x1004, 0 => between 1000 10000000 1 v
  | _, _, _ => true

/-- Every image-locked field that an entry sets is left in its range (R609). -/
def State.entryInRange (s : State) (e : List Byte) : Bool :=
  let o := fld e 4 4
  (fieldsOf (fld e 0 2)).all fun f =>
    match f.hit o with
    | none => true
    | some (i, _) =>
      !f.lock || (f.wid != 64 && fld e 12 4 / 2 ^ f.lo % 2 ^ f.wid == 0) || f.inRange (s.rd f (fld e 2 2) i)

/-! ### Models and rules (R475, R477) -/

/-- A model entry. -/
def Model.ofEntry (e : List Byte) : Model :=
  { id := fld e 0 1
    pav := fld e 1 1
    draft := fld e 2 1 == 1
    layers := fld e 4 2
    vocab := fld e 8 4
    hidden := fld e 12 4
    kvDim := fld e 16 2
    kvFmt := fld e 18 1
    tileMask := fld e 20 1
    tnQ := fld e 21 1
    alloc := fld e 22 2
    stops := (List.range (fld e 19 1)).map fun k => fld e (32 + 4 * k) 4 }

/-- A model entry's fields lie in their ranges (R311, R475). -/
def modelEntryGood (e : List Byte) : Bool :=
  let m := Model.ofEntry e
  m.id < 16 && m.pav < 8 && fld e 2 1 < 2 && zeros e 3 1 && 1 ≤ m.layers && m.layers ≤ 256 && zeros e 6 2 && 2 ≤ m.vocab
    && m.vocab ≤ 262144 && between 32 8192 32 m.kvDim && [0x0, 0x4, 0x5, 0x6, 0x9, 0xA].contains m.kvFmt
    && 1 ≤ fld e 19 1 && fld e 19 1 ≤ 8 && m.tileMask < 16 && zeros e 24 8 && m.stops.all (fun t => decide (t < m.vocab))
    && (List.range 8).all (fun k => decide (k < fld e 19 1) || zeros e (32 + 4 * k) 4)

/-- A routing rule. -/
def Rule.ofEntry (e : List Byte) : Rule :=
  { functions := fld e 0 8
    tenant := BitVec.ofNat 32 (fld e 8 4)
    modelMask := fld e 12 2
    pav := fld e 14 1 % 8
    anyTenant := (fld e 14 1).testBit 3
    admits := (fld e 14 1).testBit 4
    prio := fld e 15 1 % 16 }

/-- A rule's reserved bits are 0 (R477). -/
def ruleGood (e : List Byte) : Bool := fld e 14 1 < 32 && fld e 15 1 < 16

/-! ### Applying an image (R474, R479) -/

/-- The default of PLOT_TARGET on a part of grade -17 (R618). -/
def State.gradeDefault (s : State) : State := if s.fuses.grade = 1 then s.wr R.plotTarget 1700 else s

/-- FN_TENANTS takes its section, every word of it; without one a word is empty but for what REG_INIT gives it (R473, R479). -/
def State.initTenants (s : State) (b : List Byte) : State :=
  let x := Img.body b 7
  if x.isEmpty then s
  else (List.range 1024).foldl (fun (t : State) k => t.wr R.fnTenants (fld x (4 * k) 4) (k / 16) (k % 16)) s

/-- The image-locked fields of an image, over their defaults, with its rules and models (R479). -/
def State.applyValues (s : State) (b : List Byte) : State :=
  let t : State := { s with regs := s.regs.filter fun e => !lockedKey e.1 }
  let t := (Img.entries b 4 16).foldl State.initEntry t.gradeDefault
  let t := t.initTenants b
  { t with boot := { t.boot with
    image := b.take (Img.size b)
    rules := (Img.entries b 6 16).map Rule.ofEntry
    models := (Img.entries b 5 64).map Model.ofEntry } }

/-! ### Verification (R476) -/

/-- DRAFT_EN and the draft model agree with the models (R283). -/
def State.draftGood (s : State) (p : Nat) : Bool :=
  !s.drafting p ||
    (match (s.modelsOf p).find? fun m => m.id == s.rd R.draftModel p with
     | none => false
     | some d => d.draft && (s.modelsOf p).all fun m => m.draft || m.vocab == d.vocab)

/-- The ranges of the draft pool, where it is used (R312). -/
def State.draftPoolGood (s : State) (p : Nat) : Bool :=
  !s.drafting p || !s.defined p ||
    (s.rd R.draftPoolBase p % 4096 == 0 && s.rd R.draftPoolBase p < 0x47C0000000 && between 1 1048576 1 (s.rd R.draftPoolPages p))

/-- The pools in use: base and bytes (R312). -/
def State.poolsInUse (s : State) : List (Nat × Nat) :=
  ((List.range 8).filter s.defined).flatMap fun p =>
    [(s.rd R.poolBase p, s.rd R.poolPages p * s.poolPageBytes p false)]
      ++ (if s.drafting p then [(s.rd R.draftPoolBase p, s.rd R.draftPoolPages p * s.poolPageBytes p true)] else [])

/-- The HBM regions that the image assigns elsewhere (R312). -/
def State.otherRegions (s : State) : List (Nat × Nat) :=
  [(s.rd R.dirPoolBase, s.rd R.dirPoolUnits * 65536), (s.rd R.objBase, s.rd R.objSize), (s.rd R.rxBase, s.rd R.rxSize)]
    ++ ((List.range 8).filter s.defined).flatMap fun p =>
      [(s.rd R.ptBase p, s.rd R.maxResident p * s.ptStride p), (s.rd R.hbmBase p, s.rd R.hbmSize p),
       (s.rd R.stageBase p, s.rd R.stageSize p)]

/-- The terrace masks of the pavilions are apart (R248). -/
def State.masksApart (s : State) : Bool :=
  (List.range 32).all fun t => ((List.range 8).countP fun p => (s.rd R.terraces p).testBit t) ≤ 1

/-- A multicast tree entry does not go down where it comes from (R413). -/
def State.treeGood (s : State) (t : Nat) : Bool :=
  !(s.rd R.treeUp 0 t < 12 && (s.rd R.treeDown 0 t).testBit (s.rd R.treeUp 0 t))

/-- What an image's values must meet once they are applied (R248, R249, R283, R312, R375, R413, R475, R476). -/
def State.valuesGood (s : State) (b : List Byte) : Bool :=
  ((Img.entries b 4 16).all fun e => initEntryGood e && s.entryInRange e)
    && ((Img.entries b 5 64).all modelEntryGood) && ((Img.entries b 6 16).all ruleGood)
    && (s.boot.models.map (·.id)).eraseDups.length == s.boot.models.length
    && (s.boot.models.all fun m => s.defined m.pav)
    && s.masksApart && (((List.range 8).filter s.defined).map fun p => s.rd R.maxResident p).sum ≤ 32768
    && ((List.range 8).all fun p => s.draftGood p && s.draftPoolGood p)
    && disjoint s.poolsInUse && (s.poolsInUse.all fun x => s.otherRegions.all fun y => !meets x.1 x.2 y.1 y.2)
    && !(s.rd R.wgtRoot == 1 && s.rd R.fabricLoad == 1) && ((List.range 16).all s.treeGood)

/-- An image verifies (R472, R476, R523). -/
def State.imageGood (s : State) (b : List Byte) : Bool :=
  s.headerGood b && b.length ≥ Img.size b && s.fuses.sv ≤ Img.sv b && Img.sv b ≤ 64 && imageSigned b && sectionsGood b
    && (State.applyValues { s with regs := [] } b).valuesGood b

/-! ### The boot-selection record (R530) -/

/-- A copy's content is one R530 takes. -/
def BootRec.valid (r : BootRec) : Bool :=
  r.primary < 2 && (r.trialBank < 2 || r.trialBank == 0xFF) && r.actKind < 2

/-- The copies that are valid. -/
def Nvm.valid0 (n : Nvm) : Option BootRec := n.rec0.filter BootRec.valid
def Nvm.valid1 (n : Nvm) : Option BootRec := n.rec1.filter BootRec.valid

/-- Whether copy 0 governs, with the record that does. -/
def Nvm.governing (n : Nvm) : Option (Bool × BootRec) :=
  match n.valid0, n.valid1 with
  | some a, some b => some (if a.seq < b.seq then (false, b) else (true, a))
  | some a, none => some (true, a)
  | none, some b => some (false, b)
  | none, none => none

/-- The record in force: bank A and no trial where no copy is valid. -/
def State.bootRec (s : State) : BootRec := (s.nvm.governing.map (·.2)).getD {}

/-- A write of the record goes to the copy that does not govern. -/
def State.writeRec (s : State) (f : BootRec → BootRec) : State :=
  match s.nvm.governing with
  | none => { s with nvm := { s.nvm with rec0 := some { f {} with seq := 1 } } }
  | some (true, r) => { s with nvm := { s.nvm with rec1 := some { f r with seq := (r.seq + 1) % 2 ^ 32 } } }
  | some (false, r) => { s with nvm := { s.nvm with rec0 := some { f r with seq := (r.seq + 1) % 2 ^ 32 } } }

/-- The content of a bank. -/
def State.bank (s : State) (k : Nat) : List Byte := if k = 0 then s.nvm.bankA else s.nvm.bankB

/-- Sets a bank's content; empty marks it empty. -/
def State.setBank (s : State) (k : Nat) (b : List Byte) : State :=
  { s with nvm := if k = 0 then { s.nvm with bankA := b } else { s.nvm with bankB := b } }

/-- The staging bank: the one that PRIMARY does not name (R528). -/
def State.stagingBank (s : State) : Nat := 1 - s.bootRec.primary

end Sys2Proof.Machine
end

