-- ==== Sys2Proof/Machine/Tensor.lean ====
section
/-! DEFINITION. Tensors as a macro-op reads and writes them: elements, padding, blocks, rounding out (R140 to R143, R149 to R163,
R172, R173, R191 to R194, R643). -/
namespace Sys2Proof.Machine
open Sys2Proof

/-- A row of a tensor: indexes along DIM1, DIM2, DIM3. -/
structure Ix where
  a : Nat := 0
  b : Nat := 0
  c : Nat := 0
  deriving DecidableEq, Repr

/-- A tensor operand as the sequencer holds it after issue: the descriptor, the extents below which elements are present
(R191), and the converted padding value (R194). -/
structure Opnd where
  d : Desc
  lim : List Nat
  pad : Val
  deriving DecidableEq, Repr

def Opnd.len (o : Opnd) (k : Nat) : Nat := o.lim.getD k 0

/-- A row is present (R191). -/
def Opnd.hasRow (o : Opnd) (r : Ix) : Bool := decide (r.a < o.len 1) && decide (r.b < o.len 2) && decide (r.c < o.len 3)

/-- Bits of an element of a format in its row; UNARY4 is stored apart (R140). -/
def elemBits : Nat → Nat
  | 1 => 6 | 3 => 4 | 7 => 4 | 9 => 16 | 0xA => 16 | 0xB => 32 | _ => 8

/-- Address of a row's first byte (R172). -/
def Desc.rowAddr (d : Desc) (r : Ix) : Nat := d.base + r.a * d.stride 1 + r.b * d.stride 2 + r.c * d.stride 3

/-- The row index of the block-scale array (R173). -/
def Desc.rowNo (d : Desc) (r : Ix) : Nat := (r.c * d.dim 2 + r.b) * d.dim 1 + r.a

/-- Address of the scale byte of an element (R173). -/
def Desc.scaleAddr (d : Desc) (i : Nat) (r : Ix) : Nat := d.sbase + d.rowNo r * cdiv (d.dim 0) 32 + i / 32

/-! ### Padding (R194) -/

/-- A binary32 value; a NaN is 0, an infinity the largest finite value (R141). -/
def single (n : Nat) : Dy := (fltSingle.dec 0xB n).1

/-- An element rounded alone into a format, and whether it exceeded the largest magnitude (R194). -/
def padConv (fmt : Nat) (sexp : Int) (v : Dy) : Val × Bool :=
  let sg (o : Out1) : Dy := if o.neg then o.mag.neg else o.mag
  let near : Rnd := {}
  match fmt with
  | 0 =>
    let big := (fmtTop 0 0 false).lt v.abs
    (.lns (lnsRound 0 near (if big then (if v.isNeg then (fmtTop 0 0 true).neg else fmtTop 0 0 false) else v)), big)
  | 1 =>
    let big := (fmtTop 1 0 false).lt v.abs
    (.lns (lnsRound 1 near (if big then (if v.isNeg then (fmtTop 1 0 true).neg else fmtTop 1 0 false) else v)), big)
  | 2 => (.lin v, false)
  | 7 =>
    let sh : Int := Int.ofNat (mxScale 7 [v]) - 127
    let u : Dy := { v with e := v.e - sh }
    let o := roundLin near u (fltFp4.step u) fltFp4.top
    (.lin { (sg o) with e := (sg o).e + sh }, fltFp4.top.lt u.abs)
  | 8 =>
    let st : Int := Int.ofNat (mxScale 8 [v]) - 133
    let top : Dy := { m := intTop 8 v.isNeg, e := st }
    (.lin (sg (roundLin near v st top)), top.lt v.abs)
  | _ =>
    let top := fmtTop fmt sexp v.isNeg
    let step : Int := match fltOf fmt with | some f => f.step v | none => sexp
    (.lin (sg (roundLin near v step top)), top.lt v.abs)

/-- The bits of an infinity of binary32. -/
def isInf (n : Nat) : Bool := n % 2 ^ 31 == 255 * 2 ^ 23

/-- PAD of a descriptor converted at issue; an infinity exceeds every format's largest magnitude (R194). -/
def Desc.padVal (d : Desc) : Val × Bool :=
  let v := padConv d.fmt d.sexp (single d.pad)
  (v.1, v.2 || (isInf d.pad && d.fmt != 2))

/-- The operand of a descriptor, with the sampled value of its length register (R175, R191). -/
def Opnd.of (d : Desc) (lens : List Nat) : Opnd :=
  { d := d
    lim := (List.range 4).map fun k =>
      match d.lenReg with
      | some i => if d.lenDim = k then min (lens.getD i 0) (d.dim k) else d.dim k
      | none => d.dim k
    pad := d.padVal.1 }

/-! ### Reading -/

/-- The raw bits of a stored element; a UNARY4 element is its magnitude plus 16 for a negative sign. -/
def State.rawAt (s : State) (p : Nat) (d : Desc) (i : Nat) (r : Ix) : Nat :=
  if d.fmt = 2 then
    let g := d.rowAddr r + 20 * (i / 32)
    let m := leNat (s.devBytes p (g + i % 32 / 2) 1) / 16 ^ (i % 2) % 16
    let sg := leNat (s.devBytes p (g + 16 + i % 32 / 8) 1) / 2 ^ (i % 8) % 2
    m + 16 * sg
  else
    let w := elemBits d.fmt
    leNat (s.devBytes p (d.rowAddr r + w * i / 8) ((w * i % 8 + w + 7) / 8)) / 2 ^ (w * i % 8) % 2 ^ w

/-- The raw bits of an element in a row's bytes; UNARY4 as `rawAt` has it. -/
def rawIn (fmt : Nat) (row : List Byte) (i : Nat) : Nat :=
  if fmt = 2 then
    let g := 20 * (i / 32)
    fld row (g + i % 32 / 2) 1 / 16 ^ (i % 2) % 16 + 16 * (fld row (g + 16 + i % 32 / 8) 1 / 2 ^ (i % 8) % 2)
  else
    let w := elemBits fmt
    fld row (w * i / 8) ((w * i % 8 + w + 7) / 8) / 2 ^ (w * i % 8) % 2 ^ w

/-- The scale byte of an element's block; 0 for a format without one. -/
def State.scaleAt (s : State) (p : Nat) (d : Desc) (i : Nat) (r : Ix) : Nat :=
  if scaled d.fmt then leNat (s.devBytes p (d.scaleAddr i r) 1) else 0

/-- A stored element's value, and whether it counts as non-finite. -/
def State.stored (s : State) (p : Nat) (d : Desc) (i : Nat) (r : Ix) : Val × Bool :=
  decElem d.fmt (s.rawAt p d i r) (s.scaleAt p d i r) d.sexp

/-- An element as it enters the array: stored, or the padding value (R193). -/
def State.elem (s : State) (p : Nat) (o : Opnd) (i : Nat) (r : Ix) : Val :=
  if o.hasRow r && decide (i < o.len 0) then (s.stored p o.d i r).1 else o.pad

/-- The elements from c0 up to c1 of a row. -/
def State.rowVals (s : State) (p : Nat) (o : Opnd) (r : Ix) (c0 c1 : Nat) : List Val :=
  (List.range (c1 - c0)).map fun i => s.elem p o (c0 + i) r

/-- An integer read as stored: an element of an index tensor (R174). -/
def State.index (s : State) (p : Nat) (o : Opnd) (j : Nat) : Nat :=
  if o.hasRow {} && decide (j < o.len 0) then s.rawAt p o.d j {} else o.d.pad

/-- A part of a tensor that a tile reads: rows, and the columns from c0 up to c1. -/
structure Rect where
  o : Opnd
  rows : List Ix
  c0 : Nat
  c1 : Nat
  deriving DecidableEq, Repr

/-- The byte offsets of columns c0 up to c1 in a row of a format. -/
def colSpan (fmt c0 c1 : Nat) : Nat × Nat :=
  if fmt = 2 then (20 * (c0 / 32), 20 * cdiv c1 32 - 20 * (c0 / 32))
  else if fmt = 1 then (3 * (c0 / 4), 3 * cdiv c1 4 - 3 * (c0 / 4))
  else (elemBits fmt * c0 / 8, cdiv (elemBits fmt * c1) 8 - elemBits fmt * c0 / 8)

/-- The byte ranges a rectangle's present elements and their scales lie in. -/
def Rect.spans (q : Rect) : List (Nat × Nat) :=
  let hi := min q.c1 (q.o.len 0)
  if hi ≤ q.c0 then []
  else (q.rows.filter q.o.hasRow).flatMap fun r =>
    let (off, n) := colSpan q.o.d.fmt q.c0 hi
    (q.o.d.rowAddr r + off, n) ::
      (if scaled q.o.d.fmt then [(q.o.d.scaleAddr q.c0 r, (hi - 1) / 32 - q.c0 / 32 + 1)] else [])

/-- Elements and blocks of a rectangle that count in NONFINITE (R141). -/
def State.nonfinite (s : State) (p : Nat) (q : Rect) : Nat :=
  let hi := min q.c1 (q.o.len 0)
  (q.rows.filter q.o.hasRow).foldl (fun n r =>
    (List.range (hi - q.c0)).foldl (fun n i =>
      let c := q.c0 + i
      if (q.o.d.fmt = 7 ∨ q.o.d.fmt = 8) ∧ s.scaleAt p q.o.d c r = 255 then
        (if i = 0 ∨ c % 32 = 0 then n + 1 else n)
      else if (s.stored p q.o.d c r).2 then n + 1 else n) n) 0

/-- The execution fault of a list of reads, in order (R210, R569). -/
def State.spansFault (s : State) (p : Nat) (l : List (Nat × Nat)) : Option Nat :=
  l.findSome? fun e => s.readFault p e.1 e.2

/-- One of a list of reads returns POISON (R208). -/
def State.spansPoison (s : State) (l : List (Nat × Nat)) : Bool := l.any fun e => s.readPoison e.1 e.2

/-- The byte ranges that the elements and the scales of a tensor lie in. -/
def Desc.extent (d : Desc) (row : Nat) : List (Nat × Nat) :=
  [(d.base, (d.dim 1 - 1) * d.stride 1 + (d.dim 2 - 1) * d.stride 2 + (d.dim 3 - 1) * d.stride 3 + row),
   (d.sbase, if scaled d.fmt then d.dim 1 * d.dim 2 * d.dim 3 * cdiv (d.dim 0) 32 else 0)]

/-! ### Dot products (R143 to R147) -/

/-- The number of terms of the weight operand (R145). -/
def modeK (mode : Nat) : Nat := max 1 mode

/-- One output element in LOG or TERM(k): K-tiles, terms, groups of 4 (R147). -/
def dot (k tk : Nat) (xs ws : List Val) : AccV :=
  let prods := xs.map Val.term |>.zip (ws.map (Val.terms k))
  (chunks tk prods.length prods).foldl (fun a c =>
    (List.range k).foldl (fun a j => accAll a (c.map fun e => (e.1.mul (e.2.getD j {})).part)) a) {}

/-! ### HEDGE operands (R160 to R163, R643) -/

/-- An element on its way to a UNARY4 block: its value, and the exponent and stored magnitude of a block that keeps its
own. -/
structure UEl where
  v : Dy
  own : Option Int := none
  mag : Option (Bool × Nat) := none
  deriving DecidableEq, Repr

/-- An element of an operand as HEDGE takes it. -/
def State.uel (s : State) (p : Nat) (o : Opnd) (i : Nat) (r : Ix) : UEl :=
  if o.hasRow r && decide (i < o.len 0) then
    let v := (s.stored p o.d i r).1.dy
    if o.d.fmt = 2 then
      let raw := s.rawAt p o.d i r
      { v := v, own := some (sext 8 (s.scaleAt p o.d i r)), mag := some (decide (16 ≤ raw), raw % 16) }
    else if o.d.fmt ≤ 1 then { v := v, own := some (sext 8 (s.scaleAt p o.d i r)) }
    else { v := v }
  else { v := o.pad.dy }

/-- The exponent every stored element of a block shares; none if they differ or there are none. -/
def ownExp (els : List UEl) : Option Int :=
  match els.filterMap (·.own) with
  | [] => none
  | e :: es => if es.all (· == e) then some e else none

/-- The magnitude of a padded element in a UNARY4 block, and whether it saturated (R194). -/
def UEl.inBlock (E : Int) (u : UEl) : (Bool × Nat) × Bool :=
  match u.mag with
  | some m => (m, false)
  | none => ((u.v.isNeg, min (u.v.rneAt (E - 4)) 15), decide (15 < u.v.rneAt (E - 4)))

/-- A block of an operand in UNARY4, and whether a padded element saturated in it (R194, R643). -/
def unaryOf (fmt : Nat) (els : List UEl) : UBlk × Bool :=
  match ownExp els with
  | some E =>
    if fmt = 2 then
      let ms := els.map (UEl.inBlock E)
      ({ E := E, els := ms.map (·.1), sats := 0 }, ms.any (·.2))
    else (unaryBlock (if fmt ≤ 1 then some E else none) (els.map (·.v)), false)
  | none => (unaryBlock none (els.map (·.v)), false)

/-- The stream words of a reduction index (R161). -/
def streamWords (g : Gen) (ph k : Nat) : Word32 × Word32 :=
  (phaseWord g.key (g.d + BitVec.ofNat 64 (2 * k)) ph, phaseWord g.key (g.d + BitVec.ofNat 64 (2 * k + 1)) ph)

/-- The two sources of a HEDGE macro-op; `subst` is the substitution of R164. -/
structure Hedge where
  ga : Gen
  pa : Nat
  gb : Gen
  pb : Nat
  subst : Bool
  deriving DecidableEq, Repr

def Hedge.wa (h : Hedge) (k : Nat) : Word32 × Word32 := streamWords h.ga h.pa k
def Hedge.wb (h : Hedge) (k : Nat) : Word32 × Word32 :=
  let w := streamWords h.gb h.pb k
  if h.subst then (w.1.rotateLeft 7, w.2.rotateLeft 7) else w

/-- One output element in HEDGE: groups of 16 of each pair of 32-blocks (R162). -/
def hedgeDot (h : Hedge) (as bs : List UBlk) : AccV :=
  ((as.zip bs).zipIdx).foldl (fun acc e =>
    let (A, B) := e.1
    let prods := (A.els.zip B.els).zipIdx.map fun f => hedgeEst f.1.1 f.1.2 (h.wa (32 * e.2 + f.2)) (h.wb (32 * e.2 + f.2))
    (chunks 16 prods.length prods).foldl (fun a g => accGroup a [hedgePart A.E B.E g]) acc) {}

/-! ### Rounding out and writing -/

/-- What an output element is: an accumulator, an exact value, or a value the manual does not state (log 1). -/
inductive OutV where
  | acc (a : AccV)
  | exact (v : Dy)
  | free
  deriving DecidableEq, Repr

/-- Everything one tile does. -/
structure TileOut where
  fault : Option Nat := none
  /-- The fault is one of a write, so the last K-tile has started (R189). -/
  late : Bool := false
  /-- The rows are written with the POISON mark, and their requests end with this code (R64, R208). -/
  poison : Option Nat := none
  conv : Nat := 0
  nonf : Nat := 0
  accs : Nat := 0
  padS : Bool := false
  dirSat : Nat := 0
  cold : Nat := 0
  /-- The byte ranges read. -/
  reads : List (Nat × Nat) := []
  writes : List (Nat × List Byte) := []
  /-- The byte ranges of the tile's DST rows. -/
  dst : List (Nat × Nat) := []
  /-- The batch rows of the tile. -/
  rows : List Nat := []
  /-- Byte ranges and batch rows of the whole segment, where a gather read met POISON (R64). -/
  seg : List (Nat × Nat) × List Nat := ([], [])
  deriving DecidableEq, Repr

/-- The second of two results after the first, as far as they add up. -/
def TileOut.plus (a b : TileOut) : TileOut :=
  { fault := a.fault.orElse fun _ => b.fault
    late := a.late || b.late
    poison := a.poison.orElse fun _ => b.poison
    conv := a.conv + b.conv, nonf := a.nonf + b.nonf, accs := a.accs + b.accs, padS := a.padS || b.padS
    dirSat := a.dirSat + b.dirSat, cold := a.cold + b.cold
    reads := a.reads ++ b.reads, writes := a.writes ++ b.writes, dst := a.dst ++ b.dst, rows := a.rows ++ b.rows
    seg := (a.seg.1 ++ b.seg.1, a.seg.2 ++ b.seg.2) }

/-- Replaces w bits at a bit position of a number. -/
def putBits (n pos w v : Nat) : Nat := n - n / 2 ^ pos % 2 ^ w * 2 ^ pos + v % 2 ^ w * 2 ^ pos

/-- How the elements of a row are rounded: RND, the SR source and its first word (R149, R156). -/
structure RndSrc where
  mode : Nat
  g : Gen
  ph : Nat
  /-- The HEDGE span on the same bank. -/
  s : Nat
  deriving DecidableEq, Repr

/-- The rounding of the element with flat index i (R156). -/
def RndSrc.at (q : RndSrc) (i : Nat) : Rnd :=
  if q.mode = 1 then
    { mode := 1, rho := (phaseWord q.g.key (q.g.d + BitVec.ofNat 64 (q.s + i / 4)) q.ph).toNat / 256 ^ (i % 4) % 256 }
  else { mode := q.mode }

/-- The value an output element rounds from. -/
def OutV.val (fmt : Nat) (sexp : Int) (free : Nat) : OutV → Dy
  | .acc a => a.outVal fmt sexp
  | .exact v => v
  | .free => { m := (Config.freeWord free).toInt, e := sext 8 (Config.choose free) }

/-- The output counts in ACC_SAT (R153). -/
def OutV.sat : OutV → Bool
  | .acc a => a.sat
  | _ => false

/-- Writes codes from column c0 of a row; neighbouring elements in the same bytes stay. -/
def State.codeBytes (s : State) (p : Nat) (d : Desc) (r : Ix) (c0 : Nat) (codes : List Nat) : Nat × List Byte :=
  let w := elemBits d.fmt
  let (off, n) := colSpan d.fmt c0 (c0 + codes.length)
  let a := d.rowAddr r + off
  let v := codes.zipIdx.foldl (fun v e => putBits v (w * (c0 + e.2) - 8 * off) w e.1) (leNat (s.devBytes p a n))
  (a, leBytes n v)

/-- One 32-block of a DST row, of which the columns from c0 up to c1 are written: rounded and encoded as a whole (R149 to R153), so
that tiles that share it give it one scale (log 13). -/
def State.blockOut (s : State) (p : Nat) (o : Opnd) (q : RndSrc) (r : Ix) (b0 : Nat) (vs : List OutV) (c0 c1 : Nat) : TileOut :=
  let d := o.d
  let flat := d.rowNo r * d.dim 0 + b0
  let lo := c0 - b0
  let n := min c1 (b0 + vs.length) - (b0 + lo)
  let b := encBlock d.fmt d.sexp (vs.zipIdx.map fun e => (e.1.val d.fmt d.sexp (s.freeCtr + flat + e.2), q.at (flat + e.2)))
  if n = 0 then {}
  else
    { conv := b.satsIn lo n
      accs := ((vs.drop lo).take n).countP (·.sat)
      writes := s.codeBytes p d r (b0 + lo) ((b.codes.drop lo).take n) ::
        (if scaled d.fmt then [(d.scaleAddr b0 r, [BitVec.ofNat 8 b.scale])] else []) }

/-- A list of outputs cut at multiples of 32 columns. -/
def cut32 (c0 : Nat) (vs : List OutV) : List (Nat × List OutV) :=
  let h := min vs.length (32 - c0 % 32)
  (c0, vs.take h) :: (chunks 32 vs.length (vs.drop h)).zipIdx.map fun e => (c0 + h + 32 * e.2, e.1)

/-- The outputs of a row from column b0, of which those of the columns from c0 up to c1 are written; absent elements are not
(R193). -/
def State.rowOut (s : State) (p : Nat) (o : Opnd) (q : RndSrc) (r : Ix) (b0 : Nat) (vs : List OutV) (c0 c1 : Nat) : TileOut :=
  let vs := vs.take (o.len 0 - b0)
  if o.hasRow r = false ∨ min c1 (o.len 0) ≤ c0 then {}
  else
    let t : TileOut := (cut32 b0 vs).foldl (fun (t : TileOut) e => t.plus (s.blockOut p o q r e.1 e.2 c0 c1)) {}
    { t with dst := t.writes.map fun w => (w.1, w.2.length), rows := [r.a] }

/-- Accumulator images of a row from column c0 (R178). -/
def imageOut (o : Opnd) (r : Ix) (c0 : Nat) (vs : List AccV) : TileOut :=
  let vs := vs.take (o.len 0 - c0)
  if o.hasRow r = false ∨ vs = [] then {}
  else
    let w := (o.d.rowAddr r + 8 * c0, vs.flatMap fun a => leBytes 8 a.image)
    { writes := [w], dst := [(w.1, w.2.length)], rows := [r.a] }

end Sys2Proof.Machine
end

