-- ==== Sys2Proof/Machine/Tiles.lean ====
section
/-! DEFINITION. What each macro-op computes on one tile (R37 to R42, R174 to R180, R183, R185, R192 to R197, R208). -/
namespace Sys2Proof.Machine
open Sys2Proof

/-- A macro-op in execution: the state its tile reads, the plot, the image, the operands, received halo rows. -/
structure Ctx where
  s : State
  p : Nat
  m : BitVec 256
  o : List Opnd
  halo : Option HaloRows := none

def Opnd.nil : Opnd := { d := Desc.ofBytes [], lim := [], pad := .lns {} }
def Ctx.src0 (c : Ctx) : Opnd := c.o.getD 0 Opnd.nil
def Ctx.src1 (c : Ctx) : Opnd := c.o.getD 1 Opnd.nil
def Ctx.src2 (c : Ctx) : Opnd := c.o.getD 2 Opnd.nil
def Ctx.dst (c : Ctx) : Opnd := c.o.getD 3 Opnd.nil
def Ctx.code (c : Ctx) : Nat := Mo.opcode c.m
def Ctx.k (c : Ctx) : Nat := modeK (Mo.mode c.m)
def Ctx.hedgeMode (c : Ctx) : Bool := Mo.mode c.m == 5

/-- The reduction length: DIM0 of SRC0, or the kernel's w for CONV1D. -/
def Ctx.red (c : Ctx) : Nat := if c.code = 0xB then c.src1.d.dim 0 else c.src0.d.dim 0

/-- The HEDGE stream span on a bank (R161). -/
def Ctx.hedgeSpan (c : Ctx) (bank : Nat) : Nat :=
  if c.hedgeMode && ((Mo.hedgeA c.m).1 == bank || (Mo.hedgeB c.m).1 == bank) then 32 * cdiv c.red 16 else 0

/-- The rounding of the macro-op's outputs (R149, R156). -/
def Ctx.rnd (c : Ctx) : RndSrc :=
  { mode := if c.code = 0xD then 0 else Mo.rnd c.m, g := (c.s.plot c.p).gen (Mo.srBank c.m), ph := Mo.srPhase c.m, s := c.hedgeSpan (Mo.srBank c.m) }

/-- The two stream sources name one bank and phase (R164). -/
def Mo.collides (m : BitVec 256) : Bool := Mo.mode m == 5 && Mo.hedgeA m == Mo.hedgeB m

/-- The stream sources of a HEDGE macro-op (R161, R164). -/
def Ctx.hedge (c : Ctx) : Hedge :=
  { ga := (c.s.plot c.p).gen (Mo.hedgeA c.m).1, pa := (Mo.hedgeA c.m).2
    gb := (c.s.plot c.p).gen (Mo.hedgeB c.m).1, pb := (Mo.hedgeB c.m).2
    subst := Mo.collides c.m }

/-! ### The tile grid (R185) -/

/-- A tile: its rows, its columns from c0 up to c1, and the columns from b0 up to b1 of the DST blocks that they lie in. -/
structure Tile where
  rows : List Ix
  c0 : Nat
  c1 : Nat
  b0 : Nat
  b1 : Nat
  deriving DecidableEq, Repr

/-- Rows of the output grid: DIM1 of DST. -/
def Ctx.gridM (c : Ctx) : Nat := c.dst.d.dim 1
def Ctx.nm (c : Ctx) : Nat := cdiv c.gridM (Mo.tm c.m)
def Ctx.nn (c : Ctx) : Nat := cdiv (c.dst.d.dim 0) (Mo.tn c.m)

/-- DST is written in blocks of 32 with a scale each (R138, R152). -/
def Ctx.blocks (c : Ctx) : Bool := scaled c.dst.d.fmt && c.code != 2 && !(c.code == 1 && Mo.accOut c.m)

/-- A tile of rows and columns; a block that two tiles share is normalised as a whole (R138, R150, R152; log 13). -/
def Ctx.mkTile (c : Ctx) (rows : List Ix) (c0 c1 : Nat) : Tile :=
  { rows := rows, c0 := c0, c1 := c1
    b0 := if c.blocks then c0 / 32 * 32 else c0
    b1 := if c.blocks then min (roundUp c1 32) (c.dst.d.dim 0) else c1 }

/-- Tile i of the grid: N fastest, then M, then DIM2 and DIM3. -/
def Ctx.tile (c : Ctx) (i : Nat) : Tile :=
  let b := i / (c.nm * c.nn)
  let r0 := i / c.nn % c.nm * Mo.tm c.m
  let c0 := i % c.nn * Mo.tn c.m
  c.mkTile
    ((List.range (min (Mo.tm c.m) (c.gridM - r0))).map fun k => { a := r0 + k, b := b % c.dst.d.dim 2, c := b / c.dst.d.dim 2 })
    c0 (min (c0 + Mo.tn c.m) (c.dst.d.dim 0))

/-- Every DST element of the tile is absent (R192). -/
def Ctx.skips (c : Ctx) (t : Tile) : Bool := decide (c.dst.len 0 ≤ t.c0) || t.rows.all fun r => !c.dst.hasRow r

/-! ### Reads, then the body -/

/-- A tile with its reads: the first fault of a read or of a write stops it, a poisoned read marks its rows (R203, R205, R208). -/
def Ctx.guarded (c : Ctx) (rects : List Rect) (extra : List (Nat × Nat)) (bad : Option Nat) (body : TileOut) : TileOut :=
  let spans := rects.flatMap Rect.spans ++ extra
  match c.s.spansFault c.p spans with
  | some f => { fault := some f, dst := spans.filter fun e => c.s.readFault c.p e.1 e.2 == some Code.sramUe }
  | none =>
    match body.writes.findSome? fun w => c.s.writeFault w.1 w.2.length with
    | some f => { fault := some f, late := true }
    | none =>
      { body with
        reads := spans
        nonf := body.nonf + (rects.map (c.s.nonfinite c.p)).foldl (· + ·) 0
        poison := if c.s.spansPoison spans then some (bad.getD Code.tileLost) else body.poison }

/-- A row of a tile, with the outputs of its blocks' columns. -/
def Ctx.rowOut (c : Ctx) (t : Tile) (r : Ix) (vs : List OutV) : TileOut := c.s.rowOut c.p c.dst c.rnd r t.b0 vs t.c0 t.c1

/-- The rows of a tile, each with its outputs. -/
def Ctx.rowsOut (c : Ctx) (t : Tile) (f : Ix → List OutV) : TileOut :=
  t.rows.foldl (fun (a : TileOut) r => a.plus (c.rowOut t r (f r))) {}

/-- The columns of a tile. -/
def Tile.cols (t : Tile) : List Nat := (List.range (t.c1 - t.c0)).map (t.c0 + ·)

/-- The columns of a tile's blocks. -/
def Tile.wide (t : Tile) : List Nat := (List.range (t.b1 - t.b0)).map (t.b0 + ·)

/-- The elements of a tile's blocks in a list of a row's elements. -/
def Tile.cut {α : Type} (t : Tile) (l : List α) : List α := (l.drop t.b0).take (t.b1 - t.b0)

/-! ### MATMUL and CONV1D -/

/-- A row of operand elements as UNARY4 blocks: up to the next multiple of 16 with operand A's padding (R163). -/
def Ctx.blocksOf (c : Ctx) (fmt : Nat) (els : List UEl) : List (UBlk × Bool) :=
  let tail := roundUp els.length 16 - els.length
  let all := els ++ List.replicate tail { v := c.src0.pad.dy }
  (chunks 32 all.length all).map (unaryOf fmt)

/-- A row of an operand along its DIM0 as UNARY4 blocks. -/
def Ctx.hedgeRow (c : Ctx) (o : Opnd) (r : Ix) : List (UBlk × Bool) :=
  c.blocksOf o.d.fmt ((List.range c.red).map fun i => c.s.uel c.p o i r)

/-- What converted blocks count (R194, R643). -/
def blockStats (l : List (UBlk × Bool)) : TileOut := { conv := (l.map fun b => b.1.sats).foldl (· + ·) 0, padS := l.any (·.2) }

/-- MATMUL on a tile (R147, R162, R176, R178). -/
def Ctx.matmul (c : Ctx) (t : Tile) : TileOut :=
  let wrow (r : Ix) (n : Nat) : Ix := { r with a := n }
  let wrows := match t.rows with | [] => [] | r :: _ => t.cols.map (wrow r)
  let wide := match t.rows with | [] => [] | r :: _ => t.wide.map (wrow r)
  let rects : List Rect := [⟨c.src0, t.rows, 0, c.red⟩, ⟨c.src1, wrows, 0, c.red⟩]
  let accs : List (Ix × List AccV) × TileOut :=
    if c.hedgeMode then
      let ws := wide.map (c.hedgeRow c.src1)
      let xs := t.rows.map fun r => (r, c.hedgeRow c.src0 r)
      (xs.map fun x => (x.1, ws.map fun w => hedgeDot c.hedge (x.2.map (·.1)) (w.map (·.1))),
       (wrows.map (c.hedgeRow c.src1) ++ xs.map (·.2)).foldl (fun a l => a.plus (blockStats l)) {})
    else
      let ws := wide.map fun r => c.s.rowVals c.p c.src1 r 0 c.red
      (t.rows.map fun r =>
        let xs := c.s.rowVals c.p c.src0 r 0 c.red
        (r, ws.map fun w => dot c.k (Mo.tk c.m) xs w), {})
  let out : TileOut := accs.1.foldl (fun a e =>
    a.plus (if Mo.accOut c.m then imageOut c.dst e.1 t.c0 e.2
            else c.rowOut t e.1 (e.2.map .acc))) accs.2
  c.guarded rects [] none out

/-- The window of CONV1D or of a windowed REDUCE: rows l − w + 1 to l. -/
def Ctx.window (c : Ctx) : Nat := if c.code = 0xB then c.src1.d.dim 0 else bits c.m 200 8

/-- The macro-op exchanges a halo (R195): CONV1D with AUX[0], and a windowed REDUCE with AUX[0]. -/
def Ctx.halos (c : Ctx) : Bool := c.m.getLsbD 192 && (c.code == 0xB || (c.code == 6 && decide (2 ≤ c.window)))

/-- An element of a received halo row, as stored; none where the row is missing (R196). -/
def Ctx.haloEl (c : Ctx) (i back : Nat) (r : Ix) : Option UEl :=
  match c.halo with
  | none => none
  | some h =>
    if r.b ≠ 0 ∨ r.c ≠ 0 ∨ c.src0.len 0 ≤ i then none
    else match h.rows.getD (c.window - 1 - back) none with
      | none => none
      | some (row, sc) =>
        let d := c.src0.d
        let raw := rawIn d.fmt row i
        let scale := fld sc (i / 32) 1
        let v := (decElem d.fmt raw scale d.sexp).1.dy
        some (if d.fmt = 2 then { v := v, own := some (sext 8 scale), mag := some (decide (16 ≤ raw), raw % 16) }
              else if d.fmt ≤ 1 then { v := v, own := some (sext 8 scale) } else { v := v })

/-- The value of a received halo element. -/
def Ctx.haloVal (c : Ctx) (i back : Nat) (r : Ix) : Val :=
  match c.halo with
  | none => c.src0.pad
  | some h =>
    if r.b ≠ 0 ∨ r.c ≠ 0 ∨ c.src0.len 0 ≤ i then c.src0.pad
    else match h.rows.getD (c.window - 1 - back) none with
      | none => c.src0.pad
      | some (row, sc) => (decElem c.src0.d.fmt (rawIn c.src0.d.fmt row i) (fld sc (i / 32) 1) c.src0.d.sexp).1

/-- Element i of the row j places into the window that ends at row r; rows before the slice come from the halo. -/
def Ctx.winVal (c : Ctx) (r : Ix) (i j : Nat) : Val :=
  let l := r.a + 1 + j
  if c.window ≤ l then c.s.elem c.p c.src0 i { r with a := l - c.window } else c.haloVal i (c.window - l) r

/-- The same element for HEDGE. -/
def Ctx.winEl (c : Ctx) (r : Ix) (i j : Nat) : UEl :=
  let l := r.a + 1 + j
  if c.window ≤ l then c.s.uel c.p c.src0 i { r with a := l - c.window }
  else (c.haloEl i (c.window - l) r).getD { v := c.src0.pad.dy }

/-- The SRC0 rows a windowed tile reads from memory. -/
def Ctx.winRows (c : Ctx) (t : Tile) : List Ix :=
  match t.rows with
  | [] => []
  | r :: _ =>
    let lo := r.a - (c.window - 1)
    (List.range (r.a + t.rows.length - lo)).map fun k => { r with a := lo + k }

/-- A windowed tile reads received rows that met POISON. -/
def Ctx.haloBad (c : Ctx) (t : Tile) : Bool :=
  match c.halo, t.rows with
  | some h, r :: _ => h.bad && decide (r.a + 1 < c.window)
  | _, _ => false

/-- Elements and blocks of the received rows a windowed tile reads that count in NONFINITE (R141). -/
def Ctx.haloNonf (c : Ctx) (t : Tile) : Nat :=
  match c.halo, t.rows with
  | some h, r :: _ =>
    if r.b ≠ 0 ∨ r.c ≠ 0 then 0
    else (h.rows.drop r.a).foldl (fun n e => match e with
      | none => n
      | some (row, sc) =>
        (List.range (min t.c1 (c.src0.len 0) - t.c0)).foldl (fun n i =>
          let k := t.c0 + i
          let scale := fld sc (k / 32) 1
          if (c.src0.d.fmt = 7 ∨ c.src0.d.fmt = 8) ∧ scale = 255 then (if i = 0 ∨ k % 32 = 0 then n + 1 else n)
          else if (decElem c.src0.d.fmt (rawIn c.src0.d.fmt row k) scale c.src0.d.sexp).2 then n + 1 else n) n) 0
  | _, _ => 0

/-- What the received rows add to a windowed tile: what they count, and POISON (R141, R208). -/
def Ctx.withHalo (c : Ctx) (t : Tile) (g : TileOut) : TileOut :=
  if g.fault.isSome then g
  else { g with nonf := g.nonf + c.haloNonf t, poison := if c.haloBad t then some Code.tileLost else g.poison }

/-- CONV1D on a tile (R176, R195). -/
def Ctx.conv1d (c : Ctx) (t : Tile) : TileOut :=
  let w := c.red
  let krows : List Ix := t.cols.map fun n => { a := n }
  let rects : List Rect := [⟨c.src0, c.winRows t, t.c0, t.c1⟩, ⟨c.src1, krows, 0, w⟩]
  let one (r : Ix) (n : Nat) : AccV × TileOut :=
    if c.hedgeMode then
      let A := c.blocksOf c.src0.d.fmt ((List.range w).map fun j => c.winEl r n j)
      let B := c.hedgeRow c.src1 { a := n }
      (hedgeDot c.hedge (A.map (·.1)) (B.map (·.1)), (blockStats A).plus (blockStats B))
    else (dot c.k (max w 1) ((List.range w).map fun j => c.winVal r n j) (c.s.rowVals c.p c.src1 { a := n } 0 w), {})
  let out : TileOut := t.rows.foldl (fun a r =>
    let es := t.wide.map fun n => (n, one r n)
    (es.foldl (fun a e => if t.c0 ≤ e.1 ∧ e.1 < t.c1 then a.plus e.2.2 else a) a).plus
      (c.rowOut t r (es.map fun e => .acc e.2.1))) {}
  c.withHalo t (c.guarded rects [] none out)

/-! ### Elementwise -/

def Term.minus (t : Term) : Term := { t with neg := !t.neg }

/-- Terms added one group each. -/
def accTerms (ts : List Term) : AccV := ts.foldl (fun a t => accGroup a [t.part]) {}

/-- Two operands added term by term. -/
def accPair (as bs : List Term) : AccV := (as.zip bs).foldl (fun a e => accGroup a [e.1.part, e.2.part]) {}

/-- A quotient by a divisor's terms: by its first where the others are zero (R134, R144). By zero, or by more terms than one, it has
no stated value (log 1). -/
def divOut (a : Term) : List Term → OutV
  | [] => .free
  | b :: bs => if b.zero || bs.any (fun t => !t.zero) then .free else .acc (accTerms [a.div b])

/-- One element of ELTWISE (R176). -/
def eltOut (op k : Nat) (a b : Val) (aux2 : Dy) : OutV :=
  match op with
  | 0 => .acc (accPair (a.terms k) (b.terms k))
  | 1 => .acc (accPair (a.terms k) ((b.terms k).map Term.minus))
  | 2 => .acc (accTerms ((b.terms k).map (Term.mul a.term)))
  | 3 => divOut a.term (b.terms k)
  | 4 => .acc (if (accTerms (a.terms k)).val.lt (accTerms (b.terms k)).val then accTerms (b.terms k) else accTerms (a.terms k))
  | 5 => .acc (if (accTerms (b.terms k)).val.lt (accTerms (a.terms k)).val then accTerms (b.terms k) else accTerms (a.terms k))
  | 6 => .acc (accTerms ((termSplit aux2 k).map (Term.mul a.term)))
  | _ => .acc (accPair (a.terms k) (termSplit aux2 k))

/-- The operation of an ELTWISE (R176). -/
def Ctx.eltOp (c : Ctx) : Nat := Mo.aux c.m % 16

/-- ELTWISE on a tile. -/
def Ctx.eltwise (c : Ctx) (t : Tile) : TileOut :=
  let two := decide (c.eltOp < 6)
  let rects : List Rect := ⟨c.src0, t.rows, t.c0, t.c1⟩ :: (if two then [⟨c.src1, t.rows, t.c0, t.c1⟩] else [])
  c.guarded rects [] none (c.rowsOut t fun r => t.wide.map fun i =>
    eltOut c.eltOp c.k (c.s.elem c.p c.src0 i r) (if two then c.s.elem c.p c.src1 i r else .lns {}) (single (Mo.aux2 c.m)))

/-- The table entry of a term (R176). -/
def tableIx (base : Int) (shift : Nat) (t : Term) : Nat :=
  if t.zero then 512
  else (max 0 (min ((t.lam - base) / 2 ^ shift) 255)).toNat + (if t.neg then 256 else 0)

/-- TABLE on a tile: the entry of each element, as its exact value (log 19). -/
def Ctx.table (c : Ctx) (t : Tile) : TileOut :=
  let base := sext 16 (Mo.aux2 c.m)
  let sh := bits c.m 240 4
  let ix (r : Ix) (i : Nat) : Nat := tableIx base sh (c.s.elem c.p c.src0 i r).term
  let entry (n : Nat) : Nat := leNat ((c.s.plot c.p).bytes (Mo.aux c.m + 4 * n) 4)
  let spans := t.rows.flatMap fun r => t.cols.map fun i => (selfBase + Mo.aux c.m + 4 * ix r i, 4)
  let nf := (t.rows.flatMap fun r => t.cols.map fun i => entry (ix r i)).countP fun v => (fltSingle.dec 0xB v).2
  let out := c.rowsOut t fun r => t.wide.map fun i => .exact (single (entry (ix r i)))
  c.guarded [⟨c.src0, t.rows, t.c0, t.c1⟩] spans none { out with nonf := nf }

/-! ### Rows -/

/-- The largest, or with `low` the smallest, of terms. -/
def bestTerm (low : Bool) : List Term → Term
  | [] => {}
  | t :: ts => ts.foldl (fun b x => if (if low then x.val.lt b.val else b.val.lt x.val) then x else b) t

/-- REDUCE of a list of terms: SUM, MAX, MIN, SUMSQ (R176). -/
def reduceAcc (op : Nat) (ts : List Term) : AccV :=
  match op with
  | 0 => accAll {} (ts.map Term.part)
  | 1 => accTerms [bestTerm false ts]
  | 2 => accTerms [bestTerm true ts]
  | _ => accAll {} (ts.map fun t => (t.mul t).part)

/-- REDUCE on a tile (R176, R195). -/
def Ctx.reduce (c : Ctx) (t : Tile) : TileOut :=
  let op := Mo.aux c.m % 4
  if c.window = 0 then
    c.guarded [⟨c.src0, t.rows, 0, c.red⟩] [] none (c.rowsOut t fun r =>
      t.wide.map fun _ => .acc (reduceAcc op ((c.s.rowVals c.p c.src0 r 0 c.red).map Val.term)))
  else
    c.withHalo t (c.guarded [⟨c.src0, c.winRows t, t.c0, t.c1⟩] [] none (c.rowsOut t fun r =>
      t.wide.map fun i => .acc (reduceAcc op ((List.range c.window).map fun j => (c.winVal r i j).term))))

/-- The n of an element below the row maximum (R176). -/
def softN (v m : Dy) : Nat := if (v.sub m).isZero then 0 else (tval ((nearestTerm (v.sub m)).lam + 72)).rneAt 0

/-- The exponential t(−n) of an element. -/
def softExp (n : Nat) : Term := if 4096 < n then {} else { zero := false, neg := false, lam := -(n : Int) }

/-- The softmax of a row of values (R176). -/
def softRow (vs : List Dy) : List Term :=
  let m := match vs with | [] => {} | v :: r => r.foldl (fun a x => if a.lt x then x else a) v
  let es := vs.map fun v => softExp (softN v m)
  let sum := nearestTerm (accAll {} (es.map Term.part)).val
  es.map fun e => e.div sum

/-- SOFTMAX_ROWS on a tile. -/
def Ctx.softmaxRows (c : Ctx) (t : Tile) : TileOut :=
  c.guarded [⟨c.src0, t.rows, 0, c.red⟩] [] none (c.rowsOut t fun r =>
    (t.cut (softRow ((c.s.rowVals c.p c.src0 r 0 c.red).map Val.dy))).map fun e => .acc (accTerms [e]))

/-- A mean: the sum's term over the count's, as a quotient (R134; log 19). -/
def meanTerm (a : AccV) (n : Nat) : Term := (nearestTerm a.val).div (nearestTerm { m := n })

/-- The factor of NORM_ROWS and the elements it applies to (R176). -/
def normRow (ln : Bool) (eps : Dy) (vs : List Val) : List Term × Int :=
  let mean := if ln then (meanTerm (accAll {} (vs.map fun v => v.term.part)) vs.length).val else {}
  let ts := if ln then vs.map fun v => nearestTerm (v.dy.sub mean) else vs.map Val.term
  let mu := meanTerm (accAll {} (ts.map fun t => (t.mul t).part)) vs.length
  (ts, -((nearestTerm (mu.val.add eps)).lam / 2))

/-- NORM_ROWS on a tile: each element times t(−(λs >> 1)) and times g (R176). -/
def Ctx.normRows (c : Ctx) (t : Tile) : TileOut :=
  let gs := c.s.rowVals c.p c.src1 {} t.b0 t.b1
  c.guarded [⟨c.src0, t.rows, 0, c.red⟩, ⟨c.src1, [{}], t.c0, t.c1⟩] [] none (c.rowsOut t fun r =>
    let n := normRow (c.m.getLsbD 192) (single (Mo.aux2 c.m)) (c.s.rowVals c.p c.src0 r 0 c.red)
    let f : Term := { zero := false, lam := n.2 }
    ((t.cut n.1).zip gs).map fun e =>
      .acc (accTerms ((e.2.terms c.k).map fun g => (e.1.mul f).mul g)))

/-! ### Data movement: elements keep their exact value (log 19) -/

/-- COPY on a tile. -/
def Ctx.copy (c : Ctx) (t : Tile) : TileOut :=
  c.guarded [⟨c.src0, t.rows, t.c0, t.c1⟩] [] none (c.rowsOut t fun r =>
    (c.s.rowVals c.p c.src0 r t.b0 t.b1).map fun v => .exact v.dy)

/-- PAD on a tile: the value converted at issue; a block of an MX format takes the X of PAD alone (R194). -/
def Ctx.padTile (c : Ctx) (t : Tile) : TileOut :=
  let d := c.dst.d
  let v := if d.fmt = 7 ∨ d.fmt = 8 then single d.pad else c.dst.pad.dy
  c.guarded [] [] none { (c.rowsOut t fun _ => t.wide.map fun _ => .exact v) with conv := 0 }

/-- The rows of a tile before the first whose index is out of range, and whether there is one (R180). -/
def Ctx.inRange (c : Ctx) (bound : Nat) (t : Tile) : List Ix × Bool :=
  let good := t.rows.takeWhile fun r => decide (c.s.index c.p c.src1 r.a < bound)
  (good, good.length != t.rows.length)

/-- The index elements a tile reads. -/
def Ctx.indexRect (c : Ctx) (t : Tile) : Rect :=
  let lo := (t.rows.head?.map (·.a)).getD 0
  ⟨c.src1, [{}], lo, lo + t.rows.length⟩

/-- Elements of an index tensor are integers: they never count in NONFINITE (R174). -/
def Ctx.withIndex (c : Ctx) (ix : Rect) (rects : List Rect) (bad : Bool) (out : TileOut) : TileOut :=
  let g := c.guarded rects ix.spans none out
  if bad && g.fault.isNone then { g with fault := some Code.indexRange } else g

/-- GATHER on a tile (R176, R180). -/
def Ctx.gather (c : Ctx) (t : Tile) : TileOut :=
  let (good, bad) := c.inRange (c.src0.d.dim 1) t
  let from' (r : Ix) : Ix := { r with a := c.s.index c.p c.src1 r.a }
  let out : TileOut := good.foldl (fun a r => a.plus (c.rowOut t r
    ((c.s.rowVals c.p c.src0 (from' r) t.b0 t.b1).map fun v => .exact v.dy))) {}
  c.withIndex (c.indexRect t) [⟨c.src0, good.map from', t.c0, t.c1⟩] bad out

/-- The source rows of a SCATTER before the first whose index is out of range, and whether there is one (R180). -/
def Ctx.srcRows (c : Ctx) : List Nat × Bool :=
  let n := c.src0.d.dim 1
  let good := (List.range n).takeWhile fun j => decide (c.s.index c.p c.src1 j < c.dst.d.dim 1)
  (good, good.length != n)

/-- The source rows of a SCATTER that name a destination row. -/
def Ctx.sources (c : Ctx) (d : Nat) : List Nat := c.srcRows.1.filter fun j => c.s.index c.p c.src1 j == d

/-- The one source row that a destination row is written from; which one is free (R179, log 1). -/
def Ctx.winner (c : Ctx) (d : Nat) : Option Nat :=
  let l := c.sources d
  l[Config.choose (c.dst.d.base + d) % l.length]?

/-- SCATTER on a tile of the output grid: the destination rows of the tile that a source row names (R176, R179, R180, R185; log
19). -/
def Ctx.scatter (c : Ctx) (t : Tile) : TileOut :=
  let pairs := (t.rows.filter c.dst.hasRow).filterMap fun r => (c.winner r.a).map fun j => (r, { r with a := j })
  let out : TileOut := pairs.foldl (fun a e => a.plus (c.rowOut t e.1
      ((c.s.rowVals c.p c.src0 e.2 t.b0 t.b1).map fun v => .exact v.dy))) {}
  c.withIndex ⟨c.src1, [{}], 0, c.src0.d.dim 1⟩ [⟨c.src0, pairs.map (·.2), t.c0, t.c1⟩] c.srcRows.2 out

/-! ### Segment tables and the adapter passes (R33 to R42) -/

/-- A segment-table entry as the macro-op reads it (R34). -/
structure SegE where
  start : Nat
  count : Nat
  record : Nat
  rank : Nat
  fmt : Nat
  mode : Nat
  proj : Nat
  neg : Bool
  zero : Bool
  scale : Int
  aAddr : Nat
  bAddr : Nat
  deriving DecidableEq, Repr

def SegE.ofBytes (b : List Byte) : SegE :=
  { start := fld b 0 2, count := fld b 2 2, record := fld b 4 4 % 2 ^ 17, rank := 4 * fld b 8 1
    fmt := fld b 9 1 % 16, mode := fld b 9 1 / 16, proj := fld b 10 1
    neg := fld b 11 1 / 2 % 2 = 1, zero := fld b 11 1 / 4 % 2 = 1
    scale := sext 12 (fld b 12 2), aAddr := fld b 16 8, bAddr := fld b 24 8 }

/-- The 16-bit entry of a row permutation. -/
def Ctx.perm (c : Ctx) (i : Nat) : Nat :=
  let q := c.s.plot c.p
  leNat (q.bytes (leNat (q.bytes (Mo.aux c.m + 12) 4) + 2 * i) 2)

/-- The segment entries of the table at AUX. -/
def Ctx.segs (c : Ctx) : List SegE :=
  let q := c.s.plot c.p
  (List.range (leNat (q.bytes (Mo.aux c.m) 2))).map fun i => SegE.ofBytes (q.bytes (Mo.aux c.m + 16 + 32 * i) 32)

/-- The segments in order, then the trailing rows without a record, each with its batch rows (R33, R185). -/
def Ctx.groups (c : Ctx) : List (Option SegE × List Nat) :=
  let q := c.s.plot c.p
  let rows := leNat (q.bytes (Mo.aux c.m + 2) 2)
  let used := c.segs.foldl (fun n e => max n (e.start + e.count)) 0
  (c.segs.map fun e => (some e, (List.range e.count).map fun k => c.perm (e.start + k))) ++
    (if used < rows then [(none, (List.range (rows - used)).map fun k => c.perm (used + k))] else [])

/-- The projection of an ADAPT macro-op (R176). -/
def Ctx.proj (c : Ctx) : Nat := Mo.aux2 c.m

/-- The segment takes part in the pass (R40, R42). -/
def Ctx.active (c : Ctx) (e : SegE) : Bool := e.proj.testBit c.proj && !e.zero

/-- Tiles of a group. -/
def Ctx.groupTiles (c : Ctx) (g : Option SegE × List Nat) : Nat := cdiv g.2.length (Mo.tm c.m) * c.nn

/-- The group and its rows and columns of an ADAPT tile (R185), and whether it is the group's first tile. -/
def Ctx.adaptTile (c : Ctx) : List (Option SegE × List Nat) → Nat → Option ((Option SegE × List Nat) × Tile × Bool)
  | [], _ => none
  | g :: gs, i =>
    if i < c.groupTiles g then
      let c0 := i % c.nn * Mo.tn c.m
      some (g,
        c.mkTile (((g.2.drop (i / c.nn * Mo.tm c.m)).take (Mo.tm c.m)).map fun a => { a := a }) c0
          (min (c0 + Mo.tn c.m) (c.dst.d.dim 0)), i == 0)
    else Ctx.adaptTile c gs (i - c.groupTiles g)

/-- The fields of the entry that fix where a layer's matrices lie (R31). -/
def SegE.layout (e : SegE) : AdRec := { rankQ := e.rank / 4, fmt := e.fmt, proj := BitVec.ofNat 7 e.proj }

/-- The model whose dimensions place the record's matrices (DESIGN CHOICE, log 70). -/
def Ctx.recModel (c : Ctx) (e : SegE) : Nat := firstModel (c.s.ent (c.s.adrec e.record).slot).modelMask

/-- Where A of the macro-op's projection lies: the entry names the layer's first A (R31, R34). -/
def Ctx.aAddr (c : Ctx) (e : SegE) : Nat := e.aAddr + e.layout.aOff (c.recModel e) 0 c.proj

/-- Where B of the macro-op's projection lies: the entry names the layer's first B (R31, R34). -/
def Ctx.bAddr (c : Ctx) (e : SegE) : Nat :=
  e.bAddr + (e.layout.bOff (c.recModel e) 0 c.proj - e.layout.bOff (c.recModel e) 0 (e.layout.projs.headD 0))

/-- Row i of a dense matrix of n rows and w columns followed by its block scales (R31). -/
def Ctx.matRow (e : SegE) (addr n w i : Nat) : Opnd :=
  { d := { Desc.ofBytes [] with
      base := addr + i * rowBytes e.fmt w
      sbase := addr + n * rowBytes e.fmt w + i * cdiv w 32
      dims := [w, 1, 1, 1], fmt := e.fmt, sexp := Config.adapterExp e.record }
    lim := [w, 1, 1, 1], pad := .lns {} }

/-- The DST rows of a list of batch rows, as byte ranges. -/
def Ctx.wholeRows (c : Ctx) (rows : List Nat) : List (Nat × Nat) :=
  (rows.filter fun a => c.dst.hasRow { a := a }).map fun a =>
    (c.dst.d.rowAddr { a := a }, rowBytes (if c.code = 2 then 0 else c.dst.d.fmt) (c.dst.len 0))

/-- A poisoned read of the record marks every row of the segment, and their requests end with ADAPTER_CORRUPT (R64). -/
def Ctx.adaptGuard (c : Ctx) (group : List Nat) (mats own : List Rect) (extra : List (Nat × Nat)) (out : TileOut) : TileOut :=
  let g := c.guarded (mats ++ own) extra none out
  if g.fault.isNone && c.s.spansPoison (mats.flatMap Rect.spans) then
    { g with poison := some Code.adapterCorrupt, seg := (c.wholeRows group, group) }
  else g

/-- One block of u as LNS8 and then scaled to u′: codes, scale byte, CONV_SAT, SAT_COUNT (R37 to R39). -/
def shrinkBlock (e : SegE) (us : List AccV) : List Nat × Nat × Nat × Nat :=
  let b := encBlock 0 0 (us.map fun a => (a.outVal 0 0, {}))
  let E := sext 8 b.scale
  let ts : List Term := b.codes.map fun n =>
    if n % 128 = 0 then {}
    else { zero := false, neg := n.testBit 7 != e.neg, lam := 16 * E + Int.ofNat (n % 128) - 127 + e.scale }
  let big := match lnsWant ts with | none => false | some w => decide (127 < w) || decide (w < -128)
  let r := lnsBlock 0 ts
  (r.codes, r.scale, b.satsIn 0 32, if big then 1 else 0)

/-- A row of u′ from column c0 to c1 as stored in DST; codes beyond the rank are 0 (R176). -/
def Ctx.shrinkRow (c : Ctx) (e : SegE) (t : Tile) (us : List AccV) (r : Ix) : TileOut :=
  let d := { c.dst.d with fmt := 0 }
  let hi := min t.c1 (c.dst.len 0)
  if c.dst.hasRow r = false ∨ hi ≤ t.c0 then {}
  else
    let blks := (chunks 32 us.length us).map (shrinkBlock e)
    let codes := blks.flatMap (·.1)
    let all := (List.range (hi - t.c0)).map fun i => codes.getD (t.c0 + i) 0
    let first := cdiv t.c0 32
    let scales := (List.range (cdiv hi 32 - first)).map fun i => BitVec.ofNat 8 ((blks.map (·.2.1)).getD (first + i) 0)
    let ws := [c.s.codeBytes c.p d r t.c0 all, (d.scaleAddr (32 * first) r, scales)]
    { conv := (blks.map (·.2.2.1)).foldl (· + ·) 0
      dirSat := (blks.map (·.2.2.2)).foldl (· + ·) 0
      accs := us.countP (·.sat)
      writes := ws, dst := ws.map fun w => (w.1, w.2.length), rows := [r.a] }

/-- ADAPT_SHRINK on a tile (R37 to R40, R42). -/
def Ctx.shrink (c : Ctx) (i : Nat) : TileOut :=
  match c.adaptTile c.groups i with
  | some ((some e, group), t, first) =>
    if !c.active e || c.skips t then {}
    else
      let a := c.aAddr e
      let rank := if t.c0 = 0 then e.rank else 0
      let mats := (List.range rank).map (Ctx.matRow e a e.rank c.red)
      let ws := mats.map fun o => c.s.rowVals c.p o {} 0 c.red
      let out : TileOut := t.rows.foldl (fun x r =>
        let xs := c.s.rowVals c.p c.src0 r 0 c.red
        x.plus (c.shrinkRow e t (ws.map fun w => dot (modeK e.mode) (Mo.tk c.m) xs w) r)) {}
      { (c.adaptGuard group (mats.map fun o => ⟨o, [{}], 0, c.red⟩) [⟨c.src0, t.rows, 0, c.red⟩] [] out) with
        cold := if first && c.s.region e.aAddr == .cold then 1 else 0 }
  | _ => {}

/-- v joins the base accumulator through `acc_group` (R41, R148), as a part of 20 bits above one of 20, since a part's magnitude has
32 bits (log 19). DESIGN CHOICE (log 72): where v is saturated, the sum is too, with v's sign; R41 says nothing of v's flag. -/
def addAcc (a v : AccV) : AccV :=
  if a.sat then a
  else if v.sat then { a with sat := true, S := if v.S < 0 then -max39 else max39 }
  else
    let part (m : Nat) (e : Int) : Part := ⟨m, e, v.X, decide (v.S < 0)⟩
    accGroup a [part (v.S.natAbs / 2 ^ 20) (v.X - 4), part (v.S.natAbs % 2 ^ 20) (v.X - 24)]

/-- An accumulator that holds a padding value, as one part (R193; log 19). -/
def AccV.ofPad (v : Dy) : AccV := if v.isZero then {} else accGroup {} [⟨v.m.natAbs, v.e, v.log2, v.isNeg⟩]

/-- The base accumulator of an element (R178); an element that is absent, or beyond an extent, is padding (R193). -/
def Ctx.base (c : Ctx) (r : Ix) (n : Nat) : AccV :=
  if c.src2.hasRow r && decide (n < c.src2.len 0) then
    AccV.ofImage (leNat (c.s.devBytes c.p (c.src2.d.rowAddr r + 8 * n) 8))
  else AccV.ofPad (single c.src2.d.pad)

/-- ADAPT_EXPAND on a tile: the base, plus v for the rows of an active segment (R16, R40 to R42). -/
def Ctx.expand (c : Ctx) (i : Nat) : TileOut :=
  match c.adaptTile c.groups i with
  | none => {}
  | some ((e, group), t, first) =>
    if c.skips t then {} else
    let bases := (t.rows.filter c.src2.hasRow).map fun r => (c.src2.d.rowAddr r + 8 * t.c0, 8 * (min t.c1 (c.src2.len 0) - t.c0))
    match e.filter c.active with
    | none => c.adaptGuard group [] [] bases (c.rowsOut t fun r => t.wide.map fun n => .acc (c.base r n))
    | some e =>
      let b := c.bAddr e
      let mat := Ctx.matRow e b (c.dst.d.dim 0) e.rank
      let ws := t.wide.map fun n => c.s.rowVals c.p (mat n) {} 0 e.rank
      let out := c.rowsOut t fun r =>
        let u := c.s.rowVals c.p c.src0 r 0 e.rank
        (t.wide.zip ws).map fun q => .acc (addAcc (c.base r q.1) (dot (modeK e.mode) (roundUp e.rank 16) u q.2))
      { (c.adaptGuard group (t.cols.map fun n => ⟨mat n, [{}], 0, e.rank⟩) [⟨c.src0, t.rows, 0, e.rank⟩] bases out) with
        cold := if first && c.s.region e.bAddr == .cold then 1 else 0 }

/-- A granule that an operand lies in changes its home: the macro-op's accesses wait (R219). -/
def Ctx.waits (c : Ctx) : Bool :=
  (c.o.flatMap fun o => o.d.extent (8 * o.d.dim 0)).any (fun e => c.s.spanWaits e.1 e.2) ||
    ((c.code == 2 || c.code == 3) && c.segs.any fun e =>
      c.s.spanWaits e.aAddr (blobSize e.layout (c.recModel e)) || c.s.spanWaits e.bAddr (blobSize e.layout (c.recModel e)))

/-! ### Every tile -/

/-- The number of tiles T (R185). -/
def Ctx.total (c : Ctx) : Nat :=
  if c.code = 2 ∨ c.code = 3 then (c.groups.map c.groupTiles).foldl (· + ·) 0
  else c.nm * c.nn * (c.dst.d.dim 2 * c.dst.d.dim 3)

/-- Tile i of the macro-op. -/
def Ctx.run (c : Ctx) (i : Nat) : TileOut :=
  let t := c.tile i
  match c.code with
  | 2 => c.shrink i
  | 3 => c.expand i
  | n =>
    if c.skips t then {}
    else match n with
      | 1 => c.matmul t
      | 4 => c.eltwise t
      | 5 => c.table t
      | 6 => c.reduce t
      | 7 => c.softmaxRows t
      | 8 => c.normRows t
      | 9 => c.gather t
      | 0xA => c.scatter t
      | 0xB => c.conv1d t
      | 0xC => c.copy t
      | 0xD => c.padTile t
      | _ => {}

/-- The DST rows of a tile as byte ranges and batch rows, whatever the tile would compute (R207). -/
def Ctx.rowsOf (c : Ctx) (i : Nat) : List (Nat × Nat) × List Nat :=
  let t := if c.code = 2 ∨ c.code = 3 then ((c.adaptTile c.groups i).map (·.2.1)).getD (c.mkTile [] 0 0) else c.tile i
  let hi := min t.c1 (c.dst.len 0)
  let wide := c.code = 1 ∧ Mo.accOut c.m = true
  let rs := if hi ≤ t.c0 then [] else t.rows.filter c.dst.hasRow
  (rs.map fun r =>
    if wide then (c.dst.d.rowAddr r + 8 * t.c0, 8 * (hi - t.c0))
    else
      let (off, n) := colSpan (if c.code = 2 then 0 else c.dst.d.fmt) t.c0 hi
      (c.dst.d.rowAddr r + off, n), rs.map (·.a))

end Sys2Proof.Machine
end

