-- ==== Sys2Proof/Machine/MacroOps.lean ====
section
/-! DEFINITION. The tile sequencer: issue checks, the walk, halos, barriers, completion, faults, reissue, injection (R109, R164,
R170 to R208, R640). -/
namespace Sys2Proof.Machine
open Sys2Proof

/-! ### Issue checks (R168, R182, R184, R203) -/

/-- The operands an opcode needs: 0 SRC0, 1 SRC1, 2 SRC2, 3 DST (R176). -/
def needs (m : BitVec 256) : List Nat :=
  match Mo.opcode m with
  | 1 => [0, 1, 3] | 2 => [0, 3] | 3 => [0, 2, 3]
  | 4 => if Mo.aux m % 16 < 6 then [0, 1, 3] else [0, 3]
  | 5 => [0, 3] | 6 => [0, 3] | 7 => [0, 3] | 8 => [0, 1, 3] | 9 => [0, 1, 3] | 0xA => [0, 1, 3] | 0xB => [0, 1, 3]
  | 0xC => [0, 3] | 0xD => [3] | _ => []

/-- A descriptor lies in plot store. -/
def descIn (m : BitVec 256) (k : Nat) : Bool := Mo.desc m k != 0xFFFF && decide (64 * Mo.desc m k + 64 ≤ storeSize)

/-- The bytes of the four descriptors; none for one that is not needed. -/
def Plot.descs (q : Plot) (m : BitVec 256) : List (List Byte) :=
  (List.range 4).map fun k => if (needs m).contains k && descIn m k then q.bytes (64 * Mo.desc m k) 64 else []

/-- The values of the pavilion's length registers (R175). -/
def State.lens (s : State) (p : Nat) : List Nat :=
  match s.plotPav p with
  | none => List.replicate 16 0
  | some v => (List.range 16).map fun i => s.rd R.pavLen v i

/-- The context of a macro-op from its image, descriptors and lengths. -/
def Ctx.mk' (s : State) (p : Nat) (m : BitVec 256) (descs : List (List Byte)) (lens : List Nat) (halo : Option HaloRows) : Ctx :=
  { s := s, p := p, m := m, o := descs.map fun b => Opnd.of (Desc.ofBytes b) lens, halo := halo }

/-- The operand holds 8-byte accumulator images (R178). -/
def isImage (m : BitVec 256) (k : Nat) : Bool := (k == 3 && Mo.opcode m == 1 && Mo.accOut m) || (k == 2 && Mo.opcode m == 3)

/-- The operand is an index tensor (R174). -/
def isIndex (m : BitVec 256) (k : Nat) : Bool := k == 1 && (Mo.opcode m == 9 || Mo.opcode m == 0xA)

/-- Bytes of a row of an operand. -/
def opndRow (m : BitVec 256) (d : Desc) (k : Nat) : Nat := if isImage m k then 8 * d.dim 0 else rowBytes d.fmt (d.dim 0)

/-- A descriptor that faults with BAD_DESCRIPTOR (R174, R203). -/
def descBad (m : BitVec 256) (d : Desc) (k : Nat) : Bool :=
  d.reserved || d.dims.any (· == 0)
    || [1, 2, 3].any (fun j => decide (d.stride j < opndRow m d k))
    || (isIndex m k && d.fmt != 0xB)
    || (k == 1 && Mo.opcode m == 0xB && decide (16 < d.dim 0))

/-- A format that faults with BAD_FORMAT (R140, R142, R168). -/
def fmtBad (m : BitVec 256) (d : Desc) (k : Nat) : Bool :=
  !isImage m k && (decide (0xC ≤ d.fmt) || (d.fmt == 2 && (k == 3 || decide (Mo.mode m ≤ 4))))

/-- The modes of an opcode (R145, R176, R177). -/
def modeOk (m : BitVec 256) : Bool :=
  let md := Mo.mode m
  match Mo.opcode m with
  | 1 => decide (md ≤ 5) | 0xB => decide (md ≤ 5) | 4 => decide (md ≤ 4) | 8 => decide (md ≤ 4) | _ => md == 0

/-- A segment-table entry whose FMT or MODE no record may hold (R29, R145, R168). -/
def SegE.fmtBad (e : SegE) : Bool := e.fmt == 2 || decide (0xC ≤ e.fmt)
def SegE.modeBad (e : SegE) : Bool := decide (5 ≤ e.mode)

/-- The macro-op runs with a segment table. -/
def Ctx.adapts (c : Ctx) : Bool := c.code == 2 || c.code == 3

/-- A tile edge of M or N. -/
def edge (n : Nat) : Bool := decide (4 ≤ n) && decide (n ≤ 256)

/-- A tile edge of K. -/
def kEdge (n : Nat) : Bool := decide (16 ≤ n) && decide (n ≤ 512)

/-- The tile edges are legal (R182). -/
def Ctx.edgesOk (c : Ctx) : Bool :=
  let tm := Mo.tm c.m
  let tn := Mo.tn c.m
  let tk := Mo.tk c.m
  match c.code with
  | 1 => edge tm && edge tn && kEdge tk
  | 2 => edge tm && kEdge tk && c.segs.all (fun e => decide (e.rank ≤ tn)) && decide (0 < tn)
  | 0xE => tm == 0 && tn == 0 && tk == 0
  | _ => edge tm && edge tn && tk == 0

/-- Bytes of a tile of n rows of w elements (R184): block scales counted, at least 64 bytes a row. -/
def tileBytes (fmt n w : Nat) : Nat := n * max 64 (rowBytes fmt w) + (if scaled fmt then n * cdiv w 32 else 0)

/-- The footprint of a macro-op of the first row of the table (R184). -/
def footMac (a b k tk tn tm acc halo : Nat) : Nat := 2 * (a + b) + 2 * k * tk * tn + 8 * tm * tn * acc + halo

/-- The footprint F (R184). -/
def Ctx.footprint (c : Ctx) : Nat :=
  let tm := Mo.tm c.m
  let tn := Mo.tn c.m
  let tk := Mo.tk c.m
  let md := Mo.mode c.m
  let f (o : Opnd) : Nat := o.d.fmt
  let terms (mode : Nat) : Nat := if 1 ≤ mode ∧ mode ≤ 4 then mode else 0
  let others (srcs : Nat) : Nat := 2 * srcs + 4 * tm * tn + 8 * tm
  match c.code with
  | 1 => footMac (tileBytes (f c.src0) tm tk) (tileBytes (f c.src1) tn tk) (terms md) tk tn tm 1 0
  | 2 => c.segs.foldl (fun n e => max n (footMac (tileBytes (f c.src0) tm tk) (tileBytes e.fmt tn tk) (terms e.mode) tk tn tm 1 0))
      (footMac (tileBytes (f c.src0) tm tk) 0 0 tk tn tm 1 0)
  | 3 => c.segs.foldl (fun n e =>
      let r := roundUp e.rank 16
      max n (footMac (tileBytes (f c.src0) tm r) (tileBytes e.fmt tn r) (terms e.mode) r tn tm 2 0)) (footMac 0 0 0 0 tn tm 2 0)
  | 0xB => footMac (tileBytes (f c.src0) tm tn) (tileBytes (f c.src1) tn c.red) (terms md) c.red tn tm 1
      (if c.halos then (c.red - 1) * rowBytes (f c.src0) (c.src0.d.dim 0) else 0)
  | 4 => others (tileBytes (f c.src0) tm tn + (if c.eltOp < 6 then tileBytes (f c.src1) tm tn else 0))
  | 8 => others (tileBytes (f c.src0) tm tn + tileBytes (f c.src1) 1 tn)
  | 9 => others (tileBytes (f c.src0) tm tn + tileBytes 0xB 1 tm)
  | 0xA => others (tileBytes (f c.src0) tm tn + tileBytes 0xB 1 tm)
  | 0xD => others 0
  | 0xE => 0
  | _ => others (tileBytes (f c.src0) tm tn)

/-- The AUX table of TABLE, and the segment table of the ADAPT macro-ops, lie in plot store (log 19). -/
def Ctx.auxIn (c : Ctx) : Bool :=
  match c.code with
  | 5 => decide (Mo.aux c.m + 2052 ≤ storeSize)
  | 2 => decide (Mo.aux c.m + 16 + 32 * c.segs.length ≤ storeSize)
  | 3 => decide (Mo.aux c.m + 16 + 32 * c.segs.length ≤ storeSize)
  | _ => true

/-- HEDGE_CFG.COLL of the plot's pavilion (R164). -/
def State.coll (s : State) (p : Nat) : Nat := match s.plotPav p with | some v => s.rd R.hedgeColl v | none => 0

/-- The image itself faults with BAD_MACRO_OP (R170, R176, R202). -/
def moBad (m : BitVec 256) (injected : Bool) : Bool :=
  Mo.opcode m == 0 || decide (0xE < Mo.opcode m) || Mo.walk m == 3 || Mo.reserved m
    || (Mo.opcode m == 4 && decide (8 ≤ Mo.aux m % 16)) || (injected && Mo.walk m != 2)

/-- The first issue fault of a macro-op, in the order R203 lists them. -/
def Ctx.issueFault (c : Ctx) (injected : Bool) : Option Nat :=
  let m := c.m
  let ns := needs m
  let ds (k : Nat) : Desc := (c.o.getD k Opnd.nil).d
  if moBad m injected then some Code.badMacroOp
  else if ns.any (fun k => !descIn m k || descBad m (ds k) k) || !c.auxIn then some Code.badDescriptor
  else if ns.any (fun k => fmtBad m (ds k) k) || Mo.rnd m == 3 || (c.adapts && c.segs.any SegE.fmtBad) then some Code.badFormat
  else if !modeOk m || (c.adapts && c.segs.any SegE.modeBad) then some Code.modeUnsupported
  else if Mo.collides m && c.s.coll c.p == 1 then some Code.hedgeCorrelated
  else if !c.edgesOk || (c.halos && Mo.walk m != 1) then some Code.badTile
  else if Mo.walk m = 2 ∧ c.code ≠ 0xE ∧ c.total ≤ Mo.tile m then some Code.badTile
  else if Mo.alloc m < c.footprint then some Code.tileOverflow
  else if storeSize < Mo.storeBase m + Mo.alloc m then some Code.badAllocation
  else if Mo.walk m = 0 ∧ c.code ≠ 0xE ∧ (c.s.tc (terrOf c.p) (Mo.tcnt m)).2 ≠ c.total % 2 ^ 24 then some Code.tcntMismatch
  else none

/-! ### Effects of a tile -/

/-- The request is in its draft passes, which all end before its verification pass (R286). -/
def Req.inDraft (r : Req) : Bool :=
  r.phase == .running && r.todo == 0 && !r.draftStopped && r.draws.isEmpty && decide (r.drafts.length < r.sched.depth)

/-- The requests that own the batch rows of the pass on a terrace, and whether the pass is a verification or a prefill: in a draft
pass each drafting request has a row for each token that the pass takes (R287; log 36). -/
def State.passRows (s : State) (t : Nat) : List Nat × Bool :=
  let rows := (s.terr t).rows
  let ds := rows.eraseDups.filter fun i => (s.req i).inDraft
  if ds.isEmpty then (rows, true) else (ds.flatMap fun i => List.replicate (s.req i).draftIn.length i, false)

/-- Requests that own batch rows of a terrace are marked to end with an error (R64, R207); a mark on a row of a verification pass
blocks the commit (R306). -/
def State.failRows (s : State) (t : Nat) (rows : List Nat) (ev : Nat) : State :=
  let (own, ver) := s.passRows t
  rows.foldl (fun u m => match own[m]? with
    | some i =>
      let v := u.failReq i ev
      if v.hasReq i then v.setReq i { v.req i with poisoned := (v.req i).poisoned || ver } else v
    | none => u) s

/-- DST rows become POISON and their requests are marked to end (R207, R208). -/
def State.loseRows (s : State) (p : Nat) (spans : List (Nat × Nat)) (rows : List Nat) (ev : Nat) : State :=
  (spans.foldl (fun t e => t.poisonSpan p e.1 e.2) s).failRows (terrOf p) rows ev

/-- What one tile leaves behind: its writes, counters and marks. -/
def State.applyTile (s : State) (p : Nat) (o : TileOut) : State :=
  let t := o.reads.foldl (fun u e => u.coldOpen e.1 e.2) s
  let t := o.writes.foldl (fun u w => u.devWrite p w.1 w.2) t
  let t := ((t.inc R.convSat p o.conv).inc R.nonfinite p o.nonf).inc R.accSat p o.accs
  let t := (t.inc R.satCount 0 o.dirSat).inc R.coldReads 0 o.cold
  match o.fault with
  | some _ => o.dst.foldl (fun u e =>
      if u.region e.1 = .self then
        u.setPlot p (((u.plot p).bad.filter fun w => e.1 - selfBase < w * 8 + 8 ∧ w * 8 < e.1 - selfBase + e.2).foldl
          (fun q w => q.wantRow (w / 8)) (u.plot p))
      else u) t
  | none =>
    match o.poison with
    | some ev => (t.loseRows p o.dst o.rows ev).loseRows p o.seg.1 o.seg.2 ev
    | none => t

/-! ### The queue -/

def State.setRun (s : State) (p : Nat) (r : Option RunOp) : State := s.setPlot p { s.plot p with running := r }

/-- The macro-op at the head leaves the queue; messages that wait for it count down; a plot that is stopping stops (R127,
R239). -/
def State.popOp (s : State) (p : Nat) : State :=
  let q := s.plot p
  let q : Plot := { q with
    queue := q.queue.drop 1
    running := none
    barrier := none
    outq := q.outq.map fun m => { m with ops := m.ops - 1 } }
  s.setPlot p (if q.stopping then q.stopped else q)

/-- Records the first fault since the last SEQ.WAIT that returned one; macro-ops are discarded until then (R110, R204). -/
def State.recordFault (s : State) (p code : Nat) : State :=
  let q := s.plot p
  s.setPlot p { q with fault := q.fault.orElse fun _ => some code, discarding := true }

/-- What the padding of the descriptors counts at issue: PAD_SAT once, NONFINITE for a NaN (R194; log 19). -/
def Ctx.padStats (c : Ctx) : Bool × Nat :=
  let ds := (needs c.m).filterMap fun k => if isImage c.m k || isIndex c.m k then none else some (c.o.getD k Opnd.nil).d
  (ds.any fun d => d.padVal.2, ds.countP fun d => d.pad / 2 ^ 23 % 2 ^ 8 == 255 && d.pad % 2 ^ 23 != 0)

/-- Counters of an accepted issue (R164, R188, R194). -/
def State.issueStats (s : State) (c : Ctx) : State :=
  let (sat, nan) := c.padStats
  let t := (s.inc R.padSat c.p (if sat then 1 else 0)).inc R.nonfinite c.p nan
  let t := if Mo.walk c.m ≠ 2 ∧ 2 ^ 24 ≤ c.total ∧ c.code ≠ 0xE then t.inc R.tcntWrap c.p else t
  if Mo.collides c.m then (match t.plotPav c.p with | some v => t.inc R.hedgeSubst v | none => t) else t

/-- A descriptor of the macro-op holds an uncorrectable word (R569). -/
def Plot.descUe (q : Plot) (m : BitVec 256) : Bool :=
  (needs m).any fun k => descIn m k && q.badIn (64 * Mo.desc m k) 64

/-- Every DST row of an ADAPT macro-op that overflowed is lost (R640). -/
def State.overflowed (s : State) (c : Ctx) (code : Nat) : State :=
  if code = Code.tileOverflow ∧ c.adapts = true then
    let rows := (c.groups.flatMap (·.2)).filter fun a => c.dst.hasRow { a := a }
    s.loseRows c.p (c.wholeRows rows) rows Code.tileLost
  else s

/-- A macro-op starts; as a macro-op, it is another than one of the same image that the plot faulted on before (R206). -/
def State.startOp (s : State) (p : Nat) (r : RunOp) : State :=
  s.setPlot p { s.plot p with
    running := some r, faultOn := (s.plot p).faultOn.filter fun m => m != Mo.explicit r.op.img 0 }

/-- The macro-op at the head is issued: it starts, or faults without writing (R203). -/
def State.issue (s : State) (p : Nat) (o : QOp) : State :=
  let q := s.plot p
  let descs := q.descs o.img
  let lens := s.lens p
  let c := Ctx.mk' s p o.img descs lens none
  match c.issueFault false with
  | some code => ((s.overflowed c code).recordFault p code).popOp p
  | none =>
    let ue := if q.descUe o.img then some Code.sramUe else none
    let r : RunOp := { op := o, lens := lens, descs := descs, padSat := c.padStats.1, fault := ue }
    (s.issueStats c).startOp p r

/-- The context of the macro-op in execution. -/
def State.ctx (s : State) (p : Nat) (r : RunOp) : Ctx := Ctx.mk' s p r.op.img r.descs r.lens r.rows

/-! ### Halos (R195 to R197) -/

/-- A plot's neighbour in its terrace row: east or west. -/
def east (p : Nat) : Option Nat := if p % 8 = 7 then none else some (p + 1)
def west (p : Nat) : Option Nat := if p % 8 = 0 then none else some (p - 1)

/-- The reads that a halo macro-op makes of the rows it sends (R195). -/
def Ctx.haloReads (c : Ctx) : List (Nat × Nat) :=
  let d := c.src0.d
  (List.range (c.window - 1)).filterMap fun k =>
    if d.dim 1 + k < c.window - 1 then none
    else
      let r : Ix := { a := d.dim 1 + k - (c.window - 1) }
      if c.src0.hasRow r then some (d.rowAddr r, rowBytes d.fmt (d.dim 0)) else none

/-- The rows a halo macro-op sends: the last w − 1 of its slice, in ascending order (R195). -/
def Ctx.haloSend (c : Ctx) : HaloRows :=
  let d := c.src0.d
  let w := c.window
  let n := rowBytes d.fmt (d.dim 0)
  let row (k : Nat) : Option (List Byte × List Byte) :=
    if d.dim 1 + k < w - 1 then none
    else
      let r : Ix := { a := d.dim 1 + k - (w - 1) }
      if c.src0.hasRow r = false then none
      else some (c.s.devBytes c.p (d.rowAddr r) n,
        if scaled d.fmt then c.s.devBytes c.p (d.scaleAddr 0 r) (cdiv (d.dim 0) 32) else [])
  { count := (w - 1) * roundUp n 16, rows := (List.range (w - 1)).map row, bad := c.s.spansPoison c.haloReads }

/-- A running halo macro-op faults; nothing of it is written (R197). -/
def State.faultRun (s : State) (p code : Nat) : State :=
  match (s.plot p).running with
  | none => s
  | some r => s.setRun p (some { r with fault := some code })

/-- The transfer from a plot to its E neighbour, once both have begun: agreed, or a mismatch for both (R195, R197). -/
def State.haloPair (s : State) (p n : Nat) : State :=
  match (s.plot p).running, (s.plot n).running with
  | some a, some b =>
    match a.sent, b.sent with
    | some x, some y =>
      if a.eOk ∨ b.wOk ∨ a.fault.isSome ∨ b.fault.isSome then s
      else if x.count = y.count then
        (s.setRun p (some { a with eOk := true })).setRun n (some { b with wOk := true, rows := some x })
      else (s.faultRun p Code.haloMismatch).faultRun n Code.haloMismatch
    | _, _ => s
  | _, _ => s

/-- A halo macro-op begins its transfer and agrees with the neighbours that have begun theirs (R195, R196). A row that it cannot
read is an execution fault at that access, and nothing is sent (R210). -/
def State.haloStep (s : State) (p : Nat) (r : RunOp) : State :=
  match (if r.sent.isSome then none else s.spansFault p (s.ctx p r).haloReads) with
  | some code => s.faultRun p code
  | none =>
  let s1 := match r.sent with
    | some _ => s
    | none => s.setRun p (some { r with
        sent := some (s.ctx p r).haloSend, eOk := (east p).isNone, wOk := (west p).isNone })
  let s2 := match east p with | some n => s1.haloPair p n | none => s1
  match west p with | some n => s2.haloPair n p | none => s2

/-! ### The walk (R186 to R192) -/

/-- The draw that a SHARED walk makes when a tile starts its last K-tile, before the tile's writes (R189); any other walk makes none. -/
def State.drawAhead (s : State) (p : Nat) (m : BitVec 256) : Option (Option Nat) × State :=
  if Mo.walk m = 0 then
    let (v, t) := s.draw (terrOf p) (Mo.tcnt m)
    (some v, t)
  else (none, s)

/-- The tile drawn ahead, if there is one. -/
def aheadTile (a : Option (Option Nat)) : List Nat := (a.getD none).toList

/-- A drawn tile is computed. The next is drawn after its reads and before its writes; a fault of a read comes before that draw and
one of a write after it, and either stops the walk (R189, R192, R205; log 19). A SHARED walk whose last draw finds the counter
exhausted is complete (R190). -/
def State.runTile (s : State) (p : Nat) (r : RunOp) (i : Nat) : State :=
  let o := (s.ctx p r).run i
  let a := if o.fault.isSome && !o.late then (none, s) else s.drawAhead p r.op.img
  let t := a.2.applyTile p o
  let t := if o.padS && !r.padSat then t.inc R.padSat p else t
  t.setRun p (some { r with
    tiles := i :: r.tiles
    ahead := a.1
    done := a.1 == some none && o.fault.isNone
    padSat := r.padSat || o.padS
    fault := o.fault
    incomplete := if o.fault.isSome then i :: aheadTile a.1 else [] })

/-- A SHARED walk goes on with the tile drawn ahead, or with its first draw (R186, R189). -/
def State.sharedTile (s : State) (p : Nat) (r : RunOp) : State :=
  match r.ahead with
  | some (some i) => s.runTile p r i
  | some none => s.setRun p (some { r with done := true })
  | none =>
    match s.draw (terrOf p) (Mo.tcnt r.op.img) with
    | (none, _) => s.setRun p (some { r with done := true })
    | (some i, t) => t.runTile p r i

/-- The walk of a macro-op in execution goes on for n tiles (R186, R188, R189). -/
def State.walk (s : State) (p : Nat) : Nat → State
  | 0 => s
  | n + 1 =>
    match (s.plot p).running with
    | none => s
    | some r =>
      if r.done || r.fault.isSome then s
      else
        let m := r.op.img
        match Mo.walk m with
        | 0 => (s.sharedTile p r).walk p n
        | 1 =>
          if r.next < (s.ctx p r).total % 2 ^ 24 then (s.runTile p { r with next := r.next + 1 } r.next).walk p n
          else s.setRun p (some { r with done := true })
        | _ =>
          let t := s.runTile p r (Mo.tile m)
          match (t.plot p).running with
          | none => t
          | some u => if u.fault.isSome then t else t.setRun p (some { u with done := true })

/-- A macro-op in execution goes on: its halo first, then its tiles (R195). It waits while a granule of an operand changes its home
(R219). -/
def State.goOn (s : State) (p n : Nat) : State :=
  match (s.plot p).running with
  | none => s
  | some r =>
    if r.done || r.fault.isSome || (s.ctx p r).waits then s
    else if (s.ctx p r).halos && !(r.eOk && r.wOk) then
      let t := s.haloStep p r
      match (t.plot p).running with
      | some u => if u.eOk && u.wOk && u.fault.isNone then t.walk p n else t
      | none => t
    else s.walk p n

/-- The plot's sequencer runs: the plot runs, or stops once its macro-op completes (R127, R130). -/
def Plot.sequencing (q : Plot) : Bool := (q.run || q.stopping) && !q.halted

/-- The head of a queue is a command's macro-op; one of a reserved opcode is any command's (R170, log 19). -/
def heads (code : Nat) (m : BitVec 256) : Bool := Mo.opcode m == code || Mo.opcode m == 0 || decide (0xE < Mo.opcode m)

/-- A macro-op command: the head of the queue reaches issue, in order and after the older stores, and runs for a number of
draws; discarded macro-ops complete unexecuted (R198, R201, R204, R238). -/
def State.macroOp (s : State) (code p n : Nat) (evs : List (Nat × MemEvent)) : State :=
  let q := s.plot p
  if !q.sequencing then s
  else match q.running with
    | some r => if Mo.opcode r.op.img = code then (s.accessEvents p evs).goOn p n else s
    | none =>
      match q.inj, q.queue with
      | [], o :: _ =>
        if !heads code o.img then s
        else if q.discarding then s.popOp p
        else if s.storesWait p o.stores then s
        else
          let t := (s.drain p o.stores).issue p o
          ((t.accessEvents p evs)).goOn p n
      | _, _ => s

/-- MATMUL (R176). -/
def execMatmul (plot draws : Nat) (evs : List (Nat × MemEvent)) (s : State) : Res := ok (s.macroOp 1 plot draws evs)
/-- ADAPT_SHRINK (R37). -/
def execAdaptShrink (plot draws : Nat) (evs : List (Nat × MemEvent)) (s : State) : Res := ok (s.macroOp 2 plot draws evs)
/-- ADAPT_EXPAND (R41). -/
def execAdaptExpand (plot draws : Nat) (evs : List (Nat × MemEvent)) (s : State) : Res := ok (s.macroOp 3 plot draws evs)
/-- ELTWISE (R176). -/
def execEltwise (plot draws : Nat) (evs : List (Nat × MemEvent)) (s : State) : Res := ok (s.macroOp 4 plot draws evs)
/-- TABLE (R176). -/
def execTable (plot draws : Nat) (evs : List (Nat × MemEvent)) (s : State) : Res := ok (s.macroOp 5 plot draws evs)
/-- REDUCE (R176). -/
def execReduce (plot draws : Nat) (evs : List (Nat × MemEvent)) (s : State) : Res := ok (s.macroOp 6 plot draws evs)
/-- SOFTMAX_ROWS (R176). -/
def execSoftmaxRows (plot draws : Nat) (evs : List (Nat × MemEvent)) (s : State) : Res := ok (s.macroOp 7 plot draws evs)
/-- NORM_ROWS (R176). -/
def execNormRows (plot draws : Nat) (evs : List (Nat × MemEvent)) (s : State) : Res := ok (s.macroOp 8 plot draws evs)
/-- GATHER (R176, R180). -/
def execGather (plot draws : Nat) (evs : List (Nat × MemEvent)) (s : State) : Res := ok (s.macroOp 9 plot draws evs)
/-- SCATTER (R176, R179). -/
def execScatter (plot draws : Nat) (evs : List (Nat × MemEvent)) (s : State) : Res := ok (s.macroOp 0xA plot draws evs)
/-- CONV1D (R176, R195). -/
def execConv1d (plot draws : Nat) (evs : List (Nat × MemEvent)) (s : State) : Res := ok (s.macroOp 0xB plot draws evs)
/-- COPY (R176). -/
def execCopy (plot draws : Nat) (evs : List (Nat × MemEvent)) (s : State) : Res := ok (s.macroOp 0xC plot draws evs)
/-- PAD (R176, R194). -/
def execPad (plot draws : Nat) (evs : List (Nat × MemEvent)) (s : State) : Res := ok (s.macroOp 0xD plot draws evs)

/-! ### Barriers (R181, R241) -/

/-- The running plots of a barrier's scope: 0 the terrace, 1 the pavilion (R181). -/
def State.scopePlots (s : State) (p scope : Nat) : List Nat :=
  (List.range 2048).filter fun q =>
    (s.plot q).run && !(s.plot q).halted &&
      (if scope = 0 then terrOf q == terrOf p else s.plotPav q == s.plotPav p)

/-- The reissues of a scope (R181, R206). -/
def State.scopeReissues (s : State) (p scope : Nat) : Bool :=
  match s.plotPav p with
  | none => false
  | some v => (s.pav v).reissues.any fun r =>
      scope == 1 || (r.failedOn.head?.map terrOf) == some (terrOf p)

/-- What waits for room in a plot's lane enters it, at most 16 at a time: reissued tiles, then, while the plot waits at a BARRIER, the
tiles of its layer (R201, R206, R276). -/
def Plot.feed (q0 : Plot) : Plot :=
  let n := 16 - q0.inj.length
  let q := { q0 with inj := q0.inj ++ q0.injHold.take n, injHold := q0.injHold.drop n }
  match q.injWait with
  | [] => q
  | b :: bs =>
    if q.barrier.isSome then
      { q with inj := q.inj ++ b.take (16 - q.inj.length), injWait := b.drop (16 - q.inj.length) :: bs }
    else q

/-- A plot waits at a barrier with a scope and an ID, its older stores performed and its layer's steward tiles done (R181, R241,
R276). -/
def State.atBarrier (s : State) (p scope id : Nat) : Bool :=
  let q := s.plot p
  match q.barrier, q.running with
  | some e, some r => e == (scope, id) && r.op.stores == 0 && (q.queue.head?.map (·.stores)).getD 0 == 0
      && q.inj.isEmpty && q.injHold.isEmpty && (q.injWait.headD []).isEmpty
  | _, _ => false

/-- A barrier is complete on a plot. The tiled layers of a step are those of the plot's barriers in order (R276; log 37). -/
def State.passBarrier (s : State) (p : Nat) : State :=
  match (s.plot p).running with
  | none => s
  | some r => s.setPlot p { s.plot p with
      running := some { r with done := true }, barrier := none, injWait := (s.plot p).injWait.drop 1 }

/-- A plot reaches the barrier at the head of its queue (R181, R203, R238). -/
def State.reach (s : State) (p : Nat) (o : QOp) : State :=
  let t := s.issue p { o with stores := 0 }
  match (t.plot p).running with
  | none => t
  | some _ => t.setPlot p (Plot.feed { t.plot p with barrier := some (bits o.img 192 1, bits o.img 200 8) })

/-- The barrier completes on every plot of its scope once all wait at it (R181, R241). -/
def State.tryBarrier (s : State) (p : Nat) : State :=
  match (s.plot p).barrier with
  | none => s
  | some (scope, id) =>
    let ps := s.scopePlots p scope
    if ps.contains p && ps.all (fun q => s.atBarrier q scope id) && !s.scopeReissues p scope then
      ps.foldl State.passBarrier s
    else s

/-- BARRIER (R181, R241): the plot reaches it, with its older stores performed, and it completes if it can. -/
def execBarrier (plot : Nat) (s : State) : Res :=
  let q := s.plot plot
  if !q.sequencing then ok s
  else match q.running with
    | some _ => ok (s.tryBarrier plot)
    | none =>
      match q.inj, q.queue with
      | [], o :: _ =>
        if !heads 0xE o.img then ok s
        else if q.discarding then ok (s.popOp plot)
        else if s.storesWait plot o.stores then ok s
        else ok (((s.drain plot o.stores).reach plot o).tryBarrier plot)
      | _, _ => ok s

/-- BARRIER_TIMEOUT: the barrier faults (R181). -/
def execBarrierTimeout (plot : Nat) (s : State) : Res :=
  match (s.plot plot).barrier with
  | none => ok s
  | some _ => ok ((s.faultRun plot Code.barrierTimeout).setPlot plot
      { (s.faultRun plot Code.barrierTimeout).plot plot with barrier := none })

/-- HALO_TIMEOUT: the partner has not begun its exchange (R108, R197). -/
def execHaloTimeout (plot : Nat) (s : State) : Res :=
  let q := s.plot plot
  match q.halo with
  | some h => ok (s.haloTrap plot 29 h)
  | none =>
    match q.running with
    | some r => onlyIf (r.sent.isSome && !(r.eOk && r.wOk) && r.fault.isNone) s (s.faultRun plot Code.haloTimeout)
    | none => ok s

/-! ### Completion -/

/-- The macro-op rounds elements of DST with RND (R149). -/
def Ctx.rounds (c : Ctx) : Bool := c.code != 2 && c.code != 0xD && c.code != 0xE && !(c.code == 1 && Mo.accOut c.m)

/-- The span of a macro-op on a bank (R155, R156, R161). -/
def Ctx.span (c : Ctx) (bank : Nat) : Nat :=
  c.hedgeSpan bank +
    (if Mo.rnd c.m == 1 && Mo.srBank c.m == bank && c.rounds then
      cdiv (c.dst.d.dims.foldl (· * ·) 1) 4 else 0)

/-- The draw bases advance by the span (R155). -/
def State.advanceGens (s : State) (c : Ctx) : State :=
  s.setPlot c.p ((List.range 4).foldl (fun q b =>
    if (Mo.banks c.m).contains b then q.setGen b { q.gen b with d := (q.gen b).d + BitVec.ofNat 64 (c.span b) } else q) (s.plot c.p))

/-- MACRO_OP_COMPLETE: the writes of the walk are performed, and the macro-op counts as complete (R155, R190, R238). -/
def execMacroOpComplete (plot : Nat) (s : State) : Res :=
  match (s.plot plot).running with
  | some r => onlyIf (r.done && r.fault.isNone) s ((s.advanceGens (s.ctx plot r)).popOp plot)
  | none => ok s

/-! ### Execution faults, reissue, injection (R201, R202, R205 to R207) -/

/-- The plot a tile is injected into: the running plot of the terrace with the lowest ID that has not faulted on the macro-op
(R206; log 19). -/
def State.reissuePlot (s : State) (t : Nat) (failedOn : List Nat) (img : BitVec 256) : Option Nat :=
  ((List.range 64).map (plotAt t)).find? fun q =>
    (s.plot q).run && !(s.plot q).halted && !failedOn.contains q && !(s.plot q).faultOn.contains (Mo.explicit img 0)

/-- A plot has faulted on a macro-op in execution (R206). -/
def State.markFaulted (s : State) (p : Nat) (img : BitVec 256) : State :=
  s.setPlot p { s.plot p with faultOn := Mo.explicit img 0 :: (s.plot p).faultOn }

/-- A reissued tile enters a plot's lane, or waits there for room (R201; log 19). -/
def Plot.inject (q : Plot) (img : BitVec 256) : Plot :=
  if q.inj.length < 16 then { q with inj := q.inj ++ [img] } else { q with injHold := q.injHold ++ [img] }

/-- A tile is reissued, or lost where no plot is eligible (R206, R207). -/
def State.reissue (s : State) (c : Ctx) (code : Nat) (failedOn : List Nat) (tile : Nat) : State :=
  match s.reissuePlot (terrOf c.p) failedOn c.m with
  | none => s.loseRows c.p (c.rowsOf tile).1 (c.rowsOf tile).2 Code.tileLost
  | some q =>
    let img := Mo.explicit c.m tile
    let t := s.setPlot q ((s.plot q).inject img)
    let v := (t.plotPav c.p).getD 0
    t.setPav v { t.pav v with reissues := (t.pav v).reissues ++ [{ op := img, tile := tile, code := code, failedOn := failedOn }] }

/-- EXECUTION_FAULT: the fault is reported to the steward with the drawn tiles that are not complete, the fault is recorded, and
each tile is reissued (R204 to R206). -/
def execExecutionFault (plot : Nat) (s : State) : Res :=
  match (s.plot plot).running with
  | none => ok s
  | some r =>
    match r.fault with
    | none => ok s
    | some code =>
      let c := s.ctx plot r
      let t := s.emit (.faultReport plot r.op.img code r.incomplete)
      let t := ((t.recordFault plot code).markFaulted plot r.op.img).popOp plot
      ok (r.incomplete.foldl (fun u i => u.reissue { c with s := u } code [plot] i) t)

/-- The reissue an injected image stands for. -/
def State.reissueOf (s : State) (p : Nat) (img : BitVec 256) : Option Reissue :=
  (s.pav ((s.plotPav p).getD 0)).reissues.find? fun r => r.op == img && (r.failedOn.head?.map terrOf) == some (terrOf p)

/-- A reissue is over. -/
def State.dropReissue (s : State) (p : Nat) (r : Reissue) : State :=
  let v := (s.plotPav p).getD 0
  s.setPav v { s.pav v with reissues := dropFirst (· == r) (s.pav v).reissues }

/-- An injected macro-op has faulted: it is reported, and its tile is lost if it was a reissue, or reissued if it faulted in
execution (R201, R206, R207). -/
def State.injFault (s : State) (c : Ctx) (code : Nat) (executed : Bool) : State :=
  let t := s.emit (.faultReport c.p c.m code (if executed then [Mo.tile c.m] else []))
  match t.reissueOf c.p c.m with
  | some r =>
    let rows := c.rowsOf (Mo.tile c.m)
    (t.dropReissue c.p r).loseRows c.p rows.1 rows.2 Code.tileLost
  | none => if executed then (t.markFaulted c.p c.m).reissue c code [c.p] (Mo.tile c.m) else t

/-- An injected macro-op has completed; a reissued tile raises TILE_REISSUED (R155, R206). -/
def State.injDone (s : State) (c : Ctx) : State :=
  let t := s.advanceGens c
  match t.reissueOf c.p c.m with
  | some r =>
    (t.dropReissue c.p r).raise
      { cls := .corrected, event := Code.tileReissued, pav := t.plotPav c.p, unit := 1, inst := c.p, d1 := r.code }
  | none => t

/-- The plot is at a macro-op boundary: it executes no macro-op, or waits at a BARRIER (R181, R201, R202). -/
def Plot.atBoundary (q : Plot) : Bool := q.running.isNone || q.barrier.isSome

/-- INJECTED_MACRO_OP: the oldest injected macro-op executes at a macro-op boundary of the plot, and the next steward tile that
waits takes its room (R201, R202, R276). -/
def execInjectedMacroOp (plot : Nat) (evs : List (Nat × MemEvent)) (s0 : State) : Res :=
  let s := s0.accessEvents plot evs
  let q := s.plot plot
  match q.inj with
  | img :: rest =>
    if !q.sequencing || !q.atBoundary then ok s0
    else
      let t := s.setPlot plot (Plot.feed { q with inj := rest })
      let c := Ctx.mk' t plot img (q.descs img) (s.lens plot) none
      if c.waits then ok s0 else
      match c.issueFault true with
      | some code => ok ((t.overflowed c code).injFault c code false)
      | none =>
        if q.descUe img then ok (t.injFault c Code.sramUe true)
        else
          let t := t.issueStats c
          let o := (Ctx.run { c with s := t } (Mo.tile img))
          let u := t.applyTile plot o
          match o.fault with
          | some code => ok (u.injFault c code true)
          | none => ok ((if o.padS && !c.padStats.1 then u.inc R.padSat plot else u).injDone c)
  | [] => ok s0

end Sys2Proof.Machine
end

