-- ==== Sys2Proof/Machine/Requests.lean ====
section
/-! DEFINITION. Requests: final records and events, ends, rejections, ranks, depth, placement, admission, prompts, selection,
commit points, deadlines (R250 to R265, R277, R278, R284 to R308, R442 to R452). -/
namespace Sys2Proof.Machine
open Sys2Proof

/-! ### What goes back to the host (R447 to R451) -/

/-- FLAGS of a final record (R447). -/
def Report.flags (p : Report) : Nat :=
  b2n p.deadlineMissed + 2 * b2n p.seedDup + 4 * b2n p.mixed + 8 * b2n p.stop + 16 * b2n p.maxed

/-- The 64-byte final record (R447). -/
def finalRecord (id status : Nat) (p : Report) (emitted : Nat) (seed : Word64) (now : Nat) : List Byte :=
  leBytes 8 id ++ leBytes 2 status ++ leBytes 2 p.flags ++ leBytes 4 emitted ++ leBytes 4 p.verFirst.toNat
    ++ leBytes 4 p.verLast.toNat ++ leBytes 4 p.wgenFirst ++ leBytes 4 p.wgenLast ++ leBytes 8 seed.toNat
    ++ leBytes 4 p.matched ++ leBytes 4 (min p.drafted (2 ^ 32 - 1)) ++ leBytes 4 (min p.accepted (2 ^ 32 - 1))
    ++ leBytes 8 now ++ leBytes 4 0

/-- A FINAL event, PHASE 0 (R449). -/
def finalEvent (id status flags emitted : Nat) : BitVec 128 :=
  BitVec.ofNat 128 (id % 2 ^ 64 + status % 65536 * 2 ^ 64 + flags % 65536 * 2 ^ 80 + emitted % 2 ^ 18 * 2 ^ 96 + 2 ^ 114)

/-- A TOKEN event, PHASE 0 (R449). -/
def tokenEvent (id token i : Nat) (last : Bool) : BitVec 128 :=
  BitVec.ofNat 128 (id % 2 ^ 64 + token % 2 ^ 18 * 2 ^ 64 + i % 2 ^ 18 * 2 ^ 96 + b2n last * 2 ^ 116)

/-- A posted write for a function; none in SHUTTERED (R450, R467). -/
def State.hostOut (s : State) (fn addr : Nat) (bs : List Byte) : State :=
  if s.dev.st = .shuttered then s else s.emit (.hostWrite fn addr bs)

/-- The final record and the FINAL event of a request (R447, R450); nothing for a queue pair that left ENABLED (R442). -/
def State.report (s : State) (k : Nat) (d : BitVec 1024) (status : Nat) (p : Report) (emitted : Nat) (seed : Word64) : State :=
  if (s.qp k).live then
    (s.hostOut (k / 16) (Rd.outAddr d) (finalRecord (Rd.reqId d) status p emitted seed s.time)).putEvent k
      { w := finalEvent (Rd.reqId d) status p.flags emitted }
  else s

/-- The queue pair of a request. -/
def Req.queue (r : Req) : Nat := r.fn * 16 + r.qp

/-- A request leaves: pins, pages and slot are released, and its final record is written (R278, R353, R447). -/
def State.finish (s : State) (i status : Nat) : State :=
  let r := s.req i
  let t := s.dropPages i
  let t := (recsIn r.res).foldl State.unpinRec t
  let t := t.unpinObj (Rd.handle r.desc)
  let t : State := { t with reqs := t.reqs.filter fun e => e.1 != i }
  if r.cut then t else t.report r.queue r.desc status r.report r.out.length r.seed

/-- The SQ head advances past the descriptor at it (R443). -/
def State.advanceSq (s : State) (k : Nat) : State :=
  let q := s.qp k
  let n := s.rd R.sqSize k
  { s.setQp k { q with sqHead := if n ≤ q.sqHead + 1 then 0 else q.sqHead + 1, posted := Tab.put 0 q.posted q.sqHead 0 } with
    cancels := s.cancels.filter (· != k * 256 + q.sqHead) }

/-- A descriptor is rejected: its record has EMITTED 0 (R443, R448). -/
def State.reject (s : State) (k : Nat) (d : BitVec 1024) (status : Nat) : State :=
  (s.report k d status {} 0 (BitVec.ofNat 64 (Rd.seed d))).advanceSq k

/-! ### Rows, depth, slack, rank (R258 to R264, R284) -/

/-- The request is in prefill. -/
def Req.prefill (r : Req) : Bool := r.todo != 0

/-- d of a request for a coming step (R284). -/
def State.depthOf (s : State) (r : Req) : Nat :=
  if r.prefill || !s.drafting r.pav then 0
  else min (min (Rd.depth r.desc) (s.rd R.maxDepth r.pav)) (Rd.maxTokens r.desc - r.out.length - 1)

/-- The rows a request needs in a step (R261). -/
def State.rowsNeeded (s : State) (r : Req) : Nat :=
  if r.prefill then min r.todo (s.rd R.chunk r.pav) else 1 + r.sched.depth

/-- A value as a signed 64-bit number. -/
def signed64 (v : Int) : Int := if v % 2 ^ 64 < 2 ^ 63 then v % 2 ^ 64 else v % 2 ^ 64 - 2 ^ 64

/-- Slack, in signed 64-bit tk (R260). -/
def State.slack (s : State) (r : Req) : Int :=
  match r.deadline with
  | none => 4611686018427387904
  | some d =>
    let p := s.pav r.pav
    signed64 (Int.ofNat d - Int.ofNat s.time - (Int.ofNat (cdiv r.todo (s.rd R.chunk r.pav)) * p.epf
      + Int.ofNat (cdiv (16 * (Rd.maxTokens r.desc - r.out.length)) p.a16) * p.edec))

/-- The keys of `form_roster` (R261). -/
def State.rank (s : State) (r : Req) : List Int :=
  [Int.ofNat r.sched.cls, if r.sched.sliceExp then 1 else 0, s.slack r, Int.ofNat r.seq]

/-- The request is resident, not ended, and not waiting for its prompt or for page moves (R261). -/
def Req.candidate (r : Req) : Bool :=
  r.ending.isNone && (r.phase == .ready || r.phase == .running || r.phase == .paused || r.phase == .spilled)

/-- Runnable: a candidate with its KV pages in HBM (R261, R268). -/
def Req.runnable (r : Req) : Bool := r.candidate && r.inHbm && r.phase != .spilled

/-- The requests of a pavilion in rank order. -/
def State.ranked (s : State) (p : Nat) : List Nat :=
  (sortBy (fun a b => lexLt (s.rank a.2) (s.rank b.2)) (s.reqs.filter fun e => e.2.pav == p && e.2.candidate)).map (·.1)

/-! ### Roles and budgets (R249, R261, R269) -/

/-- MIN_PREFILL and MIN_DECODE reduced to fit n serviceable terraces (R249). -/
def fitMins (n : Nat) : Nat → Nat → Nat → Nat × Nat
  | 0, mp, md => (mp, md)
  | fuel + 1, mp, md =>
    if mp + md ≤ n ∨ (mp ≤ 1 ∧ md ≤ 1) then (mp, md)
    else
      let md' := if 1 < md then md - 1 else md
      if mp + md' ≤ n then (mp, md')
      else fitMins n fuel (if 1 < mp then mp - 1 else mp) md'

/-- The least prefill and decode terraces of a pavilion. -/
def State.mins (s : State) (p : Nat) : Nat × Nat :=
  fitMins (s.servTerrs p).length 64 (s.rd R.minPrefill p) (s.rd R.minDecode p)

/-- The serviceable terraces that are not held (R280). -/
def State.openTerrs (s : State) (p : Nat) : List Nat := (s.servTerrs p).filter fun t => !(s.terr t).held

/-- The terraces that carry a role (R269). -/
def State.roleTerrs (s : State) (p : Nat) (prefill : Bool) : List Nat :=
  let ts := s.servTerrs p
  if ts.length ≤ 1 then ts
  else if prefill then ts.take (s.pav p).np else ts.drop (s.pav p).np

/-- B_p or B_d (R261). -/
def State.budget (s : State) (p : Nat) (prefill : Bool) : Nat :=
  (s.roleTerrs p prefill).length * s.rd (if prefill then R.pfTokens else R.decRows) p

/-! ### Placement (R262, R265) -/

/-- The lowest record index of a resolution; requests with none come last (R265). -/
def Req.lowRec (r : Req) : Nat := (recsIn r.res).foldl min 1048576

/-- A terrace's share: its requests with their rows. -/
abbrev Share := List (Nat × Nat)

/-- Deals requests in order to terraces, each filled up to a cap before the next and none left empty while requests remain; the
last takes the rest (R265; log 37). -/
def deal (cap : Nat) : List (Nat × Nat) → List Nat → Share → List (Nat × Share)
  | _, [], _ => []
  | [], t :: ts, cur => (t, cur) :: ts.map fun x => (x, [])
  | rs, [t], cur => [(t, cur ++ rs)]
  | (i, n) :: rs, t :: u :: ts, cur =>
    if cur.isEmpty = true ∨ (cur.map (·.2)).sum + n ≤ cap then deal cap rs (t :: u :: ts) (cur ++ [(i, n)])
    else (t, cur) :: deal cap rs (u :: ts) [(i, n)]

/-- The placement of a role's requests on its terraces, but for those that are held (R265, R280). -/
def State.place (s : State) (p : Nat) (prefill : Bool) (reqs : List Nat) : List (Nat × Share) :=
  let rs := (sortBy (fun a b => lexLt [Int.ofNat a.2.lowRec, Int.ofNat a.2.seq] [Int.ofNat b.2.lowRec, Int.ofNat b.2.seq])
    ((reqs.map fun i => (i, s.req i)).filter fun e => e.2.prefill == prefill)).map fun e => (e.1, s.rowsNeeded e.2)
  let ts := (s.roleTerrs p prefill).filter fun t => !(s.terr t).held
  deal (cdiv (rs.map (·.2)).sum (max ts.length 1)) rs ts []

/-- Distinct records of a share. -/
def State.shareRecs (s : State) (sh : Share) : Nat := ((sh.map fun e => recsIn (s.req e.1).res).flatten.eraseDups).length

/-- `fits_terrace_limits` for a set of requests (R262); a lone terrace carries both roles. -/
def State.fits (s : State) (p : Nat) (reqs : List Nat) : Bool :=
  let a := s.place p true reqs
  let b := s.place p false reqs
  (s.servTerrs p).all fun t =>
    let sh := ((a ++ b).filter fun e => e.1 == t).flatMap (·.2)
    (sh.map (·.2)).sum ≤ 8192 && s.shareRecs sh ≤ 2048

/-- The selected requests of a pavilion. -/
def State.selected (s : State) (p : Nat) : List Nat :=
  (s.reqs.filter fun e => e.2.pav == p && e.2.sched.selected && e.2.ending.isNone).map (·.1)

/-- A newly admitted or resumed request runs from the next step boundary if its phase's budget has room (R263). -/
def State.tryRun (s : State) (i : Nat) : State :=
  let r := s.req i
  let r : Req := { r with sched := { r.sched with depth := s.depthOf r } }
  let t := s.setReq i r
  let sel := t.selected r.pav
  let used := ((sel.filter fun j => (t.req j).prefill == r.prefill).map fun j => t.rowsNeeded (t.req j)).sum
  let (room, t) := t.stepRoom i (r.len + t.rowsNeeded r)
  if room && used + t.rowsNeeded r ≤ t.budget r.pav r.prefill && t.fits r.pav (i :: sel) then
    let u := if r.prefill then t.prefixMatch i else t
    let u := u.claim i ((u.req i).len + u.rowsNeeded (u.req i))
    u.setReq i { u.req i with sched := { (u.req i).sched with selected := true } }
  else t

/-! ### Admission (R250 to R257, R445, R477, R478) -/

/-- The routing decision for a request: none where no rule matches, else whether it admits, and whether there was a tie
(R477, R478). -/
def State.route (s : State) (fn tenant model pav : Nat) : Option (Bool × Bool) :=
  let ms := s.boot.rules.filter fun r =>
    r.functions.testBit fn && (r.anyTenant || r.tenant.toNat == tenant) && r.modelMask.testBit model && r.pav == pav
  let best := ms.foldl (fun (n : Nat) r => max n (r.prio + 1)) 0
  match ms.filter fun r => r.prio + 1 == best with
  | [] => none
  | r :: t => some (r.admits, !t.isEmpty)

/-- Field checks: order 1 of R445. -/
def State.badRequest (s : State) (k : Nat) (d : BitVec 1024) : Bool :=
  Rd.reserved d || Rd.pavilion d != s.rd R.qpPavilion k
    || !(((s.model (Rd.pavilion d) (Rd.model d)).map fun m => !m.draft).getD false)
    || Rd.promptLen d == 0 || Rd.maxTokens d == 0 || Rd.promptAddr d % 64 != 0 || Rd.outAddr d % 64 != 0

/-- An FP16 encoding is infinite or NaN. -/
def halfBad (n : Nat) : Bool := n / 1024 % 32 == 31

/-- Order 6 of R445 (R338, R339); −0 is a greedy INV_TEMP and not negative. -/
def badSampling (d : BitVec 1024) : Bool :=
  Rd.sampReserved d || decide (256 < Rd.topK d) || halfBad (Rd.invTemp d)
    || (decide (32768 < Rd.invTemp d)) || halfBad (Rd.presPen d) || halfBad (Rd.freqPen d)

/-- Order 8 of R445 (R363, R365). -/
def State.badHandle (s : State) (fn : Nat) (d : BitVec 1024) : Option Nat :=
  let h := Rd.handle d
  let o := s.obj h
  if h = 0 then none
  else if s.hasObj h = false ∨ o.fn ≠ fn ∨ o.retiring = true ∨ o.lost = true then some Code.grammarNotFound
  else if (s.model (Rd.pavilion d) (Rd.model d)).map (·.vocab) ≠ some o.vocab then some Code.grammarVocab
  else none

/-- Layers of a request's model. -/
def State.layersOf (s : State) (d : BitVec 1024) : Nat := ((s.model (Rd.pavilion d) (Rd.model d)).map (·.layers)).getD 0

/-- The resolution of a descriptor (R22). -/
def State.resolveD (s : State) (d : BitVec 1024) : List (Option (Nat × Nat)) :=
  s.resolve (Rd.tenant d) (Rd.hash d) (Rd.model d) (s.layersOf d)

/-- Orders 3 to 10 of R445 (R256). -/
def State.laterReject (s : State) (fn p : Nat) (d : BitVec 1024) : Option Nat :=
  if (s.pav p).st = .closed ∨ (s.pav p).st = .draining then some Code.pavilionNotOpen
  else if (s.pav p).lostWeights then some Code.weightLost
  else if 8 < Rd.depth d then some Code.badSpecDepth
  else if badSampling d then some Code.badSampling
  else if s.rd R.maxCtx p < Rd.promptLen d + Rd.maxTokens d ∨ s.rd R.poolPages p < cdiv (Rd.promptLen d) 16 then
    some Code.contextTooLong
  else match s.badHandle fn d with
    | some c => some c
    | none =>
      if Rd.deadline d ≠ 0 ∧ Rd.deadline d ≤ s.time then some Code.deadlineMissed
      else s.adapterReject (Rd.hash d) (s.resolveD d) (s.tied (Rd.tenant d) (Rd.hash d) (Rd.model d) (s.layersOf d))

/-- The pavilion has no free resident slot (R255). -/
def State.fullPav (s : State) (p : Nat) : Bool := decide (s.rd R.maxResident p ≤ s.reqs.countP fun e => e.2.pav == p)

/-- Free resident slots of a pavilion, as request indexes. -/
def State.freeSlotsOf (s : State) (p : Nat) : List Nat :=
  ((List.range (s.rd R.maxResident p)).map fun k => p * 32768 + k).filter fun i => !s.hasReq i

/-- The effective seed of a descriptor (R349): the DRBG's value is free and not zero. -/
def State.seedOf (s : State) (d : BitVec 1024) : Word64 :=
  if Rd.seed d ≠ 0 then BitVec.ofNat 64 (Rd.seed d) else if s.free64 = 0 then 1 else s.free64

/-- START of a grammar handle (R360). -/
def State.startState (s : State) (h : Nat) : Nat :=
  let o := s.obj h
  if h ≠ 0 ∧ o.grammar = true then fld (s.objBytes o) 16 4 else 0

/-- The version of the record at the lowest resolved layer (R46, R448). -/
def State.verOf (s : State) (res : List (Option (Nat × Nat))) : Word32 :=
  match res.findSome? id with
  | none => 0
  | some (_, i) => (s.adrec i).version

/-- The admission decision that admits (R43, R250, R251, R324, R349, R360). -/
def State.admits (s : State) (k p : Nat) (d : BitVec 1024) : State :=
  let res := s.resolveD d
  let i := s.pickD (s.freeSlotsOf p)
  let s1 := s.tickFree
  let r : Req := {
    fn := k / 16
    qp := k % 16
    pav := p
    model := Rd.model d
    desc := d
    seq := s.admitSeq
    res := res
    todo := Rd.promptLen d
    sched := { cls := Rd.cls d, noRow := s.time }
    gram := s.startState (Rd.handle d)
    seed := s1.seedOf d
    report := { verFirst := s.verOf res, verLast := s.verOf res }
    wgenAdm := s.gen p (Rd.model d)
    kvClass := s.classOf res
    deadline := if Rd.deadline d = 0 then none else some (Rd.deadline d)
    reserved := cdiv (Rd.promptLen d) 16 }
  let t := s1.tickFree.setReq i r
  let t : State := { t with admitSeq := s.admitSeq + 1 }
  let t := t.takeRecs (recsIn res)
  let t := if Rd.handle d = 0 then t else t.setObj (Rd.handle d) { t.obj (Rd.handle d) with pins := (t.obj (Rd.handle d)).pins + 1 }
  let t := if s.tied (Rd.tenant d) (Rd.hash d) (Rd.model d) (s.layersOf d) ∧ s.rd R.tieStrict = 0 then t.inc R.dirTies else t
  let t := t.advanceSq k
  if Rd.seed d = 0 ∧ s.gate.errorState = true then
    (t.failReq i Code.entropyUnavailable).finish i (Cls.request.code Code.entropyUnavailable)
  else t

/-- Slack of a descriptor at its decision (R256, R260). -/
def State.descSlack (s : State) (p : Nat) (d : BitVec 1024) : Int :=
  s.slack { desc := d, pav := p, todo := Rd.promptLen d
            deadline := if Rd.deadline d = 0 then none else some (Rd.deadline d) }

/-- Orders 1 and 2 of R445 (R432, R478). -/
def State.earlyReject (s : State) (k : Nat) (d : BitVec 1024) : Option Nat :=
  if s.badRequest k d then some Code.badRequest
  else if s.tenantOk (k / 16) (Rd.tenant d) = false then some Code.tenantNotPermitted
  else match s.route (k / 16) (Rd.tenant d) (Rd.model d) (Rd.pavilion d) with
    | some (false, _) => some Code.tenantNotPermitted
    | _ => none

/-- A routing tie is counted, once for the descriptor's rejection or admission (R478; log 39). -/
def State.countRoute (s : State) (k : Nat) (d : BitVec 1024) : State :=
  if s.badRequest k d = true ∨ s.tenantOk (k / 16) (Rd.tenant d) = false then s
  else match s.route (k / 16) (Rd.tenant d) (Rd.model d) (Rd.pavilion d) with
    | some (_, true) => s.inc R.routeTies
    | _ => s

/-- Resource checks and order 11, once nothing rejects the descriptor (R252, R255, R256, R324, R325). -/
def State.takeIn (s : State) (k p : Nat) (d : BitVec 1024) : State :=
  let n := cdiv (Rd.promptLen d) 16
  let nobody := 8 * 32768
  if s.fullPav p then s
  else
    let t := s.evictFor p nobody n (s.evictable p)
    if t.roomFor p nobody n (if t.drafting p then n else 0) = false then
      t.spillFor p (n + t.reservedBut p nobody) (if t.drafting p then n + t.reservedBut p nobody else 0)
    else if s.rd R.admitStrict p = 1 ∧ t.descSlack p d < 0 then (t.countRoute k d).reject k d Code.deadlineInfeasible
    else (t.countRoute k d).admits k p d

/-- The checks of R445 in order, then the resources. -/
def State.decideD (s : State) (k : Nat) (d : BitVec 1024) : State :=
  match s.earlyReject k d with
  | some c => (s.countRoute k d).reject k d c
  | none =>
    match s.laterReject (k / 16) (Rd.pavilion d) d with
    | some c => (s.countRoute k d).reject k d c
    | none => s.takeIn k (Rd.pavilion d) d

/-- The steward of a pavilion takes no admission decision: it hands over (R536). -/
def State.handing (s : State) (p : Nat) : Bool := s.upd.paused.any fun e => e.1 == p

/-- A descriptor of the queue pair waits at its steward, which takes decisions (R252, R536). -/
def State.waiting (s : State) (k : Nat) : Bool :=
  let x := s.qp k
  k % 16 != 0 && x.live && x.sqHead != x.sqTail && s.serving && !s.handing (s.rd R.qpPavilion k)

/-- A function has doorbells pending at the steward of a pavilion: a descriptor on which it has not yet held back (R254, R255). -/
def State.fnWaits (s : State) (p fn : Nat) : Bool :=
  (List.range 16).any fun q =>
    s.waiting (fn * 16 + q) && !(s.qp (fn * 16 + q)).waits && s.rd R.qpPavilion (fn * 16 + q) == p

/-- How far a function lies after another in ascending order, from 1 to 64 round the 64 functions. -/
def turnsFrom (g fn : Nat) : Nat := (fn + 63 - g) % 64 + 1

/-- A function's turn at a steward: it is in turn with fewer than 8 descriptors decided, or the turn has passed to it, the next
function with doorbells pending (R254). -/
def State.inTurn (s : State) (p fn : Nat) : Bool :=
  let g := (s.pav p).turnFn
  let more := decide ((s.pav p).turnN < 8)
  (g == fn && more) ||
    (!(more && s.fnWaits p g) && (List.range 64).all fun h => !s.fnWaits p h || decide (turnsFrom g fn ≤ turnsFrom g h))

/-- A decision on the descriptor at a queue pair's head is due (R252, R254). -/
def State.deciding (s : State) (k : Nat) : Bool := s.waiting k && s.inTurn (s.rd R.qpPavilion k) (k / 16)

/-- The turn after a decision on a function's descriptor (R254). -/
def Pav.decided (x : Pav) (fn : Nat) : Pav :=
  if x.turnFn = fn ∧ x.turnN < 8 then { x with turnN := x.turnN + 1 } else { x with turnFn := fn, turnN := 1 }

/-- What a visit of a ring leaves: a decision counts in the function's turn; with none the ring waits for a boundary (R254,
R255). -/
def State.visited (s t : State) (k p : Nat) : State :=
  if (t.qp k).sqHead = (s.qp k).sqHead then t.setQp k { t.qp k with waits := true }
  else t.setPav p ((t.pav p).decided (k / 16))

/-- Every ring is served again (R255). -/
def State.ringsAgain (s : State) : State := { s with qps := Tab.mapAll {} (fun _ q => { q with waits := false }) s.qps }

/-- The decision of a descriptor that is not cancelled: a LOADING pavilion holds what orders 1 and 2 of R445 do not reject (R257;
log 39); one that needs a random seed waits for the Gatehouse (R535). -/
def State.decideLive (s : State) (k : Nat) (d : BitVec 1024) : State :=
  if (s.pav (s.rd R.qpPavilion k)).st = .loading then
    match s.earlyReject k d with
    | some c => (s.countRoute k d).reject k d c
    | none => s
  else if s.upd.gateDown = true ∧ Rd.seed d = 0 then s
  else s.decideD k d

/-- The request that a decision has admitted, the one of an admission number, ends with CANCELLED at its next step boundary (R462). -/
def State.cancelSeq (s : State) (n : Nat) : State :=
  if s.admitSeq = n then s
  else ((s.reqs.filter fun e => e.2.seq == n).map (·.1)).foldl (fun (t : State) i => t.markEnd i Code.cancelled) s

/-- The descriptor at the head of a queue pair's ring is decided (R252). A cancelled one is rejected when its turn comes; if that is
in the tick of its cancel, the decision comes first, and what it admits is cancelled (R462). -/
def State.decideAt (s : State) (k : Nat) : State :=
  let c := k * 256 + (s.qp k).sqHead
  let d := Tab.get 0 (s.qp k).ring (s.qp k).sqHead
  if s.cancels.contains c then
    if s.sdl.cancelled.contains c then (s.decideLive k d).cancelSeq s.admitSeq else s.reject k d Code.cancelled
  else s.decideLive k d

/-- HOLD_LIMIT_EXPIRY: the held descriptor at the head is rejected (R257, R445, R487). -/
def execHoldLimitExpiry (fn q : Nat) (s : State) : Res :=
  let k := fn * 16 + q
  let x := s.qp k
  let p := s.rd R.qpPavilion k
  let d := Tab.get 0 x.ring x.sqHead
  onlyIf (q != 0 && x.live && x.sqHead != x.sqTail && (s.pav p).st == .loading
      && s.passed (Tab.get 0 x.posted x.sqHead) (s.rd R.holdLimit p)) s
    (if s.cancels.contains (k * 256 + x.sqHead) then s.reject k d Code.cancelled
     else (s.countRoute k d).reject k d ((s.earlyReject k d).getD Code.pavilionNotOpen))

/-- PROMPT_READ_COMPLETE: the prompt is in HBM, or the request ends (R446, R464). -/
def execPromptReadComplete (req : Nat) (tokens : List Word32) (okr : Bool) (s : State) : Res :=
  let r := s.req req
  if s.hasReq req = false ∨ r.phase ≠ .fetching then ok s
  else if okr = false then ok (State.failReq (s.setReq req { r with phase := .ready }) req Code.hostDmaFail)
  else
    let v := ((s.model r.pav r.model).map (·.vocab)).getD 0
    let ts := (tokens.map (·.toNat)).take (Rd.promptLen r.desc)
    let t := s.setReq req { r with phase := .ready, prompt := ts }
    if ts.length ≠ Rd.promptLen r.desc ∨ ts.any (fun x => decide (v ≤ x)) then ok (t.markEnd req Code.badPrompt)
    else ok (t.tryRun req)

/-! ### Selection (R287 to R289, R335, R361 to R365) -/

/-- The stop set of a request's model (R475). -/
def State.stopsOf (s : State) (r : Req) : List Nat := ((s.model r.pav r.model).map (·.stops)).getD []

/-- `verify` has decided (R289): a draw past the drafts, one that differs from its draft, or a stop token. -/
def Req.decided (r : Req) (stops : List Nat) : Bool :=
  decide (r.drafts.length < r.draws.length) ||
  (List.range r.draws.length).any fun a =>
    r.draws[a]? != r.drafts[a]? || stops.contains (r.draws.getD a 0)

/-- A row of the request ends a pass that yields a draw: it runs, and a prefill is in its last chunk (R335). -/
def State.ends (s : State) (r : Req) : Bool :=
  r.phase == .running && decide (r.todo ≤ s.rd R.chunk r.pav) && !r.committed && !r.dropped

/-- A read of the request's selection object returns POISON: its users end, and it can no longer be named (R365). Their draws of the
round made so far stand for their commit points (R299). -/
def State.objLost (s : State) (h : Nat) : State :=
  let t := s.setObj h { s.obj h with lost := true }
  t.reqs.foldl (fun (u : State) e =>
    if Rd.handle e.2.desc = h then
      let v := u.failReq e.1 Code.grammarLost
      let r := v.req e.1
      if r.decided (s.stopsOf r) then v else v.setReq e.1 { r with maskEmpty := true }
    else u) t

/-- The token a row selects for a request, on a path of uncommitted tokens (R335, R341, R361). -/
def State.choose (s : State) (r : Req) (path : List Nat) (purpose : Nat) (logits : List Word32) : Option Nat :=
  let h := Rd.handle r.desc
  let o := s.obj h
  let b := if h = 0 then [] else s.objBytes o
  let stops := s.stopsOf r
  let st := if o.grammar then parPath b stops r.gram path else 0
  let v := ((s.model r.pav r.model).map (·.vocab)).getD 0
  select r.desc r.seed (r.prompt.length + r.out.length + path.length) purpose v
    (fun t => h = 0 || allows o b stops st t) (history r.desc r.prompt (r.out ++ path)) logits

/-- SELECTION: a row of logits gives a draft token, or a target draw in row order (R335, R364, R365). -/
def execSelection (req : Nat) (draft : Bool) (logits : List Word32) (s : State) : Res :=
  let r := s.req req
  let h := Rd.handle r.desc
  let o := s.obj h
  if s.hasReq req = false ∨ s.ends r = false then ok s
  else if draft then
    if r.draws.isEmpty && !r.draftStopped && decide (r.drafts.length < r.sched.depth) then
      if h ≠ 0 ∧ s.poisoned o.addr o.size = true then ok (s.objLost h)
      else match s.choose r r.drafts 2 logits with
        | none => ok (s.setReq req { r with draftStopped := true })
        | some t => ok (s.setReq req { r with drafts := r.drafts ++ [t], draftIn := [t] })
    else ok s
  else if r.maskEmpty || r.decided (s.stopsOf r) then ok s
  else if h ≠ 0 ∧ s.poisoned o.addr o.size = true then ok (s.objLost h)
  else match s.choose r r.draws 1 logits with
    | none => ok (State.failReq (s.setReq req { r with maskEmpty := true }) req Code.maskEmpty)
    | some t => ok (s.setReq req { r with draws := r.draws ++ [t] })

/-! ### The commit point (R297 to R303, R305, R306) -/

/-- The tokens a commit point commits: those decided, none after a stop token or MAX_TOKENS (R289, R298). -/
def commitOf (stops draws : List Nat) (room : Nat) : List Nat :=
  match draws, room with
  | _, 0 => []
  | [], _ => []
  | t :: ts, n + 1 => if stops.contains t then [t] else t :: commitOf stops ts n

/-- The tokens and TOKEN events of a commit point, in order (R297, R450). -/
def State.emitTokens (s : State) (r : Req) (toks : List Nat) : State :=
  if r.cut ∨ (s.qp r.queue).live = false then s
  else (List.range toks.length).foldl (fun (u : State) j =>
    let n := r.out.length + j
    let v := u.hostOut r.fn (Rd.outAddr r.desc + 64 + 4 * n) (leBytes 4 (toks.getD j 0))
    if Rd.finalOnly r.desc then v
    else v.putEvent r.queue { w := tokenEvent r.id (toks.getD j 0) n (j + 1 == toks.length) }) s

/-- The Parterre state and PAR_TIES after committed tokens (R359, R361). -/
def State.moveGrammar (s : State) (i : Nat) (toks : List Nat) : State :=
  let r := s.req i
  let h := Rd.handle r.desc
  if h ≠ 0 ∧ (s.obj h).grammar = true then
    let b := s.objBytes (s.obj h)
    toks.foldl (fun (u : State) t =>
      let q := u.req i
      let m := parMove b (s.stopsOf r) q.gram t
      let v := u.setReq i { q with gram := m.1 }
      if m.2 then v.inc R.parTies r.pav else v) s
  else s

/-- PAV_SPEC_STAT, the request's totals and A16 of a decode commit point (R259, R301, R302). -/
def State.countCommit (s : State) (p d a : Nat) : State :=
  let t := if d = 0 then s
    else ((s.incWrap R.specRounds p).incWrap R.specDrafted p d).incWrap R.specAccepted p a
  let x := t.pav p
  let n : Int := Int.ofNat x.a16 + (Int.ofNat (16 * (a + 1)) - Int.ofNat x.a16) / 8
  t.setPav p { x with a16 := max 16 n.toNat }

/-- The commit point of a request with its committed tokens (R297). -/
def State.commit (s : State) (i : Nat) (toks : List Nat) : State :=
  let r := s.req i
  let d := r.sched.depth
  let a := if r.maskEmpty then toks.length else toks.length - 1
  let c := r.prompt.length + r.out.length
  let s1 := s.emitTokens r toks
  let out := r.out ++ toks
  let stop := toks.any fun t => (s.stopsOf r).contains t
  let maxed := decide (Rd.maxTokens r.desc ≤ out.length)
  let s2 := s1.setReq i { s1.req i with
    out := out
    commitLen := c + toks.length - 1
    draftLen := min (c + toks.length - 1)
      (if r.prefill then c else if r.drafts.isEmpty then r.draftLen else c + r.drafts.length - 1)
    committed := true
    drafts := []
    draws := []
    draftStopped := false
    report := { r.report with
      stop := r.report.stop || stop
      maxed := r.report.maxed || (maxed && !stop)
      drafted := r.report.drafted + d
      accepted := r.report.accepted + (if d = 0 then 0 else a) } }
  let s3 := ((s2.writePt i).moveGrammar i toks).indexPages i
  let s4 := if r.prefill then s3 else s3.countCommit r.pav d a
  if stop || maxed then s4.markEnd i 0 else s4

/-- COMMIT_POINT (R297). A POISON mark commits nothing (R306), nor does a pavilion that has CLOSED (R308). Fewer drafts than the depth
raise DRAFT_SHORT, whatever is committed (R305). -/
def execCommitPoint (req : Nat) (s : State) : Res :=
  let r := s.req req
  let stops := s.stopsOf r
  if s.hasReq req = false ∨ s.ends r = false ∨ (s.pav r.pav).st = .closed then ok s
  else
  let t := if decide (r.drafts.length < r.sched.depth) && !r.prefill then
      s.raise { cls := .corrected, event := Code.draftShort, pav := some r.pav, unit := 3, inst := r.pav, d0 := r.id }
    else s
  if r.poisoned then ok (t.setReq req { r with committed := true, drafts := [], draws := [], draftStopped := false })
  else if r.maskEmpty || r.decided stops then
    ok (t.commit req (commitOf stops r.draws (Rd.maxTokens r.desc - r.out.length)))
  else ok s

/-! ### Deadlines, aging, cancels (R258, R277, R462) -/

/-- The deadline of a request has come and has not been taken (R277). -/
def State.deadlineDue (s : State) (i : Nat) : Bool :=
  let r := s.req i
  match r.deadline with
  | none => false
  | some d => s.hasReq i && decide (d ≤ s.time) && !r.report.deadlineMissed && r.ending.isNone

/-- A deadline is taken: DEADLINE_ACTION marks the request or ends it (R277). -/
def State.missDeadline (s : State) (i : Nat) : State :=
  let r := s.req i
  if s.rd R.deadlineAction r.pav = 1 then s.setReq i { r with report := { r.report with deadlineMissed := true } }
  else s.failReq i Code.deadlineMissed

/-- The terraces of a pavilion's mask. -/
def State.maskTerrs (s : State) (p : Nat) : List Nat := (List.range 32).filter fun t => (s.rd R.terraces p).testBit t

/-- The requests with rows in the step that runs. -/
def State.stepReqs (s : State) (p : Nat) : List Nat := ((s.maskTerrs p).flatMap fun t => (s.terr t).rows).eraseDups

/-- The rows a request has in the step that runs. -/
def State.rowsOfReq (s : State) (i : Nat) : Nat :=
  ((s.maskTerrs (s.req i).pav).flatMap fun t => (s.terr t).rows).count i

/-- AGING (R258). -/
def execAging (req : Nat) (s : State) : Res :=
  let r := s.req req
  let lim := s.rd R.ageLimit r.pav
  onlyIf (s.hasReq req && lim != 0 && decide (2 ≤ Rd.cls r.desc) && !(s.stepReqs r.pav).contains req
      && s.passed r.sched.noRow lim) s
    (s.setReq req { r with sched := { r.sched with
      cls := if r.sched.cls ≤ 1 then r.sched.cls else r.sched.cls - 1
      noRow := r.sched.noRow + lim } })

/-- PAGE_IN_READ: the next page is read back; POISON ends the request, the last page resumes it (R268, R328, R332). -/
def execPageInRead (req : Nat) (s : State) : Res :=
  let r := s.req req
  if s.hasReq req = false ∨ r.phase ≠ .pagingIn then ok s
  else match r.spill with
    | [] => ok (State.tryRun ((s.setReq req { r with phase := .paused }).indexFrom req 0) req)
    | e :: rest =>
      if s.poisoned e.coldAt e.size then
        ok (State.dropPages (State.failReq (s.setReq req { r with phase := .paused }) req Code.kvLost) req)
      else
        let t := if e.draft then s else s.evictFor r.pav req 1 (s.evictable r.pav)
        if (t.freePages r.pav e.draft).isEmpty then ok t
        else
          let u := t.readBack req e
          if rest.isEmpty then ok (State.tryRun ((u.setReq req { u.req req with phase := .paused }).indexFrom req 0) req) else ok u

/-- The ring slots of a function's undecided descriptors with a REQ_ID (R462). -/
def State.undecided (s : State) (fn id : Nat) : List Nat :=
  (s.qps.filter fun e => e.1 / 16 == fn && e.1 % 16 != 0 && e.2.live).flatMap fun e =>
    let n := s.rd R.sqSize e.1
    ((List.range ((e.2.sqTail + n - e.2.sqHead) % max n 1)).map fun j => (e.2.sqHead + j) % max n 1).filterMap fun sl =>
      if Rd.reqId (Tab.get 0 e.2.ring sl) = id then some (e.1 * 256 + sl) else none

/-- REQ_CANCEL (R462). -/
def execReqCancel (src : Nat) (cid : Word32) (s : State) : Res :=
  ok (s.runCmd src cid 0x50 fun c t =>
    let id := byteAt c 24 8
    let res := (t.reqs.filter fun e => e.2.fn == src && e.2.id == id && e.2.ending.isNone).map (·.1)
    let und := (t.undecided src id).filter fun x => !t.cancels.contains x
    let u := res.foldl (fun (v : State) i => v.markEnd i Code.cancelled)
      { t with cancels := t.cancels ++ und, sdl := { t.sdl with cancelled := t.sdl.cancelled ++ und } }
    if res.isEmpty && und.isEmpty then u.complete src cid Code.reqNotFound
    else u.complete src cid 0 (res.length + und.length))

end Sys2Proof.Machine
end

