-- ==== Sys2Proof/Machine/Steward.lean ====
section
/-! DEFINITION. The stewards: step boundaries, cadence boundaries, pavilion states, segment tables, steward tiling, row repair,
the PLOT clock's step (R33, R35, R246 to R281, R486, R568, R591 to R597). -/
namespace Sys2Proof.Machine
open Sys2Proof

/-! ### Pavilion and device states (R274, R275, R460, R468) -/

/-- The pavilion steps: OPEN, DRAINING or SWAPPING. -/
def PavState.active : PavState → Bool
  | .opened => true | .draining => true | .swapping => true | _ => false

/-- A pavilion's state changes, and PAVILION_STATE is notified (R454). -/
def State.goPav (s : State) (p : Nat) (st : PavState) : State :=
  if (s.pav p).st = st then s
  else State.notifyAll (s.setPav p { s.pav p with st := st, since := s.time }) 2

/-- The device state that follows from the pavilions' (R468, R546). -/
def State.settleDev (s : State) : State :=
  let act := (List.range 8).any fun p => (s.pav p).st.active
  match s.dev.st with
  | .loading => if act then s.goDev .opened else s
  | .opened => if act then s else s.goDev .loading
  | _ => s

/-- A request's pending state is discarded (R296, R308). -/
def Req.discard (r : Req) : Req :=
  { r with committed := false, drafts := [], draws := [], draftStopped := false, maskEmpty := false }

/-- The requests of a pavilion. -/
def State.residents (s : State) (p : Nat) : List Nat := (s.reqs.filter fun e => e.2.pav == p).map (·.1)

/-- A pavilion changes to CLOSED: its residents end at the step boundary, with nothing more committed (R275, R308). -/
def State.closePav (s : State) (p : Nat) : State :=
  let t := (s.residents p).foldl
    (fun (u : State) i => State.markEnd (u.setReq i { (u.req i).discard with dropped := true }) i Code.pavilionClosed) (s.goPav p .closed)
  t.settleDev

/-- A model's shards when its pavilion enters LOADING again: those verified and in place are kept (R486). -/
def Wgt.retried (g : Wgt) : Wgt :=
  { g with
    tried := g.good
    shards := Tab.mapAll {} (fun _ h => if h.verified && h.inPlace then h else { h with reads := 0, rounds := 0 }) g.shards }

/-- A DRAINING pavilion without a resident request changes to CLOSED (R274). -/
def State.drained (s : State) (p : Nat) : State :=
  if (s.pav p).st = .draining ∧ (s.residents p).isEmpty = true then s.closePav p else s

/-- A pavilion's last serviceable terrace is gone: it is CLOSED (R274, R281). -/
def State.noTerrace (s : State) (p : Nat) : State :=
  if (s.servTerrs p).isEmpty then
    let t := s.raise { cls := .pavilion, event := Code.pavilionNoTerrace, pav := some p, unit := 3, inst := p }
    if (t.pav p).st = .closed then t else t.closePav p
  else s

/-- PAV_OPEN (R274, R460, R486): a load that failed is tried once more. A pavilion without a serviceable terrace does not stay
LOADING (R274). -/
def State.pavOpen (s : State) (p src : Nat) (cid : Word32) : State :=
  match (s.pav p).st with
  | .closed =>
    if s.defined p then
      let t := s.goPav p .loading
      let t : State := { t with wgts := Tab.mapAll {} (fun k g => if k / 16 = p then g.retried else g) t.wgts }
      (if (t.servTerrs p).isEmpty then t.closePav p else t).complete src cid 0
    else s.complete src cid Code.pavUndefined
  | .draining => (s.goPav p .opened).complete src cid 0
  | _ => s.complete src cid Code.pavBadState

/-- PAV_OPEN (R460). -/
def execPavOpen (src : Nat) (cid : Word32) (s : State) : Res :=
  ok (s.runCmd src cid 0x40 fun c t =>
    if 8 ≤ byteAt c 24 1 then t.complete src cid Code.pavUndefined else t.pavOpen (byteAt c 24 1) src cid)

/-- PAV_DRAIN (R457, R460): any state but OPEN gives PAV_BAD_STATE (log 28). -/
def execPavDrain (src : Nat) (cid : Word32) (s : State) : Res :=
  ok (s.runCmd src cid 0x41 fun c t =>
    let p := byteAt c 24 1
    if p < 8 ∧ (t.pav p).st = .opened then ((t.goPav p .draining).drained p).complete src cid 0
    else t.complete src cid Code.pavBadState)

/-- A TTL check is due: device time is a multiple of 65,536 tk, or a step owes one (R78, R84). -/
def State.ttlDue (s : State) : Bool := s.sdl.owed.ttl || (s.time % 65536 == 0 && !s.sdl.ttlDone)

/-- The TTL check: every spilled request whose expiry tick has come ends at once, and a DRAINING pavilion left without one
closes (R84, R274, R330). -/
def State.ttlCheck (s : State) : State :=
  let t : State := { s with sdl := { s.sdl with ttlDone := true, owed := { s.sdl.owed with ttl := false } } }
  (List.range 8).foldl State.drained (s.reqs.foldl (fun (u : State) e =>
    match e.2.expiry with
    | none => u
    | some x => if e.2.phase = .spilled ∧ x ≤ s.time then u.finish e.1 (e.2.ending.getD Code.kvExpired) else u) t)

/-- DRAIN_LIMIT_EXPIRY (R274). -/
def execDrainLimitExpiry (pav : Nat) (s : State) : Res :=
  onlyIf ((s.pav pav).st == .draining && s.passed (s.pav pav).since (s.rd R.drainLimit pav)) s (s.closePav pav)

/-! ### Retirement triggers and row repair (R131, R564, R568) -/

/-- A terrace leaves scheduling: its counters are reset (R119, R131). -/
def State.withdrawTerr (s : State) (t : Nat) : State :=
  { s.setTerr t { s.terr t with withdrawn := true, withdrawDue := false, rows := [], segs := [] } with
    tcnt := s.tcnt.filter fun e => e.1 / 16 != t }

/-- A plot must be retired and its region has no spare (R131). -/
def State.noSpare (s : State) (p : Nat) : State :=
  let t := terrOf p
  if (s.terr t).withdrawn || (s.terr t).withdrawDue then s
  else
    let u := s.raise { cls := .pavilion, event := Code.plotNoSpare, pav := s.plotPav p, unit := 1, inst := p }
    match u.plotPav p with
    | some _ => u.setTerr t { u.terr t with withdrawDue := true }
    | none => u.withdrawTerr t

/-- A retirement trigger for a plot (R131, R564). -/
def State.trigger (s : State) (p : Nat) : State :=
  if s.hasSpare (terrOf p) then s.setPlot p { s.plot p with retire := true } else s.noSpare p

/-- One row is repaired, or its plot is to be retired when the bank has no spare row (R564, R568). -/
def State.repairRow (s : State) (p row : Nat) : State :=
  let k := s.siteOf p * 12 + row / 512
  let n := Tab.get 0 s.nvm.repair.rows k
  let q := s.plot p
  let t := s.setPlot p { q with rowRepair := setDel row q.rowRepair, ce := Tab.put [] q.ce row [] }
  if n < 4 then
    State.raise
      { t with
        nvm := { t.nvm with repair := { t.nvm.repair with rows := Tab.put 0 t.nvm.repair.rows k (n + 1) } }
        errs := { t.errs with repairPending := true } }
      { cls := .corrected, event := Code.sramRowRepaired, pav := t.plotPav p, unit := 1, inst := p }
  else t.trigger p

/-- The rows due at a boundary: those of a pavilion's terraces, or of terraces that belong to none (R568). -/
def State.repairRows (s : State) (owner : Option Nat) : State :=
  s.plots.foldl (fun (u : State) e =>
    if s.plotPav e.1 = owner then e.2.rowRepair.foldl (fun (v : State) row => v.repairRow e.1 row) u else u) s

/-! ### The end of a step (R45, R131, R259, R263, R278) -/

/-- A request after its rows of a step: a prefill chunk is in the KV cache, a last chunk only with its commit point; what is
pending is discarded (R260, R296, R297). -/
def Req.endStep (r : Req) (chunk : Nat) : Req :=
  let q : Req :=
    if r.poisoned || r.todo == 0 then r
    else if r.todo ≤ chunk then (if r.committed then { r with todo := 0 } else r)
    else { r with todo := r.todo - chunk, commitLen := r.commitLen + chunk, draftLen := r.commitLen + chunk }
  { q.discard with poisoned := false }

/-- A request's rows of the step have ended (R258, R260): a prefill chunk is as long as the rows it had (R279). -/
def State.endRows (s : State) (i rows : Nat) : State :=
  if s.hasReq i then
    let r := { s.req i with sched := { (s.req i).sched with noRow := s.time } }
    ((s.setReq i (r.endStep (min rows (s.rd R.chunk r.pav)))).indexPages i).trim i
  else s

/-- A step-time estimate (R259): E + ((m − E) >> 3). -/
def estimate (e : Int) (m : Nat) : Int := e + (Int.ofNat m - e) / 8

/-- The step ends: estimates, the step number, the requests' rows (R259). -/
def State.endStep (s : State) (p mpf mdec : Nat) : State :=
  let rs := s.stepReqs p
  if rs.isEmpty then s
  else
    let x := s.pav p
    let pf := rs.any fun i => (s.req i).prefill
    let dec := rs.any fun i => !(s.req i).prefill
    let t := s.setPav p { x with
      step := (x.step + 1) % 2 ^ 32
      epf := if pf then estimate x.epf mpf else x.epf
      edec := if dec then estimate x.edec mdec else x.edec }
    let t := rs.foldl (fun (u : State) i => u.endRows i (s.rowsOfReq i)) t
    (t.maskTerrs p).foldl (fun (u : State) k => u.setTerr k { u.terr k with rows := [], segs := [] }) t

/-- Requests that are ending leave (R278, R331). -/
def State.endRequests (s : State) (p : Nat) : State :=
  (s.residents p).foldl (fun (u : State) i => match (u.req i).ending with | some c => u.finish i c | none => u) s

/-- ADVANCE: the new CURRENT records are pinned and the old ones released (R45, R46, R321). -/
def State.advanceReq (s : State) (i : Nat) : State :=
  let r := s.req i
  if r.advance = false then s
  else if Rd.advance r.desc = false then s.setReq i { r with advance := false }
  else
    let res := r.res.map fun o => o.map fun e => if (s.ent e.1).st = .live then (e.1, (s.ent e.1).cur) else e
    let t := s.takeRecs ((recsIn res).filter fun j => !(recsIn r.res).contains j)
    let t := ((recsIn r.res).filter fun j => !(recsIn res).contains j).foldl State.unpinRec t
    t.setReq i { r with
      res := res
      advance := false
      classChanged := r.classChanged || s.classOf res != r.kvClass
      report := { r.report with verLast := s.verOf res } }

/-- n_p kept within the minima for n serviceable terraces (R249, R270). -/
def State.clampNp (s : State) (p : Nat) : State :=
  let n := (s.servTerrs p).length
  let m := s.mins p
  let x := s.pav p
  if n ≤ 1 then s else s.setPav p { x with np := max m.1 (min x.np (n - m.2)) }

/-- Terraces due for withdrawal leave scheduling (R131, R281). -/
def State.withdrawals (s : State) (p : Nat) : State :=
  let ts := (s.maskTerrs p).filter fun t => (s.terr t).withdrawDue
  if ts.isEmpty then s
  else
    let t := ts.foldl State.withdrawTerr s
    if (t.servTerrs p).isEmpty then t.noTerrace p else t.clampNp p

/-- Pauses due at the boundary (R263, R264). -/
def State.pauseReq (s : State) (i : Nat) : State :=
  let r := s.req i
  if !r.sched.selected && (r.phase == .running || (r.phase == .ready && !r.pages.isEmpty)) then
    (s.setReq i { r with
      phase := .paused
      sched := { r.sched with sliceExp := false } }).trim i
  else s

/-- A verified unit's copy begins and steps are held (R386, R387). -/
def State.swapHold (s : State) (p : Nat) : State :=
  let x := s.pav p
  match x.swap with
  | none => s
  | some w => if w.stage = .verified then s.setPav p { x with held := true, swap := some { w with stage := .copying } } else s

/-! ### Segment tables (R33, R35) -/

/-- The record that serves a request at a layer. -/
def Req.recAt (r : Req) (l : Nat) : Option Nat := ((r.res[l]?).join).map (·.2)

/-- Spans of consecutive layers from l over which no row's record changes. -/
def spansFrom : Nat → Nat → List (Option Nat) → List (List (Option Nat)) → List (Nat × Nat × List (Option Nat))
  | first, last, cur, [] => [(first, last, cur)]
  | first, last, cur, v :: vs =>
    if v = cur then spansFrom first (last + 1) cur vs else (first, last, cur) :: spansFrom (last + 1) (last + 1) v vs

/-- The 32-byte entry of a segment at a layer (R34): its first position in the permutation, its record and rows. -/
def State.segEntry (s : State) (l at' rec rows : Nat) : List Byte :=
  let r := s.adrec rec
  let m := firstModel (s.ent r.slot).modelMask
  let p := r.projs.headD 0
  let b := r.layers m (l - r.layerFirst)
  leBytes 2 at' ++ leBytes 2 rows ++ leBytes 4 rec ++ leBytes 1 r.rankQ ++ leBytes 1 (r.fmt % 16 + r.mode % 16 * 16)
    ++ leBytes 1 r.proj.toNat ++ leBytes 1 (2 * b2n r.scaleNeg + 4 * b2n r.scaleZero) ++ leBytes 2 r.scaleLog.toNat ++ [0, 0]
    ++ leBytes 8 (r.location + r.aOff m b p) ++ leBytes 8 (r.location + r.bOff m b p)

/-- The entries of a table at a layer, from a position of the permutation. -/
def State.segEntries (s : State) (l : Nat) : Nat → List Seg → List Byte
  | _, [] => []
  | at', g :: gs => match g.record with
    | none => []
    | some rec => s.segEntry l at' rec g.rows.length ++ s.segEntries l (at' + g.rows.length) gs

/-- The 16-byte header of a table; the plot-store offset of its permutation is free (R34, log 1). -/
def State.segHeader (s : State) (t : SegTab) : List Byte :=
  leBytes 2 (t.segs.countP fun g => g.record.isSome) ++ leBytes 2 t.perm.length ++ leBytes 1 t.layerFirst
    ++ leBytes 1 t.layerLast ++ [0, 0] ++ leBytes 4 t.step ++ leBytes 4 (Config.choose s.freeCtr)

/-- The segment table of a span: records ascending, then the rows without one (R33), with its permutation and bytes (R34). -/
def State.segTab (s : State) (step first last : Nat) (v : List (Option Nat)) : SegTab :=
  let rowsOf (o : Option Nat) : List Nat := (List.range v.length).filter fun j => v[j]? == some o
  let recs := sortBy (fun a b => decide (a < b)) (v.filterMap id).eraseDups
  let tail := rowsOf none
  let segs : List Seg := recs.map (fun r => { record := some r, rows := rowsOf (some r) })
    ++ (if tail.isEmpty then [] else [{ record := none, rows := tail }])
  let t : SegTab := { layerFirst := first, layerLast := last, step := step, segs := segs, perm := segs.flatMap (·.rows) }
  { t with images := (List.range (last + 1 - first)).map fun k => s.segHeader t ++ s.segEntries (first + k) 0 segs }

/-- The segment tables of a terrace's rows (R33). -/
def State.segTabs (s : State) (rows : List Nat) (step : Nat) : List SegTab :=
  let layers := rows.foldl (fun (n : Nat) i => max n (s.req i).res.length) 0
  let vecs := (List.range layers).map fun l => rows.map fun i => (s.req i).recAt l
  match vecs with
  | [] => []
  | v :: vs => (spansFrom 0 0 v vs).map fun e => s.segTab step e.1 e.2.1 e.2.2

/-- The batch rows that a table has beyond the limits: from position 8,192 of its permutation on, and of every segment after its
2,048th (R35, R279). -/
def SegTab.beyond (t : SegTab) : List Nat :=
  t.perm.drop 8192 ++ ((t.segs.filter fun g => g.record.isSome).drop 2048).flatMap (·.rows)

/-- The rows that stay on a terrace, and those moved to the following step: at each fault of the gather unit the rows beyond the
limit of the table it was building go, and the tables are built again for the rest (R35, R279). -/
def State.cutRows (s : State) (step : Nat) : Nat → List Nat → List Nat → List Nat × List Nat
  | 0, rows, moved => (rows, moved)
  | n + 1, rows, moved =>
    match (s.segTabs rows step).find? fun t => !t.beyond.isEmpty with
    | none => (rows, moved)
    | some t =>
      let at' (keep : Bool) : List Nat := (List.range rows.length).filter fun j => t.beyond.contains j != keep
      s.cutRows step n ((at' true).filterMap fun j => rows[j]?) (moved ++ t.beyond.eraseDups.filterMap fun j => rows[j]?)

/-! ### Steward-chosen tiling (R276) -/

/-- The largest legal TK whose footprint fits: candidates 16 × n, from n down (R182, R184). -/
def tkFor (fits : Nat → Bool) : Nat → Nat
  | 0 => 0
  | n + 1 => if fits (16 * (n + 1)) then 16 * (n + 1) else tkFor fits n

/-- A macro-op with EXPLICIT walk and the tile shape set. -/
def shaped (m : BitVec 256) (tm tnQ tk alloc : Nat) : BitVec 256 :=
  let put (n lo w v : Nat) : Nat := putBits n lo w v
  BitVec.ofNat 256 (put (put (put (put m.toNat 48 8 (tm / 4)) 56 8 tnQ) 64 8 (tk / 16)) 112 16 alloc)



/-- Tiles of a steward-tiled layer on a terrace: tile i goes to local plot i mod 64 (R276). -/
def State.tileLayer (s : State) (t typ : Nat) (m : Model) (img : BitVec 256) : State :=
  let p := plotAt t 0
  let rows := (s.terr t).rows.length
  let tm := min 256 (4 * cdiv rows 4)
  let ctx (tk : Nat) : Ctx := Ctx.mk' s p (shaped img tm m.tnQ tk m.alloc) ((s.plot p).descs img) (s.lens p) none
  let tk := if Mo.opcode img = 1 ∨ Mo.opcode img = 2 then
      tkFor (fun k => decide ((ctx k).footprint ≤ Mo.alloc (ctx k).m)) 32 else 0
  if m.tileMask.testBit typ && rows != 0 then
    (List.range 64).foldl (fun (u : State) k =>
      let q := plotAt t k
      let tiles := ((List.range (ctx tk).total).filter fun i => i % 64 == k).map fun i => Mo.explicit (ctx tk).m i
      u.setPlot q (Plot.feed { u.plot q with injWait := (u.plot q).injWait ++ [tiles] })) s
  else s

/-- The layers that the step tiles: terrace, layer type, model, and the layer's macro-op. -/
def State.tileAll (s : State) (p : Nat) (l : List (Nat × Nat × Nat × BitVec 256)) : State :=
  l.foldl (fun (u : State) e =>
    match s.model p e.2.2.1 with
    | some m => if (s.servTerrs p).contains e.1 then u.tileLayer e.1 e.2.1 m e.2.2.2 else u
    | none => u) s

/-! ### The start of a step (R262 to R266, R272, R282, R314, R350, R381, R452) -/

/-- Whether a request takes rows in the coming step: its event buffer has room and its pages can be had (R326, R452). -/
def State.prepRow (s : State) (i : Nat) : Bool × State :=
  let r := s.req i
  let d := s.depthOf r
  let r : Req := { r with sched := { r.sched with depth := d } }
  let t := s.setReq i r
  let wait (u : State) : State :=
    u.setReq i { u.req i with phase := if r.phase = .running then .ready else r.phase }
  if 1024 - (s.qp r.queue).evbuf.length < (if Rd.finalOnly r.desc then 2 else d + 2) then
    (false, wait (t.inc R.backpressure r.queue))
  else
    let (room, u) := t.stepRoom i (r.commitLen + t.rowsNeeded r)
    if room then (true, u.cover i (r.commitLen + t.rowsNeeded r)) else (false, wait u)

/-- The requests that take rows, in rank order. -/
def State.prepRows (s : State) : List Nat → List Nat × State
  | [] => ([], s)
  | i :: t =>
    let (yes, u) := s.prepRow i
    let (rs, v) := u.prepRows t
    (if yes then i :: rs else rs, v)

/-- Batch rows of a share. -/
def expand (sh : Share) : List Nat := sh.flatMap fun e => List.replicate e.2 e.1

/-- Rows moved to the following step (R279): a request of which some stay has that many rows, a speculating one that much less
depth; a request of which none stays keeps its place and takes no rows in this step. -/
def State.moveOver (s : State) (keep moved : List Nat) : State :=
  moved.eraseDups.foldl (fun (u : State) i =>
    let r := u.req i
    if keep.contains i then
      u.setReq i { r with sched := { r.sched with depth := if r.prefill then r.sched.depth else keep.count i - 1 } }
    else u.setReq i { r with phase := if r.phase = .running then .ready else r.phase }) s

/-- A terrace's rows and segment tables (R33). Where they exceed a limit the gather unit faults as it builds the tables, before
anything is computed; the rows beyond it move to the following step, and the step runs with the rest (R35, R279). -/
def State.fillTerr (s : State) (p t : Nat) (role : Role) (sh : Share) : State :=
  let step := (s.pav p).step
  let rows := expand sh
  let (keep, moved) := s.cutRows step rows.length rows []
  let u := (s.setTerr t { s.terr t with role := role, rows := keep, segs := s.segTabs keep step }).tickFree
  if moved.isEmpty then u
  else (u.raise { cls := .corrected, event := Code.segmentOverflow, pav := some p, unit := 2, inst := t }).moveOver keep moved

/-- Weight units of two generations are in place (R381). -/
def Pav.mixed (x : Pav) (model : Nat) : Bool :=
  match x.swap with | none => false | some w => w.model == model && !w.copied.isEmpty

/-- The pages that a request's rows write are written while SWAPPING (R321). -/
def State.markSwapMade (s : State) (i : Nat) : State :=
  (((s.req i).pages.drop ((s.req i).commitLen / 16)).filterMap id).foldl
    (fun (u : State) k => u.setPage k { u.page k with swapMade := true }) s

/-- A request runs in the step that starts. -/
def State.runReq (s : State) (p : Nat) (all : List Nat) (i : Nat) : State :=
  let r := s.req i
  let x := s.pav p
  let g := s.gen p r.model
  let dup := all.any fun j => j != i && (s.req j).seed == r.seed
  let t := if x.st = .swapping then s.markSwapMade i else s
  (t.setReq i { r with
    phase := .running
    draftIn := r.tokens.drop r.draftLen
    report := { r.report with
      seedDup := r.report.seedDup || dup
      mixed := r.report.mixed || x.mixed r.model
      wgenFirst := if r.report.wgenFirst = 0 then g else r.report.wgenFirst
      wgenLast := g } }).writePt i

/-- The role a terrace has in a step (R269). -/
def State.roleOf (s : State) (p t : Nat) : Role :=
  if (s.servTerrs p).length ≤ 1 then .mixed else if (s.roleTerrs p true).contains t then .prefill else .decode

/-- The steward sends its step-start message, with REL set, to each running plot of the terraces that carry rows (R314); what it holds
is free (log 1). -/
def State.sendStart (s : State) (p : Nat) : State :=
  let plots := ((s.openTerrs p).filter fun t => !(s.terr t).rows.isEmpty).flatMap fun t =>
    ((List.range 64).map (plotAt t)).filter fun q => (s.plot q).run
  let t := s.tickFree
  { t with
    trellis := t.trellis ++ plots.map fun q =>
      { src := 2048 + p, dst := q, flits := 1, tag := BitVec.ofNat 8 (Config.choose s.freeCtr), rel := true
        payload := (List.range 64).map (Config.freeByte s.freeCtr), stores := 0, ops := 0 } }

/-- The next step starts on the terraces that are not held (R265, R266, R272, R280, R314). -/
def State.startStep (s : State) (p : Nat) (lens : List Word32) (tiling : List (Nat × Nat × Nat × BitVec 256)) : State :=
  let cand := (s.ranked p).filter fun i =>
    (s.req i).sched.selected && (s.req i).runnable
  let (go, t) := s.prepRows cand
  let a := t.place p true go
  let b := t.place p false go
  let u := (t.openTerrs p).foldl (fun (v : State) k =>
    v.fillTerr p k (t.roleOf p k) (((a ++ b).filter fun e => e.1 == k).flatMap (·.2))) t
  let run := u.stepReqs p
  let u := run.foldl (fun (v : State) i => v.runReq p run i) u
  let u := (List.range 16).foldl (fun (v : State) k => v.wr R.pavLen (lens.getD k 0).toNat p k) u
  (u.tileAll p tiling).sendStart p

/-- The terraces of a pavilion on which a retirement waits are held, with no rows, for the next step, and for no second one in a
row (R280, R565). -/
def State.holdTerrs (s : State) (p : Nat) : State :=
  (s.servTerrs p).foldl (fun (u : State) t =>
    let due := (List.range 64).any fun k => (u.plot (plotAt t k)).retire
    u.setTerr t { u.terr t with took := false, held := due && !(u.terr t).held }) s

/-- A request without rows from here on has had none for the whole of its cadence window (R258, R264). -/
def State.markRows (s : State) (p : Nat) : State :=
  ((s.residents p).filter fun i => !(s.stepReqs p).contains i).foldl (fun (u : State) i =>
    u.setReq i { u.req i with sched := { (u.req i).sched with rowsAll := false, windows := 0 } }) s

/-- Steps of a pavilion may start (R386, R387, R391, R536). -/
def State.mayStep (s : State) (p : Nat) : Bool :=
  (s.pav p).st.active && !(s.pav p).held && !s.restoring p && !s.handing p && !(s.openTerrs p).isEmpty

/-- STEP_BOUNDARY: the step ends, what is due takes effect, and the next step starts (R263 to R266, R272 to R281). mpf and mdec are
the measured step times of the two roles; lens the values of the step's length registers; tiling the steward-tiled layers. -/
def execStepBoundary (pav mpf mdec : Nat) (lens : List Word32) (tiling : List (Nat × Nat × Nat × BitVec 256)) (s : State) : Res :=
  if s.serving = false ∨ s.defined pav = false ∨ ((s.pav pav).st.active = false ∧ (s.residents pav).isEmpty = true) then ok s
  else
    let t := (s.endStep pav mpf mdec).endRequests pav
    let t := (t.residents pav).foldl State.advanceReq t
    let t := (((t.withdrawals pav).repairRows (some pav)).holdTerrs pav).swapHold pav
    let t := (t.residents pav).foldl State.pauseReq t
    let t := t.drained pav
    let t := if (t.pav pav).st = .closed then t.endRequests pav else t
    ok ((if t.mayStep pav then t.startStep pav lens tiling else t).markRows pav)

/-! ### Cadence boundaries (R49, R82, R90, R258 to R272, R384, R496, R594) -/

/-- Every shard of a model is verified and in place under a good manifest (R274, R372). -/
def State.loaded (s : State) (p m : Nat) : Bool :=
  let g := s.wgt (p * 16 + m)
  g.good && (List.range (Man.count g.manifest)).all fun k => (g.shard k).verified && (g.shard k).inPlace

/-- A LOADING pavilion may open (R81, R274, R571). -/
def State.opens (s : State) (p : Nat) : Bool :=
  (s.modelsOf p).any (fun m => !m.draft) && (s.modelsOf p).all (fun m => s.loaded p m.id)
    && (s.sdl.everLocked || s.rd R.openWithoutLock == 1) && !(s.servTerrs p).isEmpty && s.cfm.lostStacks.isEmpty
    && !s.dev.recovery

/-- PAVILION_OPENING (R486): figures start afresh, n_p at its least (R259; log 34). -/
def State.openPav (s : State) (p : Nat) : State :=
  let e := Int.ofNat (s.rd R.estInit p)
  let t := s.setPav p { s.pav p with
    np := (s.mins p).1, streak := 0, streakSign := 0, epf := e, edec := e, a16 := 16 }
  (t.goPav p .opened).settleDev

/-- SWAP_ENTER (R384); a swap waits while the device is TENDING (R389). -/
def State.swapEnter (s : State) (p : Nat) : State :=
  let x := s.pav p
  match x.swap with
  | none => s
  | some w =>
    if x.st = .opened ∧ s.dev.st ≠ .tending ∧ (w.stage = .accepted ∨ w.stage = .queued) then
      let t := (s.setPav p { x with swap := some { w with stage := .staging, unit := (Man.units w.manifest).headD 0 } }).goPav p .swapping
      (t.stepReqs p).foldl State.markSwapMade t
    else s

/-- Depth d of each request of a pavilion (R284). -/
def State.setDepths (s : State) (p : Nat) : State :=
  (s.residents p).foldl (fun (u : State) i =>
    u.setReq i { u.req i with sched := { (u.req i).sched with depth := u.depthOf (u.req i) } }) s

/-- Classes of runnable requests without rows. -/
def State.waitingClasses (s : State) (p : Nat) : List Nat :=
  (s.reqs.filter fun e => e.2.pav == p && e.2.runnable && !(s.stepReqs p).contains e.1).map (·.2.sched.cls)

/-- Class and slice marks of a request at a boundary (R258, R264). -/
def Sched.boundary (d : Sched) (descCls slice : Nat) (running : Bool) (waiting : List Nat) : Sched :=
  if running then
    let n := if d.rowsAll && waiting.contains d.cls then d.windows + 1 else 0
    { d with
      cls := if d.rowsAll then descCls else d.cls
      windows := n
      sliceExp := d.sliceExp || decide (slice ≤ n)
      rowsAll := true }
  else { d with rowsAll := false, windows := 0 }

/-- Class and slice marks at a boundary (R258, R264). -/
def State.markSlices (s : State) (p : Nat) : State :=
  let w := s.waitingClasses p
  (s.residents p).foldl (fun (u : State) i =>
    let r := u.req i
    u.setReq i { r with sched := r.sched.boundary (Rd.cls r.desc) (s.rd R.slice p) ((s.stepReqs p).contains i) w }) s

/-- n* for the loads of a boundary (R270). -/
def nStar (n np dp dd mp md : Nat) : Nat :=
  if dp + dd = 0 then np else max mp (min ((n * dp + (dp + dd) / 2) / (dp + dd)) (n - md))

/-- The streak and n_p after a boundary (R271). -/
def Pav.rebalance (x : Pav) (target hold : Nat) : Pav :=
  let sg : Int := if x.np < target then 1 else if target < x.np then -1 else 0
  let n := if sg = 0 then 0 else if sg = x.streakSign then x.streak + 1 else if x.streakSign = 0 then 1 else 0
  { x with
    streak := n
    streakSign := sg
    np := if sg ≠ 0 ∧ hold ≤ n then (Int.ofNat x.np + sg).toNat else x.np }

/-- TERRACE_REBALANCING (R270, R271). -/
def State.rebalance (s : State) (p : Nat) : State :=
  let n := (s.servTerrs p).length
  if n ≤ 1 then s
  else
    let rs := (s.reqs.filter fun e => e.2.pav == p && e.2.runnable).map (·.2)
    let lp := ((rs.filter (·.prefill)).map (·.todo)).sum
    let ld := ((rs.filter fun r => !r.prefill).map s.rowsNeeded).sum
    let m := s.mins p
    let x := s.pav p
    s.setPav p (x.rebalance (nStar n x.np (cdiv lp (s.rd R.pfTokens p)) (cdiv ld (s.rd R.decRows p)) m.1 m.2) (s.rd R.hold p))

/-- `form_roster` over the ranked requests, with the budgets left and the requests selected so far (R261, R262, R268, R326). -/
def State.rosterGo (s : State) (p bp bd : Nat) (sel : List Nat) : List Nat → State
  | [] => s
  | i :: rest =>
    let r := s.req i
    let need := s.rowsNeeded r
    if need ≤ (if r.prefill then bp else bd) ∧ s.fits p (i :: sel) = true then
      if r.needsPageIn then (s.pageInTry i (r.len + need)).2.rosterGo p bp bd sel rest
      else
        let (room, t) := s.stepRoom i (r.len + need)
        if room then
          let t := if r.prefill then t.prefixMatch i else t
          let t := t.claim i ((t.req i).len + t.rowsNeeded (t.req i))
          let t := t.setReq i { t.req i with sched := { (t.req i).sched with selected := true } }
          t.rosterGo p (if r.prefill then bp - need else bp) (if r.prefill then bd else bd - need) (i :: sel) rest
        else
          let m := r.draftMissing (r.len + need) (t.drafting p)
          (t.spillFor p (r.missing (r.len + need) + t.reservedBut p i) (if m = 0 then 0 else m + t.reservedBut p i)).rosterGo
            p bp bd sel rest
    else s.rosterGo p bp bd sel rest

/-- ROSTER_FORMATION (R261). -/
def State.roster (s : State) (p : Nat) : State :=
  let t := (s.residents p).foldl (fun (u : State) i =>
    u.setReq i { u.req i with sched := { (u.req i).sched with selected := false } }) s
  t.rosterGo p (t.budget p true) (t.budget p false) [] (t.ranked p)

/-- A pavilion at a cadence boundary: opening, swap, rebalancing, batch formation (order 4 of R83). -/
def State.cadPav (s : State) (p : Nat) : State :=
  if s.defined p = false then s
  else
    let s := if (s.pav p).st.active then s else s.withdrawals p
    let s := if (s.pav p).st = .loading ∧ s.opens p = true then s.openPav p else s
    let s := s.swapEnter p
    if (s.pav p).st.active then ((((s.dropPoisoned).setDepths p).markSlices p).rebalance p).roster p else s

/-- BROADCAST_RETRY (R90, R91, R379): the root broadcasts again, a receiver asks for what it misses. -/
def State.bcastRetry (s : State) : State :=
  if s.bcast.st = .retry ∧ s.sdl.st.valid = true then
    let t := State.bcastRun { s with bcast := { s.bcast with start := s.time } }
    if s.rd R.wgtRoot = 1 then t else t.requestMissing
  else s

/-- KEY_SLOT_REPLACE (R496). -/
def State.installKeys (s : State) : State :=
  { s with
    nvm := { s.nvm with weightKeys := s.keyPending.foldl (fun (t : Tab (List Byte)) e => Tab.put [] t e.1 e.2) s.nvm.weightKeys }
    keyPending := [] }

/-- A steward's state record (R539): the header, then the body. -/
def State.stateRecord (s : State) (p format : Nat) : List Byte :=
  let step := (s.pav p).step
  let body := Config.stateBody format p step
  [0x53, 0x54, 0x57, 0x52] ++ leBytes 4 format ++ leBytes 1 p ++ leBytes 7 0 ++ leBytes 8 body.length ++ leBytes 8 step
    ++ (leBytes 48 (Config.sha384 body).toNat).reverse ++ body

/-- In TENDING each steward on the new firmware rewrites its old-format record (R540). -/
def State.oldRecords (s : State) : State :=
  if s.dev.st = .tending then
    let rs := s.stw.newFw.foldl (fun (t : Tab (List Byte)) p => Tab.put [] t p (s.stateRecord p s.upd.oldFormat)) s.upd.records
    { s with upd := { s.upd with records := rs } }
  else s

/-! ### The PLOT clock (R591 to R597) -/

/-- VCORE's minimum in mV by grade at the listed rates (R592). -/
def vcoreTable (grade : Nat) : List (Nat × Nat) :=
  if grade = 1 then [(600, 600), (1000, 650), (1200, 690), (1500, 740), (1600, 760), (1700, 780), (1800, 800)]
  else [(600, 620), (1000, 680), (1200, 720), (1500, 780), (1600, 800), (1700, 825), (1800, 850)]

/-- Linear interpolation between listed rates, rounded up to a multiple of 5 mV (R592). -/
def interp5 : List (Nat × Nat) → Nat → Nat
  | [], _ => 0
  | [(_, v)], _ => v
  | (r0, v0) :: (r1, v1) :: t, r =>
    if r ≤ r0 then v0
    else if r ≤ r1 then roundUp (cdiv (v0 * (r1 - r0) + (v1 - v0) * (r - r0)) (r1 - r0)) 5
    else interp5 ((r1, v1) :: t) r

/-- VCORE's minimum for a rate on this part (R592). -/
def State.vcoreFor (s : State) (mhz : Nat) : Nat := interp5 (vcoreTable s.fuses.grade.toNat) mhz

/-- A limit moved by one step, within the clock's range (R595, R597). -/
def moveLimit (v : Nat) (down up : Bool) : Nat := if down then max 600 (v - 50) else if up then min 1800 (v + 50) else v

/-- The running rate R591 asks for. -/
def State.rateWanted (s : State) : Nat :=
  min (min (s.rd R.plotTarget) s.pwr.capLimit) (min s.pwr.thermLimit (min s.nvm.repair.fmaxCap 1800))

/-- The power and thermal limits at a boundary; the fast cap ends (R595 to R597). -/
def State.limitsStep (s : State) : State :=
  let w := s.pwr
  let t := if w.thermDown then s.inc R.throttles else s
  { t with pwr := { w with
    capLimit := moveLimit w.capLimit (w.capDown || w.fastCapped) w.capUp
    capDown := false
    capUp := false
    fastCapped := false
    thermLimit := moveLimit w.thermLimit w.thermDown w.thermUp
    belowSince := if w.capDown || w.capUp || w.fastCapped then none else w.belowSince } }

/-- The rate at a boundary is set, and a setpoint with it. -/
def State.setRate (s : State) (mhz : Nat) : State :=
  State.emit { s.wr R.devPlotMhz mhz with pwr := { s.pwr with vcore := s.vcoreFor mhz, raising := none, reached := false } }
    (.avs (s.vcoreFor mhz))

/-- A raise by one step asks the regulator first (R593); none while AVS_FAULT stands (R606). -/
def State.askRaise (s : State) (cur : Nat) : State :=
  if cur < s.rateWanted ∧ s.rd R.avsFault = 0 then
    State.emit
      { s with pwr := { s.pwr with vPrev := s.pwr.vcore, vcore := s.vcoreFor (cur + 50), raising := some (cur + 50), reached := false } }
      (.avs (s.vcoreFor (cur + 50)))
  else s

/-- PLOT_RATE_CHANGE (R593, R594): one 50 MHz step; a fast cap ends (R596). In recovery no steward moves the clock (R471). -/
def State.rateStep (s : State) : State :=
  let cur := if s.pwr.fastCapped then 2 * s.rd R.devPlotMhz else s.rd R.devPlotMhz
  let t := (if s.dev.recovery then { s with pwr := { s.pwr with fastCapped := false } } else s.limitsStep).wr R.devPlotMhz cur
  if t.dev.recovery then t
  else if t.rateWanted < cur then t.setRate (cur - 50)
  else match t.pwr.raising with
    | none => t.askRaise cur
    | some r =>
      if t.rateWanted = cur then t.setRate cur
      else if t.pwr.reached then
        State.askRaise { t.wr R.devPlotMhz r with pwr := { t.pwr with raising := none, reached := false } } r
      else t

/-- A cadence boundary is due: device time is a multiple of W, or a step owes one (R78, R82). -/
def State.cadDue (s : State) : Bool :=
  s.sdl.owed.cad || (s.time % s.rd R.cadence == 0 && !s.sdl.cadDone)

/-- A cadence boundary is a retirement boundary of every terrace whose pavilion takes no steps, or that belongs to none (R565,
R567). -/
def State.freeTerrs (s : State) : State :=
  { s with terrs := Tab.mapAll {} (fun t r =>
      { r with took := r.took && (match s.pavOfTerr t with | some p => (s.pav p).st.active | none => false) }) s.terrs }

/-- A cadence boundary: flips, then terrace rebalancing and batch formation (R82, R83). -/
def State.boundary (s : State) : State :=
  let t : State := { s with sdl := { s.sdl with cadDone := true, owed := { s.sdl.owed with cad := false } } }
  let t := t.bcastRetry
  let t := if t.handing 0 then t.oweDir else t.dirBoundary
  let t := t.installKeys.ringsAgain
  let t := (List.range 8).foldl State.cadPav t
  ((t.repairRows none).freeTerrs.oldRecords.settleDev).rateStep

end Sys2Proof.Machine
end

