-- ==== Sys2Proof/Machine/Keys.lean ====
section
/-! DEFINITION. Key derivation in the Gatehouse (R497 to R504) and its random values. -/
namespace Sys2Proof.Machine
open Sys2Proof

/-- The bytes of an ASCII label. -/
def ascii (s : String) : List Byte := s.toList.map fun c => BitVec.ofNat 8 c.toNat

/-- A 32-bit value, big-endian. -/
def be32 (n : Nat) : List Byte := (leBytes 4 n).reverse

/-- KDF(K, label, context, L) of SP 800-108 in counter mode: the first bits / 8 bytes (R500). -/
def kdf (key : List Byte) (label : String) (context : List Byte) (bits : Nat) : List Byte :=
  let block (i : Nat) : List Byte :=
    (bvBytes 48 (Config.hmac384 key (be32 i ++ ascii label ++ [0x00] ++ context ++ be32 bits))).reverse
  ((List.range (cdiv bits 384)).flatMap fun i => block (i + 1)).take (bits / 8)

/-- Key bytes as a 256-bit key. -/
def key256 (b : List Byte) : BitVec 256 := BitVec.ofNat 256 (leNat b)

/-- The link key of one port direction (R501). -/
def linkKey (fmk : List Byte) (domain sender port receiver epoch : Nat) (salt : BitVec 128) : BitVec 256 :=
  key256 (kdf fmk "TORVOL-LINK"
    (leBytes 2 domain ++ leBytes 1 sender ++ leBytes 1 port ++ leBytes 1 receiver ++ leBytes 1 epoch ++ bvBytes 16 salt) 256)

/-- The salt after a roll from epoch 255 to 0 (R503). -/
def nextSalt (fmk : List Byte) (salt : BitVec 128) : BitVec 128 :=
  BitVec.ofNat 128 (leNat ((kdf fmk "TORVOL-SALT" (bvBytes 16 salt) 128).take 16))

/-- The wrapping key (R504). -/
def wrapKeyOf (huk : List Byte) : BitVec 256 := key256 (kdf huk "FMK-WRAP" [] 256)

/-- 128 random bits of the DRBG (R502; free, log 1). -/
def State.random128 (s : State) : BitVec 128 × State :=
  (BitVec.ofNat 128 (s.free64.toNat + s.tickFree.free64.toNat * 2 ^ 64), s.tickFree.tickFree)

/-- 256 random bits of the DRBG (R497; free, log 1). -/
def State.random256 (s : State) : BitVec 256 × State :=
  let (a, t) := s.random128
  let (b, u) := t.random128
  (BitVec.ofNat 256 (a.toNat + b.toNat * 2 ^ 128), u)

end Sys2Proof.Machine
end

