-- ==== Sys2Proof/Machine/Torvol.lean ====
section
/-! DEFINITION. The Torvol fabric: replay, control symbols, credits, READY, packets, multicast, training, lanes (R396 to R429,
R499 to R503, R509). -/
namespace Sys2Proof.Machine
open Sys2Proof

/-! ### Readiness (R423, R424, R499 to R502, R509) -/

/-- Why a port refuses packets (R403, R424, R509). -/
def State.notReadyReason (s : State) (i : Nat) : Nat :=
  let p := s.port i
  if s.locked = false then 0
  else if s.gate.fmk.isNone then 3
  else if p.rcvdReady ∧ p.peerDomain.toNat ≠ s.rd R.domain then 1
  else if p.rcvdReady ∧ p.peerId.toNat = s.rd R.devId then 2
  else 0

/-- NOT_READY is returned (R403, R423). -/
def State.sendNotReady (s : State) (i : Nat) : State :=
  s.sendSym i 0x07 ([0] ++ leBytes 2 (s.rd R.domain) ++ leBytes 1 (s.rd R.devId) ++ leBytes 1 (s.notReadyReason i))

/-- The content of READY (R403, R410, R502). -/
def State.readyBody (s : State) (i : Nat) (salt : BitVec 128) : List Byte :=
  [0] ++ leBytes 2 (s.rd R.domain) ++ leBytes 1 (s.rd R.devId) ++ leBytes 1 i ++ [0, 0] ++ leBytes 2 1024 ++ leBytes 2 256
    ++ leBytes 2 2048 ++ [0, 0] ++ leBytes 1 0 ++ [0, 0, 0] ++ bvBytes 16 salt

/-- A port enters READY with the keys of both directions (R423, R501, R502). -/
def State.enterReady (s : State) (i : Nat) (fmk : List Byte) : State :=
  let p := s.port i
  let me := s.rd R.devId
  let peer := p.peerId.toNat
  s.setPort i { p with
    st := .ready
    txEpoch := 0
    nonce := 0
    keyStopped := false
    fmk := some fmk
    txKey := some (linkKey fmk (s.rd R.domain) me i peer 0 p.txSalt)
    rxKey := some (linkKey fmk (s.rd R.domain) peer p.peerPort.toNat me p.rxEpoch.toNat p.rxSalt) }

/-- READY has been sent and received: the port is READY, or the peer does not match (R423, R424). -/
def State.tryReady (s : State) (i : Nat) : State :=
  let p := s.port i
  match s.gate.fmk with
  | none => s
  | some fmk =>
    if p.st = .linked ∧ p.sentReady = true ∧ p.rcvdReady = true then
      if p.peerDomain.toNat ≠ s.rd R.domain ∨ p.peerId.toNat = s.rd R.devId then
        (s.sendNotReady i).raise (corrErr Code.tvlPeerMismatch 6 i)
      else s.enterReady i fmk
    else s

/-- A LINKED port sends READY once the device has entered LOADING, if there is a fabric key (R423, R509; log 44). -/
def State.sendReady (s : State) (i : Nat) : State :=
  let p := s.port i
  if s.serving = true ∧ p.st = .linked ∧ p.sentReady = false ∧ s.gate.fmk.isSome = true ∧ s.gate.errorState = false then
    let (salt, t) := s.random128
    let u := t.setPort i { t.port i with txSalt := salt, sentReady := true }
    (u.sendSym i 0x06 (u.readyBody i salt)).tryReady i
  else s

/-- READY (R423, R424): the port keeps what the peer announces. -/
def execReady (port : Nat) (dom : BitVec 16) (devId peerPort : Byte) (c0 c1 c2 : BitVec 16) (epoch : Byte) (salt : BitVec 128)
    (s : State) : Res :=
  let p := s.port port
  onlyIf (p.st == .linked) s
    ((s.setPort port { p with
      rcvdReady := true, peerDomain := dom, peerId := devId, peerPort := peerPort
      cr0 := c0.toNat, cr1 := c1.toNat, cr2 := c2.toNat, rxEpoch := epoch, rxSalt := salt }).tryReady port)

/-! ### Credits, routes and sending (R409 to R412, R415, R416, R503) -/

/-- Credits held on a virtual channel. -/
def Port.credits (p : Port) (vc : Nat) : Nat := if vc = 0 then p.cr0 else if vc = 1 then p.cr1 else p.cr2

/-- Debits credits of a virtual channel. -/
def Port.debit (p : Port) (vc n : Nat) : Port :=
  if vc = 0 then { p with cr0 := p.cr0 - n } else if vc = 1 then { p with cr1 := p.cr1 - n } else { p with cr2 := p.cr2 - n }

/-- The port that carries packets to a device: PRIMARY, or ALTERNATE while PRIMARY is DOWN (R412). -/
def State.routeTo (s : State) (dest : Nat) : Option Nat :=
  let a := s.rd R.routePrimary 0 dest
  let b := s.rd R.routeAlternate 0 dest
  if a < 12 ∧ (s.port a).st ≠ .down then some a
  else if b < 12 ∧ (s.port b).st ≠ .down then some b
  else none

/-- Slots of a packet: HEAD, data, TAIL (R405). -/
def slotsOf (len : Nat) : Nat := len + 2

/-- A port can start a packet now: it is READY, holds the credits, has a key, and the replay buffer has room (R401, R410,
R416). -/
def State.canSend (s : State) (i vc len : Nat) : Bool :=
  let p := s.port i
  p.st == .ready && decide (slotsOf len ≤ p.credits vc) && p.txKey.isSome && !p.keyStopped
    && p.held.isEmpty && decide (p.replay.length + cdiv (slotsOf len) 10 ≤ 128)

/-- The sender rolls its key: KEY_ROLL with the next epoch, and the new key from the next HEAD on (R416, R503). -/
def State.rollKey (s : State) (i : Nat) (fmk : List Byte) : State :=
  let p := s.port i
  let epoch := p.txEpoch + 1
  let salt := if epoch = 0 then nextSalt fmk p.txSalt else p.txSalt
  (s.setPort i { p with
    txEpoch := epoch
    txSalt := salt
    nonce := 0
    txKey := some (linkKey fmk (s.rd R.domain) (s.rd R.devId) i p.peerId.toNat epoch.toNat salt) }).sendSym i 0x0D [epoch]

/-- After a packet the nonce rises; at 0xFFF0_0000 the key rolls, and without a new key the port stops at 2³² (R416, R503). -/
def State.afterNonce (s : State) (i : Nat) : State :=
  let p := s.port i
  if 0xFFF00000 ≤ p.nonce ∧ s.gate.errorState = false then
    match p.fmk with
    | some fmk => s.rollKey i fmk
    | none => s
  else s

/-- The nonce of a port's next packet: the link-direction identifier, then NONCE_CTR (R415). -/
def linkNonce (devId port nonce : Nat) : BitVec 96 := BitVec.ofNat 96 ((devId * 16 + port) % 2 ^ 32 + nonce % 2 ^ 64 * 2 ^ 32)

/-- A HEAD as sent on a port: NONCE_CTR and the CRC are filled in (R405). -/
def sealHead (h : BitVec 512) (nonce : Nat) : BitVec 512 :=
  let b := putBits h.toNat 128 64 nonce
  BitVec.ofNat 512 (putBits b 480 32 (Config.crc32c (leBytes 60 b)).toNat)

/-- The content of a TAIL from byte 1: STOMP, the tag, the end-to-end CRC (R403). -/
def tailBody (stomp : Bool) (tag : BitVec 128) (crc : Word32) : List Byte :=
  leBytes 1 (b2n stomp) ++ List.replicate 14 0 ++ bvBytes 16 tag ++ bvBytes 4 crc

/-- The slots of a packet, consecutive on the link: HEAD, data, TAIL (R405). -/
def packetSlots (head : BitVec 512) (data : List Byte) (tag : BitVec 128) (stomp : Bool) (crc : Word32) : List Slot :=
  { ctrl := true, bytes := bvBytes 64 head } ::
    ((List.range (cdiv data.length 64)).map fun k => dataSlot (data.drop (64 * k))) ++ [symSlot 0x02 (tailBody stomp tag crc)]

/-- The end-to-end CRC of a payload (R403, R407). -/
def endCrc (payload : List Byte) : Word32 := Config.crc32c payload

/-- A packet leaves on a port: encrypted under its key, credits debited, in as many codewords as its slots fill (R405, R410, R415;
log 43). A port whose NONCE_CTR would reach 2³² without a new key stops instead (R416). -/
def State.sendPacket (s : State) (i : Nat) (h : BitVec 512) (payload : List Byte) (crc : Word32) (stomp : Bool) : State :=
  let p := s.port i
  match p.txKey with
  | none => s
  | some key =>
    if 2 ^ 32 ≤ p.nonce + 1 then
      (s.setPort i { p with keyStopped := true }).raise (corrErr Code.tvlKeyExhausted 6 i)
    else
      let n := slotsOf (Hd.len h)
      let head := sealHead h p.nonce
      let iv := linkNonce (s.rd R.devId) i p.nonce
      let ct := Config.gcmSeal key iv payload
      let tag := Config.gcmTag key iv (bvBytes 60 head) ct
      let t := (s.setPort i { p.debit (Hd.vc h) n with nonce := p.nonce + 1 }).emit (.packet i head ct tag stomp crc)
      ((tens (cdiv n 10) (packetSlots head ct tag stomp crc)).foldl (fun (u : State) l => u.sendSlots i l) t).afterNonce i

/-- The READY ports of a multicast tree's DOWN_MASK (R414, R429). -/
def State.downPorts (s : State) (tree : Nat) : List Nat :=
  (List.range 12).filter fun k => (s.rd R.treeDown 0 tree).testBit k && (s.port k).st == .ready

/-- An earlier packet of this device to the same place on the same virtual channel waits (R408). -/
def State.waitsBefore (s : State) (h : BitVec 512) : Bool :=
  s.tvlDue.any fun e => Hd.vc e.head == Hd.vc h && Hd.mcast e.head == Hd.mcast h
    && (if Hd.mcast h then Hd.tree e.head == Hd.tree h else Hd.dest e.head == Hd.dest h)

/-- A packet of this device goes out, or waits for credits and its turn; with no usable route it is discarded (R408, R410, R412,
R414). -/
def State.launch (s : State) (h : BitVec 512) (payload : List Byte) (crc : Word32) : State :=
  let wait : State := { s with tvlDue := s.tvlDue ++ [{ head := h, payload := payload, crc := crc }] }
  if Hd.mcast h then
    let ports := s.downPorts (Hd.tree h)
    if !s.waitsBefore h && ports.all (fun i => s.canSend i 2 (Hd.len h)) then
      ports.foldl (fun (u : State) i => u.sendPacket i h payload crc false) s
    else wait
  else match s.routeTo (Hd.dest h) with
    | none => s
    | some i => if !s.waitsBefore h && s.canSend i (Hd.vc h) (Hd.len h) then s.sendPacket i h payload crc false else wait

/-- Packets that waited are tried again in order (R410). -/
def State.flushDue (s : State) : State :=
  s.tvlDue.foldl (fun (t : State) e => t.launch e.head e.payload e.crc) { s with tvlDue := [] }



/-- Credits of a packet that has left the receive buffer are returned (R410). -/
def State.returnCredits (s : State) (i vc n : Nat) : State :=
  s.sendSym i 0x03 ([0] ++ leBytes 2 (if vc = 0 then n else 0) ++ leBytes 2 (if vc = 1 then n else 0)
    ++ leBytes 2 (if vc = 2 then n else 0))

/-- A HEAD is legal (R405). -/
def headGood (h : BitVec 512) : Bool :=
  Hd.typ h == 1 && Hd.vc h != 3 && Hd.op h ≤ 2 && 1 ≤ Hd.len h && Hd.len h ≤ 64

/-- The payload has LEN data slots. -/
def fits64 (h : BitVec 512) (payload : List Byte) : Bool := payload.length == 64 * Hd.len h

/-- A MSG's payload enters a steward's mailbox (R406); steward firmware of the root resends what a repair request asks for (R378;
log 56). -/
def State.deliverMsg (s : State) (h : BitVec 512) (payload : List Byte) : State :=
  let t : State := { s with mbox := s.mbox ++ [(Hd.addr h % 8, payload)] }
  match Config.repairRequest payload with
  | some (p, m, shard, ks) => if t.rd R.wgtRoot = 1 then t.resend (Hd.src h) p m shard ks else t
  | none => t

/-- A PUT's payload is written in the receive window (R406, R407). -/
def State.putWrite (s : State) (h : BitVec 512) (payload : List Byte) : State := s.homeWrite (s.rd R.rxBase + Hd.addr h) payload

/-- A PUT lies within the receive window (R407). -/
def State.inWindow (s : State) (h : BitVec 512) : Bool := decide (Hd.addr h + 64 * Hd.len h ≤ s.rd R.rxSize)



/-- A PUT or MSG takes effect at its destination: the STATUS of its ACK, and the state (R406, R407). -/
def State.tvlDeliver (s : State) (h : BitVec 512) (payload : List Byte) (crc : Word32) : Nat × State :=
  if endCrc payload ≠ crc then (3, s)
  else if Hd.op h = 1 then (0, s.deliverMsg h payload)
  else if s.inWindow h = false then (2, s)
  else (0, s.putWrite h payload)

/-- PACKET_SEND (R405, R406, R409, R410, R412, R414): a source sends a packet once the port holds its credits; a unicast PUT or MSG
is kept until its ACK. A packet to the device itself is delivered, and acknowledged, locally. -/
def execPacketSend (head : BitVec 512) (payload : List Byte) (s : State) : Res :=
  let h := BitVec.ofNat 512 (putBits head.toNat 24 6 (s.rd R.devId))
  let x := (Hd.xid h).toNat
  if s.serving = false ∨ headGood h = false ∨ fits64 h payload = false then ok s
  else if Hd.mcast h then
    onlyIf (decide (s.rd R.treeValid 0 (Hd.tree h) = 1) && decide (s.rd R.treeUp 0 (Hd.tree h) = 15) && decide (Hd.vc h = 2)) s
      (s.launch h payload (endCrc payload))
  else if Hd.op h = 2 ∨ Hd.vc h ≠ 0 then ok s
  else if Hd.dest h = s.rd R.devId then
    let r := s.tvlDeliver h payload (endCrc payload)
    ok (r.2.emit (.acked (Hd.xid h) r.1))
  else
    let q : Xact := { head := h, payload := payload, sends := 1, sentAt := s.time }
    ok (State.launch { s with xacts := Tab.ins (s.xacts.filter fun e => e.1 != x) x q } h payload (endCrc payload))

/-! ### Receiving (R406, R407, R410, R414, R415, R417, R423, R427) -/

/-- A tag fails on a port: counted, raised, and the AUTH_LIMIT-th within 1,000,000 tk takes the port DOWN (R417, R427). -/
def State.tagFail (s : State) (i : Nat) : State :=
  let p := s.port i
  let times := s.time :: p.authTimes.filter fun t => tkFrom t s.time < 1000000
  let t := ((s.setPort i { p with authTimes := times }).inc R.authFails i).raise (corrErr Code.tvlAuthFail 6 i)
  if s.rd R.authLimit ≤ times.length then t.portDown i 3 true else t

/-- A packet before READY is refused (R423). -/
def State.refuse (s : State) (i : Nat) : State := (s.inc R.earlyPkt).sendNotReady i

/-- The ACK of a packet (R406): on UC_RSP, LEN 1, its data slot zero. -/
def State.ackPacket (s : State) (h : BitVec 512) (status : Nat) : State :=
  let zero : List Byte := List.replicate 64 0
  s.launch (Hd.mk 1 (Hd.src h) (s.rd R.devId) 0 2 1 0 (Hd.xid h) status) zero (endCrc zero)

/-- The packet's payload can be used: the tag holds and STOMP is clear (R417). -/
def Pkt.whole (k : Pkt) : Bool := k.tagOk && !k.stomp

/-- A unicast PUT or MSG at its destination (R406, R407, R417). -/
def State.takeUnicast (s : State) (k : Pkt) : State :=
  if k.whole then
    let r := s.tvlDeliver k.head k.payload k.crc
    r.2.ackPacket k.head r.1
  else s.ackPacket k.head 1

/-- An ACK at its source (R409): OK and the destination's refusals end the transaction; DISCARDED has it sent again, at most
twice. -/
def State.takeAck (s : State) (h : BitVec 512) : State :=
  let x := (Hd.xid h).toNat
  match s.xacts.find? (fun e => e.1 == x) with
  | none => s
  | some (_, q) =>
    let drop : State := { s with xacts := s.xacts.filter fun e => e.1 != x }
    if Hd.status h ≠ 1 then drop.emit (.acked (Hd.xid h) (Hd.status h))
    else if q.sends < 3 then
      State.launch { drop with xacts := Tab.ins drop.xacts x { q with sends := q.sends + 1, sentAt := s.time } } q.head q.payload
        (endCrc q.payload)
    else drop.emit (.unreachable (Hd.xid h))

/-- A unicast packet leaves the receive buffer (R405 to R412, R417): delivered, or forwarded under the egress key; none while the
egress port lacks credits. -/
def State.unicast (s : State) (k : Pkt) : Option State :=
  let h := k.head
  if Hd.dest h = s.rd R.devId then
    if Hd.op h = 2 then some (if k.whole then s.takeAck h else s) else some (s.takeUnicast k)
  else match s.routeTo (Hd.dest h) with
    | none => some s
    | some e => if s.canSend e (Hd.vc h) (Hd.len h) then some (s.sendPacket e h k.payload k.crc !k.whole) else none

/-- A multicast packet leaves the receive buffer (R407, R414, R417, R429): accepted only from UP_PORT; forwarded on the DOWN_MASK
ports that are READY once each holds its credits; written locally if LOCAL is set. -/
def State.multicast (s : State) (i : Nat) (k : Pkt) : Option State :=
  let h := k.head
  let t := Hd.tree h
  if s.rd R.treeUp 0 t ≠ i ∨ s.rd R.treeValid 0 t = 0 then some (s.inc R.mcWrongPort)
  else if (s.downPorts t).all (fun e => s.canSend e 2 (Hd.len h)) then
    let u := (s.downPorts t).foldl (fun (v : State) e => v.sendPacket e h k.payload k.crc !k.whole) s
    some (if s.rd R.treeLocal 0 t = 1 ∧ k.whole = true ∧ endCrc k.payload = k.crc ∧ s.inWindow h = true
      then u.putWrite h k.payload else u)
  else none

/-- A packet leaves the receive buffer, or waits; one whose HEAD is not legal, or whose data slots are not LEN, is discarded
(R405). -/
def State.takePkt (s : State) (i : Nat) (k : Pkt) : Option State :=
  if headGood k.head = false ∨ fits64 k.head k.payload = false then some s
  else if Hd.mcast k.head then s.multicast i k
  else s.unicast k

/-- The packets of a port's receive buffers leave in order, as far as they can: on each virtual channel the first that waits holds
up those behind it (R408, R410, R411). The credits of the slots that leave are returned (R410). -/
def State.drainGo (s : State) (i : Nat) : List Pkt → List Pkt → State
  | [], kept => s.setPort i { s.port i with rxBuf := kept }
  | k :: l, kept =>
    if (s.port i).st ≠ .ready then s
    else if kept.any (fun q => Hd.vc q.head == Hd.vc k.head) then s.drainGo i l (kept ++ [k])
    else match s.takePkt i k with
      | some t => (t.returnCredits i (Hd.vc k.head) (slotsOf (Hd.len k.head))).drainGo i l kept
      | none => s.drainGo i l (kept ++ [k])

/-- The packets of a port's receive buffers go on. -/
def State.drainRx (s : State) (i : Nat) : State := s.drainGo i (s.port i).rxBuf []

/-- Credits or room in a replay buffer have come: what waits goes on (R401, R410). -/
def State.linkGoOn (s : State) (i : Nat) : State := (List.range 12).foldl State.drainRx (s.sendHeld i).flushDue

/-- The packet that a port's receive key opens, and whether its tag holds (R415); without a key none holds. -/
def State.opened (s : State) (i : Nat) (h : BitVec 512) (data : List Byte) (tag : BitVec 128) : Bool × List Byte :=
  let p := s.port i
  match p.rxKey with
  | none => (false, data)
  | some key =>
    let iv := linkNonce p.peerId.toNat p.peerPort.toNat (Hd.nonce h)
    (Config.gcmTag key iv (bvBytes 60 h) data == tag, Config.gcmSeal key iv data)

/-- A HEAD's CRC is good (R403, R405). -/
def headCrcGood (h : BitVec 512) : Bool := Config.crc32c (bvBytes 60 h) == BitVec.ofNat 32 (byteAt h 60 4)

/-- A packet has arrived with its TAIL (R403, R410, R415, R423): a bad HEAD is discarded, and its packet with it; before READY it
is refused; else it enters the receive buffer, and a tag that fails is counted. -/
def State.tvlArrive (s : State) (i : Nat) (h : BitVec 512) (data : List Byte) (tag : BitVec 128) (stomp : Bool) (crc : Word32) :
    State :=
  if headCrcGood h = false then s
  else match (s.port i).st with
    | .linked => s.refuse i
    | .ready =>
      let r := s.opened i h data tag
      let t := if r.1 then s else s.tagFail i
      let k : Pkt := { head := h, payload := r.2, tagOk := r.1, stomp := stomp, crc := crc }
      if (t.port i).st = .ready then (t.setPort i { t.port i with rxBuf := (t.port i).rxBuf ++ [k] }).drainRx i else t
    | _ => s

/-- PUT (R405 to R407, R415, R417); a packet of a reserved OP is discarded here as well. -/
def execPut (port : Nat) (head : BitVec 512) (data : List Byte) (tag : BitVec 128) (stomp : Bool) (crc : Word32) (s : State) : Res :=
  onlyIf (Hd.op head != 1 && Hd.op head != 2 && !Hd.mcast head) s (s.tvlArrive port head data tag stomp crc)

/-- MSG (R405 to R407, R415, R417). -/
def execMsg (port : Nat) (head : BitVec 512) (data : List Byte) (tag : BitVec 128) (stomp : Bool) (crc : Word32) (s : State) : Res :=
  onlyIf (Hd.op head == 1 && !Hd.mcast head) s (s.tvlArrive port head data tag stomp crc)

/-- ACK (R406, R409, R415, R417). -/
def execAck (port : Nat) (head : BitVec 512) (data : List Byte) (tag : BitVec 128) (stomp : Bool) (crc : Word32) (s : State) : Res :=
  onlyIf (Hd.op head == 2 && !Hd.mcast head) s (s.tvlArrive port head data tag stomp crc)

/-- MULTICAST_PACKET (R414, R415, R417, R423). -/
def execMulticastPacket (port : Nat) (head : BitVec 512) (data : List Byte) (tag : BitVec 128) (stomp : Bool) (crc : Word32)
    (s : State) : Res :=
  onlyIf (Hd.mcast head) s (s.tvlArrive port head data tag stomp crc)

/-- E2E_TIMEOUT: a PUT is sent again, at most twice; a MSG, and a PUT after its last attempt, is unreachable (R409). -/
def execE2eTimeout (xid : Word32) (s : State) : Res :=
  let x := xid.toNat
  match s.xacts.find? (fun e => e.1 == x) with
  | none => ok s
  | some (_, q) =>
    let drop : State := { s with xacts := s.xacts.filter fun e => e.1 != x }
    if s.passed q.sentAt (s.rd R.e2eTimeout) = false then ok s
    else if Hd.op q.head = 0 ∧ q.sends < 3 then
      ok (State.launch { drop with xacts := Tab.ins drop.xacts x { q with sends := q.sends + 1, sentAt := s.time } } q.head q.payload
        (endCrc q.payload))
    else ok (drop.emit (.unreachable xid))

/-- CREDIT (R410). -/
def execCredit (port : Nat) (c0 c1 c2 : BitVec 16) (s : State) : Res :=
  let p := s.port port
  onlyIf (p.st == .ready) s
    ((s.setPort port { p with cr0 := p.cr0 + c0.toNat, cr1 := p.cr1 + c1.toNat, cr2 := p.cr2 + c2.toNat }).linkGoOn port)

/-! ### Acknowledgement and replay (R401, R402) -/

/-- The codewords after a SEQ, none if the buffer does not hold it. -/
def afterSeq (seq : Byte) : List Cw → Option (List Cw)
  | [] => none
  | x :: l => if x.seq = seq then some l else afterSeq seq l

/-- LINK_ACK: codewords up to its SEQ leave the replay buffer, and what waited for room goes on (R401, R402). -/
def execLinkAck (port : Nat) (seq : Byte) (s : State) : Res :=
  let p := s.port port
  if p.linkedUp = false then ok s
  else match afterSeq seq p.replay with
    | some l => ok ((s.setPort port { p with replay := l, nakSeq := none, replayFails := 0 }).linkGoOn port)
    | none => ok s

/-- LINK_NAK: the sender sends again from its SEQ on, in order; the eighth consecutive failed replay of one SEQ takes the port DOWN
(R402, R427). -/
def execLinkNak (port : Nat) (seq : Byte) (s : State) : Res :=
  let p := s.port port
  let again := p.replay.dropWhile fun c => c.seq != seq
  if p.linkedUp = false ∨ again.isEmpty = true then ok s
  else
    let fails := if p.nakSeq = some seq then p.replayFails + 1 else 0
    if 8 ≤ fails then ok (s.portDown port 1 true)
    else
      let t := (s.setPort port { p with nakSeq := some seq, replayFails := fails }).inc R.tvlReplays port
      ok (again.foldl (fun (u : State) c => u.putCw port c) t)

/-- KEY_ROLL: the receiver uses the next epoch's key (R416, R503); any other epoch is ignored (log 45). -/
def execKeyRoll (port : Nat) (epoch : Byte) (s : State) : Res :=
  let p := s.port port
  match p.fmk with
  | none => ok s
  | some fmk =>
    let salt := if epoch = 0 then nextSalt fmk p.rxSalt else p.rxSalt
    onlyIf (p.st == .ready && epoch == p.rxEpoch + 1) s
      (s.setPort port { p with
        rxEpoch := epoch
        rxSalt := salt
        rxKey := some (linkKey fmk (s.rd R.domain) p.peerId.toNat p.peerPort.toNat (s.rd R.devId) epoch.toNat salt) })

/-! ### Link delay (R419) -/

/-- DELAY_REQ is answered with T1, the time T2 of its arrival and the time T3 of the answer (R403, R419). -/
def execDelayReq (port : Nat) (t1 t2 t3 : Word64) (s : State) : Res :=
  onlyIf (s.port port).linkedUp s
    (s.sendSym port 0x0A (List.replicate 7 0 ++ bvBytes 8 t1 ++ bvBytes 8 t2 ++ bvBytes 8 t3))



/-- DELAY_RSP: one measurement; DELAY is the mean of the last 8 (R419, R625). -/
def execDelayRsp (port : Nat) (t1 t2 t3 t4 : Word64) (s : State) : Res :=
  let p := s.port port
  let d : Int := (((t4.toNat : Int) - t1.toNat) - ((t3.toNat : Int) - t2.toNat)) / 2
  let l := (d :: p.delays).take 8
  onlyIf p.linkedUp s
    ((s.setPort port { p with delays := l }).wr R.tvlDelay (meanOf l % 2 ^ 32).toNat port)

/-- DELAY_REQ_TIMER: a port sends a DELAY_REQ (R403, R419). -/
def execDelayReqTimer (port : Nat) (t1 : Word64) (s : State) : Res :=
  onlyIf (s.port port).linkedUp s (s.sendSym port 0x09 (List.replicate 7 0 ++ bvBytes 8 t1))

/-! ### Lanes (R425, R426, R570) -/

/-- Corrected symbols of a logical lane: the larger of its count in the last window that ended and in the one that runs (R426;
log 68). -/
def Port.laneCount (p : Port) (k : Nat) : Nat := max (Tab.get 0 p.lanes k) (Tab.get 0 p.lanesPast k)

/-- The four logical lanes with the lowest figures, in ascending order; of equal ones the lower (R426; log 68). -/
def fourLowest (f : Nat → Nat) (w : Nat) : List Nat :=
  ((sortBy (fun (a b : Nat) => decide (f a < f b)) (List.range w)).take 4).foldl (fun l k => setIns k l) []

/-- A port retrains at half width in one direction, on the four lanes with the lowest counts (R426). -/
def State.narrow (s : State) (i dir : Nat) (f : Nat → Nat) : State :=
  let map := s.laneMap i dir
  let four := (fourLowest f map.length).map fun k => map.getD k 0
  let q := s.nvm.repair
  let t := s.portDown i 4 true
  State.raise
    { t.setPort i { t.port i with st := .training } with
      nvm := { t.nvm with repair := { q with
        tvlHalf := Tab.put [] q.tvlHalf (i * 2 + dir) four
        tvlLane := Tab.put none q.tvlLane (i * 2 + dir) (four.findIdx? (· == 8)) } }
      errs := { t.errs with repairPending := true } }
    (corrErr Code.tvlDegraded 6 i)

/-- LANE_WINDOW_END: a lane's window ends with its count, that of the codewords without a number added; over the threshold the
receiver asks for a swap, or with the spare in use the port narrows (R425, R426; log 68). -/
def execLaneWindowEnd (port lane count : Nat) (s : State) : Res :=
  let p := s.port port
  let n := Tab.get 0 p.lanes lane + count
  let q : Port := { p with lanes := Tab.put 0 p.lanes lane 0, lanesPast := Tab.put 0 p.lanesPast lane n }
  if p.linkedUp = false then ok s
  else
    let t := (s.setPort port q).inc R.tvlCorrected port count
    if n ≤ s.rd R.tvlLaneThresh ∨ p.swapAt.isSome = true then ok t
    else if (Tab.get none s.nvm.repair.tvlLane (port * 2 + 1)).isSome then ok (t.narrow port 1 q.laneCount)
    else ok (t.sendSym port 0x0B [BitVec.ofNat 8 lane])

/-- LANE_SWAP_REQ: the sender answers with a switch SEQ 16 above its current one, from which the lane's symbols go on the spare; with
the spare in use the port narrows, without the lane that fails (R425, R426; log 68). -/
def execLaneSwapReq (port : Nat) (lane : Byte) (s : State) : Res :=
  let p := s.port port
  let at' := p.txSeq - 1 + 16
  if p.linkedUp = false ∨ p.txSwap.isSome = true then ok s
  else if (Tab.get none s.nvm.repair.tvlLane (port * 2)).isSome then
    ok (s.narrow port 0 fun k => if k = lane.toNat % 8 then 1 else 0)
  else
    ok ((s.setPort port { p with txSwap := some (at', lane.toNat % 8) }).raise (corrErr Code.tvlLaneSpared 6 port)
      |>.sendSym port 0x0C [lane, at'])

/-- LANE_SWAP: the receiver reads the lane on physical lane 8 from the switch SEQ on (R425). -/
def execLaneSwap (port : Nat) (lane seq : Byte) (s : State) : Res :=
  let p := s.port port
  onlyIf (p.linkedUp && (Tab.get none s.nvm.repair.tvlLane (port * 2 + 1)).isNone) s
    (s.setPort port { p with swapAt := some (seq, lane.toNat % 8) })

/-- RESERVED_CONTROL_SYMBOL (R403). -/
def execReservedControlSymbol (port : Nat) (typ : Byte) (s : State) : Res :=
  onlyIf ((s.port port).linkedUp && decide (0x0F ≤ typ.toNat)) s (s.inc R.badCtrl)

/-! ### Training and loss (R404, R422, R427, R428) -/

/-- DOWN from the peer (R404, R427). -/
def execDown (port : Nat) (reason : Byte) (s : State) : Res :=
  onlyIf (s.port port).linkedUp s (s.portDown port reason.toNat false)

/-- LOSS_OF_CODEWORD_LOCK (R404, R427). -/
def execLossOfCodewordLock (port : Nat) (s : State) : Res :=
  onlyIf (s.port port).linkedUp s (s.portDown port 0xFF false)

/-- A port may train: it is enabled, on fused defaults until the image is applied (R422), and the device is neither DORMANT nor
SHUTTERED. -/
def State.mayTrain (s : State) (i : Nat) : Bool :=
  (s.rd R.portEn).testBit i && s.dev.st != .dormant && s.dev.st != .shuttered

/-- TRAINING_START (R422). -/
def execTrainingStart (s : State) : Res :=
  ok ((List.range 12).foldl (fun (t : State) i =>
    if s.mayTrain i && (s.port i).st == .down then t.setPort i { t.port i with st := .training } else t) s)

/-- A port's training is complete: it is LINKED, and READY follows in LOADING or later (R421 to R423). -/
def State.linkUp (s : State) (i : Nat) : State :=
  ((s.setPort i { ({} : Port) with st := .linked, delays := (s.port i).delays }).wr R.attempts 0 i).sendReady i

/-- TRAINING_COMPLETE (R422). -/
def execTrainingComplete (port : Nat) (s : State) : Res :=
  onlyIf ((s.port port).st == .training && s.mayTrain port) s (s.linkUp port)

/-- RETRAIN_ATTEMPT: every 1,000,000 tk a DOWN port tries again, three failed attempts at most (R428). -/
def execRetrainAttempt (port : Nat) (okt : Bool) (s : State) : Res :=
  let n := s.rd R.attempts port
  onlyIf ((s.port port).st == .down && s.mayTrain port && decide (n < 3)
      && s.passed (s.port port).downAt (1000000 * (n + 1))) s
    (if okt then s.linkUp port else s.wr R.attempts (n + 1) port)

/-- TVL_PORT_RETRAIN: the PF has a port go DOWN and train again (R404, R428, R612). -/
def execTvlPortRetrain (r : Nat) (s : State) : Res :=
  ok (s.own r 7 0x100 .pf fun i t =>
    if t.mayTrain i then
      let u := (t.portDown i 5 true).wr R.attempts 0 i
      u.setPort i { u.port i with st := .training }
    else t)

/-! ### Codewords (R398 to R403, R425) -/

/-- The state of an outcome that is a next state. -/
def nextOf (r : Res) (s : State) : State := match r with | .next t => t | _ => s

/-- A control symbol of an accepted codeword whose first bit passed the pins at a time (ps); the time of the answer to a DELAY_REQ
is free (R403, R419; log 1). -/
def State.takeSym (s : State) (i : Nat) (at' : Word64) (replayed : Bool) (b : List Byte) : State :=
  let u8 (k : Nat) : Byte := BitVec.ofNat 8 (fld b k 1)
  let u16 (k : Nat) : BitVec 16 := BitVec.ofNat 16 (fld b k 2)
  let u64 (k : Nat) : Word64 := BitVec.ofNat 64 (fld b k 8)
  match fld b 0 1 with
  | 0x00 => s
  | 0x01 => s.setPort i { s.port i with taking := some (BitVec.ofNat 512 (leNat b), []) }
  | 0x02 => match (s.port i).taking with
    | some (h, d) => State.tvlArrive (s.setPort i { s.port i with taking := none }) i h d (BitVec.ofNat 128 (fld b 16 16))
        (decide (fld b 1 1 % 2 = 1)) (BitVec.ofNat 32 (fld b 32 4))
    | none => s
  | 0x03 => nextOf (execCredit i (u16 2) (u16 4) (u16 6) s) s
  | 0x04 => nextOf (execLinkAck i (u8 1) s) s
  | 0x05 => nextOf (execLinkNak i (u8 1) s) s
  | 0x06 => nextOf (execReady i (u16 2) (u8 4) (u8 5) (u16 8) (u16 10) (u16 12) (u8 16) (BitVec.ofNat 128 (fld b 20 16)) s) s
  | 0x07 => s
  | 0x08 => nextOf (execTime i (u64 8) (u16 16) (BitVec.ofNat 32 (fld b 20 4)) replayed s) s
  | 0x09 => nextOf (execDelayReq i (u64 8) at' s.free64 s.tickFree) s
  | 0x0A => nextOf (execDelayRsp i (u64 8) (u64 16) (u64 24) at' s) s
  | 0x0B => nextOf (execLaneSwapReq i (u8 1) s) s
  | 0x0C => nextOf (execLaneSwap i (u8 1) (u8 2) s) s
  | 0x0D => nextOf (execKeyRoll i (u8 1) s) s
  | 0x0E => nextOf (execDown i (u8 1) s) s
  | _ => nextOf (execReservedControlSymbol i (u8 0) s) s

/-- A slot of an accepted codeword: a control symbol whose CRC is good, or data of the packet that is arriving (R399, R403,
R405). -/
def State.takeSlot (s : State) (i : Nat) (at' : Word64) (replayed : Bool) (sl : Slot) : State :=
  let p := s.port i
  if p.linkedUp = false then s
  else if sl.ctrl then (if sl.good then s.takeSym i at' replayed sl.bytes else s)
  else match p.taking with
    | some (h, d) => s.setPort i { p with taking := some (h, d ++ sl.bytes) }
    | none => s

/-- A numbered codeword is accepted: a lane swap takes effect at its switch SEQ (R425), every 32nd is acknowledged (R402), and its
slots are taken in order. -/
def State.acceptCw (s : State) (i : Nat) (at' : Word64) (replayed : Bool) (c : Cw) : State :=
  let p := s.port i
  let q : Port := { p with rxSeq := p.rxSeq + 1, nakSent := false, acked := (p.acked + 1) % 32 }
  let t := match p.swapAt with
    | some (x, lane) =>
      if x = c.seq then
        ((s.setPort i { q with swapAt := none }).switchLane i 1 lane).raise (corrErr Code.tvlLaneSpared 6 i)
      else s.setPort i q
    | none => s.setPort i q
  c.slots.foldl (fun u sl => u.takeSlot i at' replayed sl) (if p.acked + 1 = 32 then t.sendSym i 0x04 [c.seq] else t)

/-- Corrected symbols are counted by logical lane, and in TVL_STAT (R400, R425, R625). -/
def State.countFixed (s : State) (i : Nat) (errs : List Nat) : State :=
  let p := s.port i
  let w := (s.laneMap i 1).length
  State.inc (s.setPort i { p with
    lanes := errs.foldl (fun t e => Tab.put 0 t (e % w) (Tab.get 0 t (e % w) + 1)) p.lanes }) R.tvlCorrected i errs.length

/-- NUMBERED_CODEWORD (R398 to R403): a codeword arrives, given by its scrambled message, the 58 bits received before it and the
symbols in error. In order and correctable it is accepted, else it is discarded and one LINK_NAK names the SEQ expected; one with
NOSEQ is not numbered. -/
def execNumberedCodeword (port : Nat) (prev : BitVec 58) (msg : BitVec 5140) (errs : List Nat) (at' : Word64) (replayed : Bool)
    (s : State) : Res :=
  let p := s.port port
  let bad := (errs.filter (· < 544)).eraseDups
  let c := Cw.ofMessage (descrambled prev msg)
  if p.linkedUp = false then ok s
  else
    let t := if correctable bad then s.countFixed port bad else s
    if c.noseq then ok t
    else if correctable bad && c.seq == p.rxSeq then ok (t.acceptCw port at' replayed c)
    else if p.nakSent then ok t
    else ok ((t.setPort port { t.port port with nakSent := true }).sendSym port 0x05 [p.rxSeq])

end Sys2Proof.Machine
end

