-- ==== Sys2Proof/Machine/Boot.lean ====
section
/-! DEFINITION. Reset and boot: RST_N, fuses, self-tests, the boot bank, image verification and application, entry to LOADING
(R97, R222, R422, R468 to R490, R505, R520, R530, R531, R564, R571, R573). -/
namespace Sys2Proof.Machine
open Sys2Proof

/-! ### Reset (R468, R490, R547, R578, R599) -/

/-- A transfer of an image that a reset cuts off leaves the staging bank empty (R547). -/
def State.dropTransfer (s : State) : State :=
  if s.upd.mode = true ∧ s.upd.kind = 1 then s.setBank s.stagingBank [] else s

/-- The device goes to DORMANT: what survives is what NVM, flash, fuses and pins hold (R490). -/
def State.toDormant (s : State) (rstLow : Bool) : State :=
  let t := s.dropTransfer.installKeys
  { State.reset with
    pending := t.pending
    out := t.out
    freeCtr := t.freeCtr
    nvm := { t.nvm with repair := t.nvm.saved }
    flash := t.flash
    fuses := t.fuses
    dev := { State.reset.dev with perst := t.dev.perst, pcieUp := !t.dev.perst, tripHold := t.dev.tripHold, thermN := t.dev.thermN && t.dev.tripHold, rstLow := rstLow } }

/-- The device begins a reset: its ports send DOWN (R404). -/
def State.toReset (s : State) (rstLow : Bool) : State :=
  ((List.range 12).foldl (fun (u : State) i => u.sendDown i 7) s).toDormant rstLow

/-- RST_N_ASSERT: from any state (R468, R490). -/
def execRstNAssert (s : State) : Res := ok (s.toReset true)

/-- RST_N_RELEASE: with rails in range, and after a thermal trip only once THERM_N is released (R468, R598, R599). -/
def execRstNRelease (railsOk : Bool) (s : State) : Res :=
  let t : State := { s with dev := { s.dev with rstLow := false } }
  onlyIf (s.dev.rstLow && s.dev.st == .dormant) s
    (if railsOk && !(s.dev.tripHold && s.dev.thermN) then { t with dev := { t.dev with st := .waking, tripHold := false } } else t)

/-- The device resets itself, as if RST_N had been asserted and released (R490, R508, R545, R604, R605). -/
def State.selfReset (s : State) : State :=
  let t := s.toReset false
  { t with dev := { t.dev with st := .waking } }

/-! ### Fuses and self-tests (R468, R483, R505, R543, R618) -/

/-- Fuses are blown up to a security version (R523). -/
def State.blow (s : State) (sv : Nat) : State := { s with fuses := { s.fuses with sv := max s.fuses.sv sv } }

/-- FUSE_READ_COMPLETE (R468): a security version that waits is programmed now if VFUSE is in range (R543). -/
def execFuseReadComplete (vfuseOk : Bool) (s : State) : Res :=
  let t : State := State.gradeDefault { s with dev := { s.dev with st := .rooting }, boot := { s.boot with fusesRead := true } }
  let sv := s.bootRec.pendingSv
  onlyIf (s.dev.st == .waking) s
    (if vfuseOk && sv != 0 then (t.blow sv).writeRec fun r => { r with pendingSv := 0 } else t)

/-- SELF_TEST_COMPLETE (R483, R497, R504, R505): on success the keys that need no image are made. -/
def execSelfTestComplete (okt : Bool) (s : State) : Res :=
  let (key, t) := s.random256
  onlyIf (s.dev.st == .rooting && s.boot.selfTest == .notRun) s
    (if okt then
      { t with
        boot := { t.boot with selfTest := .passed }
        gate := { t.gate with
          keysLoaded := true
          cfKey := some key
          wrapKey := some (wrapKeyOf t.fuses.huk)
          devId := some (kdf t.fuses.huk "DEVID" [] 448) } }
     else { s with boot := { s.boot with selfTest := .failed } })

/-! ### The boot bank (R470 to R472, R531) -/

/-- TRIAL_BANK_SELECT (R531). -/
def State.chooseBank (s : State) : State :=
  let r := s.bootRec
  let use (k : Nat) (t : State) : State := { t with boot := { t.boot with bank := some k } }
  if r.trialBank = 0xFF then use r.primary s
  else if r.trialBoots = 0 then use r.trialBank (s.writeRec fun r => { r with trialBoots := 1 })
  else use r.primary ((s.writeRec fun r => { r with trialBank := 0xFF }).raise (corrErr Code.updateFallback 7 0 0 3))

/-- A bank fails verification: the other one is read, or the device will boot in recovery (R470, R471). -/
def State.bankFailed (s : State) (k : Nat) : State :=
  let b : Boot := { s.boot with failed := s.boot.failed ++ [k], headerOk := false }
  if s.boot.failed.contains (1 - k) then
    State.raise { s with boot := { b with invalid := true } } { cls := .device, event := Code.configInvalid, unit := 7 }
  else { s with boot := { b with bank := some (1 - k) } }

/-- The Gatehouse reads images: ROOTING, self-tests passed, no image applied, a bank left to try. -/
def State.reading (s : State) : Bool :=
  s.dev.st == .rooting && s.boot.selfTest == .passed && !s.boot.imageApplied && !s.boot.invalid

/-- The bank to read; bank A before one is chosen. -/
def State.bootBankOf (s : State) : Nat := s.boot.bank.getD 0

/-- IMAGE_HEADER_READ (R470 to R472, R531). -/
def execImageHeaderRead (s : State) : Res :=
  if s.reading = false ∨ s.boot.headerOk = true then ok s
  else
    let t := if s.boot.bank.isNone then s.chooseBank else s
    let k := t.bootBankOf
    ok (if t.headerGood (t.bank k) then { t with boot := { t.boot with headerOk := true } } else t.bankFailed k)

/-! ### Applying the image (R422, R479, R481, R494, R504, R512) -/

/-- The image and state format of the steward firmware that runs: the new ones once a steward has started it (R513, R536). -/
def State.stwImage (s : State) : List Byte × Nat :=
  if s.upd.oldImage.isEmpty || !s.stw.newFw.isEmpty then (s.boot.image, s.boot.format) else (s.upd.oldImage, s.upd.oldFormat)

/-- Measurement block i of 1 to 5 (R512). -/
def State.measure (s : State) (i : Nat) : BitVec 384 :=
  let b := s.boot.image
  match i with
  | 1 => s.fuses.romDigest
  | 2 => Config.sha384 (Img.body s.gate.fwImage 1)
  | 3 => Config.sha384 (Img.body s.stwImage.1 2 ++ leBytes 4 s.stwImage.2)
  | 4 => Config.sha384 (Img.body b 3)
  | _ => Config.sha384 (Img.body b 4 ++ Img.body b 5 ++ Img.body b 6 ++ Img.body b 7)

/-- The attestation key of the firmware that runs (R504); in the debug state it is another one (R510; free, log 1). -/
def State.makeAk (s : State) : State :=
  if s.gate.debug then
    let (k, t) := s.random256
    { t with gate := { t.gate with ak := some (bvBytes 32 k) } }
  else
    let d := Config.sha384 (((List.range 5).map fun i => digestBytes (s.measure (i + 1))).flatten)
    { s with gate := { s.gate with ak := some (kdf s.fuses.huk "ALIAS" (digestBytes d) 448) } }

/-- The receiver of a new source starts over; time goes on (R481). -/
def State.newSource (s : State) : State :=
  if s.rd R.sdlSrc = 0 then s
  else
    let sd := s.sdl
    { s with sdl := { sd with
      st := .search, refMoved := false, accNs := 0, accTk := 0, bad := 0, notGood := 0, ticks := [], pos := 0, everLocked := false, prevEpoch := none
      prevStepNext := false, mism := none, slew := 0, slewPhase := 0, slewOwed := false } }

/-- Ports that the image leaves out of PORT_EN go DOWN (R404, R422). -/
def State.portsOff (s : State) : State :=
  (List.range 12).foldl (fun (t : State) i => if (s.rd R.portEn).testBit i then t else t.portDown i 0 true) s

/-- IMAGE_APPLY (R479): the values, then the firmware. -/
def State.bootImage (s : State) (k : Nat) : State :=
  let b := s.bank k
  let r := s.bootRec
  let t := s.applyValues b
  let trial := r.trialBank == k
  let t : State := { t with
    boot := { t.boot with
      imageApplied := true
      bootBank := k
      trialBoot := trial
      format := if trial then r.trialFormat else r.primaryFormat }
    gate := { t.gate with serving := true, fwImage := b.take (Img.size b) } }
  let t := if s.boot.failed.isEmpty then t else t.raise (corrErr Code.configFallback 7 0)
  t.newSource.portsOff.makeAk

/-- IMAGE_VERIFY (R470 to R472, R476, R479): above 24 MiB the second read must hash as the first. -/
def execImageVerify (reread : Bool) (s : State) : Res :=
  let k := s.bootBankOf
  if s.reading = false ∨ s.boot.headerOk = false then ok s
  else if s.imageGood (s.bank k) && (Img.size (s.bank k) ≤ 25165824 || reread) then ok (s.bootImage k)
  else ok (s.bankFailed k)

/-! ### Entry to LOADING (R97, R222, R423, R468, R471, R488, R489, R520, R541, R564, R571, R573) -/

/-- The sites of a region that serve no logical plot. -/
def State.idleSites (s : State) (region : Nat) : List Nat :=
  ((List.range 65).map (siteAt region)).filter fun x => !(List.range 64).any fun k => s.siteOf (plotAt region k) == x

/-- A region's spare serves no longer as one. -/
def State.loseSpare (s : State) (region : Nat) : State :=
  { s with nvm := { s.nvm with repair := { s.nvm.repair with spareGone := setIns region s.nvm.repair.spareGone } }
           errs := { s.errs with repairPending := true } }

/-- The region of a site (R92). -/
def regionOf (site : Nat) : Nat := site / 52 / 5 * 4 + site % 52 / 13

/-- A logical plot moves to its region's spare site (R96). -/
def State.moveToSpare (s : State) (p : Nat) : State :=
  let g := terrOf p
  let t := s.loseSpare g
  { t with nvm := { t.nvm with repair := { t.nvm.repair with
      site := Tab.put 0 t.nvm.repair.site p ((s.idleSites g).headD 0 + 1)
      retired := t.nvm.repair.retired + 1 } } }

/-- A site fails boot BIST (R131, R564): its plot moves, or its terrace is withdrawn, or the spare is lost. -/
def State.bistSite (s : State) (site : Nat) : State :=
  let g := regionOf site
  match (List.range 64).find? fun k => s.siteOf (plotAt g k) == site with
  | some k =>
    let p := plotAt g k
    if s.hasSpare g then
      (s.moveToSpare p).raise { cls := .corrected, event := Code.plotRetired, pav := s.plotPav p, unit := 1, inst := p }
    else if (s.terr g).withdrawn then s
    else (s.raise { cls := .pavilion, event := Code.plotNoSpare, pav := s.plotPav p, unit := 1, inst := p }).withdrawTerr g
  | none => if s.hasSpare g then s.loseSpare g else s

/-- Boot training finds a lane of a pseudo-channel failing: a spare is used, or the stack is lost (R571). -/
def State.trainLane (s : State) (chan : Nat) : State :=
  let n := Tab.get 0 s.nvm.repair.hbm chan
  if n < 2 then
    { s with nvm := { s.nvm with repair := { s.nvm.repair with hbm := Tab.put 0 s.nvm.repair.hbm chan (n + 1) } }
             errs := { s.errs with repairPending := true } }
  else if s.cfm.lostStacks.contains (chan / 32) then s
  else State.raise { s with cfm := { s.cfm with lostStacks := setIns (chan / 32) s.cfm.lostStacks } }
    { cls := .device, event := Code.hbmStackLost, unit := 4, inst := chan }

/-- COLD_FRAME_ENUMERATION (R222, R223, R573): raw capacities, and ports whose enumeration fails. -/
def State.enumerate (s : State) (raw0 raw1 : Nat) (fail0 fail1 : Bool) : State :=
  let up0 := raw0 != 0 && !fail0
  let up1 := raw1 != 0 && !fail1
  let inter := up0 && up1 && raw0 == raw1
  let t : State := { s with cfm := { s.cfm with
    port0 := if up0 then { linked := true, raw := raw0 } else {}
    port1 := if up1 then { linked := true, raw := raw1 } else {}
    order := (if up0 then [0] else []) ++ (if up1 then [1] else []) } }
  let t := t.wr R.cfmCapacity (usable ((if up0 then raw0 else 0) + (if up1 then raw1 else 0)))
  let t := ((t.wr R.cfmInterleave (b2n inter)).wr R.cfmLink0 (b2n up0)).wr R.cfmLink1 (b2n up1)
  let t := if fail0 then t.raise (corrErr Code.cfmEnumFail 5 0) else t
  if fail1 then t.raise (corrErr Code.cfmEnumFail 5 1) else t

/-- The nonce under which the FMK is wrapped (log 46). -/
def wrapNonce (n : Nat) : BitVec 96 := BitVec.ofNat 96 n

/-- The wrapped FMK is opened, or discarded when it fails authentication (R497, R520). -/
def State.openFmk (s : State) : State :=
  match s.nvm.fmkWrapped, s.gate.wrapKey with
  | some (ct, tag), some key =>
    if Config.gcmTag key (wrapNonce s.nvm.fmkNonce) [] ct = tag then
      { s with gate := { s.gate with fmk := some (Config.gcmSeal key (wrapNonce s.nvm.fmkNonce) ct) } }
    else State.raise { s with nvm := { s.nvm with fmkWrapped := none } } (corrErr Code.fabricKeyInvalid 7 0)
  | _, _ => s

/-- EARLY_ERROR_WRITE: errors held since WAKING enter the records, oldest first (R489). -/
def State.flushEarly (s : State) : State :=
  s.boot.early.foldl (fun (t : State) e => t.enter e true) { s with boot := { s.boot with early := [] } }

/-- The trial of a reset activation begins with LOADING (R534, R541). -/
def State.startTrial (s : State) : State :=
  if s.boot.trialBoot then
    { s with upd := { s.upd with trial := true, windowEnd := some (s.time + s.rd R.confirmWindow) } }
  else s

/-- Defined pavilions change from CLOSED to LOADING; one without a serviceable terrace does not stay there (R274, R281). -/
def State.loadPavs (s : State) : State :=
  (List.range 8).foldl (fun (t : State) p => if t.defined p then (t.goPav p .loading).noTerrace p else t) s

/-- ENTER_LOADING. bistFail lists the sites that fail BIST, hbmNeed the pseudo-channels that need one more spare lane each. -/
def execEnterLoading (bistFail hbmNeed : List Nat) (raw0 raw1 : Nat) (fail0 fail1 : Bool) (s : State) : Res :=
  if s.dev.st ≠ .rooting ∨ (s.boot.imageApplied = false ∧ s.boot.invalid = false) then ok s
  else
    let t := hbmNeed.foldl State.trainLane s
    let t := bistFail.foldl State.bistSite t
    let t := (t.enumerate raw0 raw1 fail0 fail1).openFmk
    let t : State := { t with dev := { t.dev with recovery := t.boot.invalid, fabricReady := true } }
    let t := (t.goDev .loading).flushEarly
    if t.dev.st = .loading then ok ((List.range 12).foldl State.sendReady t.startTrial.loadPavs) else ok t

end Sys2Proof.Machine
end

