-- ==== Sys2Proof/Machine/Gatehouse.lean ====
section
/-! DEFINITION. The Gatehouse on the service port: I3C and MCTP control, SPDM, PLDM Types 0 and 2, the Crypto Officer's services,
self-tests on demand and entropy failures (R484, R491 to R521). -/
namespace Sys2Proof.Machine
open Sys2Proof

/-! ### Replies -/

/-- A reply with a body the manual gives. -/
def State.answer (s : State) (c : Instr) (body : List Byte) : State := s.emit (.reply c .done body)

/-- A reply whose body the manual leaves to the protocol's standard (log 8). -/
def State.answerFree (s : State) (c : Instr) : State := (s.answer c (Config.replyBody s.freeCtr)).tickFree

/-- A reply that is an error. -/
def State.answerErr (s : State) (c : Instr) (a : Answer) : State := s.emit (.reply c a [])

/-- An MCTP control request: no response before 40 ms (R484, R515). -/
def State.mctp (s : State) (act : State) : Res := onlyIf s.dev.svcReady s act

/-- An SPDM request: Busy before 600 ms and in recovery, Unspecified in the error state (R484, R517, R519). -/
def State.spdm (s : State) (c : Instr) (act : State) : Res :=
  if s.dev.svcReady = false then ok s
  else if s.dev.pldmReady = false ∨ s.dev.recovery = true then ok (s.answerErr c .busy)
  else if s.gate.errorState then ok (s.answerErr c .unspecified)
  else ok act

/-- A PLDM Type 0 or 2 request: ERROR_NOT_READY before 600 ms and in recovery (R484, R517). -/
def State.pldm (s : State) (c : Instr) (act : State) : Res :=
  if s.dev.svcReady = false then ok s
  else if s.dev.pldmReady = false ∨ s.dev.recovery = true then ok (s.answerErr c .notReady)
  else ok act

/-! ### I3C and MCTP control (R514, R515) -/

/-- ENTDAA. -/
def execEntdaa (addr : Byte) (s : State) : Res :=
  onlyIf (s.dev.st != .dormant) s { s with gate := { s.gate with dynAddr := some addr } }

/-- SET_ENDPOINT_ID. -/
def execSetEndpointId (eid : Byte) (s : State) : Res :=
  s.mctp (State.answerFree { s with gate := { s.gate with eid := eid } } (.setEndpointId eid))

/-- GET_ENDPOINT_ID. -/
def execGetEndpointId (s : State) : Res := s.mctp (s.answer .getEndpointId [s.gate.eid])

/-- GET_ENDPOINT_UUID. -/
def execGetEndpointUuid (s : State) : Res := s.mctp (s.answerFree .getEndpointUuid)

/-- GET_MCTP_VERSION_SUPPORT. -/
def execGetMctpVersionSupport (s : State) : Res := s.mctp (s.answerFree .getMctpVersionSupport)

/-- GET_MESSAGE_TYPE_SUPPORT. -/
def execGetMessageTypeSupport (s : State) : Res := s.mctp (s.answer .getMessageTypeSupport [0x00, 0x01, 0x05, 0x06])

/-! ### PLDM Types 0 and 2 (R516) -/

/-- GET_TID. -/
def execGetTid (s : State) : Res := s.pldm .getTid (s.answerFree .getTid)

/-- GET_PLDM_VERSION. -/
def execGetPldmVersion (s : State) : Res := s.pldm .getPldmVersion (s.answerFree .getPldmVersion)

/-- GET_PLDM_TYPES: Types 0, 2 and 5. -/
def execGetPldmTypes (s : State) : Res := s.pldm .getPldmTypes (s.answer .getPldmTypes [0, 2, 5])

/-- GET_PLDM_COMMANDS of a supported type. -/
def execGetPldmCommands (typ : Nat) (s : State) : Res :=
  s.pldm (.getPldmCommands typ)
    (if typ = 0 ∨ typ = 2 ∨ typ = 5 then s.answerFree (.getPldmCommands typ) else s.answerErr (.getPldmCommands typ) .refused)

/-- GET_PDR_REPOSITORY_INFO. -/
def execGetPdrRepositoryInfo (s : State) : Res := s.pldm .getPdrRepositoryInfo (s.answerFree .getPdrRepositoryInfo)

/-- GET_PDR. -/
def execGetPdr (handle : Word32) (s : State) : Res := s.pldm (.getPdr handle) (s.answerFree (.getPdr handle))

/-- GET_SENSOR_READING: the value is what the sensor measures (log 4). -/
def execGetSensorReading (sensor : Nat) (value : Word32) (s : State) : Res :=
  s.pldm (.getSensorReading sensor value) (s.answer (.getSensorReading sensor value) (bvBytes 4 value))

/-- What a state sensor reads: sensor 0 the device state, 1 to 8 the pavilions, 9 the Sundial (log 47). -/
def State.stateSensor (s : State) (sensor : Nat) : Option Nat :=
  if sensor = 0 then some s.dev.st.num
  else if sensor ≤ 8 then some (s.pav (sensor - 1)).st.num
  else if sensor = 9 then some s.sdl.st.num
  else none

/-- GET_STATE_SENSOR_READINGS. -/
def execGetStateSensorReadings (sensor : Nat) (s : State) : Res :=
  let c : Instr := .getStateSensorReadings sensor
  s.pldm c (match s.stateSensor sensor with | some v => s.answer c (leBytes 1 v) | none => s.answerErr c .refused)

/-! ### Attestation (R511 to R513) -/

/-- Block 8: generation and manifest digest of every pavilion and model; zeros where there is none. -/
def State.weightBlock (s : State) : List Byte :=
  (List.range 128).flatMap fun k =>
    let m := (s.wgt k).manifest
    leBytes 4 (s.gen (k / 16) (k % 16)) ++ (if m.isEmpty then leBytes 48 0 else digestBytes (Config.sha384 m))

/-- A measurement block (R512). -/
def State.measureBlock (s : State) (i : Nat) : List Byte :=
  if i ≤ 5 then digestBytes (s.measure i)
  else if i = 6 then s.boot.image.take 24 ++ leBytes 1 s.boot.bootBank
  else if i = 7 then leBytes 4 s.fuses.sv
  else if i = 8 then s.weightBlock
  else leBytes 1 s.dev.st.num ++ leBytes 1 (b2n (s.dev.st == .tending)) ++ leBytes 1 (b2n s.gate.debug)
    ++ leBytes 1 (b2n s.dev.recovery)

/-- GET_VERSION: SPDM 1.3. -/
def execGetVersion (s : State) : Res := s.spdm .getVersion (s.answerFree .getVersion)

/-- GET_CAPABILITIES: DataTransferSize and MaxSPDMmsgSize are 4,096. -/
def execGetCapabilities (s : State) : Res := s.spdm .getCapabilities (s.answerFree .getCapabilities)

/-- NEGOTIATE_ALGORITHMS. -/
def execNegotiateAlgorithms (s : State) : Res := s.spdm .negotiateAlgorithms (s.answerFree .negotiateAlgorithms)

/-- GET_DIGESTS. -/
def execGetDigests (s : State) : Res := s.spdm .getDigests (s.answerFree .getDigests)

/-- GET_CERTIFICATE: slot 0 alone is populated (R512). -/
def execGetCertificate (slot : Nat) (s : State) : Res :=
  s.spdm (.getCertificate slot)
    (if slot = 0 then s.answerFree (.getCertificate slot) else s.answerErr (.getCertificate slot) .refused)

/-- CHALLENGE. -/
def execChallenge (nonce : List Byte) (s : State) : Res := s.spdm (.challenge nonce) (s.answerFree (.challenge nonce))

/-- GET_MEASUREMENTS: one snapshot of the block, of all (0xFF), or of their number (0) (R512, R513). -/
def execGetMeasurements (block : Nat) (s : State) : Res :=
  let c : Instr := .getMeasurements block
  s.spdm c
    (if block = 0 then s.answer c [9]
     else if block ≤ 9 then s.answer c (s.measureBlock block)
     else if block = 0xFF then s.answer c ((List.range 9).flatMap fun i => s.measureBlock (i + 1))
     else s.answerErr c .refused)

/-- SPDM_UNSUPPORTED_REQUEST. -/
def execSpdmUnsupportedRequest (code : Byte) (s : State) : Res :=
  s.spdm (.spdmUnsupportedRequest code) (s.answerErr (.spdmUnsupportedRequest code) .unsupportedRequest)

/-! ### Sessions (R494, R511) -/

/-- A root digest is one of GATE_OPROOT; an entry of zeros matches none (R494, R631). -/
def State.isOfficerRoot (s : State) (digest : List Byte) : Bool :=
  digest.length == 48 && digest.any (· != 0)
    && (List.range 12).any fun n => ((List.range 12).flatMap fun w => leBytes 4 (s.rd R.opRoot 0 (n * 12 + w))) == digest

/-- A session ends and its keys are destroyed (R497). -/
def Gate.endSession (g : Gate) (sid : Nat) : Gate :=
  { g with sessions := setDel sid g.sessions, established := setDel sid g.established, officers := setDel sid g.officers }

/-- KEY_EXCHANGE: at most two sessions at once. -/
def execKeyExchange (sid : Nat) (s : State) : Res :=
  let c : Instr := .keyExchange sid
  s.spdm c
    (if s.gate.sessions.length < 2 ∧ s.gate.sessions.contains sid = false then
      State.answerFree { s with gate := { s.gate with sessions := setIns sid s.gate.sessions } } c
     else s.answerErr c .refused)

/-- FINISH: the digest is that of the requester's root where it authenticates itself (R494). -/
def execFinish (sid : Nat) (rootDigest : List Byte) (s : State) : Res :=
  let c : Instr := .finish sid rootDigest
  s.spdm c
    (if s.gate.sessions.contains sid = true ∧ s.gate.established.contains sid = false then
      State.answerFree { s with gate := { s.gate with
        established := setIns sid s.gate.established
        officers := if s.isOfficerRoot rootDigest then setIns sid s.gate.officers else s.gate.officers } } c
     else s.answerErr c .refused)

/-- A request inside an established session. -/
def State.inSession (s : State) (c : Instr) (sid : Nat) (act : State) : Res :=
  s.spdm c (if s.gate.established.contains sid then act else s.answerErr c .refused)

/-- HEARTBEAT. -/
def execHeartbeat (sid : Nat) (s : State) : Res := s.inSession (.heartbeat sid) sid (s.answerFree (.heartbeat sid))

/-- KEY_UPDATE. -/
def execKeyUpdate (sid : Nat) (s : State) : Res := s.inSession (.keyUpdate sid) sid (s.answerFree (.keyUpdate sid))

/-- END_SESSION. -/
def execEndSession (sid : Nat) (s : State) : Res :=
  s.inSession (.endSession sid) sid (State.answerFree { s with gate := s.gate.endSession sid } (.endSession sid))

/-! ### The Crypto Officer's services (R495, R499, R508, R510, R521) -/

/-- A Crypto Officer's request: outside such a session it has no effect (R495). -/
def State.officer (s : State) (c : Instr) (sid : Nat) (act : State) : Res :=
  s.spdm c (if s.gate.officers.contains sid then act else s.answerErr c .unexpectedRequest)

/-- A new FMK is wrapped under a fresh nonce and stored; LINKED ports without a key may now be READY (R497, R499, R509; log 46). -/
def State.storeFmk (s : State) (wrap : BitVec 256) (key : List Byte) : State :=
  let n := s.nvm.fmkNonce + 1
  let ct := Config.gcmSeal wrap (wrapNonce n) key
  let t : State := { s with
    nvm := { s.nvm with fmkNonce := n, fmkWrapped := some (ct, Config.gcmTag wrap (wrapNonce n) [] ct) }
    gate := { s.gate with fmk := some key } }
  (List.range 12).foldl State.sendReady t

/-- SET_FABRIC_MASTER_KEY: 256 bits (R497). SHUTTERED writes no NVM (R561). -/
def execSetFabricMasterKey (sid : Nat) (key : List Byte) (s : State) : Res :=
  let c : Instr := .setFabricMasterKey sid key
  s.officer c sid
    (match s.gate.wrapKey with
     | some w => if key.length = 32 ∧ s.dev.st ≠ .shuttered then (s.answerFree c).storeFmk w key else s.answerErr c .refused
     | none => s.answerErr c .refused)

/-- A record is written at the head of the persistent log's ring of 65,536 (R559). -/
def State.plogPut (s : State) (r : BitVec 256) : State :=
  { s with nvm := { s.nvm with
    plog := Tab.put 0 s.nvm.plog s.nvm.plogHead r, plogHead := (s.nvm.plogHead + 1) % 65536 } }

/-- The record of GATE_ZEROISED, whose code the manual does not give: its event number is free (R508; log 48). -/
def State.zeroisedRecord (s : State) : BitVec 256 :=
  Err.record { cls := .corrected, event := (s.free64.toNat % 2 ^ 16), unit := 7 } .corrected false false false s.time s.errs.seq

/-- An update in progress is aborted: no trial, the staging bank empty (R521, R547). -/
def State.abortUpdate (s : State) : State :=
  if s.upd.mode || s.upd.scheduled || s.upd.trial || s.bootRec.trialBank != 0xFF then
    (s.setBank s.stagingBank []).writeRec fun r => { r with trialBank := 0xFF }
  else s

/-- Zeroisation (R508, R521, R547): what it destroys, its log entry, and the reset. -/
def State.zeroise (s : State) : State :=
  let t := (s.allPortsDown 6 true).abortUpdate
  let t : State := { t with nvm := { t.nvm with fmkWrapped := none } }
  ((t.plogPut t.zeroisedRecord).tickFree).selfReset

/-- ZEROISE. -/
def execZeroise (sid : Nat) (s : State) : Res :=
  s.officer (.zeroise sid) sid (s.answerFree (.zeroise sid)).zeroise

/-- DEBUG_UNLOCK: it zeroises, then the device resets into the debug state (R510). -/
def execDebugUnlock (sid : Nat) (s : State) : Res :=
  let t := (s.answerFree (.debugUnlock sid)).zeroise
  s.officer (.debugUnlock sid) sid { t with gate := { t.gate with debug := true } }

/-! ### Self-tests and entropy (R506, R518, R519) -/

/-- The error state (R519). -/
def State.gateFails (s : State) : State :=
  State.allPortsDown
    (State.raise { s with gate := { s.gate with errorState := true } } { cls := .device, event := Code.gateSelftestFail, unit := 7 }) 6 true

/-- SELF_TEST_ON_DEMAND. -/
def execSelfTestOnDemand (okt : Bool) (s : State) : Res :=
  let c : Instr := .selfTestOnDemand okt
  s.spdm c (if okt then s.answerFree c else (s.answerFree c).gateFails)

/-- ENTROPY_HEALTH_FAIL: the source restarts once. -/
def execEntropyHealthFail (restartOk : Bool) (s : State) : Res :=
  onlyIf (s.gate.keysLoaded && !s.gate.errorState) s
    (if restartOk then s.raise (corrErr Code.entropyRestart 7 0) else s.gateFails)

end Sys2Proof.Machine
end

