-- ==== Sys2Proof/Machine/Update.lean ====
section
/-! DEFINITION. Replacing firmware and configuration in service: PLDM Type 5, the handover, confirmation and fallback
(R496, R522 to R549). -/
namespace Sys2Proof.Machine
open Sys2Proof

/-! ### PLDM Type 5 (R484, R516, R524, R562) -/

/-- A request of the update agent, with the tick kept (R527): NOT_READY before 600 ms; SHUTTERED refuses it (R562). -/
def State.pldm5 (s : State) (c : Instr) (act : State → State) : Res :=
  if s.dev.svcReady = false then ok s
  else if s.dev.pldmReady = false then ok (s.answerErr c .notReady)
  else if s.dev.st = .shuttered then ok (s.answerErr c .refused)
  else ok (act { s with upd := { s.upd with lastMsg := s.time } })

/-- A message of the device's own. -/
def State.send5 (s : State) (m : Sent) : State := s.emit (.pldmSend m)

/-- QUERY_DEVICE_IDENTIFIERS. -/
def execQueryDeviceIdentifiers (s : State) : Res :=
  s.pldm5 .queryDeviceIdentifiers fun t => t.answerFree .queryDeviceIdentifiers

/-- GET_FIRMWARE_PARAMETERS. -/
def execGetFirmwareParameters (s : State) : Res :=
  s.pldm5 .getFirmwareParameters fun t => t.answerFree .getFirmwareParameters

/-- GET_STATUS. -/
def execGetStatus (s : State) : Res := s.pldm5 .getStatus fun t => t.answerFree .getStatus

/-- PLDM_UNSUPPORTED_COMMAND. -/
def execPldmUnsupportedCommand (cmd : Byte) (s : State) : Res :=
  s.pldm5 (.pldmUnsupportedCommand cmd) fun t => t.answerErr (.pldmUnsupportedCommand cmd) .unsupportedPldmCmd

/-- REQUEST_UPDATE (R547, R562); an activation that waits counts as update mode (log 49). -/
def execRequestUpdate (s : State) : Res :=
  if s.dev.pldmReady = true ∧ s.dev.svcReady = true ∧ s.dev.st = .shuttered then ok (s.answerErr .requestUpdate .retryRequestUpdate)
  else
    s.pldm5 .requestUpdate fun t =>
      if t.upd.mode || t.upd.scheduled || t.upd.trial then t.answerErr .requestUpdate .retryRequestUpdate
      else State.answerFree { t with upd := { ({} : Upd) with mode := true, lastMsg := t.time } } .requestUpdate

/-- A request that only update mode takes. -/
def State.inUpdate (s : State) (c : Instr) (okc : State → Bool) (act : State → State) : Res :=
  s.pldm5 c fun t => if t.upd.mode && okc t then act t else t.answerErr c .refused

/-- PASS_COMPONENT_TABLE. -/
def execPassComponentTable (s : State) : Res :=
  s.inUpdate .passComponentTable (fun _ => true) fun t => t.answerFree .passComponentTable

/-- The transfer state without a component. -/
def Upd.noComponent (u : Upd) : Upd :=
  { u with
    kind := 0, manifest := [], block := 0, chunk := [], tries := 0, record := [], transferred := false, verified := false }

/-- UPDATE_COMPONENT: at most one component of each KIND (R524); the device asks for the manifest first (R525). -/
def execUpdateComponent (kind : Nat) (s : State) : Res :=
  let c : Instr := .updateComponent kind
  s.inUpdate c (fun t => t.upd.kind == 0 && (kind == 1 || kind == 2) && !t.upd.applied.contains kind) fun t =>
    State.send5 (State.answerFree { t with upd := { t.upd.noComponent with kind := kind } } c) (.requestData 0 4096)

/-- CANCEL_UPDATE_COMPONENT. -/
def execCancelUpdateComponent (s : State) : Res :=
  s.inUpdate .cancelUpdateComponent (fun t => t.upd.kind != 0) fun t =>
    State.answerFree { t with upd := t.upd.noComponent } .cancelUpdateComponent

/-! ### The transfer (R522, R525, R526, R548) -/

namespace UMan
def payloadSize (b : List Byte) : Nat := fld b 8 4
def blocks (b : List Byte) : Nat := fld b 12 4
def sv (b : List Byte) : Nat := fld b 16 4
def format (b : List Byte) : Nat := fld b 20 4
def minFormat (b : List Byte) : Nat := fld b 24 4
def downFormat (b : List Byte) : Nat := fld b 28 4
def digest (b : List Byte) : BitVec 384 := digestOf b 32
def pubkey (b : List Byte) : List Byte := sub b 80 96
def crc (b : List Byte) (i : Nat) : Nat := fld b (256 + 4 * i) 4
end UMan

/-- The fields of an update manifest for a component of a KIND (R522). -/
def updFieldsGood (b : List Byte) (kind : Nat) : Bool :=
  let n := UMan.payloadSize b
  b.length == 4096 && fld b 0 4 == 0x50554349 && fld b 4 2 == 1 && fld b 6 1 == kind && fld b 7 1 < 4
    && (if kind = 1 then n % 65536 == 0 && decide (1 ≤ n) && decide (n ≤ 29360128) else n == 256 && UMan.sv b == 0)
    && UMan.blocks b == cdiv n 65536 && zeros b 176 80 && zeros b 2048 1952
    && zeros b (256 + 4 * UMan.blocks b) (1792 - 4 * UMan.blocks b)

/-- An update manifest is authentic; the Gatehouse in its error state verifies none (R519, R522). -/
def State.updSigned (s : State) (b : List Byte) : Bool :=
  !s.gate.errorState && Config.sha384 (UMan.pubkey b) == Tab.get 0 s.fuses.keyDigest (fld b 7 1)
    && Config.ecdsaVerify (UMan.pubkey b) (Config.sha384 (b.take 4000)) (sub b 4000 96)

/-- The component fails: the device tells so, and no component is in transfer. -/
def State.failComponent (s : State) (m : Sent) : State :=
  State.send5 { s with upd := s.upd.noComponent } m

/-- Bytes of the block in transfer. -/
def Upd.blockLen (u : Upd) : Nat := min 65536 (UMan.payloadSize u.manifest - 65536 * u.block)

/-- Bytes the device asks for next: an offset of the component and a length of at most 4,096 (R516, R525, R526). -/
def Upd.nextData (u : Upd) : Nat × Nat :=
  if u.manifest.isEmpty then (0, 4096)
  else (4096 + 65536 * u.block + u.chunk.length, min 4096 (u.blockLen - u.chunk.length))

/-- The device asks for what comes next. -/
def State.askData (s : State) : State := s.send5 (.requestData s.upd.nextData.1 s.upd.nextData.2)

/-- The manifest has arrived (R525). A KIND 2 manifest, whose SECURITY_VERSION is 0, is not compared (log 50). -/
def State.takeManifest (s : State) (b : List Byte) : State :=
  if updFieldsGood b s.upd.kind = false ∨ s.updSigned b = false then s.failComponent .imageCorrupt
  else if s.upd.kind = 1 ∧ UMan.sv b < s.fuses.sv then s.failComponent .versionMismatch
  else State.askData { s with upd := { s.upd with manifest := b } }

/-- A block is programmed at its place of the staging bank (R526). -/
def State.programBlock (s : State) (b : List Byte) : State :=
  let off := 65536 * s.upd.block
  let old := s.bank s.stagingBank
  let head := old.take off ++ List.replicate (off - old.length) 0xFF
  s.setBank s.stagingBank (head ++ b ++ old.drop (off + b.length))

/-- A whole block has arrived (R526, R528, R548). -/
def State.takeBlock (s : State) (b : List Byte) (progOk : Bool) : State :=
  let u := s.upd
  if (Config.crc32c b).toNat ≠ UMan.crc u.manifest u.block then
    if u.tries < 3 then State.askData { s with upd := { u with chunk := [], tries := u.tries + 1 } }
    else s.failComponent .imageCorrupt
  else if u.kind = 1 ∧ progOk = false then
    ((s.setBank s.stagingBank []).raise (corrErr Code.configNvmWriteFail 7 0)).failComponent .imageCorrupt
  else
    let t := if u.kind = 1 then s.programBlock b else { s with upd := { u with record := b } }
    let v : State := { t with upd := { t.upd with block := u.block + 1, chunk := [], tries := 0 } }
    if u.block + 1 < UMan.blocks u.manifest then v.askData
    else State.send5 { v with upd := { v.upd with transferred := true } } .transferOk

/-- REQUEST_FIRMWARE_DATA: the response to the outstanding request; one of another length is no answer to it (log 51). -/
def execRequestFirmwareData (data : List Byte) (progOk : Bool) (s : State) : Res :=
  if s.upd.mode = false ∨ s.upd.kind = 0 ∨ s.upd.transferred = true ∨ s.dev.st = .shuttered
      ∨ data.length ≠ s.upd.nextData.2 then ok s
  else
    let t : State := { s with upd := { s.upd with lastMsg := s.time } }
    let b := t.upd.chunk ++ data
    if t.upd.manifest.isEmpty then ok (t.takeManifest data)
    else if b.length < t.upd.blockLen then ok (State.askData { t with upd := { t.upd with chunk := b } })
    else ok (t.takeBlock b progOk)

/-! ### Verification and application (R496, R528, R529, R532, R533, R547) -/

/-- A register-file key of a reset-class item (R533). -/
def resetClassKey (k : Nat) : Bool :=
  let lo := k / 2048 % 64
  let off := k / 131072 % 65536
  match k / 131072 / 65536 with
  | 1 => off < 8
  | 2 => off == 0x100 || (0x180 ≤ off && off < 0x184) || (0x1a0 ≤ off && off < 0x1e0)
  | 7 => (0x1000 ≤ off && off < 0x101c) || (0x1100 ≤ off && off < 0x1240)
  | 9 => off == 0x10
  | 10 => off == 0x1008
  | 11 => (0x100 ≤ off && off < 0x1c0) || (off == 0x1000 && (lo == 0 || lo == 1 || lo == 4))
  | _ => false

/-- An image differs from the running one in no reset-class item (R533). -/
def State.hitlessClass (s : State) (b : List Byte) : Bool :=
  let t := State.applyValues { s with regs := [] } b
  let cut (r : Tab Nat) : Tab Nat := r.filter fun e => resetClassKey e.1
  cut t.regs == cut s.regs && Img.body b 5 == Img.body s.boot.image 5

/-- The staged image meets R529. In recovery no firmware runs whose format could be compared (log 52). -/
def State.stagedGood (s : State) : Bool :=
  let m := s.upd.manifest
  let b := s.bank s.stagingBank
  !s.gate.errorState && Config.sha384 (b.take (UMan.payloadSize m)) == UMan.digest m && s.imageGood b
    && Img.size b == UMan.payloadSize m && Img.sv b == UMan.sv m
    && (s.dev.recovery || (decide (UMan.minFormat m ≤ s.boot.format)
          && (s.boot.format == UMan.format m || s.boot.format == UMan.downFormat m)))

/-- A weight-signing key record verifies under the active image's PUBKEY (R496). -/
def State.keyRecordGood (s : State) (r : List Byte) : Bool :=
  !s.gate.errorState && !s.boot.image.isEmpty && fld r 0 1 < 8 && zeros r 1 31 && zeros r 128 32
    && Config.sha384 r == UMan.digest s.upd.manifest
    && Config.ecdsaVerify (Img.pubkey s.boot.image) (Config.sha384 (r.take 160)) (sub r 160 96)

/-- A component's transfer is complete and it awaits verification, outside SHUTTERED. -/
def State.awaitsVerify (s : State) : Bool :=
  s.upd.mode && s.upd.transferred && !s.upd.verified && s.dev.st != .shuttered

/-- VERIFY_COMPLETE (R496, R529). -/
def execVerifyComplete (s : State) : Res :=
  if s.awaitsVerify = false then ok s
  else if s.upd.kind = 1 then
    if s.stagedGood then
      ok (State.send5 { s with upd := { s.upd with
        verified := true
        hitless := !s.dev.recovery && s.hitlessClass (s.bank s.stagingBank) } } .verifyOk)
    else ok ((s.setBank s.stagingBank []).failComponent .verifyFailure)
  else if s.keyRecordGood s.upd.record then ok (State.send5 { s with upd := { s.upd with verified := true } } .verifyOk)
  else ok (s.failComponent .verifyFailure)

/-- APPLY_COMPLETE: the boot-selection record takes the trial (R532); a key record is stored (R496, R528). -/
def execApplyComplete (s : State) : Res :=
  let u := s.upd
  if u.mode = false ∨ u.verified = false ∨ s.dev.st = .shuttered then ok s
  else
    let t : State := { s with upd := { u.noComponent with applied := u.applied ++ [u.kind] } }
    if u.kind = 1 then
      let k := s.stagingBank
      let v := t.writeRec fun r => { r with
        trialBank := k, trialFormat := UMan.format u.manifest, actKind := b2n (!u.hitless), trialBoots := b2n u.hitless }
      ok (v.send5 .applyOk)
    else ok (State.send5 { t with keyPending := t.keyPending ++ [(fld u.record 0 1, u.record)] } .applyOk)

/-! ### Leaving update mode (R527, R544) -/

/-- The device leaves update mode and the staging bank is empty (R527). -/
def State.leaveUpdate (s : State) : State :=
  let t := s.setBank s.stagingBank []
  { t with upd := { ({} : Upd) with lastMsg := t.upd.lastMsg } }

/-- UPDATE_TIMEOUT (R527). -/
def execUpdateTimeout (s : State) : Res :=
  onlyIf (s.upd.mode && s.passed s.upd.lastMsg 120000000 && s.dev.st != .shuttered) s s.leaveUpdate

/-- A trial gets a fallback cause, unless it has one (R544). -/
def State.setCause (s : State) (c : Nat) : State :=
  if s.upd.cause.isNone then { s with upd := { s.upd with cause := some c } } else s

/-- CANCEL_UPDATE: during a trial it is fallback cause 1 (R544); before activation the update is dropped (R527). -/
def execCancelUpdate (s : State) : Res :=
  s.pldm5 .cancelUpdate fun t =>
    if t.upd.trial then (t.answerFree .cancelUpdate).setCause 1
    else if t.upd.mode || t.upd.scheduled || t.bootRec.trialBank != 0xFF then (t.answerFree .cancelUpdate).leaveUpdate
    else t.answerErr .cancelUpdate .refused

/-! ### Confirmation (R542, R543, R546) -/

/-- TENDING ends (R546). -/
def State.endTending (s : State) : State :=
  if s.dev.st = .tending then
    s.goDev (if (List.range 8).any fun p => (s.pav p).st.active then .opened else .loading)
  else s

/-- The trial is over: what was kept for fallback is freed (R542, R544). -/
def State.endTrial (s : State) : State :=
  State.endTending { s with
    upd := { ({} : Upd) with lastMsg := s.upd.lastMsg, gateDown := s.upd.gateDown }
    stw := { s.stw with newFw := [] } }

/-- CONFIRMATION (R542, R543). -/
def State.confirm (s : State) (vfuseOk : Bool) : State :=
  let sv := Img.sv s.boot.image
  let t := s.writeRec fun r => { r with
    primary := r.trialBank, trialBank := 0xFF, primaryFormat := r.trialFormat
    pendingSv := if vfuseOk then (if r.pendingSv ≤ sv then 0 else r.pendingSv) else max r.pendingSv sv }
  let t := t.endTrial
  if vfuseOk then t.blow sv else t.raise (corrErr Code.fuseWriteDeferred 7 0)

/-- ACTIVATE_FIRMWARE: it schedules an activation (R532, R534, R535), or outside update mode confirms a trial whose window runs
(R542). -/
def execActivateFirmware (selfContained vfuseOk : Bool) (s : State) : Res :=
  let c : Instr := .activateFirmware selfContained vfuseOk
  s.pldm5 c fun t =>
    let u := t.upd
    if u.mode then
      if selfContained && !u.applied.isEmpty && u.kind == 0 then
        State.answerFree { t with upd := { u with mode := false, scheduled := u.applied.contains 1 && u.hitless } } c
      else t.answerErr c .refused
    else if u.trial && u.windowEnd.isSome && u.cause.isNone then (t.answerFree c).confirm vfuseOk
    else t.answerErr c .refused

/-! ### The handover (R535 to R540) -/

/-- The events of a cadence boundary have taken effect in this tick. -/
def State.atBoundary (s : State) : Bool := s.serving && s.sdl.cadDone

/-- A steward stops for its handover; on the way to the new firmware it writes its state record (R536, R540). -/
def State.pauseSteward (s : State) (p : Nat) : State :=
  let r := if s.upd.reverse then s.upd.records else Tab.put [] s.upd.records (8 + p) (s.stateRecord p s.upd.oldFormat)
  { s with upd := { s.upd with records := r, paused := Tab.ins s.upd.paused p s.time } }

/-- Stewards without a defined pavilion hand over at the boundary itself (R536). -/
def State.pauseIdle (s : State) : State :=
  (List.range 8).foldl
    (fun (t : State) p =>
      if t.defined p = false ∧ t.handing p = false ∧ (t.upd.reverse = false ∨ t.stw.newFw.contains p = true) then t.pauseSteward p
      else t) s

/-- An image comes into use while the device runs: its values, its rules, its firmware (R9, R535, R544). -/
def State.useImage (s : State) (b : List Byte) (format : Nat) : State :=
  let t := s.applyValues b
  { t with boot := { t.boot with format := format }, gate := { t.gate with fwImage := b } }

/-- HITLESS_ACTIVATION_START (R535, R547). -/
def execHitlessActivationStart (s : State) : Res :=
  if s.upd.scheduled = false ∨ s.atBoundary = false ∨ (List.range 8).any (fun p => (s.pav p).swap.isSome) = true then ok s
  else
    let k := s.stagingBank
    let b := (s.bank k).take (Img.size (s.bank k))
    let t : State := { s with
      upd := { ({} : Upd) with
        lastMsg := s.upd.lastMsg, trial := true, hitlessTrial := true, gateDown := true
        oldImage := s.boot.image, oldFormat := s.boot.format }
      stw := { s.stw with newFw := [] }
      gate := { s.gate with sessions := [], established := [], officers := [] } }
    ok ((t.useImage b s.bootRec.trialFormat).goDev .tending).pauseIdle

/-- GATEHOUSE_SERVICES_RESUME (R535). -/
def execGatehouseServicesResume (s : State) : Res :=
  onlyIf s.upd.gateDown s { s with upd := { s.upd with gateDown := false } }

/-- STEWARD_HANDOVER: at a step start of the steward's pavilion (R536, R544). -/
def execStewardHandover (stw : Nat) (s : State) : Res :=
  onlyIf (s.dev.st == .tending && s.upd.hitlessTrial && decide (stw < 8) && !s.handing stw
      && (s.stw.newFw.contains stw == s.upd.reverse)) s
    (s.pauseSteward stw)

/-- A fallback is complete (R544). -/
def State.endFallback (s : State) : State :=
  let t := (s.writeRec fun r => { r with trialBank := 0xFF }).endTrial
  t.raise (corrErr Code.updateFallback 7 0 0 (s.upd.cause.getD 0))

/-- Every steward has handed over: the window starts, or the fallback is complete (R541, R544). -/
def State.handoverDone (s : State) : State :=
  if s.upd.paused ≠ [] then s
  else if s.upd.reverse then (if s.stw.newFw.isEmpty then s.endFallback else s)
  else if s.stw.newFw.length = 8 then
    { s with upd := { s.upd with windowEnd := some (s.time + s.rd R.confirmWindow) } }
  else s

/-- STEWARD_RESUME: the firmware reads and migrates the record; steward 0 applies what fell due in its pause first (R536, R538,
R540, R541, R544). -/
def execStewardResume (stw : Nat) (s : State) : Res :=
  if s.dev.st ≠ .tending ∨ s.handing stw = false then ok s
  else
    let u := s.upd
    let recs := if u.reverse then u.records else Tab.put [] u.records stw (s.stateRecord stw u.oldFormat)
    let t : State := { s with
      upd := { u with paused := u.paused.filter fun e => e.1 != stw, records := recs }
      stw := { s.stw with newFw := if u.reverse then setDel stw s.stw.newFw else setIns stw s.stw.newFw } }
    let t := if stw = 0 then t.payDir else t
    ok t.handoverDone

/-- Some steward has been paused for 3,000 tk (R537, R544, R545). -/
def State.overdue (s : State) : Bool := s.upd.paused.any fun e => s.passed e.2 3000

/-- RESUME_TIMEOUT: a steward has not resumed on the new firmware in time, fallback cause 2 (R544). -/
def execResumeTimeout (stw : Nat) (s : State) : Res :=
  onlyIf (s.dev.st == .tending && !s.upd.reverse && s.upd.paused.any fun e => e.1 == stw && s.passed e.2 3000) s
    (s.setCause 2)

/-- The confirmation window has ended without a confirmation (R541). -/
def State.windowDue (s : State) : Bool :=
  match s.upd.windowEnd with
  | none => false
  | some t => s.upd.trial && decide (t ≤ s.time)

/-- Fallback cause 0 (R544). -/
def State.windowEnds (s : State) : State := State.setCause { s with upd := { s.upd with windowEnd := none } } 0

/-- HITLESS_FALLBACK_START (R544): the old image's values return and the reverse handover begins. -/
def execHitlessFallbackStart (s : State) : Res :=
  let u := s.upd
  if u.hitlessTrial = false ∨ u.cause = none ∨ u.reverse = true ∨ s.dev.st ≠ .tending ∨ s.atBoundary = false then ok s
  else
    let t : State := { s with upd := { u with
      reverse := true, windowEnd := none, paused := u.paused.map fun e => (e.1, s.time) } }
    ok ((t.useImage u.oldImage u.oldFormat).pauseIdle).handoverDone

/-- Entries that wait for the persistent log are written, in SEQ order (R559). -/
def State.plogFlush (s : State) : State :=
  let t := s.errs.plogPending.foldl State.plogPut s
  { t with errs := { t.errs with plogPending := [] } }

/-- UPDATE_ABANDONED (R545): recorded, and the device resets itself. -/
def execUpdateAbandoned (s : State) : Res :=
  onlyIf (s.dev.st == .tending && s.upd.reverse && s.overdue) s
    (s.raise { cls := .device, event := Code.updateAbandoned, unit := 7 }).plogFlush.selfReset

end Sys2Proof.Machine
end

