-- ==== Sys2Proof/Machine/ErrorsRepair.lean ====
section
/-! DEFINITION. Error handling, the persistent log and the repair record; field retirement and aging
(R131, R280, R389, R538, R555 to R560, R564 to R578, R629, R631). -/
namespace Sys2Proof.Machine
open Sys2Proof

/-! ### The error records (R555, R557, R577, R629) -/

/-- The bank of an ERR instance changes. -/
def State.modBank (s : State) (i : Nat) (f : ErrBank → ErrBank) : State :=
  match Cls.ofInst i with
  | some c => { s with errs := s.errs.setBank c (f (s.errs.bank c)) }
  | none => s

/-- Steward 0 has handled the interrupt of an instance's class. -/
def State.ackIrq (s : State) (i : Nat) : State :=
  { s with errs := { s.errs with irq := s.errs.irq.filter fun c => some c != Cls.ofInst i } }

/-- HIP of a bank's primary record is clear (R555, R557). -/
def ErrBank.clearHip (b : ErrBank) : ErrBank :=
  { b with hip := false, timedOut := false, primary := b.primary &&& ~~~(BitVec.ofNat 256 (2 ^ 17)) }

/-- ERR_CTL_HIP_CLR: steward 0 alone; in recovery no handler runs (R557, R560). -/
def execErrCtlHipClr (r : Nat) (s : State) : Res :=
  ok (s.own r 12 0x130 .steward0 fun i t =>
    if t.dev.recovery then t else (t.modBank i ErrBank.clearHip).ackIrq i)

/-- ERR_CTL_OVF_CLR (R615, R628). -/
def execErrCtlOvfClr (r : Nat) (s : State) : Res :=
  ok (s.own r 12 0x130 .pf fun i t => t.modBank i fun b => { b with ovf := 0 })

/-- ERR_RING_RD: the PF or the service port; a value outside WR − 64 to WR is ignored (R555, R629). -/
def execErrRingRd (r : Nat) (v : Word32) (s : State) : Res :=
  ok (s.own r 12 0x124 .any fun i t =>
    if r = 0 ∨ r = 64 then t.modBank i fun b => if (b.wr - v).toNat ≤ 64 then { b with rd := v } else b
    else t)

/-- ERR_HANDLER_TIMEOUT: the instance whose HIP has stood for HIP_LIMIT; once for each setting of HIP (R560, R577). -/
def execErrHandlerTimeout (cls : Nat) (s : State) : Res :=
  match Cls.ofInst cls with
  | none => ok s
  | some c =>
    let b := s.errs.bank c
    let t := s.modBank cls fun b => { b with timedOut := true }
    let scope : Option Nat := if b.primary.getLsbD 27 then none else some (b.primary.toNat / 2 ^ 24 % 8)
    onlyIf (s.locked && !s.dev.recovery && b.hip && !b.timedOut && s.passed b.hipAt (s.rd R.hipLimit)) s
      (t.raise { cls := c.up, event := Code.errHandlerTimeout, pav := scope, unit := 3, d1 := c.num })

/-! ### The persistent log and the repair record (R559 to R561, R576, R578) -/

/-- PERSISTENT_LOG_WRITE: steward 0, or in SHUTTERED the ERR block, writes the oldest entry. -/
def execPersistentLogWrite (okw : Bool) (s : State) : Res :=
  match s.errs.plogPending with
  | [] => ok s
  | r :: rest =>
    onlyIf (s.locked && (!s.dev.recovery || s.dev.st == .shuttered)) s
      (if okw then State.plogPut { s with errs := { s.errs with plogPending := rest } } r
       else s.raise (corrErr Code.configNvmWriteFail 7 0))

/-- REPAIR_RECORD_WRITE. -/
def execRepairRecordWrite (okw : Bool) (s : State) : Res :=
  onlyIf (s.serving && s.errs.repairPending) s
    (if okw then { s with nvm := { s.nvm with saved := s.nvm.repair }, errs := { s.errs with repairPending := false } }
     else s.raise (corrErr Code.configNvmWriteFail 7 0))

/-! ### Retirement in the field (R131, R280, R389, R538, R564 to R567) -/

/-- A plot's terrace is drained: it is held with no rows, or its pavilion takes no steps; one that belongs to no pavilion is so
at a cadence boundary (R280, R565). -/
def State.terrDrained (s : State) (p : Nat) : Bool :=
  match s.plotPav p with
  | some v => (s.terr (terrOf p)).rows.isEmpty && ((s.terr (terrOf p)).held || !(s.pav v).st.active)
  | none => s.sdl.cadDone

/-- No message from or to a plot is on the Trellis (R124). -/
def State.trellisQuiet (s : State) (p : Nat) : Bool := s.trellis.all fun m => m.src != p && m.dst != p

/-- A plot may be retired now: a trigger stands, its terrace is drained and has taken no retirement at this boundary, no swap of
its pavilion runs, no handover pause (R567). -/
def State.mayRetire (s : State) (p : Nat) : Bool :=
  s.serving && !s.dev.recovery && (s.plot p).retire && !s.handing 0 && s.terrDrained p && !(s.terr (terrOf p)).took
    && s.trellisQuiet p
    && (match s.plotPav p with | some v => (s.pav v).swap.isNone && !s.handing v | none => true)

/-- The plot on its new site: what belongs to the old site's rows stays there (R568). -/
def Plot.moved (q : Plot) : Plot := { q with retire := false, rowRepair := [], ce := [], resid := none }

/-- A plot whose copy met an uncorrectable word: its site is loaded and started (R126, R566). -/
def State.restartPlot (s : State) (p : Nat) : State :=
  let t := s.setPlot p { s.plot p with store := [], bad := [] }
  ((t.loadProgram p).startPlot p).raise
    { cls := .pavilion, event := Code.plotRestarted, pav := s.plotPav p, unit := 1, inst := p }

/-- A terrace takes its retirement of this boundary (R567). -/
def State.takeTerr (s : State) (t : Nat) : State := s.setTerr t { s.terr t with took := true }

/-- PLOT_RETIRE: the plot moves to its region's spare, with its state (R565, R566); without a spare R131 applies. -/
def execPlotRetire (plot : Nat) (s : State) : Res :=
  if s.mayRetire plot = false then ok s
  else if s.hasSpare (terrOf plot) = false then ok (State.noSpare (s.setPlot plot { s.plot plot with retire := false }) plot)
  else
    let t := ((s.moveToSpare plot).takeTerr (terrOf plot)).setPlot plot (s.plot plot).moved
    let t := t.raise { cls := .corrected, event := Code.plotRetired, pav := s.plotPav plot, unit := 1, inst := plot }
    ok (if (s.plot plot).bad.isEmpty then t else t.restartPlot plot)

/-- MAC_RESIDUE_FAIL: the second within 1,000,000 tk is a retirement trigger (R564). -/
def execMacResidueFail (plot : Nat) (s : State) : Res :=
  let t := s.setPlot plot { s.plot plot with resid := some s.time }
  onlyIf s.serving s
    (match (s.plot plot).resid with
     | some u => if tkFrom u s.time ≤ 1000000 then t.trigger plot else t
     | none => t)

/-- REPAIR_CTL_RETIRE: GO with a logical ID (R564, R631). -/
def execRepairCtlRetire (r : Nat) (v : Word32) (s : State) : Res :=
  ok (s.own r 13 0x8 .pf fun _ t => if v.getLsbD 31 then t.trigger (v.toNat % 2048) else t)

/-- REPAIR_CTL_LANE_CLR: the lane maps of a port's two directions return (R570, R631). -/
def execRepairCtlLaneClr (r : Nat) (v : Word32) (s : State) : Res :=
  ok (s.own r 13 0xC .pf fun _ t =>
    let p := v.toNat % 16
    if v.getLsbD 31 = true ∧ p < 12 then
      let q := t.nvm.repair
      { t with
        nvm := { t.nvm with repair := { q with
          tvlLane := Tab.put none (Tab.put none q.tvlLane (p * 2) none) (p * 2 + 1) none
          tvlHalf := Tab.put [] (Tab.put [] q.tvlHalf (p * 2) []) (p * 2 + 1) [] } }
        errs := { t.errs with repairPending := true } }
    else t)

/-! ### Aging (R574, R575) -/

/-- One plot's margin: AGING_WARN once per plot per boot, a retirement trigger where the region has a spare. -/
def State.sampleMargin (s : State) (p m : Nat) : State :=
  let t := s.wr R.margin (min m 255) p
  let t :=
    if m < s.rd R.warnPs ∧ (s.plot p).warned = false then
      State.raise (t.setPlot p { t.plot p with warned := true })
        { cls := .corrected, event := Code.agingWarn, pav := s.plotPav p, unit := 1, inst := p }
    else t
  if m < s.rd R.retirePs ∧ s.hasSpare (terrOf p) = true then t.trigger p else t

/-- Plots below RETIRE_PS in regions without a spare: the ceiling falls, or at its floor R131 applies (R575). -/
def State.derate (s : State) : List Nat → State
  | [] => s
  | p :: rest =>
    if s.nvm.repair.fmaxCap ≤ 600 then (p :: rest).foldl State.noSpare s
    else
      State.raise
        { s with
          nvm := { s.nvm with repair := { s.nvm.repair with fmaxCap := max 600 (s.nvm.repair.fmaxCap - 50) } }
          errs := { s.errs with repairPending := true } }
        { cls := .corrected, event := Code.agingDerate, pav := s.plotPav p, unit := 1, inst := p }

/-- A sample of the margins is due: once in a tick that is a multiple of 1,000,000, or after a step over one (R574, R575). -/
def State.agingDue (s : State) : Bool := s.sdl.owed.aging || (s.time % 1000000 == 0 && !s.sdl.agingDone)

/-- AGING_SAMPLE: the margins by logical ID, where a sample is due (R574, R575). -/
def execAgingSample (margins : List Nat) (s : State) : Res :=
  if s.serving = false ∨ s.agingDue = false then ok s
  else
    let ms := (List.range 2048).zip margins
    let low := (ms.filter fun e => decide (e.2 < s.rd R.retirePs) && !s.hasSpare (terrOf e.1)).map (·.1)
    let t : State := { s with sdl := { s.sdl with agingDone := true, owed := { s.sdl.owed with aging := false } } }
    ok ((ms.foldl (fun (u : State) e => u.sampleMargin e.1 e.2) t).derate low)

end Sys2Proof.Machine
end

