-- ==== Sys2Proof/Machine/Weights.lean ====
section
/-! DEFINITION. The weights: loading, verification, scrub and restoration, the fabric broadcast, swaps, cold-frame page reads
(R62, R90, R224, R366 to R394). -/
namespace Sys2Proof.Machine
open Sys2Proof

/-- A weight error of a pavilion: the steward that loads it reports it (log 40). -/
def wgtErr (cls : Cls) (event p : Nat) : Err := { cls := cls, event := event, pav := some p, unit := 3, inst := p }

/-- The index of a model's weights. -/
def wgtIx (p m : Nat) : Nat := p * 16 + m

/-- Sets a shard of a model. -/
def State.setShard (s : State) (p m i : Nat) (h : Shard) : State := s.setWgt (wgtIx p m) ((s.wgt (wgtIx p m)).setShard i h)

/-- A shard of a model. -/
def State.shard (s : State) (p m i : Nat) : Shard := (s.wgt (wgtIx p m)).shard i

/-! ### Manifests and commands (R367, R370, R382, R383) -/

/-- The swap command of a pavilion completes and the swap is over. -/
def State.endSwap (s : State) (p : Nat) (w : Swap) (status result : Nat) : State :=
  (s.setPav p { s.pav p with swap := none }).complete w.src w.cid status result

/-- A manifest accepted for a pavilion that is LOADING: shards are placed and the load starts, or WEIGHT_NO_ROOM is raised
(R370). Whether the shards fit is told. -/
def State.startLoad (s : State) (p m : Nat) (b : List Byte) : Bool × State :=
  match s.placement p m b with
  | some t => (true, s.setWgt (wgtIx p m) { tried := true, named := (s.wgt (wgtIx p m)).named, manifest := b, good := true, shards := t })
  | none =>
    (false, (s.setWgt (wgtIx p m) { tried := true, named := (s.wgt (wgtIx p m)).named, manifest := b }).raise (wgtErr .pavilion Code.weightNoRoom p))

/-- A WEIGHT_SWAP's manifest has been read: the command is rejected or accepted (R367, R383, R389); on a LOADING pavilion it
replaces the manifest, which completes it (log 41). -/
def State.swapManifest (s : State) (p m : Nat) (w : Swap) (b : List Byte) : State :=
  let g := s.wgt (wgtIx p m)
  if s.manifestGood p m b = false then s.endSwap p w Code.weightManifestBad 0
  else if Man.gen b ≤ s.gen p m then s.endSwap p w Code.weightGenStale 0
  else if g.good && !Man.shape g.manifest b then s.endSwap p w Code.weightShapeMismatch 0
  else if (Man.units b).any (fun u => decide (s.rd R.stageSize p < Man.unitSize b u)) then s.endSwap p w Code.weightNoRoom 0
  else if (s.pav p).st = .loading then
    let (room, t) := s.startLoad p m b
    if room then (t.setPav p { t.pav p with lostWeights := false }).endSwap p w Code.swapDone (Man.gen b)
    else t.endSwap p w Code.weightNoRoom 0
  else s.setPav p { s.pav p with
    swap := some { w with stage := if s.dev.st = .tending then .queued else .accepted, manifest := b } }

/-- A manifest has been read or received: for the swap that waits for it, or for a LOADING pavilion (R367, R486). -/
def State.manifestRead (s : State) (p m : Nat) (b : List Byte) : State :=
  if (s.model p m).isNone then s
  else
    let loading : State :=
      if (s.pav p).st = .loading ∧ (s.wgt (wgtIx p m)).tried = false then
        if s.manifestGood p m b then
          let t := (s.startLoad p m b).2
          if s.rd R.fabricLoad = 0 then t.setWgt (wgtIx p m) { t.wgt (wgtIx p m) with named := b } else t
        else (s.setWgt (wgtIx p m) { s.wgt (wgtIx p m) with tried := true }).raise (wgtErr .pavilion Code.weightManifestBad p)
      else s
    match (s.pav p).swap with
    | some w => if w.model = m ∧ w.stage = .reading then s.swapManifest p m w b else loading
    | none => loading

/-- MANIFEST_VERIFY (R367, R370): a manifest read from local flash; a FABRIC_LOAD device reads none (R375). It waits while the
Gatehouse's mailbox services do (R535). -/
def execManifestVerify (pav model : Nat) (data : List Byte) (s : State) : Res :=
  onlyIf (s.serving && s.rd R.fabricLoad == 0 && !s.upd.gateDown) s (s.manifestRead pav model data)

/-- The checks that precede every other response of a weight command (R461). -/
def State.weightTarget (s : State) (c : BitVec 1024) : Option Nat :=
  let p := byteAt c 24 1
  if 8 ≤ p ∨ s.defined p = false then some Code.pavUndefined
  else if (s.model p (byteAt c 25 1)).isNone then some Code.modelNotFound
  else none

/-- WEIGHT_SWAP (R382, R383, R461): the rest of its checks come with its manifest. -/
def execWeightSwap (src : Nat) (cid : Word32) (s : State) : Res :=
  ok (s.runCmd src cid 0x30 fun c t =>
    let p := byteAt c 24 1
    match t.weightTarget c with
    | some e => t.complete src cid e
    | none =>
      if (t.pav p).swap.isSome then t.complete src cid Code.weightSwapBusy
      else t.setPav p { t.pav p with
        swap := some { model := byteAt c 25 1, holdAll := byteAt c 26 1 == 0, addr := byteAt c 32 8, src := src, cid := cid } })

/-- WEIGHT_QUERY (R382, R461, R627). -/
def execWeightQuery (src : Nat) (cid : Word32) (s : State) : Res :=
  ok (s.runCmd src cid 0x31 fun c t =>
    let p := byteAt c 24 1
    let m := byteAt c 25 1
    match t.weightTarget c with
    | some e => t.complete src cid e
    | none =>
      let mine : Nat × Nat := match (t.pav p).swap with
        | some w => if w.model = m then (t.swapNum p, w.unit) else (0, 0)
        | none => (0, 0)
      t.complete src cid 0 (t.gen p m + mine.1 % 16 * 2 ^ 32 + mine.2 % 256 * 2 ^ 40))

/-! ### Shards (R368, R369, R372) -/

/-- The manifest whose shards are being staged: the new one, or the current one in a rollback (R385, R390). -/
def State.stagedManifest (s : State) (p : Nat) (w : Swap) : List Byte :=
  if w.back then (s.wgt (wgtIx p w.model)).manifest else w.manifest

/-- Where a shard of the unit lies in the staging area: the unit's shards follow one another from STAGE_BASE (R385). -/
def State.stageAt (s : State) (p : Nat) (b : List Byte) (i : Nat) : Nat :=
  s.rd R.stageBase p + (((Man.inUnit b (Man.unitOf b i)).filter fun j => decide (j < i)).map (Man.size b)).sum

/-- A shard read from flash: verified with its bytes, or one more failed read (R372). -/
def Shard.judged (h : Shard) (b : List Byte) (i : Nat) (d : List Byte) : Shard :=
  let hs := shardLeaves (Man.id b i) (Man.leaves b i) d
  if d.length = Man.size b i ∧ rootOf hs = Man.root b i then { h with verified := true, leaves := hs, data := d }
  else { h with reads := h.reads + 1 }

/-- WEIGHT_DIGEST_FAIL is raised with the last attempt (R372, R378). -/
def State.digestFail (s : State) (p : Nat) (last : Bool) : State :=
  if last then s.raise (wgtErr .pavilion Code.weightDigestFail p) else s

/-- The shard belongs to the unit that a pavilion's swap stages. -/
def State.stages (s : State) (p m i : Nat) : Option (Swap × List Byte) :=
  match (s.pav p).swap with
  | some w =>
    let b := s.stagedManifest p w
    if w.model = m ∧ w.stage = .staging ∧ (Man.inUnit b w.unit).contains i = true then some (w, b) else none
  | none => none

/-- Sets a staged shard. -/
def State.setStaged (s : State) (p : Nat) (w : Swap) (i : Nat) (h : Shard) : State :=
  s.setPav p { s.pav p with swap := some { w with staged := Tab.put {} w.staged i h } }

/-- A model's shard may be loaded: its pavilion is LOADING under an accepted manifest, and the shard is not verified (R372). -/
def State.loads (s : State) (p m i : Nat) : Bool :=
  (s.pav p).st == .loading && (s.wgt (wgtIx p m)).good && decide (i < Man.count (s.wgt (wgtIx p m)).manifest)
    && !(s.shard p m i).verified

/-- SHARD_VERIFY (R372, R385): a shard read from local flash, into its place or the staging area. -/
def execShardVerify (pav model idx : Nat) (data : List Byte) (s : State) : Res :=
  if s.serving = false ∨ s.rd R.fabricLoad = 1 then ok s
  else match s.stages pav model idx with
    | some (w, b) =>
      let h : Shard := Tab.get {} w.staged idx
      if h.verified || decide (3 ≤ h.reads) then ok s
      else
        let h := h.judged b idx data
        let t := s.homeWrite (s.stageAt pav b idx) (sub data 0 (min data.length (Man.size b idx)))
        ok ((t.setStaged pav w idx { h with data := [] }).digestFail pav (h.reads == 3))
    | none =>
      let h := s.shard pav model idx
      let b := (s.wgt (wgtIx pav model)).manifest
      if s.loads pav model idx = false ∨ 3 ≤ h.reads then ok s
      else
        let h := h.judged b idx data
        ok ((s.setShard pav model idx h).digestFail pav (h.reads == 3))

/-- SHARD_IN_PLACE (R369, R372, R380): the shard and its leaf table stand at their places; with the last one, the generation
becomes the manifest's. -/
def execShardInPlace (pav model idx : Nat) (s : State) : Res :=
  let h := s.shard pav model idx
  let b := (s.wgt (wgtIx pav model)).manifest
  if (s.pav pav).st = .loading ∧ h.verified = true ∧ h.inPlace = false then
    let t := (s.writeShard h h.addr h.data).writeTable h h.leaves
    let t := t.setShard pav model idx { h with inPlace := true, data := [], leaves := [], got := [], reads := 0, rounds := 0 }
    ok (if t.loaded pav model then t.wr R.wgtGen (Man.gen b) pav model else t)
  else ok s

/-! ### Restoration (R391 to R394) -/

/-- WEIGHT_RESTORED is raised (R391, R392). -/
def State.restored (s : State) (p : Nat) : State :=
  s.raise { cls := .corrected, event := Code.weightRestored, pav := some p, unit := 9, inst := p }

/-- Leaves become POISON, and WEIGHT_LOST is raised for each; a shard whose root fails though no leaf differs raises it once (R392,
R393; log 56). -/
def State.loseLeaves (s : State) (p m i : Nat) (ks : List Nat) : State :=
  let b := s.manifestAt p m i
  let h := s.shard p m i
  let t := ks.foldl (fun (u : State) k => (linesOf (h.leafAt k) (Man.leafLen b i k)).foldl State.markPoison u) s
  let t := t.setShard p m i { h with lostLeaves := ks.foldl (fun l k => setIns k l) h.lostLeaves }
  (List.range (max 1 ks.length)).foldl (fun (u : State) _ => u.raise (wgtErr .pavilion Code.weightLost p))
    (t.setPav p { t.pav p with lostWeights := true })

/-- A restoration of a shard, or of one of its leaves, is under way. -/
def State.underRestore (s : State) (p m i : Nat) (leaf : Option Nat) : Bool :=
  s.scrub.restores.any fun r => r.pav == p && r.model == m && r.shard == i && (r.leaf == leaf || r.leaf.isNone)

/-- On a FABRIC_LOAD device the leaves of a restoration's attempt come by unicast repair from the root, which is asked for them;
elsewhere they are read again from flash (R391, R392). -/
def State.askRoot (s : State) (r : Restore) : State :=
  if s.rd R.fabricLoad = 1 then
    s.emit (.repairRequest r.pav r.model (Man.id (s.manifestAt r.pav r.model r.shard) r.shard)
      (match r.leaf with | some k => [k] | none => r.todo))
  else s

/-- Starts a restoration; steps of the pavilion wait from now on (R391). -/
def State.startRestore (s : State) (r : Restore) : State :=
  if s.underRestore r.pav r.model r.shard r.leaf then s
  else State.askRoot { s with scrub := { s.scrub with restores := s.scrub.restores ++ [r] } } r

/-- Leaves whose hash differs from their entry in the table as it stands (R392). -/
def State.differing (s : State) (p m i : Nat) : List Nat :=
  let b := s.manifestAt p m i
  let h := s.shard p m i
  (List.range (Man.leaves b i)).filter fun k => (s.leafNow h b i k).isNone || s.leafNow h b i k != s.tableNow h k

/-- The leaves of a shard as they stand give its root. -/
def State.leavesGood (s : State) (p m i : Nat) : Bool :=
  let b := s.manifestAt p m i
  rootIs ((List.range (Man.leaves b i)).map fun k => s.leafNow (s.shard p m i) b i k) (Man.root b i)

/-- The leaf table is rewritten from the leaves as they stand (R392). -/
def State.rebuildTable (s : State) (p m i : Nat) : State :=
  let b := s.manifestAt p m i
  let h := s.shard p m i
  (s.writeTable h ((List.range (Man.leaves b i)).filterMap fun k => s.leafNow h b i k)).restored p

/-- A leaf table's root does not match: the shard is rehashed, and the table or the shard is restored (R392). -/
def State.leafTableBad (s : State) (p m i : Nat) : State :=
  if s.leavesGood p m i then s.rebuildTable p m i
  else if (s.differing p m i).isEmpty then s.loseLeaves p m i []
  else s.startRestore { pav := p, model := m, shard := i, leaf := none, todo := s.differing p m i }

/-- A restoration is over. -/
def State.dropRestore (s : State) (r : Restore) : State :=
  { s with scrub := { s.scrub with restores := s.scrub.restores.filter (· != r) } }

/-- A restoration goes on. -/
def State.keepRestore (s : State) (r q : Restore) : State :=
  { s with scrub := { s.scrub with restores := s.scrub.restores.map fun x => if x = r then q else x } }

/-- The next attempt of a restoration begins (R391, R392). -/
def State.nextAttempt (s : State) (r q : Restore) : State := (s.keepRestore r { q with attempts := r.attempts + 1 }).askRoot q

/-- One leaf restored is judged by its table entry (R391, R393). -/
def State.judgeLeaf (s : State) (r : Restore) (k : Nat) (d : List Byte) : State :=
  let b := s.manifestAt r.pav r.model r.shard
  let h := s.shard r.pav r.model r.shard
  if d.length = Man.leafLen b r.shard k ∧ s.tableNow h k = some (leafHash (Man.id b r.shard) k d) then
    ((s.writeShard h (h.leafAt k) d).dropRestore r).restored r.pav
  else if 3 ≤ r.attempts + 1 then (s.dropRestore r).loseLeaves r.pav r.model r.shard [k]
  else s.nextAttempt r r

/-- A leaf of a shard under restoration is rewritten unjudged; the last of an attempt is followed by the root (R392). -/
def State.judgeShard (s : State) (r : Restore) (k : Nat) (d : List Byte) : State :=
  let b := s.manifestAt r.pav r.model r.shard
  let h := s.shard r.pav r.model r.shard
  let t := s.writeShard h (h.leafAt k) (sub d 0 (Man.leafLen b r.shard k))
  let left := r.todo.filter (· != k)
  if !left.isEmpty then t.keepRestore r { r with todo := left }
  else if t.leavesGood r.pav r.model r.shard then (t.dropRestore r).rebuildTable r.pav r.model r.shard
  else
    let bad := t.differing r.pav r.model r.shard
    if 3 ≤ r.attempts + 1 ∨ bad.isEmpty = true then (t.dropRestore r).loseLeaves r.pav r.model r.shard bad
    else t.nextAttempt r { r with todo := bad }

/-- LEAF_RESTORED (R391 to R393): the bytes of a leaf come again from flash or from the root. -/
def execLeafRestored (pav model idx leaf : Nat) (data : List Byte) (s : State) : Res :=
  match s.scrub.restores.find? (fun r => r.pav == pav && r.model == model && r.shard == idx
      && (r.leaf == some leaf || (r.leaf.isNone && r.todo.contains leaf))) with
  | none => ok s
  | some r => ok (if r.leaf.isSome then s.judgeLeaf r leaf data else s.judgeShard r leaf data)

/-! ### Scrub (R62, R78, R373, R374) -/

/-- A scrub start tick that has not been taken, or one that a step owes (R78, R373). -/
def State.scrubDue (s : State) : Bool :=
  s.sdl.owed.scrub || (s.time % s.rd R.scrubInterval == 0 &&
    (match s.sdl.scrubSeen with | none => true | some t => decide (t < s.time)))

/-- A place in the order of a pass (R373): shards in ascending pavilion, model and entry order, of each the table's root and then
its leaves. -/
def scrubKey (x i k : Nat) : Nat := (x * 16384 + i) * 8192 + k

/-- Everything that a pass can cover, in its order: the shards, then the adapter blobs (R62, R373). -/
def State.scrubList (s : State) : List (Nat × ScrubTarget) :=
  (s.wgts.flatMap fun e =>
    (List.range (Man.count e.2.manifest)).flatMap fun i =>
      let p := e.1 / 16
      let m := e.1 % 16
      (scrubKey e.1 i 0, .leafTable p m i) ::
        (List.range (Man.leaves (s.manifestAt p m i) i)).map fun k => (scrubKey e.1 i (k + 1), .leaf p m i k)) ++
  (Tab.keys s.recs).map fun i => (scrubKey 128 0 0 + i, .adapter i)

/-- The unit of a shard is being staged or copied (R373). -/
def State.unitBusy (s : State) (p m i : Nat) : Bool :=
  match (s.pav p).swap with
  | some w => w.model == m && (w.stage == .staging || w.stage == .verified || w.stage == .copying)
      && Man.unitOf (s.wgt (wgtIx p m)).manifest i == w.unit
  | none => false

/-- A shard that the scrub covers (R373). -/
def State.scrubs (s : State) (p m i : Nat) : Bool :=
  (s.wgt (wgtIx p m)).good && decide (i < Man.count (s.wgt (wgtIx p m)).manifest)
    && (s.shard p m i).verified && (s.shard p m i).inPlace

/-- An adapter record that the scrub covers (R62). -/
def AdRec.resident (r : AdRec) : Bool :=
  match r.vst with | .free => false | .loading => false | .failed => false | _ => true

/-- A pass passes over a target: it is not covered, its unit is being staged or copied, it or its shard holds POISON of R393 or
R394, or it is under restoration (R373, R392). -/
def State.scrubSkips (s : State) : ScrubTarget → Bool
  | .leafTable p m i => !s.scrubs p m i || !(s.shard p m i).lostLeaves.isEmpty || s.underRestore p m i none
  | .leaf p m i k => !s.scrubs p m i || (s.shard p m i).lostLeaves.contains k || s.unitBusy p m i || s.underRestore p m i (some k)
  | .adapter i => !(s.adrec i).resident

/-- The next check of the pass: the first target from its place on that it does not pass over. -/
def State.scrubNext (s : State) : Option (Nat × ScrubTarget) :=
  s.scrubList.find? fun e => decide (s.scrub.pos ≤ e.1) && !s.scrubSkips e.2

/-- A pass with nothing left to check has ended. -/
def State.scrubEnds (s : State) : State :=
  if s.scrubNext.isNone then { s with scrub := { s.scrub with running := false, pos := 0 } } else s

/-- A scrub start tick is taken: a pass begins, or the one that runs is late (R373, R374). -/
def State.scrubStart (s : State) : State :=
  let t : State := { s with sdl := { s.sdl with
    scrubSeen := some (max (s.sdl.scrubSeen.getD 0) s.time), owed := { s.sdl.owed with scrub := false } } }
  if s.scrub.running then t.inc R.scrubLate
  else State.scrubEnds { t with scrub := { t.scrub with running := true, pos := 0 } }

/-- A leaf that cannot be trusted is restored (R391). -/
def State.leafBad (s : State) (p m i k : Nat) : State := s.startRestore { pav := p, model := m, shard := i, leaf := some k }

/-- A scrub check of an adapter blob fails (R62): its load, if it waits, ends with ADAPTER_DIGEST_FAIL (log 42). -/
def State.adapterBad (s : State) (i : Nat) : State :=
  let r := s.adrec i
  let t := s.setAdrec i { r with vst := .failed, load := none }
  let t := match r.load with
    | some (src, cid) => t.complete src cid Code.adapterDigestFail
    | none => t
  let t := t.raise { cls := .deferred, event := Code.adapterCorrupt, unit := 9 }
  let t := (t.reqs.filter fun e => (recsIn e.2.res).contains i).foldl (fun (u : State) e => u.failReq e.1 Code.adapterCorrupt) t
  t.maybeFree i

/-- One check of a pass (R62, R391, R392). -/
def State.scrubOne (s : State) : ScrubTarget → State
  | .leafTable p m i =>
    let b := s.manifestAt p m i
    let h := s.shard p m i
    if rootIs ((List.range (Man.leaves b i)).map fun k => s.tableNow h k) (Man.root b i) then s else s.leafTableBad p m i
  | .leaf p m i k =>
    let b := s.manifestAt p m i
    let h := s.shard p m i
    if (s.leafNow h b i k).isSome && s.leafNow h b i k == s.tableNow h k then s else s.leafBad p m i k
  | .adapter i => if s.blobGood (s.adrec i) then s else s.adapterBad i

/-- SCRUB_CHECK (R62, R373, R391, R392): the pass that runs makes its next check. -/
def execScrubCheck (evs : List (Nat × MemEvent)) (s0 : State) : Res :=
  if s0.serving = false ∨ s0.scrub.running = false then ok s0
  else
    let s := s0.hbmEvents evs
    match s.scrubNext with
    | none => ok s.scrubEnds
    | some (k, x) => ok (State.scrubOne { s with scrub := { s.scrub with pos := k + 1 } } x).scrubEnds

/-! ### Cold-frame page reads (R224, R391) -/

/-- The weight leaf that a cold-frame page belongs to. -/
def State.leafOfPage (s : State) (page : Nat) : Option (Nat × Nat × Nat × Nat) :=
  let a := coldBase + page * 4096
  (s.wgts.flatMap fun e => (List.range (Man.count e.2.manifest)).filterMap fun i =>
    let h := e.2.shard i
    let n := Man.size e.2.manifest i
    if h.cold && h.inPlace && decide (h.addr ≤ a) && decide (a < h.addr + n) then
      some (e.1 / 16, e.1 % 16, i, (a - h.addr) / 65536) else none).head?

/-- A page fails authentication (R224); a weight leaf among its lines is restored (R391). -/
def State.pageBad (s : State) (page : Nat) : State :=
  let port := s.coldPort (page * 4096)
  let t : State := { s with cfm := { s.cfm with buf := s.cfm.buf.filter (· != page), badPages := setIns page s.cfm.badPages } }
  let t := (t.inc R.tagFails).raise
    { cls := .deferred, event := Code.cfmTagFail, unit := 5, inst := port, d0 := coldBase + page * 4096 }
  match s.leafOfPage page with
  | some (p, m, i, k) => if (s.shard p m i).lostLeaves.contains k then t else t.leafBad p m i k
  | none => t

/-- CFM_PAGE_READ (R224, R245, R519): no page of a lost port is read, and in the Gatehouse's error state none is
authenticated. -/
def execCfmPageRead (page : Nat) (authOk : Bool) (s : State) : Res :=
  if s.serving = false ∨ s.capacity ≤ page * 4096 ∨ (s.cfm.port (s.coldPort (page * 4096))).lost = true
      ∨ s.gate.errorState = true then ok s
  else if authOk then
    ok { s with cfm := s.cfm.enterPage page }
  else ok (s.pageBad page)

/-! ### The fabric broadcast (R90, R375 to R379) -/

/-- The first cadence boundary at or after a tick. -/
def State.boundaryFrom (s : State) (t : Nat) : Nat := roundUp t (s.rd R.cadence)

/-- BROADCAST_ANNOUNCE (R376): the root names the start tick; a receiver takes the one it is told. -/
def execBroadcastAnnounce (start : Nat) (s : State) : Res :=
  let at' := s.boundaryFrom (s.time + 100000)
  let t (n : Nat) : State := { s with bcast := { s.bcast with st := .announced, start := n } }
  if s.serving = false then ok s
  else if s.rd R.wgtRoot = 1 then ok ((t at').emit (.announce (s.rd R.wgtTree) at'))
  else if s.rd R.fabricLoad = 1 then ok (t start)
  else ok s

/-- The announced start tick of a broadcast has come (R376). -/
def State.bcastDue (s : State) : Bool := s.serving && s.bcast.st == .announced && decide (s.bcast.start ≤ s.time)

/-- A broadcast starts (R376); with device time not valid it waits for the next lock (R90). -/
def State.bcastStart (s : State) : State :=
  if s.sdl.st.valid = false then { s with bcast := { s.bcast with st := .retry } } else s.bcastRun

/-- Whether a receiver may take a shard's items: under its load, or under the swap that stages it; the shard, the manifest, and
where it goes (R377, R385). -/
def State.bcastShard (s : State) (p m i : Nat) : Option (Shard × List Byte × Option Swap) :=
  match s.stages p m i with
  | some (w, b) => if (Tab.get {} w.staged i).verified then none else some (Tab.get {} w.staged i, b, some w)
  | none => if s.loads p m i then some (s.shard p m i, (s.wgt (wgtIx p m)).manifest, none) else none

/-- Sets a shard that a receiver is taking. -/
def State.setTaken (s : State) (p m i : Nat) (w : Option Swap) (h : Shard) : State :=
  match w with
  | some w => s.setStaged p w i h
  | none => s.setShard p m i h

/-- A receiver takes a leaf table: accepted only if its root is ROOT (R377). -/
def State.takeTable (s : State) (p m i : Nat) (hashes : List (BitVec 384)) : State :=
  match s.bcastShard p m i with
  | some (h, b, w) =>
    if hashes.length = Man.leaves b i ∧ rootOf hashes = Man.root b i then s.setTaken p m i w { h with leaves := hashes } else s
  | none => s

/-- A receiver takes a leaf: accepted only if it hashes to its entry (R377); with the last one the shard is verified
(R372). -/
def State.takeLeaf (s : State) (p m i k : Nat) (d : List Byte) : State :=
  match s.bcastShard p m i with
  | some (h, b, w) =>
    if d.length = Man.leafLen b i k ∧ h.leaves[k]? = some (leafHash (Man.id b i) k d) then
      let got := setIns k h.got
      let t := match w with
        | some _ => s.homeWrite (s.stageAt p b i + 65536 * k) d
        | none => s.writeShard h (h.leafAt k) d
      t.setTaken p m i w { h with got := got, verified := decide (got.length = Man.leaves b i) }
    else s
  | none => s

/-- A receiver takes an item of the broadcast or of a unicast repair (R377 to R379). A shard's entry repeats what the manifest
says. On the root's abort it discards the shards it has not verified, and the broadcast comes again (R379). -/
def State.takeItem (s : State) : BcastItem → State
  | .manifest p m b => s.manifestRead p m b
  | .entry _ _ _ _ => s
  | .leafTable p m i hs => s.takeTable p m i hs
  | .leaf p m i k d => s.takeLeaf p m i k d
  | .aborted => s.dropUnverified

/-- A receiver has still to take something: a manifest of a LOADING pavilion or of a swap, or a shard that is neither verified nor
given up (R377, R378; log 56). -/
def State.bcastWants (s : State) : Bool :=
  (List.range 8).any fun p =>
    (match (s.pav p).swap with
      | some w => w.stage == .reading || w.stage == .queued || w.stage == .accepted
      | none => false) ||
    (s.modelsOf p).any fun m =>
      let g := s.wgt (wgtIx p m.id)
      ((s.pav p).st == .loading && !g.tried) ||
      (List.range (Man.count g.manifest)).any fun i =>
        match s.bcastShard p m.id i with
        | some (h, _, _) => decide (h.rounds < 4)
        | none => false

/-- The broadcast ends on a receiver that has nothing left to take of it. -/
def State.bcastEnds (s : State) : State := if s.bcastWants then s else { s with bcast := { s.bcast with st := .idle } }

/-- BROADCAST_LEAF (R377): on a FABRIC_LOAD device while the broadcast or its repair runs. -/
def execBroadcastLeaf (item : BcastItem) (s : State) : Res :=
  onlyIf (s.serving && s.rd R.fabricLoad == 1 && s.bcast.st == .running) s (s.takeItem item).bcastEnds

/-- The leaves of a shard that a receiver misses. -/
def missingLeaves (h : Shard) (b : List Byte) (i : Nat) : List Nat :=
  (List.range (Man.leaves b i)).filter fun k => !h.got.contains k

/-- SHARD_END_MARKER (R378): one repair request, or WEIGHT_DIGEST_FAIL after three rounds. -/
def execShardEndMarker (pav model idx : Nat) (s : State) : Res :=
  if s.serving = false ∨ s.rd R.fabricLoad = 0 ∨ s.bcast.st ≠ .running then ok s
  else match s.bcastShard pav model idx with
    | none => ok s
    | some (h, b, w) =>
      if h.rounds < 3 then
        ok ((s.setTaken pav model idx w { h with rounds := h.rounds + 1 }).emit
          (.repairRequest pav model (Man.id b idx) (missingLeaves h b idx)))
      else if h.rounds = 3 then
        ok ((s.setTaken pav model idx w { h with rounds := 4, reads := 3 }).digestFail pav true).bcastEnds
      else ok s

/-! ### Swaps (R384 to R394) -/

/-- The shards of the unit in hand. -/
def State.unitShards (s : State) (p : Nat) (w : Swap) : List Nat := Man.inUnit (s.stagedManifest p w) w.unit

/-- The unit in hand goes on to its next stage: staged again from the first (R386, R387, R390). -/
def State.nextUnit (s : State) (p : Nat) (w : Swap) (u : Nat) : State :=
  s.setPav p { s.pav p with held := (s.pav p).held && w.holdAll, swap := some { w with unit := u, stage := .staging, staged := [] } }

/-- The pavilion leaves SWAPPING and its steps are free (R388, R390). -/
def State.leaveSwap (s : State) (p : Nat) : State :=
  let t := s.setPav p { s.pav p with held := false }
  if (t.pav p).st = .swapping then t.goPav p .opened else t

/-- Index entries of an old generation leave the prefix cache (R388). -/
def KvPage.outdated (q : KvPage) (m gen : Nat) : KvPage :=
  if q.key.isSome && q.model == m && q.gen != gen then
    (if q.st = .cached then {} else { q with st := .owned, key := none }) else q

/-- The swap is done (R380, R388, R393): the generation, the index, the residents, WEIGHT_LOST. -/
def State.swapDone (s : State) (p : Nat) (w : Swap) : State :=
  let m := w.model
  let gen := Man.gen w.manifest
  let t := s.wr R.wgtGen gen p m
  let t := t.setWgt (wgtIx p m) { t.wgt (wgtIx p m) with manifest := w.manifest }
  let pages := t.pages.foldl (fun (a : Tab KvPage) e =>
    if e.1 / 2097152 = p then Tab.put {} a e.1 (e.2.outdated m gen) else a) t.pages
  let reqs := t.reqs.map fun e =>
    if e.2.pav = p ∧ e.2.model = m then (e.1, { e.2 with wgenAdm := gen, classChanged := true }) else e
  let t : State := { t with pages := pages, reqs := reqs }
  let t := t.setPav p { t.pav p with lostWeights := false }
  (t.leaveSwap p).endSwap p w Code.swapDone gen

/-- The highest unit of a list. -/
def topUnit (l : List Nat) : Nat := l.foldl max 0

/-- The swap rolls back: copied units are restored, the highest first (R390). -/
def State.rollBack (s : State) (p : Nat) (w : Swap) : State :=
  if w.copied.isEmpty then (s.leaveSwap p).endSwap p w Code.swapRolledBack 0
  else s.nextUnit p { w with back := true } (topUnit w.copied)

/-- A verified unit: its copy begins at once while steps are held, or where no step runs (R386, R387). -/
def State.unitVerified (s : State) (p : Nat) (w : Swap) : State :=
  let now := (s.pav p).held || !(s.pav p).st.active
  s.setPav p { s.pav p with swap := some { w with stage := if now then .copying else .verified } }

/-- A staged shard's attempts are spent. -/
def Shard.failedOut (h : Shard) : Bool := !h.verified && decide (3 ≤ h.reads)

/-- The leaves of a staged shard whose attempts are spent that could not be restored: those a receiver has not accepted; of a
shard read from flash, whose root alone is judged, every leaf (R378, R394; log 41). -/
def Shard.unrestored (h : Shard) (n : Nat) : List Nat := (List.range n).filter fun k => !h.got.contains k

/-- SWAP_UNIT_VERIFIED (R385 to R387, R390, R394): every shard of the unit is verified, or one cannot be. -/
def execSwapUnitVerified (pav : Nat) (s : State) : Res :=
  match (s.pav pav).swap with
  | none => ok s
  | some w =>
    let is := s.unitShards pav w
    let h (i : Nat) : Shard := Tab.get {} w.staged i
    let bad := is.filter fun i => (h i).failedOut
    if w.stage ≠ .staging then ok s
    else if w.back then
      if is.all (fun i => (h i).verified || (h i).failedOut) then
        let b := s.stagedManifest pav w
        ok ((bad.foldl (fun (u : State) i => u.loseLeaves pav w.model i ((h i).unrestored (Man.leaves b i))) s).unitVerified pav w)
      else ok s
    else if !bad.isEmpty then ok (s.rollBack pav w)
    else if is.all (fun i => (h i).verified) then ok (s.unitVerified pav w)
    else ok s

/-- A staged shard is copied over its place, with its leaf table (R385); in a rollback, the leaves that could be restored of one
that could not be verified (R394). -/
def State.copyShard (s : State) (p : Nat) (w : Swap) (b : List Byte) (i : Nat) : State :=
  let x : Shard := Tab.get {} w.staged i
  let h := s.shard p w.model i
  let a := s.stageAt p b i
  if x.verified then
    let t := s.writeShard h h.addr (Mem.read s.mem a (Man.size b i))
    (t.writeTable h x.leaves).setShard p w.model i { h with lostLeaves := [] }
  else if w.back && !x.got.isEmpty then
    x.got.foldl (fun (u : State) k =>
      u.writeShard h (h.leafAt k) (Mem.read s.mem (a + 65536 * k) (Man.leafLen b i k))) (s.writeTable h x.leaves)
  else s

/-- SWAP_UNIT_COPIED (R385 to R388, R390). -/
def execSwapUnitCopied (pav : Nat) (evs : List (Nat × MemEvent)) (s0 : State) : Res :=
  match (s0.pav pav).swap with
  | none => ok s0
  | some w =>
    let s := s0.hbmEvents evs
    if w.stage ≠ .copying then ok s0
    else
      let b := s.stagedManifest pav w
      let t := (s.unitShards pav w).foldl (fun (u : State) i => u.copyShard pav w b i) s
      if w.back then
        let left := w.copied.filter (· != w.unit)
        ok (t.rollBack pav { w with copied := left })
      else
        let w2 : Swap := { w with copied := w.copied ++ [w.unit] }
        match (Man.units b).find? (fun u => decide (w.unit < u)) with
        | some u => ok (t.nextUnit pav w2 u)
        | none => ok (t.swapDone pav w2)

end Sys2Proof.Machine
end

