-- ==== Sys2Proof/Machine/Events.lean ====
section
/-! DEFINITION. The events scheduled in device time, and their order (R78, R82, R83, R84): whatever is due before an event, by
its scheduled tick and then by the table "Events in one tick — order", takes effect before it. -/
namespace Sys2Proof.Machine
open Sys2Proof

/-- The scheduled events of R83 that can be due. -/
inductive Due where
  | broadcast | boundary | deadline (req : Nat) | ttl | scrub | window
  deriving DecidableEq, Repr

/-- The place of an event: its scheduled tick, its order in the table of R83, an index (R78, R83). -/
def turnAt (tick order i : Nat) : List Int := [tick, order, i]

/-- The events that are due, each with its place. Periodic events and those a step owes are due at the present tick (R78). -/
def State.dues (s : State) : List (List Int × Due) :=
  (if s.bcastDue then [(turnAt s.bcast.start 2 0, .broadcast)] else []) ++
  (if s.serving && s.cadDue then [(turnAt s.time 3 0, .boundary)] else []) ++
  ((s.reqs.map (·.1)).filter s.deadlineDue).map (fun i => (turnAt ((s.req i).deadline.getD 0) 6 i, .deadline i)) ++
  (if s.ttlDue then [(turnAt s.time 7 0, .ttl)] else []) ++
  (if s.serving && s.scrubDue then [(turnAt s.time 8 0, .scrub)] else []) ++
  (if s.windowDue then [(turnAt (s.upd.windowEnd.getD 0) 9 0, .window)] else [])

/-- An event takes effect, if it is still due. -/
def State.takeDue (s : State) : Due → State
  | .broadcast => if s.bcastDue then s.bcastStart else s
  | .boundary => if s.serving && s.cadDue then s.boundary else s
  | .deadline i => if s.deadlineDue i then s.missDeadline i else s
  | .ttl => if s.ttlDue then s.ttlCheck else s
  | .scrub => if s.serving && s.scrubDue then s.scrubStart else s
  | .window => if s.windowDue then s.windowEnds else s

/-- The events due before a place, in their order. -/
def State.before (s : State) (at' : List Int) : List Due :=
  ((sortBy (fun a b => lexLt a.1 b.1) s.dues).filter fun e => lexLt e.1 at').map (·.2)

/-- Whatever is due before a place takes effect (R78, R83). -/
def State.settle (s : State) (at' : List Int) : State := (s.before at').foldl State.takeDue s

/-- CADENCE_BOUNDARY (R82, R83). -/
def execCadenceBoundary (s : State) : Res :=
  onlyIf (s.serving && s.cadDue) s ((s.settle (turnAt s.time 3 0)).takeDue .boundary)

/-- ADMISSION_DECISION: the descriptor at the head of a queue pair's ring is decided, after the flips and the boundary of the
tick (R50, R83, R252). A cancelled one is rejected when its turn comes, or admitted and ended (R462); a LOADING pavilion holds what orders 1 and 2 of
R445 do not reject (R257; log 39); one that needs a random seed waits for the Gatehouse (R535). -/
def execAdmissionDecision (fn q : Nat) (s : State) : Res :=
  let k := fn * 16 + q
  if s.deciding k then
    let t := s.settle (turnAt s.time 5 0)
    onlyIf (t.deciding k) t (t.visited (t.decideAt k) k (t.rd R.qpPavilion k))
  else ok s

/-- DEADLINE_EXPIRY (R277). -/
def execDeadlineExpiry (req : Nat) (s : State) : Res :=
  onlyIf (s.deadlineDue req) s
    ((s.settle (turnAt ((s.req req).deadline.getD 0) 6 req)).takeDue (.deadline req))

/-- KV_TTL_CHECK (R84, R330). -/
def execKvTtlCheck (s : State) : Res := onlyIf s.ttlDue s ((s.settle (turnAt s.time 7 0)).takeDue .ttl)

/-- SCRUB_PASS_START (R78, R373, R374). -/
def execScrubPassStart (s : State) : Res :=
  onlyIf (s.serving && s.scrubDue) s ((s.settle (turnAt s.time 8 0)).takeDue .scrub)

/-- FABRIC_BROADCAST_START (R90, R376). -/
def execFabricBroadcastStart (s : State) : Res :=
  onlyIf s.bcastDue s ((s.settle (turnAt s.bcast.start 2 0)).takeDue .broadcast)

/-- CONFIRM_WINDOW_EXPIRY: fallback cause 0 (R541, R544). -/
def execConfirmWindowExpiry (s : State) : Res :=
  onlyIf s.windowDue s ((s.settle (turnAt (s.upd.windowEnd.getD 0) 9 0)).takeDue .window)

end Sys2Proof.Machine
end

