-- ==== Sys2Proof/Machine/Host.lean ====
section
/-! DEFINITION. The host side: doorbells, queue pairs, events, interrupts, function resets, PERST#, the service port's private
writes and command mailbox (R431 to R443, R449 to R454, R463 to R469, R614). -/
namespace Sys2Proof.Machine
open Sys2Proof

/-- BAR2 and the functions' commands are answered (R431, R467, R471). -/
def State.hostUp (s : State) : Bool := s.barsUp && s.serving && !s.dev.recovery

/-! ### Leaving ENABLED (R438, R442) -/

/-- The resident requests of a queue pair. -/
def State.reqsOfQueue (s : State) (k : Nat) : List Nat := (s.reqs.filter fun e => e.2.queue == k).map (·.1)

/-- A request is cut off from the host and ends at its next step boundary; a failed write is a REQUEST error (R442, R465). -/
def State.cutReq (s : State) (i status : Nat) (dma : Bool) : State :=
  let t := if dma then s.failReq i Code.hostDmaFail else s.markEnd i status
  t.setReq i { t.req i with cut := true }

/-- Undecided descriptors of a queue pair are discarded (R438). -/
def State.discardSq (s : State) (k : Nat) : State :=
  { s.setQp k { s.qp k with sqHead := (s.qp k).sqTail, posted := [] } with cancels := s.cancels.filter fun x => x / 256 != k }

/-- A queue pair enters ERROR: QUEUE_FAULT is notified, its requests end, and its undecided descriptors stay where they are
(R440 to R442, R465). -/
def State.qpError (s : State) (k : Nat) (dma : Bool) : State :=
  let t := s.setQp k { s.qp k with st := .error, draining := false, evbuf := [] }
  let t := t.notify (k / 16) 0
  (t.reqsOfQueue k).foldl (fun (u : State) i => u.cutReq i Code.queueClosed dma) t

/-! ### Doorbells (R436, R440, R441) -/

/-- The ticks at which slots from a to b were posted (R257). -/
def postSlots (n now : Nat) (a b : Nat) (t : Tab Nat) : Tab Nat :=
  (List.range ((b + n - a) % max n 1)).foldl (fun (u : Tab Nat) j => Tab.put 0 u ((a + j) % max n 1) now) t

/-- SQ_TAIL_DOORBELL (R440, R441, R443). -/
def execSqTailDoorbell (fn q : Nat) (v : Word32) (s : State) : Res :=
  let k := fn * 16 + q
  let x := s.qp k
  let n := s.rd R.sqSize k
  if s.hostUp = false ∨ x.live = false ∨ v.toNat = x.sqTail then ok s
  else if n ≤ v.toNat then ok (s.qpError k false)
  else
    let t := s.setQp k { x with sqTail := v.toNat, posted := postSlots n s.time x.sqTail v.toNat x.posted }
    ok (if q = 0 then t.pumpAdmin fn 256 else t)

/-- CQ_HEAD_DOORBELL (R441, R451, R453). -/
def execCqHeadDoorbell (fn q : Nat) (v : Word32) (s : State) : Res :=
  let k := fn * 16 + q
  let x := s.qp k
  let n := s.rd R.cqSize k
  let h := v.toNat
  if s.hostUp = false ∨ x.st ≠ .enabled then ok s
  else if n ≤ h ∨ (x.cqTail + n - x.cqHead) % max n 1 < (h + n - x.cqHead) % max n 1 then ok (s.qpError k false)
  else
    ok (s.setQp k { x with
      cqHead := h
      written := if h = x.cqTail then [] else x.written.drop ((h + n - x.cqHead) % max n 1)
      fired := x.fired && h != x.cqTail })

/-! ### Enabling and disabling (R437, R438) -/

/-- Every field of a queue pair lies in its range, and its pavilion is defined (R437, R438). -/
def State.qpFieldsOk (s : State) (k : Nat) : Bool :=
  let cq := s.rd R.cqSize k
  [16, 32, 64, 128, 256].contains (s.rd R.sqSize k)
    && s.rd R.cqBase k % 4096 == 0
    && decide (64 ≤ cq) && decide (cq ≤ 65536) && 2 ^ Nat.log2 cq == cq
    && decide (s.rd R.qpVector k ≤ 30)
    && decide (1 ≤ s.rd R.coalCount k)
    && (k % 16 == 0 || s.defined (s.rd R.qpPavilion k))

/-- A queue pair as ENABLE = 1 leaves it (R438). -/
def Qp.enabledNow (q : Qp) (good : Bool) : Qp :=
  { ({} : Qp) with st := if good then .enabled else .error, ring := q.ring }

/-- QP_ENABLE (R438). -/
def execQpEnable (r : Nat) (s : State) : Res :=
  ok (s.own r 16 0x100 .any fun k t =>
    if (t.qp k).st = .disabled then t.setQp k ((t.qp k).enabledNow (t.qpFieldsOk k)) else t)

/-- QP_DISABLE (R438, R442). -/
def execQpDisable (r : Nat) (s : State) : Res :=
  ok (s.own r 16 0x100 .any fun k t =>
    match (t.qp k).st with
    | .disabled => t
    | .error => (t.discardSq k).setQp k { (t.discardSq k).qp k with st := .disabled }
    | .enabled =>
      if (t.qp k).draining then t
      else
        let u := t.discardSq k
        let u := u.setQp k { u.qp k with draining := true }
        (u.reqsOfQueue k).foldl (fun (v : State) i => v.cutReq i Code.queueClosed false) u)

/-- QP_DISABLE_COMPLETE (R438). -/
def execQpDisableComplete (fn q : Nat) (s : State) : Res :=
  let k := fn * 16 + q
  onlyIf ((s.qp k).draining && (s.qp k).evbuf.isEmpty) s
    (s.setQp k { s.qp k with st := .disabled, draining := false })

/-! ### Events and interrupts (R449 to R453) -/

/-- The bytes of an event with the ring's phase (R449, R456). -/
def Ev.bytes (e : Ev) (phase : Bool) : List Byte :=
  bvBytes 16 (if phase then e.w ||| BitVec.ofNat 128 (2 ^ (if e.admin then 56 else 127)) else e.w)

/-- A CQ's vector fires once for the events since the last restart (R453). -/
def State.fireCq (s : State) (k : Nat) : State :=
  State.fire (s.setQp k { s.qp k with fired := true }) (k / 16) (s.rd R.qpVector k)

/-- EVENT_WRITE: the oldest buffered event is written to the CQ, or the write fails (R451, R453, R465). -/
def execEventWrite (fn q : Nat) (okw : Bool) (s : State) : Res :=
  let k := fn * 16 + q
  let x := s.qp k
  let n := s.rd R.cqSize k
  match x.evbuf with
  | [] => ok s
  | e :: rest =>
    let next := if n ≤ x.cqTail + 1 then 0 else x.cqTail + 1
    if x.st ≠ .enabled ∨ s.serving = false ∨ s.barsUp = false ∨ next = x.cqHead then ok s
    else if okw = false then ok (s.qpError k true)
    else
      let t := s.hostOut fn (s.rd R.cqBase k + 16 * x.cqTail) (e.bytes x.phase)
      let t := t.setQp k { x with
        evbuf := rest
        cqTail := next
        phase := if next = 0 then !x.phase else x.phase
        written := x.written ++ [s.time] }
      ok (if s.rd R.coalCount k ≤ x.written.length + 1 ∧ x.fired = false then t.fireCq k else t)

/-- COAL_TIME_EXPIRY (R453). -/
def execCoalTimeExpiry (fn q : Nat) (s : State) : Res :=
  let k := fn * 16 + q
  match (s.qp k).written.head? with
  | none => ok s
  | some t => onlyIf ((s.qp k).st == .enabled && !(s.qp k).fired && s.passed t (s.rd R.coalTime k)) s (s.fireCq k)

/-- MSIX_UNMASK (R453). -/
def execMsixUnmask (fn vec : Nat) (s : State) : Res := onlyIf s.hostUp s (s.unmask fn vec)

/-! ### Resets of functions (R12, R434, R469, R617) -/

/-- The QP registers of a function take their reset values (R617). -/
def State.resetQpRegs (s : State) (fn : Nat) : State :=
  (List.range 16).foldl (fun (t : State) q =>
    fieldsQp.foldl (fun (u : State) f => u.wr f f.reset (fn * 16 + q)) t) s

/-- A reset of one function (R12, R434, R617). FN_TENANTS is image-locked and stays; MSI-X returns to masked (log 29). -/
def State.resetFn (s : State) (fn : Nat) : State :=
  let t := ((s.reqs.filter fun e => e.2.fn == fn).map (·.1)).foldl
    (fun (u : State) i => u.cutReq i Code.functionReset false) s
  let t := ((t.objs.filter fun e => e.2.fn == fn && !e.2.retiring).map (·.1)).foldl (fun (u : State) h => u.deleteObj h none) t
  let t := (t.resetQpRegs fn).wr R.fnNotify 0 fn
  { t with
    qps := t.qps.filter fun e => e.1 / 16 != fn
    cancels := t.cancels.filter fun x => x / 4096 != fn
    accepted := t.accepted.filter fun a => a.src != fn
    msixTab := t.msixTab.filter fun e => e.1 / 128 != fn
    msixPend := t.msixPend.filter fun e => e.1 / 32 != fn
    acc := { t.acc with
      chsel := t.acc.chsel.filter fun e => e.1 % 73 != fn
      latch := t.acc.latch.filter fun e => e.1 % 73 != fn } }

/-- FUNCTION_LEVEL_RESET (R434): one of the PF resets every function. -/
def execFunctionLevelReset (fn : Nat) (s : State) : Res :=
  onlyIf s.barsUp s (if fn = 0 then (List.range 64).foldl State.resetFn s else s.resetFn fn)

/-- PERST_ASSERT (R469): the PCIe controller and its functions are reset. -/
def execPerstAssert (s : State) : Res :=
  ok { (List.range 64).foldl State.resetFn s with dev := { s.dev with perst := true, pcieUp := false } }

/-- PERST_DEASSERT (R469): the link trains, and comes up (log 20). -/
def execPerstDeassert (s : State) : Res :=
  onlyIf s.dev.perst s { s with dev := { s.dev with perst := false, pcieUp := true } }

/-- CONFIG_READY (R431): the device is in LOADING or later. -/
def execConfigReady (s : State) : Res :=
  onlyIf (s.serving || s.dev.st == .shuttered) s { s with dev := { s.dev with cfgReady := true } }

/-! ### The service port (R463, R482, R614) -/

/-- SERVICE_PORT_READY (R482). -/
def execServicePortReady (s : State) : Res :=
  onlyIf (s.dev.st != .dormant) s { s with dev := { s.dev with svcReady := true } }

/-- PLDM_SPDM_READY (R482, R517); never while a self-test has failed (R483). -/
def execPldmSpdmReady (s : State) : Res :=
  onlyIf (s.serving || s.dev.st == .shuttered) s { s with dev := { s.dev with pldmReady := true } }

/-- The command in the service mailbox. -/
def State.svcImage (s : State) : BitVec 1024 :=
  BitVec.ofNat 1024 ((List.range 32).foldl (fun (n : Nat) i => n + s.rd R.svcCmd 0 i * 2 ^ (32 * i)) 0)

/-- DEV_SVC_CTL_GO (R463). -/
def execDevSvcCtlGo (r : Nat) (s : State) : Res :=
  ok (s.own r 0 0x190 .service fun _ t =>
    let c := t.svcImage
    if t.rd R.svcBusy = 1 then t
    else
      let u := t.wr R.svcBusy 1
      if privileged (Ad.opcode c) = false ∨ Ad.dataLen c ≠ 0 then u.deliver 64 (Ad.cid c) Code.notPermitted 0 false
      else if Ad.wellFormed c = false then u.deliver 64 (Ad.cid c) Code.badCommand 0 false
      else { u with accepted := u.accepted ++ [{ src := 64, img := c }] })

/-- What the next private read of the service port returns. -/
def State.setSvcRead (s : State) (v : Option Word32) : State := { s with acc := { s.acc with svcRead := v } }

/-- SVC_PRIVATE_WRITE (R614): a register read or write, or ignored whole. -/
def execSvcPrivateWrite (data : List Byte) (s : State) : Res :=
  let off := fld data 0 4
  let op := fld data 4 1
  if s.dev.svcReady = false then ok s
  else if zeros data 5 3 = false ∨ off % 4 ≠ 0 then ok (s.setSvcRead none)
  else if data.length = 8 ∧ op = 0 then
    ok ((s.busRead 64 off).2.setSvcRead (some (BitVec.ofNat 32 (s.busRead 64 off).1)))
  else if data.length = 12 ∧ op = 1 then ok ((s.regWrite 64 off 4 (BitVec.ofNat 64 (fld data 8 4))).setSvcRead none)
  else ok (s.setSvcRead none)

end Sys2Proof.Machine
end

