-- ==== Sys2Proof/Machine/Power.lean ====
section
/-! DEFINITION. Power, the voltage regulator, temperature, rails and reference clocks (R591 to R599, R604 to R606). -/
namespace Sys2Proof.Machine
open Sys2Proof

/-- Steward 0 runs and a 100 tk reading is due (R471, R595, R597). -/
def State.readingDue (s : State) : Bool := s.serving && !s.dev.recovery && s.time % 100 == 0

/-- POWER_SAMPLE: package power in W; the power-cap limit follows the average of the readings of the last 1,000 tk (R595, R618). -/
def execPowerSample (watts : Nat) (s : State) : Res :=
  let w := s.pwr
  let l := (watts :: w.samples).take 10
  let since := if l.sum * 100 < s.rd R.capW * 95 * l.length then some (w.belowSince.getD s.time) else none
  let t := s.wr R.powerW (min (l.sum / l.length) 1023)
  onlyIf (s.readingDue && !s.sdl.powerDone) s { t with
    sdl := { s.sdl with powerDone := true }
    pwr := { w with
      samples := l
      capDown := w.capDown || decide (s.rd R.capW * l.length < l.sum)
      belowSince := since
      capUp := match since with | some u => s.passed u 10000 | none => false } }

/-- FAST_CAP: the PLOT clock is halved at once (R596). -/
def execFastCap (s : State) : Res :=
  onlyIf (s.locked && s.dev.st != .shuttered && !s.pwr.fastCapped) s
    (State.inc { s.wr R.devPlotMhz (s.rd R.devPlotMhz / 2) with pwr := { s.pwr with fastCapped := true } } R.fastCaps)

/-- AVS_SETPOINT_REACHED: the raise takes effect at the next boundary (R593, R594). -/
def execAvsSetpointReached (s : State) : Res :=
  onlyIf s.pwr.raising.isSome s { s with pwr := { s.pwr with reached := true } }

/-- AVS_FAULT: the lower rate stays, and the previous setpoint returns (R606). -/
def execAvsFault (s : State) : Res :=
  onlyIf (s.pwr.raising.isSome && !s.pwr.reached) s
    (State.emit { s.wr R.avsFault 1 with pwr := { s.pwr with raising := none, vcore := s.pwr.vPrev } } (.avs s.pwr.vPrev))

/-- DEV_PWR_AVS_RETRY (R606). -/
def execDevPwrAvsRetry (r : Nat) (s : State) : Res := ok (s.own r 0 0x10 .pf fun _ t => t.wr R.avsFault 0)

/-- THERM_N follows the temperature (R598). -/
def thermPin (assert tj : Nat) (old : Bool) : Bool :=
  if assert ≤ tj then true else if tj + 5 ≤ assert then false else old

/-- THERMAL_SAMPLE: the hottest sensor in °C; steward 0 moves the thermal limit (R597, R598). -/
def execThermalSample (tj : Nat) (s : State) : Res :=
  let t : State := { s with dev := { s.dev with thermN := thermPin (s.rd R.assertC) tj s.dev.thermN } }
  let u := t.wr R.tj (min tj 255)
  onlyIf (s.dev.st != .dormant) s
    (if s.readingDue then
      { u with pwr := { u.pwr with thermDown := decide (s.rd R.throttleC ≤ tj), thermUp := decide (tj + 3 ≤ s.rd R.throttleC) } }
     else t)

/-- THERMAL_TRIP: every clock but AON stops; DORMANT is held, THERM_N asserted, nothing recorded (R599). -/
def execThermalTrip (s : State) : Res :=
  let t := s.toDormant s.dev.rstLow
  onlyIf (s.dev.st != .dormant) s { t with dev := { t.dev with tripHold := true, thermN := true } }

/-- THERM_N_RELEASE_AFTER_TRIP (R598). -/
def execThermNReleaseAfterTrip (tj : Nat) (s : State) : Res :=
  onlyIf (s.dev.st == .dormant && s.dev.tripHold && decide (tj < 95)) s { s with dev := { s.dev with thermN := false } }

/-- RAIL_UNDERVOLTAGE: the device resets itself, nothing recorded (R604). -/
def execRailUndervoltage (s : State) : Res := onlyIf (s.dev.st != .dormant) s s.selfReset

/-- AON_OSCILLATOR_STOP (R605). -/
def execAonOscillatorStop (s : State) : Res := onlyIf (s.dev.st != .dormant) s s.selfReset

/-- TVL_REFCLK_LOSS: every port goes DOWN; no codeword leaves without the clock (R404, R427, R605). -/
def execTvlRefclkLoss (s : State) : Res := ok (s.allPortsDown 0xFF false)

/-- PCIE_REFCLK_LOSS: the PCIe link goes down, the device state is unchanged (R605). -/
def execPcieRefclkLoss (s : State) : Res := ok { s with dev := { s.dev with pcieUp := false } }

end Sys2Proof.Machine
end

