-- ==== Sys2Proof/Machine/Nand.lean ====
section
/-! DEFINITION. Flash maintenance through NAND_MAINT (R601, R602, R632, R633). -/
namespace Sys2Proof.Machine
open Sys2Proof

/-- Flash ranges of the shards a manifest names: FLASH_ADDR and SIZE (R366). -/
def Man.flash (b : List Byte) : List (Nat × Nat) :=
  (List.range (Man.count b)).map fun i => (fld (Man.entry b i) 16 8, Man.size b i)

/-- Bytes of a manifest (R366); one that has not been read counts as its header. -/
def Man.bytes (b : List Byte) : Nat := if b.isEmpty then 128 else b.length

/-- The flash ranges of manifests and shards in use, or named by a swap in progress (R602). -/
def State.flashInUse (s : State) : List (Nat × Nat) :=
  (List.range 8).flatMap fun p =>
    ((s.modelsOf p).flatMap fun m =>
      let g := s.wgt (p * 16 + m.id)
      (s.rd R.wgtManifest p m.id, Man.bytes g.named) :: (Man.flash g.named ++ Man.flash g.manifest))
    ++ (match (s.pav p).swap with
        | some w => (w.addr, Man.bytes w.manifest) :: Man.flash w.manifest
        | none => [])

/-- The block a command names holds a protected byte. -/
def State.flashProtected (s : State) (chan ce row : Nat) : Bool :=
  let (a, n) := Config.nandBlock chan ce row
  s.flashInUse.any fun e => meets a n e.1 e.2

/-- A GO of NAND_MAINT with the OP, channel and chip enable it writes: issued or refused; ignored while BUSY (R602, R633). -/
def State.nandStart (s : State) (r op chan ce : Nat) : State :=
  s.own r 15 0 .pf fun _ t =>
    if t.rd R.nandBusy = 1 then t
    else
      let u := ((t.wr R.nandOp op).wr R.nandChannel chan).wr R.nandCe ce
      if u.flashProtected chan ce (u.rd R.nandRow) then u.wr R.maintRefused 1
      else (u.wr R.nandGo 1).wr R.nandBusy 1

/-- NAND_PAGE_PROGRAM. -/
def execNandPageProgram (r chan ce : Nat) (s : State) : Res := ok (s.nandStart r 1 chan ce)

/-- NAND_BLOCK_ERASE. -/
def execNandBlockErase (r chan ce : Nat) (s : State) : Res := ok (s.nandStart r 2 chan ce)

/-- The bytes of the page buffer. -/
def State.pageBuffer (s : State) : List Byte := (List.range 8192).flatMap fun i => leBytes 4 (s.rd R.nandBuf 0 i)

/-- A page is programmed: programming only clears bits of what the page holds (log 53). -/
def State.programPage (s : State) (a : Nat) : State :=
  let d := s.pageBuffer
  { s with flash := Flash.put s.flash a ((List.range d.length).map fun i => d.getD i 0 &&& Flash.rd s.flash (a + i)) }

/-- A block is erased. -/
def State.eraseBlock (s : State) (a n : Nat) : State :=
  { s with flash := s.flash.filter fun e => !(decide (a ≤ e.1) && decide (e.1 < a + n)) }

/-- What a failed command leaves in its range is free (log 1). -/
def State.spoilFlash (s : State) (a n : Nat) : State :=
  State.tickFree { s with flash := Flash.put s.flash a ((List.range n).map fun i => Config.freeByte s.freeCtr i) }

/-- NAND_MAINT_COMPLETE: BUSY clears; a command that fails sets FAIL (R632, R633). -/
def execNandMaintComplete (okm : Bool) (s : State) : Res :=
  let chan := s.rd R.nandChannel
  let ce := s.rd R.nandCe
  let row := s.rd R.nandRow
  let page := Config.nandPage chan ce row
  let (a, n) := Config.nandBlock chan ce row
  let t :=
    if s.rd R.nandOp = 1 then (if okm then s.programPage page else s.spoilFlash page 32768)
    else (if okm then s.eraseBlock a n else s.spoilFlash a n)
  let t := if okm then t else t.wr R.nandFail 1
  onlyIf (s.rd R.nandBusy == 1) s ((t.wr R.nandGo 0).wr R.nandBusy 0)

end Sys2Proof.Machine
end

