-- ==== Sys2Proof/Machine/Dispatch.lean ====
section
/-! DEFINITION. The meaning of each command: one arm per constructor. -/
namespace Sys2Proof.Machine
open Sys2Proof

def exec (i : Instr) (s : State) : Host.Outcome State Fault Refusal :=
  match i with
  | .registerWrite r off size v => Sys2Proof.Machine.execRegisterWrite r off size v s
  | .chselWrite r blk v => Sys2Proof.Machine.execChselWrite r blk v s
  | .svcPrivateWrite data => Sys2Proof.Machine.execSvcPrivateWrite data s
  | .adapterLoad src cid data dmaOk => Sys2Proof.Machine.execAdapterLoad src cid data dmaOk s
  | .adapterDigestCheck rec => Sys2Proof.Machine.execAdapterDigestCheck rec s
  | .adapterDelete src cid => Sys2Proof.Machine.execAdapterDelete src cid s
  | .adapterQuery src cid => Sys2Proof.Machine.execAdapterQuery src cid s
  | .adapterPlace src cid => Sys2Proof.Machine.execAdapterPlace src cid s
  | .adapterSetPrio src cid => Sys2Proof.Machine.execAdapterSetPrio src cid s
  | .sundialReceiverEnable => Sys2Proof.Machine.execSundialReceiverEnable s
  | .sundialFrameEnd => Sys2Proof.Machine.execSundialFrameEnd s
  | .slewComplete => Sys2Proof.Machine.execSlewComplete s
  | .holdover => Sys2Proof.Machine.execHoldover s
  | .sundialLost => Sys2Proof.Machine.execSundialLost s
  | .cadenceBoundary => Sys2Proof.Machine.execCadenceBoundary s
  | .deadlineExpiry req => Sys2Proof.Machine.execDeadlineExpiry req s
  | .kvTtlCheck => Sys2Proof.Machine.execKvTtlCheck s
  | .scrubPassStart => Sys2Proof.Machine.execScrubPassStart s
  | .scrubCheck evs => Sys2Proof.Machine.execScrubCheck evs s
  | .fabricBroadcastStart => Sys2Proof.Machine.execFabricBroadcastStart s
  | .timeForward => Sys2Proof.Machine.execTimeForward s
  | .time port epoch flags offset replayed => Sys2Proof.Machine.execTime port epoch flags offset replayed s
  | .timeFrameMissing port => Sys2Proof.Machine.execTimeFrameMissing port s
  | .msgSend plot insn => Sys2Proof.Machine.execMsgSend plot insn s
  | .msgRecv plot insn => Sys2Proof.Machine.execMsgRecv plot insn s
  | .messageDelivery src dst => Sys2Proof.Machine.execMessageDelivery src dst s
  | .trlMsgStall src dst => Sys2Proof.Machine.execTrlMsgStall src dst s
  | .tcntNext plot insn => Sys2Proof.Machine.execTcntNext plot insn s
  | .tcntArm plot v => Sys2Proof.Machine.execTcntArm plot v s
  | .seqPush plot insn => Sys2Proof.Machine.execSeqPush plot insn s
  | .seqWait plot insn => Sys2Proof.Machine.execSeqWait plot insn s
  | .haloXch plot insn => Sys2Proof.Machine.execHaloXch plot insn s
  | .haloTimeout plot => Sys2Proof.Machine.execHaloTimeout plot s
  | .genSeed plot insn => Sys2Proof.Machine.execGenSeed plot insn s
  | .genRead plot insn => Sys2Proof.Machine.execGenRead plot insn s
  | .mret plot => Sys2Proof.Machine.execMret plot s
  | .fence plot insn => Sys2Proof.Machine.execFence plot insn s
  | .fenceI plot => Sys2Proof.Machine.execFenceI plot s
  | .dwinWrite plot which v => Sys2Proof.Machine.execDwinWrite plot which v s
  | .controllerLoad plot rd addr width signed ev => Sys2Proof.Machine.execControllerLoad plot rd addr width signed ev s
  | .controllerStore plot addr width v => Sys2Proof.Machine.execControllerStore plot addr width v s
  | .storePerform plot ev => Sys2Proof.Machine.execStorePerform plot ev s
  | .atomicAdd plot rd addr width ev => Sys2Proof.Machine.execAtomicAdd plot rd addr width ev s
  | .atomicSwap plot rd addr width ev => Sys2Proof.Machine.execAtomicSwap plot rd addr width ev s
  | .atomicCas plot rd addr width ev => Sys2Proof.Machine.execAtomicCas plot rd addr width ev s
  | .atomicAnd plot rd addr width ev => Sys2Proof.Machine.execAtomicAnd plot rd addr width ev s
  | .atomicOr plot rd addr width ev => Sys2Proof.Machine.execAtomicOr plot rd addr width ev s
  | .atomicXor plot rd addr width ev => Sys2Proof.Machine.execAtomicXor plot rd addr width ev s
  | .atomicMaxu plot rd addr width ev => Sys2Proof.Machine.execAtomicMaxu plot rd addr width ev s
  | .atomicMinu plot rd addr width ev => Sys2Proof.Machine.execAtomicMinu plot rd addr width ev s
  | .plotStart r => Sys2Proof.Machine.execPlotStart r s
  | .plotStop r => Sys2Proof.Machine.execPlotStop r s
  | .plotCtlStatClr r => Sys2Proof.Machine.execPlotCtlStatClr r s
  | .plotLoadGo r => Sys2Proof.Machine.execPlotLoadGo r s
  | .plotLoadComplete plot evs => Sys2Proof.Machine.execPlotLoadComplete plot evs s
  | .plotInj r v => Sys2Proof.Machine.execPlotInj r v s
  | .plotMemData r write v => Sys2Proof.Machine.execPlotMemData r write v s
  | .plotRetire plot => Sys2Proof.Machine.execPlotRetire plot s
  | .matmul plot draws evs => Sys2Proof.Machine.execMatmul plot draws evs s
  | .adaptShrink plot draws evs => Sys2Proof.Machine.execAdaptShrink plot draws evs s
  | .adaptExpand plot draws evs => Sys2Proof.Machine.execAdaptExpand plot draws evs s
  | .eltwise plot draws evs => Sys2Proof.Machine.execEltwise plot draws evs s
  | .table plot draws evs => Sys2Proof.Machine.execTable plot draws evs s
  | .reduce plot draws evs => Sys2Proof.Machine.execReduce plot draws evs s
  | .softmaxRows plot draws evs => Sys2Proof.Machine.execSoftmaxRows plot draws evs s
  | .normRows plot draws evs => Sys2Proof.Machine.execNormRows plot draws evs s
  | .gather plot draws evs => Sys2Proof.Machine.execGather plot draws evs s
  | .scatter plot draws evs => Sys2Proof.Machine.execScatter plot draws evs s
  | .conv1d plot draws evs => Sys2Proof.Machine.execConv1d plot draws evs s
  | .copy plot draws evs => Sys2Proof.Machine.execCopy plot draws evs s
  | .pad plot draws evs => Sys2Proof.Machine.execPad plot draws evs s
  | .barrier plot => Sys2Proof.Machine.execBarrier plot s
  | .barrierTimeout plot => Sys2Proof.Machine.execBarrierTimeout plot s
  | .macroOpComplete plot => Sys2Proof.Machine.execMacroOpComplete plot s
  | .executionFault plot => Sys2Proof.Machine.execExecutionFault plot s
  | .injectedMacroOp plot evs => Sys2Proof.Machine.execInjectedMacroOp plot evs s
  | .hbmHome r v => Sys2Proof.Machine.execHbmHome r v s
  | .homeChangeComplete granule => Sys2Proof.Machine.execHomeChangeComplete granule s
  | .cfmPageRead page authOk => Sys2Proof.Machine.execCfmPageRead page authOk s
  | .cfmLinkDown port => Sys2Proof.Machine.execCfmLinkDown port s
  | .coldFrameHotEnumeration port raw => Sys2Proof.Machine.execColdFrameHotEnumeration port raw s
  | .sqTailDoorbell fn q v => Sys2Proof.Machine.execSqTailDoorbell fn q v s
  | .admissionDecision fn q => Sys2Proof.Machine.execAdmissionDecision fn q s
  | .holdLimitExpiry fn q => Sys2Proof.Machine.execHoldLimitExpiry fn q s
  | .aging req => Sys2Proof.Machine.execAging req s
  | .stepBoundary pav mpf mdec lens tiling => Sys2Proof.Machine.execStepBoundary pav mpf mdec lens tiling s
  | .pavOpen src cid => Sys2Proof.Machine.execPavOpen src cid s
  | .pavDrain src cid => Sys2Proof.Machine.execPavDrain src cid s
  | .drainLimitExpiry pav => Sys2Proof.Machine.execDrainLimitExpiry pav s
  | .commitPoint req => Sys2Proof.Machine.execCommitPoint req s
  | .spillPageWrite req ok evs => Sys2Proof.Machine.execSpillPageWrite req ok evs s
  | .pageInRead req => Sys2Proof.Machine.execPageInRead req s
  | .selection req draft logits => Sys2Proof.Machine.execSelection req draft logits s
  | .listLoad src cid data dmaOk => Sys2Proof.Machine.execListLoad src cid data dmaOk s
  | .grammarLoad src cid data dmaOk => Sys2Proof.Machine.execGrammarLoad src cid data dmaOk s
  | .selObjDelete src cid => Sys2Proof.Machine.execSelObjDelete src cid s
  | .selCtlClear r => Sys2Proof.Machine.execSelCtlClear r s
  | .weightSwap src cid => Sys2Proof.Machine.execWeightSwap src cid s
  | .weightQuery src cid => Sys2Proof.Machine.execWeightQuery src cid s
  | .manifestVerify pav model data => Sys2Proof.Machine.execManifestVerify pav model data s
  | .shardVerify pav model idx data => Sys2Proof.Machine.execShardVerify pav model idx data s
  | .shardInPlace pav model idx => Sys2Proof.Machine.execShardInPlace pav model idx s
  | .leafRestored pav model idx leaf data => Sys2Proof.Machine.execLeafRestored pav model idx leaf data s
  | .broadcastAnnounce start => Sys2Proof.Machine.execBroadcastAnnounce start s
  | .broadcastLeaf item => Sys2Proof.Machine.execBroadcastLeaf item s
  | .shardEndMarker pav model idx => Sys2Proof.Machine.execShardEndMarker pav model idx s
  | .swapUnitVerified pav => Sys2Proof.Machine.execSwapUnitVerified pav s
  | .swapUnitCopied pav evs => Sys2Proof.Machine.execSwapUnitCopied pav evs s
  | .numberedCodeword port prev msg errs arrival replayed => Sys2Proof.Machine.execNumberedCodeword port prev msg errs arrival replayed s
  | .linkAck port seq => Sys2Proof.Machine.execLinkAck port seq s
  | .linkNak port seq => Sys2Proof.Machine.execLinkNak port seq s
  | .credit port c0 c1 c2 => Sys2Proof.Machine.execCredit port c0 c1 c2 s
  | .ready port dom devId peerPort c0 c1 c2 epoch salt => Sys2Proof.Machine.execReady port dom devId peerPort c0 c1 c2 epoch salt s
  | .delayReq port t1 t2 t3 => Sys2Proof.Machine.execDelayReq port t1 t2 t3 s
  | .delayRsp port t1 t2 t3 t4 => Sys2Proof.Machine.execDelayRsp port t1 t2 t3 t4 s
  | .delayReqTimer port t1 => Sys2Proof.Machine.execDelayReqTimer port t1 s
  | .laneWindowEnd port lane count => Sys2Proof.Machine.execLaneWindowEnd port lane count s
  | .laneSwapReq port lane => Sys2Proof.Machine.execLaneSwapReq port lane s
  | .laneSwap port lane seq => Sys2Proof.Machine.execLaneSwap port lane seq s
  | .keyRoll port epoch => Sys2Proof.Machine.execKeyRoll port epoch s
  | .down port reason => Sys2Proof.Machine.execDown port reason s
  | .reservedControlSymbol port typ => Sys2Proof.Machine.execReservedControlSymbol port typ s
  | .packetSend head payload => Sys2Proof.Machine.execPacketSend head payload s
  | .put port head data tag stomp crc => Sys2Proof.Machine.execPut port head data tag stomp crc s
  | .msg port head data tag stomp crc => Sys2Proof.Machine.execMsg port head data tag stomp crc s
  | .ack port head data tag stomp crc => Sys2Proof.Machine.execAck port head data tag stomp crc s
  | .multicastPacket port head data tag stomp crc => Sys2Proof.Machine.execMulticastPacket port head data tag stomp crc s
  | .e2eTimeout xid => Sys2Proof.Machine.execE2eTimeout xid s
  | .trainingStart => Sys2Proof.Machine.execTrainingStart s
  | .trainingComplete port => Sys2Proof.Machine.execTrainingComplete port s
  | .lossOfCodewordLock port => Sys2Proof.Machine.execLossOfCodewordLock port s
  | .retrainAttempt port ok => Sys2Proof.Machine.execRetrainAttempt port ok s
  | .tvlPortRetrain r => Sys2Proof.Machine.execTvlPortRetrain r s
  | .perstAssert => Sys2Proof.Machine.execPerstAssert s
  | .perstDeassert => Sys2Proof.Machine.execPerstDeassert s
  | .configReady => Sys2Proof.Machine.execConfigReady s
  | .functionLevelReset fn => Sys2Proof.Machine.execFunctionLevelReset fn s
  | .cqHeadDoorbell fn q v => Sys2Proof.Machine.execCqHeadDoorbell fn q v s
  | .qpEnable r => Sys2Proof.Machine.execQpEnable r s
  | .qpDisable r => Sys2Proof.Machine.execQpDisable r s
  | .qpDisableComplete fn q => Sys2Proof.Machine.execQpDisableComplete fn q s
  | .promptReadComplete req tokens ok => Sys2Proof.Machine.execPromptReadComplete req tokens ok s
  | .eventWrite fn q ok => Sys2Proof.Machine.execEventWrite fn q ok s
  | .coalTimeExpiry fn q => Sys2Proof.Machine.execCoalTimeExpiry fn q s
  | .msixUnmask fn vec => Sys2Proof.Machine.execMsixUnmask fn vec s
  | .reqCancel src cid => Sys2Proof.Machine.execReqCancel src cid s
  | .devSvcCtlGo r => Sys2Proof.Machine.execDevSvcCtlGo r s
  | .rstNAssert => Sys2Proof.Machine.execRstNAssert s
  | .rstNRelease railsOk => Sys2Proof.Machine.execRstNRelease railsOk s
  | .fuseReadComplete vfuseOk => Sys2Proof.Machine.execFuseReadComplete vfuseOk s
  | .selfTestComplete ok => Sys2Proof.Machine.execSelfTestComplete ok s
  | .imageHeaderRead => Sys2Proof.Machine.execImageHeaderRead s
  | .imageVerify reread => Sys2Proof.Machine.execImageVerify reread s
  | .enterLoading bistFail hbmNeed raw0 raw1 fail0 fail1 => Sys2Proof.Machine.execEnterLoading bistFail hbmNeed raw0 raw1 fail0 fail1 s
  | .getVersion => Sys2Proof.Machine.execGetVersion s
  | .getCapabilities => Sys2Proof.Machine.execGetCapabilities s
  | .negotiateAlgorithms => Sys2Proof.Machine.execNegotiateAlgorithms s
  | .getDigests => Sys2Proof.Machine.execGetDigests s
  | .getCertificate slot => Sys2Proof.Machine.execGetCertificate slot s
  | .challenge nonce => Sys2Proof.Machine.execChallenge nonce s
  | .getMeasurements block => Sys2Proof.Machine.execGetMeasurements block s
  | .keyExchange sid => Sys2Proof.Machine.execKeyExchange sid s
  | .finish sid rootDigest => Sys2Proof.Machine.execFinish sid rootDigest s
  | .heartbeat sid => Sys2Proof.Machine.execHeartbeat sid s
  | .keyUpdate sid => Sys2Proof.Machine.execKeyUpdate sid s
  | .endSession sid => Sys2Proof.Machine.execEndSession sid s
  | .setFabricMasterKey sid key => Sys2Proof.Machine.execSetFabricMasterKey sid key s
  | .zeroise sid => Sys2Proof.Machine.execZeroise sid s
  | .debugUnlock sid => Sys2Proof.Machine.execDebugUnlock sid s
  | .spdmUnsupportedRequest code => Sys2Proof.Machine.execSpdmUnsupportedRequest code s
  | .selfTestOnDemand ok => Sys2Proof.Machine.execSelfTestOnDemand ok s
  | .entropyHealthFail restartOk => Sys2Proof.Machine.execEntropyHealthFail restartOk s
  | .entdaa addr => Sys2Proof.Machine.execEntdaa addr s
  | .setEndpointId eid => Sys2Proof.Machine.execSetEndpointId eid s
  | .getEndpointId => Sys2Proof.Machine.execGetEndpointId s
  | .getEndpointUuid => Sys2Proof.Machine.execGetEndpointUuid s
  | .getMctpVersionSupport => Sys2Proof.Machine.execGetMctpVersionSupport s
  | .getMessageTypeSupport => Sys2Proof.Machine.execGetMessageTypeSupport s
  | .getTid => Sys2Proof.Machine.execGetTid s
  | .getPldmVersion => Sys2Proof.Machine.execGetPldmVersion s
  | .getPldmTypes => Sys2Proof.Machine.execGetPldmTypes s
  | .getPldmCommands typ => Sys2Proof.Machine.execGetPldmCommands typ s
  | .getPdrRepositoryInfo => Sys2Proof.Machine.execGetPdrRepositoryInfo s
  | .getPdr handle => Sys2Proof.Machine.execGetPdr handle s
  | .getSensorReading sensor value => Sys2Proof.Machine.execGetSensorReading sensor value s
  | .getStateSensorReadings sensor => Sys2Proof.Machine.execGetStateSensorReadings sensor s
  | .queryDeviceIdentifiers => Sys2Proof.Machine.execQueryDeviceIdentifiers s
  | .getFirmwareParameters => Sys2Proof.Machine.execGetFirmwareParameters s
  | .requestUpdate => Sys2Proof.Machine.execRequestUpdate s
  | .passComponentTable => Sys2Proof.Machine.execPassComponentTable s
  | .updateComponent kind => Sys2Proof.Machine.execUpdateComponent kind s
  | .requestFirmwareData data progOk => Sys2Proof.Machine.execRequestFirmwareData data progOk s
  | .verifyComplete => Sys2Proof.Machine.execVerifyComplete s
  | .applyComplete => Sys2Proof.Machine.execApplyComplete s
  | .activateFirmware selfContained vfuseOk => Sys2Proof.Machine.execActivateFirmware selfContained vfuseOk s
  | .getStatus => Sys2Proof.Machine.execGetStatus s
  | .cancelUpdateComponent => Sys2Proof.Machine.execCancelUpdateComponent s
  | .cancelUpdate => Sys2Proof.Machine.execCancelUpdate s
  | .pldmUnsupportedCommand cmd => Sys2Proof.Machine.execPldmUnsupportedCommand cmd s
  | .updateTimeout => Sys2Proof.Machine.execUpdateTimeout s
  | .hitlessActivationStart => Sys2Proof.Machine.execHitlessActivationStart s
  | .gatehouseServicesResume => Sys2Proof.Machine.execGatehouseServicesResume s
  | .stewardHandover stw => Sys2Proof.Machine.execStewardHandover stw s
  | .stewardResume stw => Sys2Proof.Machine.execStewardResume stw s
  | .resumeTimeout stw => Sys2Proof.Machine.execResumeTimeout stw s
  | .confirmWindowExpiry => Sys2Proof.Machine.execConfirmWindowExpiry s
  | .hitlessFallbackStart => Sys2Proof.Machine.execHitlessFallbackStart s
  | .updateAbandoned => Sys2Proof.Machine.execUpdateAbandoned s
  | .errCtlHipClr r => Sys2Proof.Machine.execErrCtlHipClr r s
  | .errCtlOvfClr r => Sys2Proof.Machine.execErrCtlOvfClr r s
  | .errRingRd r v => Sys2Proof.Machine.execErrRingRd r v s
  | .errHandlerTimeout cls => Sys2Proof.Machine.execErrHandlerTimeout cls s
  | .persistentLogWrite ok => Sys2Proof.Machine.execPersistentLogWrite ok s
  | .repairRecordWrite ok => Sys2Proof.Machine.execRepairRecordWrite ok s
  | .macResidueFail plot => Sys2Proof.Machine.execMacResidueFail plot s
  | .repairCtlRetire r v => Sys2Proof.Machine.execRepairCtlRetire r v s
  | .repairCtlLaneClr r v => Sys2Proof.Machine.execRepairCtlLaneClr r v s
  | .agingSample margins => Sys2Proof.Machine.execAgingSample margins s
  | .devCtlRouteTieClr r => Sys2Proof.Machine.execDevCtlRouteTieClr r s
  | .dirCtlClearTieCount r => Sys2Proof.Machine.execDirCtlClearTieCount r s
  | .dirCtlClearColdReads r => Sys2Proof.Machine.execDirCtlClearColdReads r s
  | .dirCtlClearSatCount r => Sys2Proof.Machine.execDirCtlClearSatCount r s
  | .powerSample watts => Sys2Proof.Machine.execPowerSample watts s
  | .avsSetpointReached => Sys2Proof.Machine.execAvsSetpointReached s
  | .avsFault => Sys2Proof.Machine.execAvsFault s
  | .devPwrAvsRetry r => Sys2Proof.Machine.execDevPwrAvsRetry r s
  | .fastCap => Sys2Proof.Machine.execFastCap s
  | .thermalSample tj => Sys2Proof.Machine.execThermalSample tj s
  | .thermalTrip => Sys2Proof.Machine.execThermalTrip s
  | .railUndervoltage => Sys2Proof.Machine.execRailUndervoltage s
  | .aonOscillatorStop => Sys2Proof.Machine.execAonOscillatorStop s
  | .tvlRefclkLoss => Sys2Proof.Machine.execTvlRefclkLoss s
  | .pcieRefclkLoss => Sys2Proof.Machine.execPcieRefclkLoss s
  | .nandPageProgram r chan ce => Sys2Proof.Machine.execNandPageProgram r chan ce s
  | .nandBlockErase r chan ce => Sys2Proof.Machine.execNandBlockErase r chan ce s
  | .nandMaintComplete ok => Sys2Proof.Machine.execNandMaintComplete ok s
  | .sundialEdge missing period high => Sys2Proof.Machine.execSundialEdge missing period high s
  | .hbmLaneWindowStart => Sys2Proof.Machine.execHbmLaneWindowStart s
  | .servicePortReady => Sys2Proof.Machine.execServicePortReady s
  | .pldmSpdmReady => Sys2Proof.Machine.execPldmSpdmReady s
  | .thermNReleaseAfterTrip tj => Sys2Proof.Machine.execThermNReleaseAfterTrip tj s
  | .lowHalfRead r off => Sys2Proof.Machine.execLowHalfRead r off s

end Sys2Proof.Machine
end

