-- ==== Sys2Proof/Safety.lean ====
section
/-! DEFINITION. What counts as a sound state and a completed command, in the terms the statements use. -/
namespace Sys2Proof.Machine
open Sys2Proof

/-- A command completes: it answers a next state. -/
def Completes (c : Instr) (s : State) : Prop := ∃ t, exec c s = .next t

/-- The canonical form of the flash. -/
def Flash.wf (m : List Host.Cell) : Bool := Tab.wf erased m

/-- The indexes of a table rise strictly. -/
def Tab.Rises {α : Type} (t : Tab α) : Prop := (Tab.keys t).Pairwise (· < ·)

/-- Memory, flash and register file are in their one canonical form, so equal contents are equal data. -/
structure Sound (s : State) : Prop where
  mem : Memory.wf s.mem = true
  flash : Flash.wf s.flash = true
  regs : Tab.Rises s.regs

/-- Nothing changes but the plots, and of them only one. -/
def OnlyPlot (p : Nat) (s t : State) : Prop := t = { s with plots := t.plots } ∧ ∀ j, j ≠ p → t.plot j = s.plot j

/-- A controller completes an instruction of n bytes (R98, log 16): rd takes the value unless it is x0, which reads 0; every other
register and CSR keeps its value; the pc moves to the next instruction. -/
def Retired (rd : Nat) (v : Word32) (c d : Cpu) (n : Nat := 4) : Prop :=
  d.reg 0 = 0 ∧ (rd ≠ 0 → d.reg rd = v) ∧ (∀ i, i ≠ rd → d.reg i = c.reg i) ∧ d = { c with x := d.x, pc := c.pc + BitVec.ofNat 32 n }

/-- A controller takes a trap (R129, R130): mepc, mcause and mtval record it, the pc goes to mtvec, and no integer register
changes. -/
def Trapped (cause : Nat) (tval : Word32) (q r : Plot) : Prop :=
  r.inTrap = true ∧ r.cpu.mepc = q.cpu.pc ∧ r.cpu.mcause = BitVec.ofNat 32 cause ∧ r.cpu.mtval = tval
    ∧ r.cpu.pc = q.cpu.mtvec &&& 0xFFFFFFFC ∧ (∀ i, r.cpu.reg i = q.cpu.reg i)
    ∧ r = { q with inTrap := true, cpu := r.cpu }

end Sys2Proof.Machine
end

