-- ==== Sys2Proof/Certificates/Slice0/Obligations.lean ====
section
/-! DEFINITION. The statements for the provers, in the order of OBLIGATIONS.json. Where a docstring names a log entry, that part is
the model's choice. -/
open Sys2Proof Sys2Proof.Machine

/-! ### The whole block -/

/-- A step takes the command at the front of the queue and is its meaning over the queue's rest. -/
def Obligations.StepRunsTheFront : Prop :=
  ∀ (c : Instr) (cs : List Instr) (s : State), s.pending = c :: cs → step s = exec c { s with pending := cs }

/-- The model's choice (log 5): with no command waiting a step is one tick, and no command is invented. A device that does not
serve runs its clocks alone, which sends nothing and changes no memory, register, fuse or NVM record; in DORMANT nothing
happens. -/
def Obligations.EmptyQueueTicks : Prop :=
  ∀ s : State, Sound s → s.pending = [] → step s = .next s.tick ∧ s.tick.pending = [] ∧ s.out <+: s.tick.out
    ∧ (s.dev.st = .dormant → s.tick = s)
    ∧ (s.serving = false → s.tick = s.idle ∧ s.tick.out = s.out ∧ s.tick.mem = s.mem ∧ s.tick.flash = s.flash
        ∧ s.tick.regs = s.regs ∧ s.tick.fuses = s.fuses ∧ s.tick.nvm = s.nvm)

/-- Right after reset the device is DORMANT, no plot runs, every queue pair is DISABLED, every pavilion CLOSED, every Torvol
port DOWN, nothing is listed in memory, and no command waits. -/
def Obligations.ResetState : Prop :=
  State.reset.dev.st = .dormant ∧ State.reset.pending = [] ∧ State.reset.mem = [] ∧ State.reset.flash = []
    ∧ State.reset.time = 0 ∧ State.reset.sdl.st = .search ∧ State.reset.dev.fabricReady = false
    ∧ (∀ p, (State.reset.plot p).run = false) ∧ (∀ k, (State.reset.qp k).st = .disabled)
    ∧ (∀ p, (State.reset.pav p).st = .closed) ∧ (∀ p, (State.reset.port p).st = .down)

/-- The canonical forms hold at reset. -/
def Obligations.SoundAtReset : Prop :=
  Sound State.reset

/-- From every state in canonical form, reachable or not, a step answers a next state in canonical form: no command of the
table stops the device. -/
def Obligations.EveryStepKeepsSound : Prop :=
  ∀ s : State, Sound s → ∃ t, step s = .next t ∧ Sound t

/-- The fused security version never falls, whatever commands a run takes, and no other fuse changes (R523). -/
def Obligations.NoRunLowersTheSecurityVersion : Prop :=
  ∀ (n : Nat) (s : State), Sound s → ∃ t, core.run n s = .next t ∧ s.fuses.sv ≤ t.fuses.sv ∧
    { t.fuses with sv := s.fuses.sv } = s.fuses

/-- A step loses nothing of what the device has sent, takes one command from the queue and adds none. -/
def Obligations.OutputsAndQueueOverAStep : Prop :=
  ∀ s t : State, Sound s → step s = .next t → s.out <+: t.out ∧ t.pending = s.pending.tail

/-! ### Register accesses -/

/-- A 4-byte write takes effect: it leaves in each plain RW field at its offset that the requester may write the written bits
of that field (R7, R612), changes no field whose word it does not reach, no memory, plot or output, and drops the requester's
latched half (R611). (The PLOT window is `PlotWindow`'s, the NAND GO word `FlashMaintenance`'s, the table index registers'
copies are per requester.) A write by a requester that may not write there leaves every register; an access of another size or
alignment is ignored (R611, R613). -/
def Obligations.RegisterWrites : Prop :=
  (∀ (s : State) (r blk inst : Nat) (v : Word64) (f : Field), blk < 18 → blk ≠ 3 → f ∈ fieldsOf blk → f.acc = .rw → f.own = false →
    f.wid ≤ 32 → f.n ≤ 1 → (f.lock = false ∨ s.locked = false) → f.who.admits r = true → (f.blk, f.off) ≠ (5, 0x1004) →
    (f.blk, f.off) ≠ (12, 0x1010) → (blk = 16 → (s.qp inst).st = .disabled) → (blk = 15 → f.off ≠ 0 ∧ s.rd R.nandBusy = 0) →
    s.writable r blk f.off = true → s.instOf r blk f.off = some inst →
    ∃ t, exec (.registerWrite r (blk * 65536 + f.off) 4 v) s = .next t
      ∧ t.rd f inst = v.toNat % 2 ^ 32 / 2 ^ f.lo % 2 ^ f.wid
      ∧ (∀ g k i, (∀ h ∈ fieldsOf blk, (h.hit f.off).isSome = true → ∀ x, g.key k i ≠ h.key inst x) → t.rd g k i = s.rd g k i)
      ∧ t = { s with regs := t.regs, acc := t.acc } ∧ t.acc.chsel = s.acc.chsel)
  ∧ (∀ (s : State) (r off size : Nat) (v : Word64), ¬(size = 4 ∨ size = 8) ∨ off % size ≠ 0 →
      exec (.registerWrite r off size v) s = .next s)
  ∧ (∀ (s : State) (r blk o : Nat) (v : Word64), blk < 18 → blk ≠ 3 → o < 65536 → o % 4 = 0 → s.writable r blk o = true →
      exec (.registerWrite r (blk * 65536 + o) 4 v) s =
        .next ((s.dropLatch r (blk * 65536 + o)).wordWrite r blk o (v.toNat % 2 ^ 32)))
  ∧ (∀ (s : State) (r blk o : Nat) (v : Word64), blk < 18 → o < 65536 → o % 4 = 0 → s.writable r blk o = false →
      exec (.registerWrite r (blk * 65536 + o) 4 v) s = .next (s.dropLatch r (blk * 65536 + o)))

/-- A requester's own copy of a BLOCK_CHSEL changes, and no other requester's and no other block's (R10, R11). A 4-byte read
of the low half of a 64-bit register answers its value and latches the high half for that requester; the requester's next
4-byte read of the high half in that block answers what was latched, whatever the register holds by then (R611). -/
def Obligations.RegisterViews : Prop :=
  (∀ (s : State) (r blk : Nat) (v : Word32), r < 73 → (instances blk).isSome = true → s.writable r blk 0 = true →
    ∃ t, exec (.chselWrite r blk v) s = .next t ∧ t.sel r blk = v.toNat
      ∧ (∀ r' blk', r' < 73 → (r', blk') ≠ (r, blk) → t.sel r' blk' = s.sel r' blk')
      ∧ t.regs = s.regs ∧ t.mem = s.mem ∧ t.plots = s.plots ∧ t.out = s.out)
  ∧ (∀ (s : State) (r off : Nat), r < 73 → off % 4 = 0 → lowHalf off = true → (off + 4) / 65536 = off / 65536 →
    (Tab.get (0, 0) s.acc.latch (off / 65536 * 73 + r)).1 ≠ off →
    ∃ t, exec (.lowHalfRead r off) s = .next t
      ∧ t.out = s.out ++ [.readData r (BitVec.ofNat 64 (s.read32 r off))]
      ∧ t.regs = s.regs ∧ t.mem = s.mem ∧ t.plots = s.plots
      ∧ (∀ u : State, u.acc = t.acc → lowHalf (off + 4) = false →
          ∃ w, exec (.lowHalfRead r (off + 4)) u = .next w
            ∧ w.out = u.out ++ [.readData r (BitVec.ofNat 64 (s.read32 r (off + 4) % 2 ^ 32))]))

/-- A clear command clears its counters and changes nothing else but the requester's latch (R615, R618, R620, R626, R628);
from a requester that may not write the field it changes nothing. -/
def Obligations.ClearCommands : Prop :=
  (∀ (s : State) (r i : Nat), s.target r 3 0x100 .steward = some i →
    ∃ t, exec (.plotCtlStatClr r) s = .next t
      ∧ (∀ f ∈ [R.lateWrites, R.convSat, R.nonfinite, R.accSat, R.padSat, R.tcntWrap], t.rd f i = 0)
      ∧ t = { s with acc := (s.dropLatch r (3 * 65536)).acc, regs := t.regs })
  ∧ (∀ (s : State) (r i : Nat), s.target r 10 0x104 .pf = some i →
      exec (.selCtlClear r) s = .next ((s.dropLatch r (10 * 65536)).clr R.parTies i))
  ∧ (∀ (s : State) (r i : Nat), s.target r 0 0x34 .pf = some i →
      exec (.devCtlRouteTieClr r) s = .next ((s.dropLatch r 0).clr R.routeTies))
  ∧ (∀ (s : State) (r i : Nat), s.target r 9 0x30 .pf = some i →
      exec (.dirCtlClearTieCount r) s = .next ((s.dropLatch r (9 * 65536)).clr R.dirTies)
      ∧ exec (.dirCtlClearColdReads r) s = .next ((s.dropLatch r (9 * 65536)).clr R.coldReads)
      ∧ exec (.dirCtlClearSatCount r) s = .next ((s.dropLatch r (9 * 65536)).clr R.satCount))
  ∧ (∀ (s : State) (r i : Nat), s.target r 12 0x130 .pf = some i →
      exec (.errCtlOvfClr r) s = .next ((s.dropLatch r (12 * 65536)).modBank i fun b => { b with ovf := 0 }))
  ∧ (∀ (s : State) (r : Nat), s.target r 3 0x100 .steward = none → exec (.plotCtlStatClr r) s = .next s)
  ∧ (∀ (s : State) (r : Nat), s.target r 10 0x104 .pf = none → exec (.selCtlClear r) s = .next s)

/-! ### Sundial -/

/-- While LOCKED with no slew in progress a valid tick advances device time by exactly 1, and a bad one counts towards
HOLDOVER and advances it to the nearest whole number of tk (the model's choice, log 71); while not LOCKED a tick only enters
the receiver's record of ticks (R66, R70, R71). Enabling the receiver starts it (R67). -/
def Obligations.SundialEdges : Prop :=
  (∀ (s : State) (period high : Nat), s.sdl.rxEn = true → s.rd R.sdlSrc = 0 → s.sdl.st = .locked → s.sdl.slew = 0 →
      s.sdl.slewOwed = false → s.sdl.refMoved = false → tickSym period high ≠ .invalid →
    ∃ t, exec (.sundialEdge false period high) s = .next t ∧ t.time = (s.time + 1) % 2 ^ 64 ∧ t.sdl.st = .locked
      ∧ t.sdl.bad = 0 ∧ t.sdl.pos = s.sdl.pos + 1 ∧ t.sdl.ticks = (tickSym period high :: s.sdl.ticks).take 128
      ∧ t.regs = s.regs ∧ t.mem = s.mem ∧ t.plots = s.plots ∧ t.out = s.out)
  ∧ (∀ (s : State) (missing : Bool) (period high ns n : Nat), s.sdl.rxEn = true → (missing = true ∨ s.rd R.sdlSrc = 0) →
      s.sdl.st = .locked → s.sdl.slew = 0 → s.sdl.slewOwed = false →
      (missing = true ∨ s.sdl.refMoved = true ∨ tickSym period high = .invalid) → s.time < 2 ^ 64 →
      ns = (if missing then 1020 else min period 1020) → n = (s.sdl.accNs + ns + 500) / 1000 - s.sdl.accTk →
      ∃ t, exec (.sundialEdge missing period high) s = .next t ∧ t.time = (s.time + n) % 2 ^ 64 ∧ t.sdl.st = .locked
        ∧ t.sdl.bad = s.sdl.bad + 1 ∧ t.sdl.pos = s.sdl.pos + n ∧ t.sdl.refMoved = missing
        ∧ t.regs = s.regs ∧ t.mem = s.mem ∧ t.plots = s.plots ∧ t.out = s.out)
  ∧ (∀ (s : State) (missing : Bool) (period high : Nat), s.sdl.rxEn = true → (missing = true ∨ s.rd R.sdlSrc = 0) →
      s.sdl.st ≠ .locked →
      ∃ t, exec (.sundialEdge missing period high) s = .next t ∧ t = { s with sdl := t.sdl }
        ∧ t.sdl.bad = (if missing = true ∨ s.sdl.refMoved = true ∨ tickSym period high = .invalid then s.sdl.bad + 1 else 0)
        ∧ t.sdl.ticks = ((if missing = true ∨ s.sdl.refMoved = true then Sym.invalid else tickSym period high) :: s.sdl.ticks).take 128
        ∧ t.sdl.st = s.sdl.st)
  ∧ (∀ (s : State), s.dev.st ≠ .dormant →
      exec .sundialReceiverEnable s = .next { s with sdl := { s.sdl with rxEn := true } })

/-- The first good frame takes the receiver from SEARCH to ACQUIRING and is kept; the good frame whose epoch follows it by 128
locks it, and at the first lock device time becomes that epoch plus 128 with the lock tick as tick 0 of the following frame
(R74, R79). -/
def Obligations.TwoGoodFramesLock : Prop :=
  (∀ (s : State) (f : Frame), s.sdl.rxEn = true → s.sdl.st = .search → s.sdl.prevEpoch = none → goodFrame s.sdl.ticks = some f →
    ∃ t, exec .sundialFrameEnd s = .next t ∧ t.sdl.st = .acquiring ∧ t.sdl.prevEpoch = some f.epoch ∧ t.time = s.time
      ∧ t.mem = s.mem ∧ t.plots = s.plots ∧ t.errs = s.errs)
  ∧ (∀ (s : State) (f : Frame), s.sdl.rxEn = true → s.sdl.st = .acquiring → s.sdl.everLocked = false → 128 ≤ s.sdl.pos → f.epoch < 2 ^ 64 →
      goodFrame s.sdl.ticks = some f → s.sdl.prevEpoch = some ((f.epoch + 2 ^ 64 - 128) % 2 ^ 64) →
      ∃ t, exec .sundialFrameEnd s = .next t ∧ t.sdl.st = .locked ∧ t.sdl.everLocked = true
        ∧ t.time = (f.epoch + 128) % 2 ^ 64 ∧ t.sdl.slew = s.sdl.slew ∧ t.mem = s.mem)

/-- The loss chain (R74, R88, R89) and the end of a slew (R77): three consecutive bad edges take LOCKED to HOLDOVER, in which
time is still valid; 10,000,000 tk later the receiver is SUNDIAL_LOST and time is invalid; each is a CORRECTED error; and a
slew that has removed its offset ends, with device time left as it is. A TIME symbol on the port that is the time source gives
the frame's ticks to the receiver, its tick 0 placed OFFSET less the link's delay from now, to the nearest tk; of a replayed
codeword it does not; a missing one is regenerated once only, from the frame before it (R420). A device with valid time
forwards, 32 to 96 µs ahead of it, each frame once (R418). -/
def Obligations.TimeLosses : Prop :=
  (∀ s : State, s.sdl.st = .locked → 3 ≤ s.sdl.bad →
    ∃ t, exec .holdover s = .next t ∧ t.sdl.st = .holdover ∧ t.sdl.holdAt = s.time ∧ t.sdl.st.valid = true ∧ t.time = s.time
      ∧ t.mem = s.mem ∧ t.plots = s.plots ∧ (s.serving = true → t.errs.corrected.cnt = satInc32 s.errs.corrected.cnt))
  ∧ (∀ s : State, s.sdl.st = .holdover → (10000000 : Int) ≤ tkFrom s.sdl.holdAt s.time →
      ∃ t, exec .sundialLost s = .next t ∧ t.sdl.st = .lost ∧ t.sdl.st.valid = false ∧ t.time = s.time ∧ t.mem = s.mem
        ∧ t.plots = s.plots ∧ (s.serving = true → t.errs.corrected.cnt = satInc32 s.errs.corrected.cnt)
        ∧ (s.bcast.st = .running → t.bcast.st = .retry))
  ∧ (∀ s : State, s.sdl.slew = 0 →
      ∃ t, exec .slewComplete s = .next t ∧ t.sdl.slew = 0 ∧ t.sdl.slewOwed = false ∧ t.sdl.slewPhase = 0 ∧ t.time = s.time
        ∧ t.sdl.st = s.sdl.st ∧ t = { s with sdl := t.sdl })
  ∧ (∀ (s : State) (port : Nat) (epoch : Word64) (flags : BitVec 16) (offset : Word32), s.timePort port = true →
    ∃ t n, exec (.time port epoch flags offset false) s = .next t
      ∧ n = (((offset.toNat : Int) - s.linkDelay port + 500000) / 1000000).toNat
      ∧ t.sdl.regen = s.sdl.regen.take n ++ List.replicate (n - s.sdl.regen.length) none ++ (frameTicks epoch.toNat flags).map some
      ∧ t.sdl.tvlLast = some (epoch.toNat, flags) ∧ t.sdl.tvlMiss = 0 ∧ t.time = s.time ∧ t = { s with sdl := t.sdl })
  ∧ (∀ (s : State) (port : Nat) (epoch : Word64) (flags : BitVec 16) (offset : Word32),
      exec (.time port epoch flags offset true) s = .next s)
  ∧ (∀ (s : State) (port e : Nat) (f : BitVec 16), s.timePort port = true → s.sdl.tvlLast = some (e, f) → s.sdl.tvlMiss = 0 →
      ∃ t, exec (.timeFrameMissing port) s = .next t
        ∧ t.sdl.regen = s.sdl.regen ++ (frameTicks ((e + 128) % 2 ^ 64) f).map some
        ∧ t.sdl.tvlLast = some ((e + 128) % 2 ^ 64, f) ∧ t.sdl.tvlMiss = 1 ∧ t = { s with sdl := t.sdl })
  ∧ (∀ (s : State) (port : Nat), s.timePort port = true → s.sdl.tvlMiss ≠ 0 → s.sdl.tvlLast ≠ none →
      exec (.timeFrameMissing port) s = .next { s with sdl := { s.sdl with tvlMiss := s.sdl.tvlMiss + 1 } })
  ∧ (∀ (s : State) (e : Nat), s.sdl.st.valid = true → s.rd R.sdlHops ≠ 15 → e = (s.time / 128 + 1) * 128 → 32 ≤ e - s.time →
      e - s.time ≤ 96 → s.sdl.fwdDone ≠ some e →
      ∃ t, exec .timeForward s = .next t ∧ t.sdl.fwdDone = some e ∧ s.out <+: t.out
        ∧ (∀ i, i < 12 → (s.rd R.fwdMask).testBit i = true → (s.port i).linkedUp = true →
            .symbol i 0x08 (timeBody (e % 2 ^ 64) s.fwdFlags (s.timeOffset (e - s.time))) ∈ t.out)
        ∧ t.regs = s.regs ∧ t.mem = s.mem ∧ t.time = s.time ∧ exec .timeForward t = .next t)

/-! ### The plot controller -/

/-- MSG.SEND with room queues the message and writes 0 to rd; MSG.RECV takes the oldest matching message, copies its payload
to rs1 and writes its header to rd, and with NB set and no match writes 0xFFFF_FFFF and copies nothing (R103, R104). Nothing
but the plot changes. -/
def Obligations.MessageInstructions : Prop :=
  (∀ (s : State) (p : Nat) (w : Word32) (a d : Word32), (s.plot p).active = true → In.legal w 0x0B 0 true false = true →
    a = (s.plot p).cpu.reg (In.rs1 w) → d = (s.plot p).cpu.reg (In.rs2 w) →
    bits d 24 8 = 0 → bits d 0 12 ≤ 0x807 → inStore a.toNat (64 * (bits d 12 4 + 1)) 64 = true →
    s.destOk p (bits d 0 12) = true → flitsOf (s.plot p).outq + (bits d 12 4 + 1) ≤ 64 →
    ∃ t m, exec (.msgSend p w) s = .next t ∧ OnlyPlot p s t ∧ (t.plot p).outq = (s.plot p).outq ++ [m]
      ∧ m.src = p ∧ m.dst = bits d 0 12 ∧ m.flits = bits d 12 4 + 1 ∧ m.tag = BitVec.ofNat 8 (bits d 16 8)
      ∧ m.payload = (s.plot p).bytes a.toNat (64 * m.flits)
      ∧ Retired (In.rd w) 0 (s.plot p).cpu (t.plot p).cpu ∧ (t.plot p).store = (s.plot p).store)
  ∧ (∀ (s : State) (p : Nat) (w a d : Word32) (m : Message), (s.plot p).active = true → In.legal w 0x0B 1 true false = true →
      a = (s.plot p).cpu.reg (In.rs1 w) → d = (s.plot p).cpu.reg (In.rs2 w) → bits d 9 23 = 0 →
      inStore a.toNat 64 64 = true → inStore a.toNat (64 * m.flits) 64 = true →
      (s.plot p).inq.find? (Message.matches d) = some m →
      ∃ t, exec (.msgRecv p w) s = .next t ∧ OnlyPlot p s t
        ∧ (t.plot p).inq = dropFirst (Message.matches d) (s.plot p).inq
        ∧ (t.plot p).store = Mem.write (s.plot p).store a.toNat m.payload
        ∧ Retired (In.rd w) m.header (s.plot p).cpu (t.plot p).cpu)
  ∧ (∀ (s : State) (p : Nat) (w a d : Word32), (s.plot p).active = true → In.legal w 0x0B 1 true false = true →
      a = (s.plot p).cpu.reg (In.rs1 w) → d = (s.plot p).cpu.reg (In.rs2 w) → bits d 9 23 = 0 →
      inStore a.toNat 64 64 = true → In.flag w = true → (s.plot p).inq.find? (Message.matches d) = none →
      ∃ t, exec (.msgRecv p w) s = .next t ∧ OnlyPlot p s t ∧ (t.plot p).inq = (s.plot p).inq
        ∧ (t.plot p).store = (s.plot p).store ∧ Retired (In.rd w) 0xFFFFFFFF (s.plot p).cpu (t.plot p).cpu)

/-- A message in the Trellis enters the inbound buffer of its destination plot when it fits, behind those already there; while
it does not fit it stays where it is, and the stall is raised in the PAVILION class; one to a steward enters its mailbox
(R104, R114, R116). -/
def Obligations.MessageDelivery : Prop :=
  (∀ (s : State) (src dst : Nat) (m : Message), (src < 2048 → (s.plot src).outq = []) → dst < 2048 →
    s.trellis.find? (Message.between src dst) = some m → flitsOf (s.plot dst).inq + m.flits ≤ 64 →
    ∃ t, exec (.messageDelivery src dst) s = .next t
      ∧ (t.plot dst).inq = (s.plot dst).inq ++ [m]
      ∧ t.trellis = dropFirst (Message.between src dst) s.trellis
      ∧ (∀ j, j ≠ dst → (t.plot j) = s.plot j) ∧ (t.plot dst).cpu = (s.plot dst).cpu
      ∧ (t.plot dst).store = (s.plot dst).store ∧ t.mem = s.mem ∧ t.regs = s.regs)
  ∧ (∀ (s : State) (src dst : Nat) (m : Message), (src < 2048 → (s.plot src).outq = []) → dst < 2048 → s.serving = true →
      s.trellis.find? (Message.between src dst) = some m → 64 < flitsOf (s.plot dst).inq + m.flits →
      (∃ t, exec (.messageDelivery src dst) s = .next t ∧ t.trellis = s.trellis ∧ ∀ j, t.plot j = s.plot j)
      ∧ ∃ t, exec (.trlMsgStall src dst) s = .next t ∧ t.trellis = s.trellis ∧ (∀ j, t.plot j = s.plot j) ∧ t.mem = s.mem
        ∧ t.rd R.msgStalls = min (s.rd R.msgStalls + 1) (2 ^ R.msgStalls.wid - 1))
  ∧ (∀ (s : State) (src dst : Nat) (m : Message), (src < 2048 → (s.plot src).outq = []) → 2048 ≤ dst →
      s.trellis.find? (Message.between src dst) = some m →
      ∃ t, exec (.messageDelivery src dst) s = .next t ∧ t.mbox = s.mbox ++ [(dst - 2048, m.payload)]
        ∧ t.trellis = dropFirst (Message.between src dst) s.trellis ∧ ∀ j, t.plot j = s.plot j)

/-- TCNT.NEXT returns VALUE in rd and increments it modulo 2^24, or at the limit returns 0xFFFF_FFFF and leaves it; a write of
tcnt_arm sets LIMIT and zeroes VALUE (R117, R118). No other counter and no other state changes. A counter that nothing has
armed since reset is exhausted (R119). -/
def Obligations.TileCounters : Prop :=
  (∀ (s : State) (p : Nat) (w a : Word32) (v l : Nat), (s.plot p).active = true → In.legal w 0x0B 2 false true = true →
    a = (s.plot p).cpu.reg (In.rs1 w) → bits a 4 28 = 0 → s.tc (terrOf p) (bits a 0 4) = (v, l) → v ≠ l →
    ∃ t, exec (.tcntNext p w) s = .next t ∧ t.tc (terrOf p) (bits a 0 4) = ((v + 1) % 2 ^ 24, l)
      ∧ (∀ g c, c < 16 → (g, c) ≠ (terrOf p, bits a 0 4) → t.tc g c = s.tc g c)
      ∧ OnlyPlot p { s with tcnt := t.tcnt } t ∧ Retired (In.rd w) (BitVec.ofNat 32 v) (s.plot p).cpu (t.plot p).cpu)
  ∧ (∀ (s : State) (p : Nat) (w a : Word32) (v : Nat), (s.plot p).active = true → In.legal w 0x0B 2 false true = true →
      a = (s.plot p).cpu.reg (In.rs1 w) → bits a 4 28 = 0 → s.tc (terrOf p) (bits a 0 4) = (v, v) →
      ∃ t, exec (.tcntNext p w) s = .next t ∧ OnlyPlot p s t
        ∧ Retired (In.rd w) 0xFFFFFFFF (s.plot p).cpu (t.plot p).cpu)
  ∧ (∀ (s : State) (p : Nat) (v : Word32), (s.plot p).active = true → bits v 28 4 = 0 →
      ∃ t r, exec (.tcntArm p v) s = .next t ∧ t.tc (terrOf p) (bits v 24 4) = (0, bits v 0 24)
        ∧ (∀ g c, c < 16 → (g, c) ≠ (terrOf p, bits v 24 4) → t.tc g c = s.tc g c)
        ∧ OnlyPlot p { s with tcnt := t.tcnt, freeCtr := t.freeCtr } t
        ∧ Retired ((s.plot p).csrRd 0x7C0) r (s.plot p).cpu (t.plot p).cpu)
  ∧ (∀ (s : State) (p : Nat) (v : Word32), (s.plot p).active = true → (s.plot p).inTrap = false → bits v 28 4 ≠ 0 →
      ∃ t, exec (.tcntArm p v) s = .next t ∧ OnlyPlot p s t ∧ Trapped 26 v (s.plot p) (t.plot p))
  ∧ (∀ g c, State.reset.tc g c = (0, 0)) ∧
  (∀ (s : State) (p : Nat) (w a : Word32), (s.plot p).active = true → In.legal w 0x0B 2 false true = true →
    a = (s.plot p).cpu.reg (In.rs1 w) → bits a 4 28 = 0 → s.tc (terrOf p) (bits a 0 4) = State.reset.tc (terrOf p) (bits a 0 4) →
    ∃ t, exec (.tcntNext p w) s = .next t ∧ t.tc (terrOf p) (bits a 0 4) = (0, 0)
      ∧ Retired (In.rd w) 0xFFFFFFFF (s.plot p).cpu (t.plot p).cpu)

/-- SEQ.PUSH enqueues the 32-byte image at rs1 and writes its ticket to rd, each push adding 1 modulo 2^32; while the queue
holds 256 macro-ops it stalls. SEQ.WAIT on finished macro-ops returns 0, or the first recorded fault, which it clears (R109,
R110). -/
def Obligations.SequencerTickets : Prop :=
  (∀ (s : State) (p : Nat) (w a : Word32), (s.plot p).active = true → In.legal w 0x0B 3 false true = true →
    a = (s.plot p).cpu.reg (In.rs1 w) → inStore a.toNat 32 32 = true → (s.plot p).queue.length < 256 →
    ∃ t o, exec (.seqPush p w) s = .next t ∧ OnlyPlot p s t ∧ (t.plot p).queue = (s.plot p).queue ++ [o]
      ∧ o.ticket = (s.plot p).nextTicket ∧ o.img = BitVec.ofNat 256 (leNat ((s.plot p).bytes a.toNat 32))
      ∧ (t.plot p).nextTicket = (s.plot p).nextTicket + 1
      ∧ Retired (In.rd w) (s.plot p).nextTicket (s.plot p).cpu (t.plot p).cpu ∧ (t.plot p).store = (s.plot p).store)
  ∧ (∀ (s : State) (p : Nat) (w a : Word32), (s.plot p).active = true → In.legal w 0x0B 3 false true = true →
      a = (s.plot p).cpu.reg (In.rs1 w) → inStore a.toNat 32 32 = true → 256 ≤ (s.plot p).queue.length →
      exec (.seqPush p w) s = .next s)
  ∧ (∀ (s : State) (p : Nat) (w a : Word32), (s.plot p).active = true → In.legal w 0x0B 4 false true = true →
      a = (s.plot p).cpu.reg (In.rs1 w) → a ≠ (s.plot p).nextTicket → ((s.plot p).nextTicket - a).toNat ≤ 2 ^ 31 →
      (s.plot p).finished a = true →
      ∃ t, exec (.seqWait p w) s = .next t ∧ OnlyPlot p s t ∧ (t.plot p).fault = none
        ∧ Retired (In.rd w) (BitVec.ofNat 32 ((s.plot p).fault.getD 0)) (s.plot p).cpu (t.plot p).cpu
        ∧ (t.plot p).queue = (s.plot p).queue)

/-- HALO.XCH: with a neighbour that has begun the opposite exchange with the same length both complete, each plot store takes
the other's bytes at its own RADDR, and rd holds the byte count; with none beyond the grid's edge it returns 0 at once and
writes nothing; with unequal lengths both trap and neither store changes (R106, R107). HALO_TIMEOUT traps the waiting plot
(R108). -/
def Obligations.HaloExchange : Prop :=
  (∀ (s : State) (p n len : Nat) (w a d : Word32) (g : Halo), (s.plot p).active = true → In.legal w 0x2B 0 false false = true →
    a = (s.plot p).cpu.reg (In.rs1 w) → d = (s.plot p).cpu.reg (In.rs2 w) → len = (if bits d 2 8 = 0 then 4096 else 16 * bits d 2 8) → bits d 10 2 = 0 →
    inStore a.toNat len 16 = true → inStore (16 * bits d 12 20) len 16 = true →
    neighbour p (bits d 0 2) = some n → s.haloOf n ((bits d 0 2 + 2) % 4) = some g → g.len = len → n ≠ p →
    ∃ t, exec (.haloXch p w) s = .next t ∧ t = { s with plots := t.plots } ∧ (∀ j, j ≠ p → j ≠ n → t.plot j = s.plot j)
      ∧ (t.plot p).store = Mem.write (s.plot p).store (16 * bits d 12 20) ((s.plot n).bytes g.send g.len)
      ∧ (t.plot n).store = Mem.write (s.plot n).store g.recv ((s.plot p).bytes a.toNat g.len)
      ∧ (t.plot p).halo = none ∧ (t.plot n).halo = none
      ∧ Retired (In.rd w) (BitVec.ofNat 32 g.len) (s.plot p).cpu (t.plot p).cpu
      ∧ Retired g.rd (BitVec.ofNat 32 g.len) (s.plot n).cpu (t.plot n).cpu)
  ∧ (∀ (s : State) (p len : Nat) (w a d : Word32), (s.plot p).active = true → In.legal w 0x2B 0 false false = true →
      a = (s.plot p).cpu.reg (In.rs1 w) → d = (s.plot p).cpu.reg (In.rs2 w) → len = (if bits d 2 8 = 0 then 4096 else 16 * bits d 2 8) → bits d 10 2 = 0 →
      inStore a.toNat len 16 = true → inStore (16 * bits d 12 20) len 16 = true →
      neighbour p (bits d 0 2) = none →
      ∃ t, exec (.haloXch p w) s = .next t ∧ OnlyPlot p s t ∧ (t.plot p).store = (s.plot p).store
        ∧ Retired (In.rd w) 0 (s.plot p).cpu (t.plot p).cpu)
  ∧ (∀ (s : State) (p n len : Nat) (w a d : Word32) (g : Halo), (s.plot p).active = true → In.legal w 0x2B 0 false false = true →
      a = (s.plot p).cpu.reg (In.rs1 w) → d = (s.plot p).cpu.reg (In.rs2 w) →
      len = (if bits d 2 8 = 0 then 4096 else 16 * bits d 2 8) → bits d 10 2 = 0 → inStore a.toNat len 16 = true →
      inStore (16 * bits d 12 20) len 16 = true → neighbour p (bits d 0 2) = some n →
      s.haloOf n ((bits d 0 2 + 2) % 4) = some g → g.len ≠ len → n ≠ p → (s.plot p).inTrap = false → (s.plot n).inTrap = false →
      ∃ t, exec (.haloXch p w) s = .next t ∧ t = { s with plots := t.plots } ∧ (∀ j, j ≠ p → j ≠ n → t.plot j = s.plot j)
        ∧ (t.plot p).store = (s.plot p).store ∧ (t.plot n).store = (s.plot n).store
        ∧ (t.plot p).cpu.mcause = 28 ∧ (t.plot n).cpu.mcause = 28 ∧ (t.plot p).inTrap = true ∧ (t.plot n).inTrap = true
        ∧ (t.plot p).halo = none ∧ (t.plot n).halo = none)
  ∧ (∀ (s : State) (p : Nat) (h : Halo), (s.plot p).halo = some h → (s.plot p).inTrap = false →
      ∃ t, exec (.haloTimeout p) s = .next t ∧ OnlyPlot p s t ∧ (t.plot p).halo = none
        ∧ Trapped 29 h.word { s.plot p with halo := none } (t.plot p))

/-- GEN.SEED loads a bank's key and all 16 phase counters from the seed block; GEN.READ returns the phase word of a bank's
phase and advances that phase modulo 2^64 and no other (R111, R154). -/
def Obligations.Generators : Prop :=
  (∀ (s : State) (p : Nat) (w a d : Word32), (s.plot p).active = true → In.legal w 0x2B 1 false false = true →
    a = (s.plot p).cpu.reg (In.rs1 w) → d = (s.plot p).cpu.reg (In.rs2 w) → bits d 2 30 = 0 → inStore a.toNat 16 16 = true →
    (s.plot p).drawing (bits d 0 2) = false →
    ∃ t, exec (.genSeed p w) s = .next t ∧ OnlyPlot p s t
      ∧ ((t.plot p).gen (bits d 0 2)).key = BitVec.ofNat 64 (leNat ((s.plot p).bytes a.toNat 8))
      ∧ (∀ i, i < 16 → ((t.plot p).gen (bits d 0 2)).phase i = BitVec.ofNat 64 (leNat ((s.plot p).bytes (a.toNat + 8) 8)))
      ∧ (∀ b, b ≠ bits d 0 2 → (t.plot p).gen b = (s.plot p).gen b)
      ∧ Retired (In.rd w) 0 (s.plot p).cpu (t.plot p).cpu)
  ∧ (∀ (s : State) (p : Nat) (w a : Word32), (s.plot p).active = true → In.legal w 0x2B 2 false true = true →
      a = (s.plot p).cpu.reg (In.rs1 w) → bits a 6 26 = 0 → (s.plot p).drawing (bits a 0 2) = false →
      ∃ t, exec (.genRead p w) s = .next t ∧ OnlyPlot p s t
        ∧ Retired (In.rd w) (phaseWord ((s.plot p).gen (bits a 0 2)).key (((s.plot p).gen (bits a 0 2)).phase (bits a 2 4)) (bits a 2 4))
            (s.plot p).cpu (t.plot p).cpu
        ∧ ((t.plot p).gen (bits a 0 2)).phase (bits a 2 4) = ((s.plot p).gen (bits a 0 2)).phase (bits a 2 4) + 1
        ∧ (∀ i, i ≠ bits a 2 4 → ((t.plot p).gen (bits a 0 2)).phase i = ((s.plot p).gen (bits a 0 2)).phase i)
        ∧ (∀ b, b ≠ bits a 0 2 → (t.plot p).gen b = (s.plot p).gen b))

/-- MRET clears IN_TRAP; FENCE completes, and one that orders loads after stores makes later loads wait for the stores in the
buffer; FENCE.I is an illegal instruction; a data-window base takes effect, and the instruction's rd takes the old one, unless
a reserved bit is set, which is PLOT_BAD_OPERAND (R130, R212, R213, R237). -/
def Obligations.SystemInstructions : Prop :=
  (∀ (s : State) (p : Nat), (s.plot p).active = true →
    ∃ t, exec (.mret p) s = .next t ∧ OnlyPlot p s t ∧ (t.plot p).inTrap = false ∧ (t.plot p).cpu.pc = (s.plot p).cpu.mepc
      ∧ ∀ i, (t.plot p).cpu.reg i = (s.plot p).cpu.reg i)
  ∧ (∀ (s : State) (p : Nat) (w : Word32), (s.plot p).active = true → In.opcode w = 0x0F → In.funct3 w = 0 →
      ∃ t, exec (.fence p w) s = .next t ∧ OnlyPlot p s t ∧ (t.plot p).sb = (s.plot p).sb
        ∧ (t.plot p).fence = (if fenceOrders w then (s.plot p).sb.length else (s.plot p).fence)
        ∧ Retired 0 0 (s.plot p).cpu (t.plot p).cpu)
  ∧ (∀ (s : State) (p : Nat), (s.plot p).active = true → (s.plot p).inTrap = false →
      ∃ t, exec (.fenceI p) s = .next t ∧ OnlyPlot p s t ∧ Trapped 2 0x0000100F (s.plot p) (t.plot p))
  ∧ (∀ (s : State) (p : Nat) (v : Word32), (s.plot p).active = true →
      (bits v 18 14 = 0 → ∃ t, exec (.dwinWrite p false v) s = .next t ∧ OnlyPlot p s t ∧ (t.plot p).cpu.dwin0 = v
        ∧ Retired ((s.plot p).csrRd 0x7C1) (s.plot p).cpu.dwin0 { (s.plot p).cpu with dwin0 := v } (t.plot p).cpu)
      ∧ (bits v 21 11 = 0 → ∃ t, exec (.dwinWrite p true v) s = .next t ∧ OnlyPlot p s t ∧ (t.plot p).cpu.dwin1 = v
        ∧ Retired ((s.plot p).csrRd 0x7C2) (s.plot p).cpu.dwin1 { (s.plot p).cpu with dwin1 := v } (t.plot p).cpu))
  ∧ (∀ (s : State) (p : Nat) (which : Bool) (v : Word32), (s.plot p).active = true → (s.plot p).inTrap = false →
      (if which then bits v 21 11 else bits v 18 14) ≠ 0 →
      ∃ t, exec (.dwinWrite p which v) s = .next t ∧ OnlyPlot p s t ∧ Trapped 26 v (s.plot p) (t.plot p))

/-- Loads and stores (R210, R211, R236): plot store, where no macro-op waits on it, is read and written at once; a store to
HBM through the window enters the store buffer and no byte of memory changes until STORE_PERFORM, which writes exactly its
bytes; a load through the window returns the bytes of HBM or, where a buffered store covers all of it, that store's. A
misaligned access through the window, and one outside every region, traps (R210, R214). -/
def Obligations.LoadsAndStores : Prop :=
  (∀ (s : State) (p rd : Nat) (addr : Word32) (width : Nat) (signed : Bool), (s.plot p).active = true →
    addr.toNat + width ≤ storeSize → (s.plot p).badIn addr.toNat width = false → (s.plot p).inUse addr.toNat width = false →
    (s.plot p).fence = 0 →
    ∃ t, exec (.controllerLoad p rd addr width signed .clean) s = .next t ∧ OnlyPlot p s t
      ∧ Retired rd (loadValue ((s.plot p).bytes addr.toNat width) signed) (s.plot p).cpu (t.plot p).cpu (s.plot p).insnLen
      ∧ (t.plot p).store = (s.plot p).store)
  ∧ (∀ (s : State) (p : Nat) (addr : Word32) (width : Nat) (v : Word32), (s.plot p).active = true →
      addr.toNat + width ≤ storeSize → (s.plot p).inUse addr.toNat width = false →
      ∃ t, exec (.controllerStore p addr width v) s = .next t ∧ OnlyPlot p s t
        ∧ (t.plot p).store = Mem.write (s.plot p).store addr.toNat (leBytes width v.toNat)
        ∧ (∀ a, ¬(addr.toNat ≤ a ∧ a < addr.toNat + width) → Mem.rd (t.plot p).store a = Mem.rd (s.plot p).store a)
        ∧ Retired 0 0 (s.plot p).cpu (t.plot p).cpu (s.plot p).insnLen)
  ∧ (∀ (s : State) (p : Nat) (addr : Word32) (width : Nat) (v : Word32), (s.plot p).active = true →
      0x80000000 ≤ addr.toNat → addr.toNat < 0xC0000000 → addr.toNat % width = 0 →
      s.region ((s.plot p).cpu.window addr.toNat) = .hbm → (s.plot p).sb.length < 8 →
      ∃ t, exec (.controllerStore p addr width v) s = .next t ∧ OnlyPlot p s t
        ∧ (t.plot p).sb = (s.plot p).sb ++ [{ addr := (s.plot p).cpu.window addr.toNat, bytes := leBytes width v.toNat }]
        ∧ Retired 0 0 (s.plot p).cpu (t.plot p).cpu (s.plot p).insnLen)
  ∧ (∀ (s : State) (p : Nat) (b : Store) (rest : List Store), (s.plot p).sb = b :: rest → s.homeWaits b.addr = false →
      ∃ t, exec (.storePerform p .clean) s = .next t ∧ (t.plot p).sb = rest ∧ t.mem = Mem.write s.mem b.addr b.bytes
        ∧ (∀ a, ¬(b.addr ≤ a ∧ a < b.addr + b.bytes.length) → Mem.rd t.mem a = Mem.rd s.mem a)
        ∧ (∀ j, j ≠ p → t.plot j = s.plot j) ∧ t.regs = s.regs ∧ (t.plot p).cpu = (s.plot p).cpu)
  ∧ (∀ (s : State) (p rd : Nat) (addr : Word32) (width : Nat) (signed : Bool) (a : Nat), (s.plot p).active = true →
      0x80000000 ≤ addr.toNat → addr.toNat < 0xC0000000 → addr.toNat % width = 0 → a = (s.plot p).cpu.window addr.toNat →
      s.region a = .hbm → s.homeWaits a = false → (s.plot p).sb = [] → s.poisoned a width = false → (s.plot p).fence = 0 →
      width ≠ 0 →
      ∃ t, exec (.controllerLoad p rd addr width signed .clean) s = .next t ∧ OnlyPlot p s t
        ∧ Retired rd (loadValue (Mem.read s.mem a width) signed) (s.plot p).cpu (t.plot p).cpu (s.plot p).insnLen)
  ∧ (∀ (s : State) (p rd : Nat) (addr : Word32) (width : Nat) (signed : Bool) (a : Nat) (w : Store), (s.plot p).active = true →
      0x80000000 ≤ addr.toNat → addr.toNat < 0xC0000000 → addr.toNat % width = 0 → a = (s.plot p).cpu.window addr.toNat →
      s.region a = .hbm → s.homeWaits a = false → (s.plot p).sb = [w] → (s.plot p).fence = 0 → w.addr = a → w.bytes.length = width →
      ∃ t, exec (.controllerLoad p rd addr width signed .clean) s = .next t ∧ OnlyPlot p s t ∧ (t.plot p).sb = [w]
        ∧ Retired rd (loadValue w.bytes signed) (s.plot p).cpu (t.plot p).cpu (s.plot p).insnLen)
  ∧ (∀ (s : State) (p rd : Nat) (addr : Word32) (width : Nat) (signed : Bool) (v : Word32) (a : Nat), (s.plot p).active = true →
      (s.plot p).inTrap = false → 0x80000000 ≤ addr.toNat → addr.toNat < 0xC0000000 → a = (s.plot p).cpu.window addr.toNat →
      (addr.toNat % width ≠ 0 → (∃ t, exec (.controllerLoad p rd addr width signed .clean) s = .next t ∧ OnlyPlot p s t
          ∧ Trapped 4 addr (s.plot p) (t.plot p))
        ∧ ∃ t, exec (.controllerStore p addr width v) s = .next t ∧ OnlyPlot p s t ∧ Trapped 6 addr (s.plot p) (t.plot p))
      ∧ (addr.toNat % width = 0 → (s.region a = .priv ∨ s.region a = .none) →
          (∃ t, exec (.controllerLoad p rd addr width signed .clean) s = .next t ∧ OnlyPlot p s t
            ∧ Trapped 5 addr (s.plot p) (t.plot p))
          ∧ ∃ t, exec (.controllerStore p addr width v) s = .next t ∧ OnlyPlot p s t ∧ Trapped 7 addr (s.plot p) (t.plot p)))

/-- Each atomic returns the old word in rd and leaves at its address the value of its operation on the old word, aarg and
acmp; no other byte of memory changes (R231). Stated with the store buffer empty; older stores are performed first (R232). -/
def Obligations.Atomics : Prop :=
  ∀ (s : State) (p rd code a : Nat) (addr : Word32) (old arg cmp : Word32),
    (s.plot p).active = true → bits addr 30 2 = 3 → code = atomicCode addr → addr.toNat % 4 = 0 →
    a = (s.plot p).cpu.atomicAddr addr.toNat → s.region a = .hbm → (s.plot p).sb = [] → s.homeWaits a = false →
    s.poisoned a 4 = false → old = BitVec.ofNat 32 (leNat (Mem.read s.mem a 4)) →
    arg = (s.plot p).cpu.aarg → cmp = (s.plot p).cpu.acmp →
    ∀ (c : Instr) (new : Word32),
      (c, code, new) ∈ ([(.atomicAdd p rd addr 4 .clean, 0, old + arg), (.atomicSwap p rd addr 4 .clean, 1, arg),
        (.atomicCas p rd addr 4 .clean, 2, if old = cmp then arg else old), (.atomicAnd p rd addr 4 .clean, 3, old &&& arg),
        (.atomicOr p rd addr 4 .clean, 4, old ||| arg), (.atomicXor p rd addr 4 .clean, 5, old ^^^ arg),
        (.atomicMaxu p rd addr 4 .clean, 6, if arg ≤ old then old else arg),
        (.atomicMinu p rd addr 4 .clean, 7, if old ≤ arg then old else arg)] : List (Instr × Nat × Word32)) →
      ∃ t, exec c s = .next t ∧ t.mem = Mem.write s.mem a (leBytes 4 new.toNat)
        ∧ (∀ b, ¬(a ≤ b ∧ b < a + 4) → Mem.rd t.mem b = Mem.rd s.mem b)
        ∧ Retired rd old (s.plot p).cpu (t.plot p).cpu (s.plot p).insnLen ∧ (t.plot p).store = (s.plot p).store
        ∧ (∀ j, j ≠ p → t.plot j = s.plot j) ∧ t.regs = s.regs

/-- The steward's PLOT window (R125 to R128, R621, R622): RUN starts the plot at PLOT_ENTRY with its argument registers, an
empty queue and ticket 0; clearing it stops the plot and keeps its store; GO starts and completes a copy; a full word of
PLOT_INJ injects while fewer than 16 wait; PLOT_MEM_DATA reads and writes one word and steps the address. -/
def Obligations.PlotWindow : Prop :=
  (∀ (s : State) (r i v : Nat), s.target r 3 0x100 .steward = some i → (s.plot i).run = false → (s.plot i).stopping = false →
    s.plotPav i = some v →
    ∃ t, exec (.plotStart r) s = .next t ∧ OnlyPlot i (s.dropLatch r (3 * 65536)) t ∧ (t.plot i).run = true
      ∧ (t.plot i).cpu.pc = BitVec.ofNat 32 (s.rd R.plotEntry i)
      ∧ (t.plot i).cpu.reg 10 = BitVec.ofNat 32 i ∧ (t.plot i).cpu.reg 11 = BitVec.ofNat 32 (terrOf i)
      ∧ (t.plot i).cpu.reg 12 = BitVec.ofNat 32 v ∧ (∀ k, k ∉ [10, 11, 12] → (t.plot i).cpu.reg k = 0)
      ∧ (t.plot i).cpu.mstatus = 0 ∧ (t.plot i).cpu.mtvec = 0 ∧ (t.plot i).cpu.mepc = 0
      ∧ (t.plot i).queue = [] ∧ (t.plot i).nextTicket = 0 ∧ (t.plot i).inq = [] ∧ (t.plot i).outq = []
      ∧ (t.plot i).store = (s.plot i).store)
  ∧ (∀ (s : State) (r i : Nat), s.target r 3 0x100 .steward = some i → (s.plot i).run = true → (s.plot i).running = none →
      ∃ t, exec (.plotStop r) s = .next t ∧ OnlyPlot i (s.dropLatch r (3 * 65536)) t ∧ (t.plot i).run = false
        ∧ (t.plot i).inq = [] ∧ (t.plot i).store = (s.plot i).store)
  ∧ (∀ (s : State) (r i : Nat), s.target r 3 0x118 .steward = some i →
      ((s.plot i).run = false → ∃ t, exec (.plotLoadGo r) s = .next t ∧ t.rd R.loadGo i = 1
        ∧ t = { s with acc := (s.dropLatch r (3 * 65536)).acc, regs := t.regs })
      ∧ ((s.plot i).run = true → exec (.plotLoadGo r) s = .next ((s.dropLatch r (3 * 65536)).inc R.lateWrites i)))
  ∧ (∀ (s : State) (p : Nat), s.rd R.loadGo p = 1 → s.homeBusy = [] →
      ∃ t, exec (.plotLoadComplete p []) s = .next t ∧ t.rd R.loadGo p = 0 ∧ t.mem = s.mem ∧ (∀ j, j ≠ p → t.plot j = s.plot j)
        ∧ ((s.region (s.rd R.loadSrc p) = .hbm ∨ s.region (s.rd R.loadSrc p) = .cold) →
            s.rd R.loadDst p + s.rd R.loadLen p ≤ storeSize →
            (t.plot p).store = Mem.write (s.plot p).store (s.rd R.loadDst p) (Mem.read s.mem (s.rd R.loadSrc p) (s.rd R.loadLen p))))
  ∧ (∀ (s : State) (r i : Nat) (v : Word32), s.target r 3 0x15C .steward = some i → (s.plot i).inj.length < 16 →
      ∃ t, exec (.plotInj r v) s = .next t ∧ OnlyPlot i (s.dropLatch r (3 * 65536)) t
        ∧ (t.plot i).inj = (s.plot i).inj ++ [(s.plot i).injImage v])
  ∧ (∀ (s : State) (r i : Nat) (v : Word32), s.target r 3 0x15C .steward = some i → 16 ≤ (s.plot i).inj.length →
      exec (.plotInj r v) s = .next ((s.dropLatch r (3 * 65536)).wr R.injFull 1 i))
  ∧ (∀ (s : State) (r i : Nat) (v : Word32), s.target r 3 0x164 .steward = some i → 4 * s.rd R.memAddr i < storeSize →
      (∃ t, exec (.plotMemData r true v) s = .next t
        ∧ (t.plot i).store = Mem.write (s.plot i).store (4 * s.rd R.memAddr i) (leBytes 4 v.toNat)
        ∧ (∀ j, j ≠ i → t.plot j = s.plot j) ∧ t.out = s.out)
      ∧ ∃ t, exec (.plotMemData r false v) s = .next t
        ∧ t.out = s.out ++ [.readData r (BitVec.ofNat 64 (leNat ((s.plot i).bytes (4 * s.rd R.memAddr i) 4)))]
        ∧ (∀ j, t.plot j = s.plot j)
        ∧ t.rd R.memAddr i = (if s.rd R.memAddr i = 98303 then 0 else s.rd R.memAddr i + 1) % 2 ^ R.memAddr.wid)

/-- A custom instruction that the controller does not decode, and one whose operand the rules refuse, traps with its cause and
offending word and has no other effect (R100, R129); an exception while IN_TRAP is 1 halts the plot instead (R130). -/
def Obligations.CustomInstructionsTrap : Prop :=
  (∀ (s : State) (p : Nat) (w : Word32), (s.plot p).active = true → (s.plot p).inTrap = false →
    (In.legal w 0x0B 2 false true = false →
      ∃ t, exec (.tcntNext p w) s = .next t ∧ OnlyPlot p s t ∧ Trapped 2 w (s.plot p) (t.plot p))
    ∧ (In.legal w 0x0B 2 false true = true → bits ((s.plot p).cpu.reg (In.rs1 w)) 4 28 ≠ 0 →
      ∃ t, exec (.tcntNext p w) s = .next t ∧ OnlyPlot p s t
        ∧ Trapped 26 ((s.plot p).cpu.reg (In.rs1 w)) (s.plot p) (t.plot p))
    ∧ (In.legal w 0x0B 3 false true = true → inStore ((s.plot p).cpu.reg (In.rs1 w)).toNat 32 32 = false →
      ∃ t, exec (.seqPush p w) s = .next t ∧ OnlyPlot p s t
        ∧ Trapped 25 ((s.plot p).cpu.reg (In.rs1 w)) (s.plot p) (t.plot p)))
  ∧ (∀ (s : State) (p cause : Nat) (v : Word32), (s.plot p).inTrap = true → s.serving = true →
      ((s.trap p cause v).plot p).run = false ∧ ((s.trap p cause v).plot p).halted = true
        ∧ ((s.trap p cause v).plot p).cpu = (s.plot p).cpu ∧ (∀ j, j ≠ p → (s.trap p cause v).plot j = s.plot j)
        ∧ (s.trap p cause v).mem = s.mem)

/-! ### Arithmetic -/

/-- An LNS8 or LNS6 element is its sign and code under its block's exponent; code 0 is zero with either sign (R136, R137). A
product of nonzero terms adds log values and exclusive-ors signs, and a zero operand makes it zero (R134). -/
def Obligations.LogNumbers : Prop :=
  (∀ (raw scale : Nat) (sexp : Int), raw < 256 → raw % 128 ≠ 0 → decElem 0 raw scale sexp =
    (.lns { zero := false, neg := raw.testBit 7, lam := 16 * sext 8 scale + Int.ofNat (raw % 128) - 127 }, false))
  ∧ (∀ (raw scale : Nat) (sexp : Int), raw < 64 → raw % 32 ≠ 0 → decElem 1 raw scale sexp =
      (.lns { zero := false, neg := raw.testBit 5, lam := 16 * sext 8 scale + 2 * Int.ofNat (raw % 32) - 62 }, false))
  ∧ (∀ (scale : Nat) (sexp : Int), decElem 0 0 scale sexp = (.lns {}, false) ∧ decElem 0 128 scale sexp = (.lns {}, false)
      ∧ decElem 1 0 scale sexp = (.lns {}, false) ∧ decElem 1 32 scale sexp = (.lns {}, false))
  ∧ (∀ a b : Term, a.zero = false → b.zero = false →
      a.mul b = { zero := false, neg := a.neg != b.neg, lam := a.lam + b.lam })
  ∧ (∀ a b : Term, a.zero = true ∨ b.zero = true → (a.mul b).zero = true ∧ (a.mul b).val.m = 0)

/-- The log value that a nonzero linear value converts from brackets it: t(l) ≤ |v| < t(l + 1) (R135). -/
def Obligations.ConversionBracketsItsValue : Prop :=
  ∀ v : Dy, v.m ≠ 0 → (tval (lamFloor v)).le v.abs = true ∧ v.abs.lt (tval (lamFloor v + 1)) = true

/-! ### Macro-ops -/

/-- The tile macro-ops and their opcodes. A macro-op at the head of a running plot's queue that passes the issue checks
starts, its descriptors and length registers sampled at issue, and writes nothing yet (R175, R198, R203); one of R195's, its
rows readable, begins its halo transfer; one that fails the checks is recorded as a fault and leaves the queue without writing
(R203, R204). -/
def Obligations.MacroOpsIssue : Prop :=
  ∀ (mk : Nat → Nat → List (Nat × MemEvent) → Instr) (code : Nat),
    (mk, code) ∈ ([(.matmul, 1), (.adaptShrink, 2), (.adaptExpand, 3), (.eltwise, 4), (.table, 5), (.reduce, 6), (.softmaxRows, 7),
      (.normRows, 8), (.gather, 9), (.scatter, 10), (.conv1d, 11), (.copy, 12), (.pad, 13)] :
        List ((Nat → Nat → List (Nat × MemEvent) → Instr) × Nat)) →
    ∀ (s : State) (p : Nat) (o : QOp) (rest : List QOp) (c : Ctx), (s.plot p).sequencing = true → (s.plot p).running = none →
      (s.plot p).inj = [] → (s.plot p).queue = o :: rest → Mo.opcode o.img = code → (s.plot p).discarding = false →
      o.stores = 0 → c = Ctx.mk' s p o.img ((s.plot p).descs o.img) (s.lens p) none →
      (c.issueFault false = none → (s.plot p).descUe o.img = false → c.halos = false →
        ∃ t, exec (mk p 0 []) s = .next t
          ∧ (t.plot p).running = some { op := o, lens := s.lens p, descs := (s.plot p).descs o.img, padSat := c.padStats.1 }
          ∧ (t.plot p).queue = (s.plot p).queue ∧ (t.plot p).store = (s.plot p).store ∧ (t.plot p).cpu = (s.plot p).cpu
          ∧ (∀ j, j ≠ p → t.plot j = s.plot j) ∧ t = { s with plots := t.plots, regs := t.regs })
      ∧ (c.issueFault false = none → (s.plot p).descUe o.img = false → c.halos = true → s.homeBusy = [] →
          s.spansFault p c.haloReads = none →
          ∃ t r, exec (mk p 0 []) s = .next t ∧ (t.plot p).running = some r ∧ r.op = o ∧ r.sent.isSome = true ∧ r.done = false
            ∧ (t.plot p).store = (s.plot p).store ∧ t.mem = s.mem)
      ∧ (∀ code', c.issueFault false = some code' → code' ≠ Code.tileOverflow → (s.plot p).stopping = false →
          ∃ t, exec (mk p 0 []) s = .next t ∧ OnlyPlot p s t ∧ (t.plot p).queue = rest ∧ (t.plot p).running = none
            ∧ (t.plot p).discarding = true ∧ (t.plot p).fault = some ((s.plot p).fault.getD code')
            ∧ (t.plot p).store = (s.plot p).store)

/-- A tile macro-op in execution that waits on no halo and on no home change computes tiles as its WALK selects (R186 to
R189): EXPLICIT the one tile of its image, LOCAL the next tile below T mod 2^24 and then it is done, SHARED the tile drawn
ahead or else the one its terrace's counter gives, and when the counter is exhausted it is done. -/
def Obligations.MacroOpTiles : Prop :=
  ∀ (mk : Nat → Nat → List (Nat × MemEvent) → Instr) (code : Nat),
    (mk, code) ∈ ([(.matmul, 1), (.adaptShrink, 2), (.adaptExpand, 3), (.eltwise, 4), (.table, 5), (.reduce, 6), (.softmaxRows, 7),
      (.normRows, 8), (.gather, 9), (.scatter, 10), (.conv1d, 11), (.copy, 12), (.pad, 13)] :
        List ((Nat → Nat → List (Nat × MemEvent) → Instr) × Nat)) →
    ∀ (s : State) (p : Nat) (r : RunOp), (s.plot p).sequencing = true → (s.plot p).running = some r → Mo.opcode r.op.img = code →
      r.done = false → r.fault = none → (s.ctx p r).waits = false → ((s.ctx p r).halos = false ∨ (r.eOk = true ∧ r.wOk = true)) →
      (Mo.walk r.op.img = 1 → r.next < (s.ctx p r).total % 2 ^ 24 →
        exec (mk p 1 []) s = .next (s.runTile p { r with next := r.next + 1 } r.next))
      ∧ (Mo.walk r.op.img = 1 → ¬ r.next < (s.ctx p r).total % 2 ^ 24 →
          exec (mk p 1 []) s = .next (s.setRun p (some { r with done := true })))
      ∧ (∀ i, Mo.walk r.op.img = 0 → r.ahead = some (some i) → exec (mk p 1 []) s = .next (s.runTile p r i))
      ∧ (∀ v l, Mo.walk r.op.img = 0 → r.ahead = none → s.tc (terrOf p) (Mo.tcnt r.op.img) = (v, l) → v ≠ l →
          exec (mk p 1 []) s = .next ((s.setTc (terrOf p) (Mo.tcnt r.op.img) ((v + 1) % 2 ^ 24, l)).runTile p r v))
      ∧ (∀ v, Mo.walk r.op.img = 0 → (r.ahead = some none ∨ r.ahead = none ∧ s.tc (terrOf p) (Mo.tcnt r.op.img) = (v, v)) →
          exec (mk p 1 []) s = .next (s.setRun p (some { r with done := true })))
      ∧ (∀ u, Mo.walk r.op.img = 2 → ((s.runTile p r (Mo.tile r.op.img)).plot p).running = some u → u.fault = none →
          exec (mk p 1 []) s = .next ((s.runTile p r (Mo.tile r.op.img)).setRun p (some { u with done := true })))

/-- A finished walk completes its macro-op, which leaves the queue and advances the draw base of each bank that it draws from
by its span (R155); a fault of a walk is reported with the tiles drawn and not complete, recorded, and ends the macro-op; a
plot that is reached by every plot of its scope passes a BARRIER, and one that is not in time faults (R181, R190, R204, R205,
R238). An injected macro-op that passes the issue checks runs its one tile at the plot's macro-op boundary (log 19: a plot
that waits at a BARRIER is at one) and what waits for room in the plot's lane takes its place; one that fails them writes
nothing and is reported (R201, R202, R206). -/
def Obligations.MacroOpsEnd : Prop :=
  (∀ (s : State) (p : Nat) (r : RunOp) (o : QOp) (rest : List QOp), (s.plot p).running = some r → r.done = true → r.fault = none →
    (s.plot p).queue = o :: rest → (s.plot p).stopping = false →
    ∃ t, exec (.macroOpComplete p) s = .next t ∧ OnlyPlot p s t ∧ (t.plot p).queue = rest ∧ (t.plot p).running = none
      ∧ (t.plot p).store = (s.plot p).store ∧ (t.plot p).fault = (s.plot p).fault
      ∧ (∀ b, b < 4 → (t.plot p).gen b = { (s.plot p).gen b with
          d := ((s.plot p).gen b).d + BitVec.ofNat 64 (if (Mo.banks r.op.img).contains b then (s.ctx p r).span b else 0) }))
  ∧ (∀ (s : State) (p code : Nat) (r : RunOp) (o : QOp) (rest : List QOp), (s.plot p).running = some r → r.fault = some code →
      r.incomplete = [] → (s.plot p).queue = o :: rest → (s.plot p).stopping = false →
      ∃ t, exec (.executionFault p) s = .next t ∧ t.out = s.out ++ [.faultReport p r.op.img code []]
        ∧ (t.plot p).queue = rest ∧ (t.plot p).running = none ∧ (t.plot p).discarding = true
        ∧ (t.plot p).fault = some ((s.plot p).fault.getD code) ∧ (∀ j, j ≠ p → t.plot j = s.plot j) ∧ t.mem = s.mem)
  ∧ (∀ (s : State) (p scope id : Nat) (r : RunOp), (s.plot p).sequencing = true → (s.plot p).running = some r →
      (s.plot p).barrier = some (scope, id) → s.scopePlots p scope = [p] → s.atBarrier p scope id = true →
      s.scopeReissues p scope = false →
      ∃ t, exec (.barrier p) s = .next t ∧ OnlyPlot p s t ∧ (t.plot p).running = some { r with done := true }
        ∧ (t.plot p).barrier = none)
  ∧ (∀ (s : State) (p scope id q : Nat) (r : RunOp), (s.plot p).sequencing = true → (s.plot p).running = some r →
      (s.plot p).barrier = some (scope, id) → q ∈ s.scopePlots p scope → s.atBarrier q scope id = false →
      exec (.barrier p) s = .next s)
  ∧ (∀ (s : State) (p : Nat) (b : Nat × Nat) (r : RunOp), (s.plot p).barrier = some b → (s.plot p).running = some r →
      ∃ t, exec (.barrierTimeout p) s = .next t ∧ OnlyPlot p s t ∧ (t.plot p).barrier = none
        ∧ (t.plot p).running = some { r with fault := some Code.barrierTimeout })
  ∧ (∀ (s : State) (p : Nat) (img : BitVec 256) (rest : List (BitVec 256)) (t : State) (c : Ctx) (o : TileOut),
    (s.plot p).inj = img :: rest → (s.plot p).atBoundary = true → (s.plot p).sequencing = true →
    t = s.setPlot p (Plot.feed { s.plot p with inj := rest }) → c.waits = false →
    c = Ctx.mk' t p img ((s.plot p).descs img) (s.lens p) none → c.issueFault true = none → (s.plot p).descUe img = false →
    o = Ctx.run { c with s := t.issueStats c } (Mo.tile img) → o.fault = none → (o.padS = false ∨ c.padStats.1 = true) →
    exec (.injectedMacroOp p []) s = .next (((t.issueStats c).applyTile p o).injDone c))
  ∧ (∀ (s : State) (p code : Nat) (img : BitVec 256) (rest : List (BitVec 256)) (t : State) (c : Ctx),
      (s.plot p).inj = img :: rest → (s.plot p).atBoundary = true → (s.plot p).sequencing = true →
      t = s.setPlot p (Plot.feed { s.plot p with inj := rest }) → c.waits = false →
      c = Ctx.mk' t p img ((s.plot p).descs img) (s.lens p) none → c.issueFault true = some code → code ≠ Code.tileOverflow →
      t.reissueOf p img = none →
      exec (.injectedMacroOp p []) s = .next (t.emit (.faultReport p img code [])))

/-! ### Memory, homes and the cold frame -/

/-- The device address map: HBM, the private range, the cold frame up to its capacity and at most 4 TiB, the plot's own store,
and nothing elsewhere (R4, R209, R210). -/
def Obligations.AddressMap : Prop :=
  ∀ (s : State) (a : Nat),
    (s.region a = .hbm ↔ a < 0x47C0000000)
    ∧ (s.region a = .priv ↔ 0x47C0000000 ≤ a ∧ a < 0x4800000000)
    ∧ (s.region a = .cold ↔ coldBase ≤ a ∧ a < coldBase + min s.capacity (2 ^ 42))
    ∧ (s.region a = .self ↔ selfBase ≤ a ∧ a < selfBase + storeSize)
    ∧ (s.region a = .none ↔ 0x4800000000 ≤ a ∧ ¬ (coldBase ≤ a ∧ a < coldBase + min s.capacity (2 ^ 42))
        ∧ ¬ (selfBase ≤ a ∧ a < selfBase + storeSize))

/-- A home entry changes only when its change completes; until then the granule's buffered stores wait (R219). An entry with
bit 7 clear names the home terrace of its granule; with bit 7 set, at reset, and in the cold frame the home is the
exclusive-or of the address's eight fields (R217, R218). An authenticated page enters the page buffer, which holds 256, and is
no longer bad (R223, R224); a port that loses its link reads POISON from then on and no byte of memory changes (R245); a port
that links before OPEN is mapped behind the other, the capacity that of both ports' raw capacities (R223, R642); the HBM lane
counts restart together (R572). -/
def Obligations.HomesAndColdFrame : Prop :=
  (∀ (s : State) (r i : Nat) (v : Word32), s.target r 5 0x1008 .steward = some i → Tab.get 0 s.acc.homeIdx r < 147456 →
    ∃ t, exec (.hbmHome r v) s = .next t ∧ t.homes = s.homes
      ∧ t.homeBusy = s.homeBusy ++ [(Tab.get 0 s.acc.homeIdx r, BitVec.ofNat 8 (bits v 0 5 + bits v 7 1 * 128))]
      ∧ t.mem = s.mem ∧ t.regs = s.regs ∧ t.plots = s.plots)
  ∧ (∀ (s : State) (g : Nat) (b : Byte), s.homeChange g = some b →
      ∃ t, exec (.homeChangeComplete g) s = .next t ∧ Tab.get 0x80 t.homes g = b
        ∧ (∀ k, k ≠ g → Tab.get 0x80 t.homes k = Tab.get 0x80 s.homes k) ∧ t.homeBusy = dropFirstOf g s.homeBusy
        ∧ t.mem = s.mem ∧ t.regs = s.regs)
  ∧ (∀ (s : State) (p : Nat) (b : Store) (rest : List Store) (ev : MemEvent), (s.plot p).sb = b :: rest →
      s.homeWaits b.addr = true → exec (.storePerform p ev) s = .next s)
  ∧ (∀ (s : State) (a : Nat), (a < 0x4800000000 → (Tab.get 0x80 s.homes (a / 2097152)).getLsbD 7 = false →
        s.homeOf a = (Tab.get 0x80 s.homes (a / 2097152)).toNat % 32)
      ∧ ((Tab.get 0x80 s.homes (a / 2097152)).getLsbD 7 = true → s.homeOf a = hashHome a)
      ∧ (coldBase ≤ a → s.homeOf a = hashHome a) ∧ State.reset.homeOf a = hashHome a ∧ hashHome a < 32)
  ∧ hashHome 0x1234567890 = 17
  ∧ (∀ k < 40, hashHome (2 ^ (6 + k)) = 2 ^ (k % 5))
  ∧ (∀ (s : State) (page : Nat), s.serving = true → page * 4096 < s.capacity → s.gate.errorState = false →
    (s.cfm.port (s.coldPort (page * 4096))).lost = false →
    exec (.cfmPageRead page true) s = .next { s with cfm := { s.cfm with
      buf := (page :: s.cfm.buf.filter (· != page)).take 256, badPages := setDel page s.cfm.badPages } })
  ∧ (∀ (s : State) (port : Nat), port = 0 ∨ port = 1 → (s.cfm.port port).linked = true → (s.cfm.port port).lost = false →
      s.serving = true →
      ∃ t, exec (.cfmLinkDown port) s = .next t ∧ (t.cfm.port port).lost = true ∧ (t.cfm.port (1 - port)) = s.cfm.port (1 - port)
        ∧ t.mem = s.mem ∧ t.plots = s.plots ∧ t.reqs = s.reqs
        ∧ (∀ a, t.region a = .cold → t.coldPort (a / 64 * 64 - coldBase) = port → t.region (a / 64 * 64) = .cold →
            t.poisonLine (a / 64) = true))
  ∧ (∀ (s : State) (port raw : Nat), port = 0 ∨ port = 1 → (s.cfm.port port).linked = false → s.serving = true →
      s.dev.everOpen = false →
      ∃ t, exec (.coldFrameHotEnumeration port raw) s = .next t ∧ (t.cfm.port port).linked = true ∧ (t.cfm.port port).raw = raw
        ∧ t.cfm.order = s.cfm.order ++ [port] ∧ t.capacity = usable (raw + (s.cfm.port (1 - port)).raw) % 2 ^ R.cfmCapacity.wid
        ∧ (t.cfm.port (1 - port)) = s.cfm.port (1 - port) ∧ t.mem = s.mem)
  ∧ (∀ s : State, exec .hbmLaneWindowStart s = .next { s with hbmLane := [] })

/-! ### Adapters -/

/-- ADAPTER_LOAD with a good image, a new key and room takes a FREE record LOADING, writes its blob at its location in HBM,
and leaves the entry for a later boundary to make LIVE; nothing is completed yet (R48, R52, R56, R58). -/
def Obligations.AdapterLoads : Prop :=
  ∀ (s : State) (src : Nat) (cid : Word32) (data : List Byte) (a : AdminCmd) (t : State) (e : DirEnt) (r : AdRec),
    s.findCmd src cid 0x10 = some a → t = { s with accepted := markStarted src cid 0x10 s.accepted } →
    e = DirEnt.ofImage (BitVec.ofNat 128 (byteAt a.img 24 16)) → r = AdRec.ofImage (data.take 128) e.anyHash →
    byteAt a.img 40 1 = Loc.hbm.num → byteAt a.img 48 8 = 0 → t.tenantOk src e.tenant.toNat = true →
    imageFault e (entReserved a.img) (data.take 128) = none → t.sameKey e = none → t.freeSlots ≠ [] →
    t.freeRecs ≠ [] → t.poolFits r.size ≠ [] →
    ∃ u i q, exec (.adapterLoad src cid data true) s = .next u ∧ u.adrec i = q ∧ i ∈ t.freeRecs
      ∧ q.vst = .loading ∧ q.load = some (src, cid) ∧ q.version = r.version ∧ q.loc = .hbm
      ∧ (u.ent q.slot).st = .free ∧ q.slot ∈ t.freeSlots
      ∧ u.mem = Mem.write s.mem q.location (sub data 128 r.size) ∧ u.out = s.out ∧ u.qps = s.qps ∧ u.plots = s.plots
      ∧ (∀ j, j ≠ i → u.adrec j = s.adrec j)

/-- The digest check makes a good copy STAGED and nothing else (R48, R61); a QUERY answers the entry and its records in host
memory; a DELETE and a SET_PRIO wait for the next boundary and change no entry before it (R53, R55). A command that has
started is not executed again (R457). -/
def Obligations.AdapterCommands : Prop :=
  (∀ (s : State) (i : Nat), (s.adrec i).vst = .loading → s.blobGood (s.adrec i) = true →
    exec (.adapterDigestCheck i) s = .next (s.setAdrec i { s.adrec i with vst := .staged }))
  ∧ (∀ (s t : State) (src slot : Nat) (cid : Word32) (a : AdminCmd), s.findCmd src cid 0x11 = some a →
      t = { s with accepted := markStarted src cid 0x11 s.accepted } → t.named src a.img = some slot → (t.ent slot).dead = false →
      exec (.adapterDelete src cid) s = .next { t with dirOps := t.dirOps ++ [.delete slot (t.ent slot).born src cid t.loadSerial] })
  ∧ (∀ (s t : State) (src slot : Nat) (cid : Word32) (a : AdminCmd), s.findCmd src cid 0x14 = some a →
      t = { s with accepted := markStarted src cid 0x14 s.accepted } → t.named src a.img = some slot → (t.ent slot).dead = false →
      exec (.adapterSetPrio src cid) s =
        .next { t with dirOps := t.dirOps ++ [.setPrio slot (t.ent slot).born (byteAt a.img 32 1 % 16) src cid t.loadSerial] })
  ∧ (∀ (s t : State) (src slot : Nat) (cid : Word32) (a : AdminCmd), s.findCmd src cid 0x12 = some a →
      t = { s with accepted := markStarted src cid 0x12 s.accepted } → t.named src a.img = some slot →
      exec (.adapterQuery src cid) s = .next ((t.emit (.hostWrite src (Ad.dataAddr a.img)
        (leBytes 16 (t.ent slot).image ++ ((t.recsOf slot).map fun i => (t.adrec i).bytes).flatten))).complete src cid 0
          (t.recsOf slot).length))
  ∧ (∀ (s t u : State) (src slot i : Nat) (cid : Word32) (a : AdminCmd) (want : Loc), s.findCmd src cid 0x13 = some a →
      t = { s with accepted := markStarted src cid 0x13 s.accepted } → t.named src a.img = some slot →
      Loc.ofNum (byteAt a.img 36 1) = some want →
      ((t.recsOf slot).find? fun i => (t.adrec i).version.toNat == byteAt a.img 32 4 && (t.adrec i).vst != .loading) = some i →
      t.placeRec i want = some u →
      exec (.adapterPlace src cid) s = .next (u.complete src cid 0 want.num) ∧ (u.adrec i).loc = want
        ∧ (u.adrec i).version = (t.adrec i).version ∧ (u.adrec i).vst = (t.adrec i).vst)
  ∧ (∀ (s : State) (src : Nat) (cid : Word32), s.findCmd src cid 0x11 = none →
    exec (.adapterDelete src cid) s = .next s ∧ exec (.adapterQuery src cid) s = .next s
      ∧ (s.findCmd src cid 0x40 = none → exec (.pavOpen src cid) s = .next s))

/-- Of an entry's records at a boundary the highest STAGED version becomes CURRENT, its entry LIVE with CUR_REC naming it, and
the version it replaces is SUPERSEDED while requests pin it (R48, R49, R51). -/
def Obligations.FlipMakesCurrent : Prop :=
  ∀ (s : State) (due : List Nat) (i : Nat), (s.adrec i).vst = .staged → (s.ent (s.adrec i).slot).dead = false →
    s.overtaken due i = false → (s.ent (s.adrec i).slot).st = .live → (s.ent (s.adrec i).slot).cur ≠ i →
    (s.adrec (s.ent (s.adrec i).slot).cur).vst = .current → (s.adrec (s.ent (s.adrec i).slot).cur).version < (s.adrec i).version →
    (s.adrec (s.ent (s.adrec i).slot).cur).pins ≠ 0 → (s.adrec i).load = none →
    ((s.flipRec due i).adrec i).vst = .current ∧ ((s.flipRec due i).ent (s.adrec i).slot).cur = i
      ∧ ((s.flipRec due i).ent (s.adrec i).slot).st = .live
      ∧ ((s.flipRec due i).adrec (s.ent (s.adrec i).slot).cur).vst = .superseded

/-- At one layer the entry that matches with the highest PRIO wins, and among equals the lowest slot (R21, R26). -/
def Obligations.DirectoryMatchOrder : Prop :=
  ∀ (s : State) (tenant hash model layer k : Nat), Tab.Rises s.dir →
    (s.dirMatch tenant hash model layer).1 = some k →
    ∃ e, (k, e) ∈ s.dir ∧ e.hit tenant hash model layer = true
      ∧ ∀ j f, (j, f) ∈ s.dir → f.hit tenant hash model layer = true → f.prio < e.prio ∨ (f.prio = e.prio ∧ k ≤ j)

/-! ### Selection objects -/

/-- LIST_LOAD and GRAMMAR_LOAD of a good object with room give it the next of the 2^32 handles, which is never reused, and
answer it; a delete of an unpinned handle frees it, of a pinned one marks it RETIRING (R351 to R354, R357). -/
def Obligations.SelectionObjects : Prop :=
  (∀ (c : Instr) (op : Nat) (g : Bool) (s t : State) (src : Nat) (cid : Word32) (data : List Byte) (a : AdminCmd) (e : Model),
    (c, op, g) ∈ ([(.listLoad src cid data true, 0x20, false), (.grammarLoad src cid data true, 0x21, true)] : List (Instr × Nat × Bool)) →
    s.findCmd src cid op = some a → t = { s with accepted := markStarted src cid op s.accepted } →
    byteAt a.img 25 1 < 8 → t.defined (byteAt a.img 25 1) = true → t.model (byteAt a.img 25 1) (byteAt a.img 24 1) = some e →
    Ad.dataLen a.img ≤ data.length → (if g then grammarGood e.vocab (data.take (Ad.dataLen a.img)) else listGood e.vocab (data.take (Ad.dataLen a.img))) = true →
    t.objs.length < 4096 → t.nextHandle < 2 ^ 32 → Ad.dataLen a.img ≤ 67108864 → t.objFits (Ad.dataLen a.img) ≠ [] →
    ∃ u v, exec c s = .next u ∧ u = State.complete v src cid 0 s.nextHandle ∧ v.nextHandle = s.nextHandle + 1
      ∧ (v.obj s.nextHandle).fn = src ∧ (v.obj s.nextHandle).grammar = g ∧ (v.obj s.nextHandle).size = Ad.dataLen a.img
      ∧ v.mem = Mem.write s.mem (v.obj s.nextHandle).addr (data.take (Ad.dataLen a.img))
      ∧ (∀ h, h ≠ s.nextHandle → v.obj h = s.obj h))
  ∧ (∀ (s t : State) (src : Nat) (cid : Word32) (a : AdminCmd), s.findCmd src cid 0x22 = some a →
      t = { s with accepted := markStarted src cid 0x22 s.accepted } → t.hasObj (byteAt a.img 24 4) = true →
      (t.obj (byteAt a.img 24 4)).fn = src → (t.obj (byteAt a.img 24 4)).retiring = false →
      ((t.obj (byteAt a.img 24 4)).pins = 0 → exec (.selObjDelete src cid) s =
        .next (State.complete { t with objs := t.objs.filter fun e => e.1 != byteAt a.img 24 4 } src cid Code.deleted))
      ∧ ((t.obj (byteAt a.img 24 4)).pins ≠ 0 → exec (.selObjDelete src cid) s =
        .next ((t.setObj (byteAt a.img 24 4) { t.obj (byteAt a.img 24 4) with retiring := true, deleter := some (src, cid) }).complete
          src cid Code.retiring 0 true)))

/-! ### Queue pairs -/

/-- Doorbells: a valid SQ tail posts its descriptors, and on an administrative queue pair commands are accepted; a CQ head not
beyond the tail returns its slots; a tail or head outside the ring, or a head beyond the tail, puts the queue pair in ERROR
(R440, R441, R443, R453). -/
def Obligations.Doorbells : Prop :=
  (∀ (s : State) (fn q : Nat) (v : Word32), q ≠ 0 → s.hostUp = true → (s.qp (fn * 16 + q)).live = true →
    v.toNat ≠ (s.qp (fn * 16 + q)).sqTail → v.toNat < s.rd R.sqSize (fn * 16 + q) →
    ∃ t, exec (.sqTailDoorbell fn q v) s = .next t ∧ (t.qp (fn * 16 + q)).sqTail = v.toNat
      ∧ (t.qp (fn * 16 + q)).sqHead = (s.qp (fn * 16 + q)).sqHead ∧ (t.qp (fn * 16 + q)).st = .enabled
      ∧ (∀ k, k ≠ fn * 16 + q → t.qp k = s.qp k) ∧ t = { s with qps := t.qps })
  ∧ (∀ (s : State) (fn : Nat) (v : Word32), fn < 64 → s.hostUp = true → (s.qp (fn * 16)).live = true →
      v.toNat ≠ (s.qp (fn * 16)).sqTail → v.toNat < s.rd R.sqSize (fn * 16) →
      ∃ t, exec (.sqTailDoorbell fn 0 v) s = .next t ∧ (t.qp (fn * 16)).sqTail = v.toNat ∧ (t.qp (fn * 16)).st = .enabled
        ∧ s.accepted <+: t.accepted ∧ (∀ k, k ≠ fn * 16 → t.qp k = s.qp k) ∧ t = { s with qps := t.qps, accepted := t.accepted })
  ∧ (∀ (s : State) (fn q : Nat) (v : Word32), s.hostUp = true → (s.qp (fn * 16 + q)).live = true →
      v.toNat ≠ (s.qp (fn * 16 + q)).sqTail → s.rd R.sqSize (fn * 16 + q) ≤ v.toNat →
      ∃ t, exec (.sqTailDoorbell fn q v) s = .next t ∧ (t.qp (fn * 16 + q)).st = .error
        ∧ (t.qp (fn * 16 + q)).sqHead = (s.qp (fn * 16 + q)).sqHead
        ∧ (∀ k, k ≠ fn * 16 + q → t.qp k = s.qp k) ∧ t.mem = s.mem)
  ∧ (∀ (s : State) (fn q n h d : Nat) (x : Qp) (v : Word32), x = s.qp (fn * 16 + q) → n = s.rd R.cqSize (fn * 16 + q) → h = v.toNat →
      d = (h + n - x.cqHead) % n → s.hostUp = true → x.st = .enabled → h < n → d ≤ (x.cqTail + n - x.cqHead) % n →
      ∃ t, exec (.cqHeadDoorbell fn q v) s = .next t ∧ (t.qp (fn * 16 + q)).cqHead = h
        ∧ (t.qp (fn * 16 + q)).written = (if h = x.cqTail then [] else x.written.drop d)
        ∧ (t.qp (fn * 16 + q)).fired = (x.fired && h != x.cqTail)
        ∧ (t.qp (fn * 16 + q)).st = .enabled ∧ (t.qp (fn * 16 + q)).cqTail = x.cqTail
        ∧ (∀ k, k ≠ fn * 16 + q → t.qp k = s.qp k) ∧ t = { s with qps := t.qps })
  ∧ (∀ (s : State) (fn q n h : Nat) (x : Qp) (v : Word32), x = s.qp (fn * 16 + q) → n = s.rd R.cqSize (fn * 16 + q) → h = v.toNat →
      s.hostUp = true → x.st = .enabled → n ≤ h ∨ 0 < n ∧ (x.cqTail + n - x.cqHead) % n < (h + n - x.cqHead) % n →
      ∃ t, exec (.cqHeadDoorbell fn q v) s = .next t ∧ (t.qp (fn * 16 + q)).st = .error ∧ (t.qp (fn * 16 + q)).cqHead = x.cqHead
        ∧ (∀ k, k ≠ fn * 16 + q → t.qp k = s.qp k) ∧ t.mem = s.mem)

/-- A queue pair: ENABLE with good fields enables it with empty rings; DISABLE of an enabled one without requests discards
what was posted and waits for its event buffer, and when that is empty it is DISABLED; an event is written to its slot with
the phase, the tail moves and the phase turns at the ring's end; the vector fires at COAL_COUNT or COAL_TIME, and on unmask if
it is pending (R437, R438, R449 to R453). -/
def Obligations.QueuePairs : Prop :=
  (∀ (s : State) (r k : Nat), s.target r 16 0x100 .any = some k → (s.qp k).st = .disabled →
    ∃ t, exec (.qpEnable r) s = .next t
      ∧ (t.qp k).st = (if (s.dropLatch r (16 * 65536)).qpFieldsOk k then .enabled else .error)
      ∧ (t.qp k).sqHead = 0 ∧ (t.qp k).sqTail = 0 ∧ (t.qp k).cqHead = 0 ∧ (t.qp k).cqTail = 0 ∧ (t.qp k).phase = true
      ∧ (t.qp k).evbuf = [] ∧ (∀ j, j ≠ k → t.qp j = s.qp j) ∧ t.mem = s.mem ∧ t.regs = s.regs)
  ∧ (∀ (s : State) (r k : Nat), s.target r 16 0x100 .any = some k → (s.qp k).st = .enabled → (s.qp k).draining = false →
      s.reqsOfQueue k = [] →
      ∃ t, exec (.qpDisable r) s = .next t ∧ (t.qp k).draining = true ∧ (t.qp k).st = .enabled ∧ (t.qp k).sqHead = (t.qp k).sqTail
        ∧ (t.qp k).evbuf = (s.qp k).evbuf ∧ (∀ j, j ≠ k → t.qp j = s.qp j) ∧ t.mem = s.mem)
  ∧ (∀ (s : State) (r k : Nat), s.target r 16 0x100 .any = some k → (s.qp k).st = .error →
      ∃ t, exec (.qpDisable r) s = .next t ∧ (t.qp k).st = .disabled ∧ (t.qp k).sqHead = (s.qp k).sqTail
        ∧ (∀ x ∈ t.cancels, x / 256 ≠ k) ∧ (∀ j, j ≠ k → t.qp j = s.qp j)
        ∧ t = { s.dropLatch r (16 * 65536) with qps := t.qps, cancels := t.cancels })
  ∧ (∀ (s : State) (fn q : Nat), (s.qp (fn * 16 + q)).draining = true → (s.qp (fn * 16 + q)).evbuf = [] →
      exec (.qpDisableComplete fn q) s = .next (s.setQp (fn * 16 + q) { s.qp (fn * 16 + q) with st := .disabled, draining := false }))
  ∧ (∀ (s : State) (fn q k n nx : Nat) (e : Ev) (rest : List Ev), q < 16 → k = fn * 16 + q → n = s.rd R.cqSize k →
      nx = (if n ≤ (s.qp k).cqTail + 1 then 0 else (s.qp k).cqTail + 1) → (s.qp k).evbuf = e :: rest →
      (s.qp k).st = .enabled → s.serving = true → s.barsUp = true → nx ≠ (s.qp k).cqHead →
      ∃ t, exec (.eventWrite fn q true) s = .next t
        ∧ t.out = s.out ++ [.hostWrite fn (s.rd R.cqBase k + 16 * (s.qp k).cqTail) (e.bytes (s.qp k).phase)]
            ++ (if s.rd R.coalCount k ≤ (s.qp k).written.length + 1 ∧ (s.qp k).fired = false ∧ s.masked fn (s.rd R.qpVector k) = false then
              [.msix fn (s.rd R.qpVector k)] else [])
        ∧ (t.qp k).cqTail = nx ∧ (t.qp k).evbuf = rest ∧ (t.qp k).phase = (if nx = 0 then !(s.qp k).phase else (s.qp k).phase)
        ∧ (t.qp k).written = (s.qp k).written ++ [s.time] ∧ (∀ j, j ≠ k → t.qp j = s.qp j) ∧ t.regs = s.regs ∧ t.mem = s.mem)
  ∧ (∀ (s : State) (fn q k x : Nat), q < 16 → k = fn * 16 + q → (s.qp k).written.head? = some x → (s.qp k).st = .enabled →
      (s.qp k).fired = false → (s.rd R.coalTime k : Int) ≤ tkFrom x s.time → s.dev.st ≠ .shuttered →
      ∃ t, exec (.coalTimeExpiry fn q) s = .next t ∧ (t.qp k).fired = true ∧ (∀ j, j ≠ k → t.qp j = s.qp j)
        ∧ t.out = s.out ++ (if s.masked fn (s.rd R.qpVector k) then [] else [.msix fn (s.rd R.qpVector k)])
        ∧ (s.masked fn (s.rd R.qpVector k) = true → Tab.get false t.msixPend (fn * 32 + s.rd R.qpVector k) = true)
        ∧ t.mem = s.mem ∧ t.regs = s.regs)
  ∧ (∀ (s : State) (fn vec : Nat), s.hostUp = true → s.masked fn vec = true → Tab.get false s.msixPend (fn * 32 + vec) = true →
      s.dev.st ≠ .shuttered →
      ∃ t, exec (.msixUnmask fn vec) s = .next t ∧ t.out = s.out ++ [.msix fn vec] ∧ t.masked fn vec = false
        ∧ Tab.get false t.msixPend (fn * 32 + vec) = false ∧ t.mem = s.mem ∧ t.regs = s.regs)

/-! ### Requests -/

/-- Admission, when nothing is due earlier in the tick and the function is in turn: a descriptor with a bad field is answered
BAD_REQUEST, its final record and event written and the SQ head advanced; one that passes every check of R445 with a free slot
and pages is admitted into a free slot, in admission order, its prompt to be fetched; either counts in the function's turn,
and a function that has had 8 decided while another waits is not in turn. One for a LOADING pavilion that orders 1 and 2 of
R445 do not reject waits, and is answered PAVILION_NOT_OPEN when it waited too long. A cancelled one is rejected with
CANCELLED when its turn comes, and in the tick of its cancel what the decision admits ends (R252, R254, R255, R257, R443,
R445, R447, R462; the order of the held checks is log 39's). -/
def Obligations.Admission : Prop :=
  (∀ (s : State) (fn q k p : Nat) (d : BitVec 1024), q < 16 → k = fn * 16 + q → p = s.rd R.qpPavilion k → s.deciding k = true →
    s.before (turnAt s.time 5 0) = [] → d = Tab.get 0 (s.qp k).ring (s.qp k).sqHead → (s.pav p).st ≠ .loading → s.upd.gateDown = false →
    s.cancels.contains (k * 256 + (s.qp k).sqHead) = false → 1 < s.rd R.sqSize k →
    (s.badRequest k d = true → ∃ t, exec (.admissionDecision fn q) s = .next t
      ∧ t.out = s.out ++ [.hostWrite fn (Rd.outAddr d) (finalRecord (Rd.reqId d) Code.badRequest {} 0 (BitVec.ofNat 64 (Rd.seed d)) s.time)]
      ∧ (t.qp k).evbuf = (s.qp k).evbuf ++ [{ w := finalEvent (Rd.reqId d) Code.badRequest 0 0 }]
      ∧ (t.qp k).sqHead = (if s.rd R.sqSize k ≤ (s.qp k).sqHead + 1 then 0 else (s.qp k).sqHead + 1)
      ∧ (t.pav p).turnFn = fn ∧ (t.pav p).turnN = (if (s.pav p).turnFn = fn ∧ (s.pav p).turnN < 8 then (s.pav p).turnN + 1 else 1)
      ∧ (∀ j, j ≠ k → t.qp j = s.qp j) ∧ t.reqs = s.reqs ∧ t.recs = s.recs ∧ t.mem = s.mem ∧ t.regs = s.regs)
    ∧ (s.badRequest k d = false → Rd.pavilion d = p → s.tenantOk fn (Rd.tenant d) = true →
        s.route fn (Rd.tenant d) (Rd.model d) p = some (true, false) → s.laterReject fn p d = none → s.fullPav p = false →
        s.evictFor p (8 * 32768) (cdiv (Rd.promptLen d) 16) (s.evictable p) = s →
        s.roomFor p (8 * 32768) (cdiv (Rd.promptLen d) 16) (if s.drafting p then cdiv (Rd.promptLen d) 16 else 0) = true →
        s.rd R.admitStrict p = 0 → s.freeSlotsOf p ≠ [] → Rd.seed d ≠ 0 →
        ∃ t i, exec (.admissionDecision fn q) s = .next t ∧ i ∈ s.freeSlotsOf p ∧ (t.req i).desc = d ∧ (t.req i).phase = .fetching
          ∧ (t.req i).seq = s.admitSeq ∧ t.admitSeq = s.admitSeq + 1 ∧ (t.req i).res = s.resolveD d
          ∧ (t.req i).seed = BitVec.ofNat 64 (Rd.seed d) ∧ (t.req i).sched.cls = Rd.cls d ∧ (t.req i).reserved = cdiv (Rd.promptLen d) 16
          ∧ (t.qp k).sqHead = (if s.rd R.sqSize k ≤ (s.qp k).sqHead + 1 then 0 else (s.qp k).sqHead + 1)
          ∧ (t.pav p).turnFn = fn ∧ t.out = s.out ∧ (∀ j, j ≠ i → t.req j = s.req j) ∧ (∀ j, j ≠ k → t.qp j = s.qp j)))
  ∧ (∀ (s : State) (fn q k p : Nat) (d : BitVec 1024), q < 16 → k = fn * 16 + q → q ≠ 0 → (s.qp k).live = true →
      (s.qp k).sqHead ≠ (s.qp k).sqTail → p = s.rd R.qpPavilion k → (s.pav p).st = .loading →
      (s.rd R.holdLimit p : Int) ≤ tkFrom (Tab.get 0 (s.qp k).posted (s.qp k).sqHead) s.time →
      s.cancels.contains (k * 256 + (s.qp k).sqHead) = false → d = Tab.get 0 (s.qp k).ring (s.qp k).sqHead →
      s.earlyReject k d = none → s.dev.st ≠ .shuttered →
      ∃ t, exec (.holdLimitExpiry fn q) s = .next t
        ∧ t.out = s.out ++ [.hostWrite fn (Rd.outAddr d)
            (finalRecord (Rd.reqId d) Code.pavilionNotOpen {} 0 (BitVec.ofNat 64 (Rd.seed d)) s.time)]
        ∧ (t.qp k).evbuf = (s.qp k).evbuf ++ [{ w := finalEvent (Rd.reqId d) Code.pavilionNotOpen 0 0 }]
        ∧ (t.qp k).sqHead = (if s.rd R.sqSize k ≤ (s.qp k).sqHead + 1 then 0 else (s.qp k).sqHead + 1)
        ∧ (∀ j, j ≠ k → t.qp j = s.qp j) ∧ t.reqs = s.reqs ∧ t.mem = s.mem)
  ∧ (∀ (s : State) (fn q k : Nat) (d : BitVec 1024), k = fn * 16 + q → s.deciding k = true → s.before (turnAt s.time 5 0) = [] →
      (s.pav (s.rd R.qpPavilion k)).st = .loading → s.cancels.contains (k * 256 + (s.qp k).sqHead) = false →
      d = Tab.get 0 (s.qp k).ring (s.qp k).sqHead → s.earlyReject k d = none →
      exec (.admissionDecision fn q) s = .next (s.setQp k { s.qp k with waits := true }))
  ∧ (∀ (s w : State) (fn q k c : Nat) (d : BitVec 1024), q < 16 → k = fn * 16 + q → s.deciding k = true →
      s.before (turnAt s.time 5 0) = [] → c = k * 256 + (s.qp k).sqHead → s.cancels.contains c = true →
      d = Tab.get 0 (s.qp k).ring (s.qp k).sqHead → 1 < s.rd R.sqSize k → w = s.decideLive k d →
      (s.sdl.cancelled.contains c = false → ∃ t, exec (.admissionDecision fn q) s = .next t
        ∧ t.out = s.out ++ [.hostWrite fn (Rd.outAddr d)
            (finalRecord (Rd.reqId d) Code.cancelled {} 0 (BitVec.ofNat 64 (Rd.seed d)) s.time)]
        ∧ (t.qp k).evbuf = (s.qp k).evbuf ++ [{ w := finalEvent (Rd.reqId d) Code.cancelled 0 0 }]
        ∧ t.cancels.contains c = false ∧ (∀ j, j ≠ k → t.qp j = s.qp j) ∧ t.reqs = s.reqs ∧ t.mem = s.mem ∧ t.regs = s.regs)
      ∧ (s.sdl.cancelled.contains c = true → Tab.Rises w.reqs → w.admitSeq ≠ s.admitSeq →
          ∃ t, exec (.admissionDecision fn q) s = .next t ∧ t.mem = w.mem ∧ t.out = w.out
            ∧ (∀ i, w.hasReq i = true → (w.req i).seq = s.admitSeq → (t.req i).ending.isSome = true)
            ∧ (∀ i, (w.req i).seq ≠ s.admitSeq → t.req i = w.req i)))
  ∧ (∀ (s : State) (fn q p g : Nat), fn < 64 → g < 64 → g ≠ fn → q < 16 → p = s.rd R.qpPavilion (fn * 16 + q) →
      (s.pav p).turnFn = fn → (s.pav p).turnN = 8 → s.fnWaits p g = true → exec (.admissionDecision fn q) s = .next s)

/-- The life of a request: a good prompt makes it READY; one with a token outside the vocabulary or cut short ends with
BAD_PROMPT, and a failed read with HOST_DMA_FAIL; aging lowers its effective class by 1 and not below 1, and counts on from
the tick it was due; a deadline, when nothing is due earlier in the order of R83, ends it or is only noted, as DEADLINE_ACTION
says; a cancel ends every request and every undecided descriptor of the function that has the REQ_ID, and answers their number
(R83, R258, R277, R446, R462, R464). -/
def Obligations.RequestEvents : Prop :=
  (∀ (s : State) (i : Nat) (tokens : List Word32), s.hasReq i = true → (s.req i).phase = .fetching →
    (s.model (s.req i).pav (s.req i).model).isSome = true → tokens.length = Rd.promptLen (s.req i).desc →
    (∀ x ∈ tokens, x.toNat < ((s.model (s.req i).pav (s.req i).model).map (·.vocab)).getD 0) →
    ∃ t, exec (.promptReadComplete i tokens true) s = .next t ∧ (t.req i).phase = .ready ∧ (t.req i).prompt = tokens.map (·.toNat)
      ∧ (t.req i).ending = (s.req i).ending ∧ (∀ j, j ≠ i → t.req j = s.req j) ∧ t.mem = s.mem ∧ t.out = s.out)
  ∧ (∀ (s : State) (i : Nat) (tokens : List Word32), s.hasReq i = true → (s.req i).phase = .fetching → (s.req i).ending = none →
      (tokens.length < Rd.promptLen (s.req i).desc ∨ (∃ x ∈ tokens.take (Rd.promptLen (s.req i).desc),
        ((s.model (s.req i).pav (s.req i).model).map (·.vocab)).getD 0 ≤ x.toNat)) →
      ∃ t, exec (.promptReadComplete i tokens true) s = .next t ∧ (t.req i).ending = some Code.badPrompt
        ∧ (∀ j, j ≠ i → t.req j = s.req j) ∧ t.mem = s.mem)
  ∧ (∀ (s : State) (i : Nat) (tokens : List Word32), s.hasReq i = true → (s.req i).phase = .fetching → (s.req i).ending = none →
      ∃ t, exec (.promptReadComplete i tokens false) s = .next t ∧ (t.req i).ending = some (Cls.request.code Code.hostDmaFail)
        ∧ (∀ j, j ≠ i → t.req j = s.req j) ∧ t.mem = s.mem)
  ∧ (∀ (s : State) (i : Nat), s.hasReq i = true → s.rd R.ageLimit (s.req i).pav ≠ 0 → 2 ≤ Rd.cls (s.req i).desc →
      (s.stepReqs (s.req i).pav).contains i = false →
      (s.rd R.ageLimit (s.req i).pav : Int) ≤ tkFrom (s.req i).sched.noRow s.time →
      ∃ t, exec (.aging i) s = .next t
        ∧ (t.req i).sched.cls = (if (s.req i).sched.cls ≤ 1 then (s.req i).sched.cls else (s.req i).sched.cls - 1)
        ∧ (t.req i).sched.noRow = (s.req i).sched.noRow + s.rd R.ageLimit (s.req i).pav
        ∧ (∀ j, j ≠ i → t.req j = s.req j) ∧ t = { s with reqs := t.reqs })
  ∧ (∀ (s : State) (i d : Nat), s.hasReq i = true → (s.req i).deadline = some d → d ≤ s.time → (s.req i).ending = none →
      (s.req i).report.deadlineMissed = false → s.before (turnAt d 6 i) = [] →
      ∃ t, exec (.deadlineExpiry i) s = .next t ∧ (∀ j, j ≠ i → t.req j = s.req j) ∧ t.mem = s.mem
        ∧ (s.rd R.deadlineAction (s.req i).pav = 1 → (t.req i).report.deadlineMissed = true ∧ (t.req i).ending = none
          ∧ t = { s with reqs := t.reqs })
        ∧ (s.rd R.deadlineAction (s.req i).pav = 0 → (t.req i).ending = some (Cls.request.code Code.deadlineMissed)))
  ∧ (∀ (s t : State) (src id : Nat) (cid : Word32) (a : AdminCmd) (rs us : List Nat), Tab.Rises s.reqs → s.findCmd src cid 0x50 = some a →
      t = { s with accepted := markStarted src cid 0x50 s.accepted } → id = byteAt a.img 24 8 →
      rs = (t.reqs.filter fun e => e.2.fn == src && e.2.id == id && e.2.ending.isNone).map (·.1) →
      us = (t.undecided src id).filter (fun x => !t.cancels.contains x) →
      ∃ u : State, exec (.reqCancel src cid) s
          = .next (u.complete src cid (if rs = [] ∧ us = [] then Code.reqNotFound else 0) (rs.length + us.length))
        ∧ (∀ i ∈ rs, (u.req i).ending = some Code.cancelled) ∧ (∀ j, j ∉ rs → u.req j = s.req j) ∧ u.cancels = s.cancels ++ us
        ∧ u.sdl = { s.sdl with cancelled := s.sdl.cancelled ++ us }
        ∧ u = { t with reqs := u.reqs, cancels := u.cancels, sdl := u.sdl })

/-- KV pages: a spilled page's bytes are in the cold frame, its HBM reference is gone and the page table follows, and with the
last page the spill is complete and its expiry runs; a page read back takes a free page and leaves its cold copy; a page-in
with nothing left returns the request to PAUSED; at a multiple of 65,536 tk, when nothing is due earlier, the spilled requests
past their expiry leave and no others, and a DRAINING pavilion left without a request closes (R84, R274, R313, R327 to R330).
-/
def Obligations.KvPages : Prop :=
  (∀ (s0 s : State) (evs : List (Nat × MemEvent)) (i j g n : Nat) (d : Bool), s = s0.hbmEvents evs → (s.req i).phase = .spilling →
    (s.req i).nextSpill = some (j, d, g) → n = s.poolPageBytes (s.req i).pav d →
    s.poisoned (s.pageAddr g) n = false → s.spanWaits (s.pageAddr g) n = false → s.gate.errorState = false →
    s.coldFits n ≠ [] → s.cfm.port0.lost = false → s.cfm.port1.lost = false →
    ∃ (w u : State) (a : Nat) (e : SpPage), exec (.spillPageWrite i true evs) s0 = .next u ∧ a ∈ s.coldFits n
      ∧ (∀ k < n, Mem.rd w.mem (a + k) = Mem.rd s.mem (s.pageAddr g + k)) ∧ u.mem = (w.writePt i).mem
      ∧ e.j = j ∧ e.draft = d ∧ e.coldAt = a ∧ e.size = n ∧ (w.req i).spill = (s.req i).spill ++ [e]
      ∧ (w.req i).pages = (if d then (s.req i).pages else (s.req i).pages.set j none)
      ∧ (w.req i).draftPages = (if d then (s.req i).draftPages.set j none else (s.req i).draftPages)
      ∧ (u.req i).spill = (w.req i).spill ∧ (u.req i).pages = (w.req i).pages ∧ (u.req i).draftPages = (w.req i).draftPages
      ∧ ((w.req i).nextSpill = none → (u.req i).phase = .spilled ∧ (u.req i).expiry = s.expiryTick (s.req i).pav)
      ∧ ((w.req i).nextSpill ≠ none → (u.req i).phase = .spilling ∧ (u.req i).toMove = (s.req i).toMove - 1)
      ∧ (∀ k, k ≠ i → u.req k = s.req k) ∧ u.plots = s.plots)
  ∧ (∀ (s : State) (i : Nat), s.hasReq i = true → (s.req i).phase = .pagingIn → (s.req i).spill = [] →
      ∃ t, exec (.pageInRead i) s = .next t ∧ (t.req i).phase = .paused ∧ (t.req i).spill = [] ∧ (t.req i).out = (s.req i).out
        ∧ (∀ j, j ≠ i → t.req j = s.req j) ∧ t.mem = s.mem ∧ t.out = s.out)
  ∧ (∀ (s : State) (i : Nat) (e : SpPage) (rest : List SpPage), s.hasReq i = true → (s.req i).phase = .pagingIn →
      (s.req i).spill = e :: rest → rest ≠ [] → e ∉ rest → s.poisoned e.coldAt e.size = false →
      (s.freePages (s.req i).pav e.draft) ≠ [] →
      (e.draft = false → 1 + s.reservedBut (s.req i).pav i ≤ (s.freePages (s.req i).pav false).length) →
      ∃ (w u : State) (g : Nat), exec (.pageInRead i) s = .next u ∧ g ∈ s.freePages (s.req i).pav e.draft
        ∧ w.mem = Mem.write s.mem (s.pageAddr g) (Mem.read s.mem e.coldAt e.size) ∧ u.mem = (w.writePt i).mem
        ∧ (u.req i).pages = (if e.draft then (s.req i).pages else (s.req i).pages.set e.j (some g))
        ∧ (u.req i).draftPages = (if e.draft then (s.req i).draftPages.set e.j (some g) else (s.req i).draftPages)
        ∧ (u.req i).spill = rest ∧ (u.req i).toMove = (s.req i).toMove - 1 ∧ (u.req i).phase = .pagingIn
        ∧ (u.page g).st = .owned ∧ (u.page g).refs = 1 ∧ (∀ j, j ≠ i → u.req j = s.req j) ∧ (∀ k, k ≠ g → u.page k = s.page k))
  ∧ (∀ s : State, Tab.Rises s.reqs → s.ttlDue = true → s.before (turnAt s.time 7 0) = [] →
      ∃ t, exec .kvTtlCheck s = .next t ∧ t.sdl.ttlDone = true ∧ t.sdl.owed.ttl = false
        ∧ (∀ j q, (j, q) ∈ s.reqs → (q.phase = .spilled ∧ (∃ x, q.expiry = some x ∧ x ≤ s.time)) → t.hasReq j = false)
        ∧ (∀ j q, (j, q) ∈ s.reqs → ¬ (q.phase = .spilled ∧ (∃ x, q.expiry = some x ∧ x ≤ s.time)) → t.req j = q)
        ∧ (∀ p, (s.pav p).st ≠ .draining → (t.pav p).st = (s.pav p).st)
        ∧ (∀ p < 8, (s.pav p).st = .draining → t.residents p = [] → (t.pav p).st = .closed)
        ∧ (∀ p, t.residents p ≠ [] → (t.pav p).st = (s.pav p).st))

/-- A row of logits gives a draft or a target draw to its request, in row order, and changes no other request; a mask that
leaves no token ends the request with MASK_EMPTY; a lost selection object ends its users, whose earlier draws of the round
stand (R299, R335, R364, R365). -/
def Obligations.SelectionRows : Prop :=
  (∀ (s : State) (i t : Nat) (logits : List Word32), s.hasReq i = true → s.ends (s.req i) = true →
    (s.req i).maskEmpty = false → (s.req i).decided (s.stopsOf (s.req i)) = false →
    (Rd.handle (s.req i).desc = 0 ∨ s.poisoned (s.obj (Rd.handle (s.req i).desc)).addr (s.obj (Rd.handle (s.req i).desc)).size = false) →
    s.choose (s.req i) (s.req i).draws 1 logits = some t →
    ∃ u, exec (.selection i false logits) s = .next u ∧ (u.req i).draws = (s.req i).draws ++ [t]
      ∧ (u.req i).drafts = (s.req i).drafts ∧ (u.req i).out = (s.req i).out ∧ (∀ j, j ≠ i → u.req j = s.req j)
      ∧ u = { s with reqs := u.reqs })
  ∧ (∀ (s : State) (i t : Nat) (logits : List Word32), s.hasReq i = true → s.ends (s.req i) = true →
      (s.req i).draws = [] → (s.req i).draftStopped = false → (s.req i).drafts.length < (s.req i).sched.depth →
      (Rd.handle (s.req i).desc = 0 ∨ s.poisoned (s.obj (Rd.handle (s.req i).desc)).addr (s.obj (Rd.handle (s.req i).desc)).size = false) →
      s.choose (s.req i) (s.req i).drafts 2 logits = some t →
      ∃ u, exec (.selection i true logits) s = .next u ∧ (u.req i).drafts = (s.req i).drafts ++ [t] ∧ (u.req i).draftIn = [t]
        ∧ (u.req i).draws = [] ∧ (∀ j, j ≠ i → u.req j = s.req j) ∧ u = { s with reqs := u.reqs })
  ∧ (∀ (s : State) (i : Nat) (logits : List Word32), s.hasReq i = true → s.ends (s.req i) = true →
      (s.req i).maskEmpty = false → (s.req i).decided (s.stopsOf (s.req i)) = false →
      (Rd.handle (s.req i).desc = 0 ∨ s.poisoned (s.obj (Rd.handle (s.req i).desc)).addr (s.obj (Rd.handle (s.req i).desc)).size = false) →
      s.choose (s.req i) (s.req i).draws 1 logits = none → (s.req i).ending = none →
      ∃ u, exec (.selection i false logits) s = .next u ∧ (u.req i).ending = some (Cls.request.code Code.maskEmpty)
        ∧ (u.req i).maskEmpty = true ∧ (u.req i).draws = (s.req i).draws ∧ (∀ j, j ≠ i → u.req j = s.req j))
  ∧ (∀ (s : State) (i h : Nat) (logits : List Word32), Tab.Rises s.reqs → s.hasReq i = true → s.ends (s.req i) = true →
      (s.req i).maskEmpty = false → (s.req i).decided (s.stopsOf (s.req i)) = false → h = Rd.handle (s.req i).desc → h ≠ 0 →
      s.poisoned (s.obj h).addr (s.obj h).size = true →
      ∃ u, exec (.selection i false logits) s = .next u ∧ (u.obj h).lost = true ∧ (∀ k, k ≠ h → u.obj k = s.obj k)
        ∧ (∀ j, s.hasReq j = true → Rd.handle (s.req j).desc = h →
          (u.req j).ending.isSome = true ∧ (u.req j).draws = (s.req j).draws)
        ∧ (∀ j, Rd.handle (s.req j).desc ≠ h → u.req j = s.req j))

/-- The tokens that a commit point commits are a prefix of the target's draws, at most as many as MAX_TOKENS leaves, with no
stop token before the last (R289, R298). -/
def Obligations.CommittedTokens : Prop :=
  ∀ (stops draws : List Nat) (room : Nat),
    (commitOf stops draws room).length ≤ room ∧ commitOf stops draws room <+: draws
    ∧ (∀ t ∈ (commitOf stops draws room).dropLast, stops.contains t = false)

/-- A commit point of a request whose round is decided commits its tokens: they join its output, COMMIT_LEN and the round's
pending draws follow, each is written to its host with a TOKEN event unless FINAL_ONLY, and it ends when it has stopped or
reached its limit; a poisoned request commits nothing (R297, R298, R306, R308, R450). -/
def Obligations.CommitPoints : Prop :=
  (∀ (s : State) (i : Nat), s.hasReq i = true → s.ends (s.req i) = true → (s.pav (s.req i).pav).st ≠ .closed →
    (s.req i).poisoned = true →
    ∃ t, exec (.commitPoint i) s = .next t ∧ (t.req i).out = (s.req i).out ∧ (t.req i).committed = true ∧ (t.req i).draws = []
      ∧ (t.req i).commitLen = (s.req i).commitLen ∧ (∀ j, j ≠ i → t.req j = s.req j) ∧ t.mem = s.mem ∧ t.qps = s.qps)
  ∧ (∀ (s : State) (i : Nat) (r : Req) (toks : List Nat), s.hasReq i = true → r = s.req i → s.ends r = true →
      (s.pav r.pav).st ≠ .closed → r.poisoned = false → r.decided (s.stopsOf r) = true →
      (r.sched.depth ≤ r.drafts.length ∨ r.prefill = true) →
      toks = commitOf (s.stopsOf r) r.draws (Rd.maxTokens r.desc - r.out.length) →
      ∃ t, exec (.commitPoint i) s = .next t ∧ (t.req i).out = r.out ++ toks ∧ (t.req i).committed = true
        ∧ (t.req i).draws = [] ∧ (t.req i).drafts = [] ∧ (t.req i).commitLen = r.prompt.length + r.out.length + toks.length - 1
        ∧ ((∃ x ∈ toks, (s.stopsOf r).contains x = true) ∨ Rd.maxTokens r.desc ≤ (r.out ++ toks).length →
          (t.req i).ending.isSome = true)
        ∧ (¬ ((∃ x ∈ toks, (s.stopsOf r).contains x = true) ∨ Rd.maxTokens r.desc ≤ (r.out ++ toks).length) →
          (t.req i).ending = r.ending)
        ∧ (∀ j, j ≠ i → t.req j = s.req j)
        ∧ (r.cut = false → (s.qp r.queue).live = true → s.dev.st ≠ .shuttered →
          t.out = s.out ++ (List.range toks.length).map (fun j =>
            Out.hostWrite r.fn (Rd.outAddr r.desc + 64 + 4 * (r.out.length + j)) (leBytes 4 (toks.getD j 0)))
          ∧ (t.qp r.queue).evbuf = (s.qp r.queue).evbuf ++ (if Rd.finalOnly r.desc then [] else
              (List.range toks.length).map fun j =>
                { w := tokenEvent r.id (toks.getD j 0) (r.out.length + j) (j + 1 == toks.length) }))
        ∧ ((r.cut = true ∨ (s.qp r.queue).live = false) → t.out = s.out ∧ t.qps = s.qps))

/-! ### Pavilions, boundaries, function resets -/

/-- The pavilion commands: PAV_OPEN by the PF's rights brings a CLOSED pavilion that the image defines and that has a
serviceable terrace into LOADING and a DRAINING one back to OPEN, and answers any other with its status; PAV_DRAIN brings OPEN
into DRAINING, and on into CLOSED when no request is resident; DRAIN_LIMIT and the boundary of a DRAINING pavilion without
residents close it (R274, R457, R460). -/
def Obligations.PavilionStates : Prop :=
  (∀ (s t : State) (src p : Nat) (cid : Word32) (a : AdminCmd), s.findCmd src cid 0x40 = some a → pfRights src = true →
    t = { s with accepted := markStarted src cid 0x40 s.accepted } → p = byteAt a.img 24 1 →
    (8 ≤ p → exec (.pavOpen src cid) s = .next (t.complete src cid Code.pavUndefined))
    ∧ (p < 8 → (t.pav p).st = .closed → t.defined p = false → exec (.pavOpen src cid) s = .next (t.complete src cid Code.pavUndefined))
    ∧ (p < 8 → (t.pav p).st = .closed → t.defined p = true → (t.servTerrs p).isEmpty = false →
        ∃ u : State, exec (.pavOpen src cid) s = .next (u.complete src cid 0)
        ∧ (u.pav p).st = .loading ∧ (∀ j, j ≠ p → u.pav j = s.pav j) ∧ u.mem = s.mem ∧ u.reqs = s.reqs)
    ∧ (p < 8 → (t.pav p).st = .draining → exec (.pavOpen src cid) s = .next ((t.goPav p .opened).complete src cid 0))
    ∧ (p < 8 → (t.pav p).st = .opened ∨ (t.pav p).st = .loading ∨ (t.pav p).st = .swapping →
        exec (.pavOpen src cid) s = .next (t.complete src cid Code.pavBadState)))
  ∧ (∀ (s t : State) (src p : Nat) (cid : Word32) (a : AdminCmd), s.findCmd src cid 0x41 = some a → pfRights src = true →
      t = { s with accepted := markStarted src cid 0x41 s.accepted } → p = byteAt a.img 24 1 → p < 8 →
      ((t.pav p).st = .opened → t.residents p ≠ [] →
        exec (.pavDrain src cid) s = .next ((t.goPav p .draining).complete src cid 0))
      ∧ ((t.pav p).st = .opened → t.residents p = [] → ∃ u : State, exec (.pavDrain src cid) s = .next (u.complete src cid 0)
        ∧ (u.pav p).st = .closed ∧ (∀ j, j ≠ p → u.pav j = s.pav j) ∧ u.mem = s.mem ∧ u.reqs = s.reqs)
      ∧ ((t.pav p).st ≠ .opened → exec (.pavDrain src cid) s = .next (t.complete src cid Code.pavBadState)))
  ∧ (∀ (s : State) (c : Instr) (src op : Nat) (cid : Word32) (a : AdminCmd),
      (c, op) ∈ ([(.pavOpen src cid, 0x40), (.pavDrain src cid, 0x41)] : List (Instr × Nat)) → s.findCmd src cid op = some a →
      pfRights src = false →
      exec c s = .next ({ s with accepted := markStarted src cid op s.accepted : State }.complete src cid Code.notPermitted))
  ∧ (∀ (s : State) (p : Nat), (s.pav p).st = .draining → (s.rd R.drainLimit p : Int) ≤ tkFrom (s.pav p).since s.time →
      ∃ t, exec (.drainLimitExpiry p) s = .next t ∧ (t.pav p).st = .closed ∧ (∀ j, j ≠ p → t.pav j = s.pav j) ∧ t.mem = s.mem
        ∧ ∀ i, i ∉ s.residents p → t.req i = s.req i)
  ∧ (∀ (s : State) (p : Nat) (st : PavState), ((s.goPav p st).pav p).st = st ∧ (s.goPav p st).mem = s.mem
      ∧ (∀ j, j ≠ p → (s.goPav p st).pav j = s.pav j))

/-- The boundaries. A step boundary in order: the step ends and requests that are ending leave, advances, withdrawals, row
repairs, held terraces, a swap's hold, pauses, a drained pavilion closes and those it ends leave, and the next step starts if
one may; a DRAINING pavilion without residents is CLOSED by it. A cadence boundary that is due, with nothing due before it: it
is done once, the directory's flips, key slots, the rings held back, the pavilions in turn, row repairs outside every
pavilion, and the PLOT clock; one that is not due changes nothing (R82, R83, R255, R263, R265, R266, R274, R280, R496, R594).
-/
def Obligations.Boundaries : Prop :=
  (∀ (s a b c d e f : State) (p mpf mdec : Nat) (lens : List Word32) (tiling : List (Nat × Nat × Nat × BitVec 256)),
    s.serving = true → s.defined p = true → ((s.pav p).st.active = true ∨ s.residents p ≠ []) →
    a = (s.endStep p mpf mdec).endRequests p → b = (a.residents p).foldl State.advanceReq a →
    c = (((b.withdrawals p).repairRows (some p)).holdTerrs p).swapHold p → d = (c.residents p).foldl State.pauseReq c →
    e = (if (d.pav p).st = .draining ∧ d.residents p = [] then d.closePav p else d) →
    f = (if (e.pav p).st = .closed then e.endRequests p else e) →
    (f.mayStep p = true → exec (.stepBoundary p mpf mdec lens tiling) s = .next ((f.startStep p lens tiling).markRows p))
    ∧ (f.mayStep p = false → exec (.stepBoundary p mpf mdec lens tiling) s = .next (f.markRows p)))
  ∧ (∀ (s : State) (p mpf mdec : Nat) (lens : List Word32) (tiling : List (Nat × Nat × Nat × BitVec 256)),
      s.serving = true → s.defined p = true → (s.pav p).st = .draining → s.residents p = [] → s.stepReqs p = [] →
      s.withdrawals p = s → s.repairRows (some p) = s → (s.pav p).swap = none →
      ∃ t, exec (.stepBoundary p mpf mdec lens tiling) s = .next t ∧ (t.pav p).st = .closed ∧ (∀ j, j ≠ p → t.pav j = s.pav j)
        ∧ t.mem = s.mem ∧ t.reqs = s.reqs ∧ t.plots = s.plots ∧ (∀ k, (t.terr k).rows = (s.terr k).rows))
  ∧ (∀ (s a b : State), s.serving = true → s.cadDue = true → s.before (turnAt s.time 3 0) = [] →
      a = State.bcastRetry { s with sdl := { s.sdl with cadDone := true, owed := { s.sdl.owed with cad := false } } } →
      a.handing 0 = false → b = (List.range 8).foldl State.cadPav a.dirBoundary.installKeys.ringsAgain →
      exec .cadenceBoundary s = .next (b.repairRows none).freeTerrs.oldRecords.settleDev.rateStep)
  ∧ (∀ (s : State), s.serving = true → s.cadDue = true → s.before (turnAt s.time 3 0) = [] → s.bcast.st ≠ .retry →
      s.handing 0 = false → s.dirActs = [] →
      ∃ t, exec .cadenceBoundary s = .next t ∧ t.sdl.cadDone = true ∧ t.sdl.owed.cad = false ∧ t.keyPending = [] ∧ t.time = s.time
        ∧ t.nvm.weightKeys = s.keyPending.foldl (fun u e => Tab.put [] u e.1 e.2) s.nvm.weightKeys)
  ∧ (∀ (s : State), s.cadDue = false → exec .cadenceBoundary s = .next s)
  ∧ (∀ (x : Pav) (target hold : Nat), 2 ≤ hold →
      ((x.rebalance target hold).np = x.np ∨ (x.rebalance target hold).np + 1 = x.np ∨ (x.rebalance target hold).np = x.np + 1)
      ∧ (x.streak = 0 → (x.rebalance target hold).np = x.np) ∧ (x.np = target → (x.rebalance target hold).np = x.np))

/-- Function resets and the ports that become ready: a function-level reset clears that function's queue pairs, drops its
commands and ends its requests cut off from the host, one of the PF clears every function's; PERST# resets them all and takes
the link down, its release brings it up; the ready events set their marks; a service-mailbox command from the service port is
accepted if privileged, and else NOT_PERMITTED; a private write of the service port reads or writes one register (R434, R463,
R469, R614, R617). -/
def Obligations.ResetsAndReadiness : Prop :=
  (∀ (s : State) (fn : Nat), Tab.Rises s.reqs → s.barsUp = true → fn ≠ 0 →
    ∃ t, exec (.functionLevelReset fn) s = .next t ∧ (∀ k, k / 16 = fn → t.qp k = {}) ∧ (∀ a ∈ t.accepted, a.src ≠ fn)
      ∧ (∀ i, s.hasReq i = true → (s.req i).fn = fn → (t.req i).ending.isSome = true ∧ (t.req i).cut = true)
      ∧ (∀ i, (s.req i).fn ≠ fn → t.req i = s.req i) ∧ t.rd R.fnNotify fn = 0 ∧ t.mem = s.mem ∧ t.plots = s.plots)
  ∧ (∀ (s : State), s.barsUp = true →
      ∃ t, exec (.functionLevelReset 0) s = .next t ∧ (∀ k < 1024, t.qp k = {}) ∧ (∀ a ∈ t.accepted, 64 ≤ a.src)
        ∧ t.mem = s.mem ∧ t.plots = s.plots)
  ∧ (∀ (s : State),
      ∃ t, exec .perstAssert s = .next t ∧ (∀ k < 1024, t.qp k = {}) ∧ (∀ a ∈ t.accepted, 64 ≤ a.src)
        ∧ t.dev = { s.dev with perst := true, pcieUp := false } ∧ t.mem = s.mem ∧ t.plots = s.plots)
  ∧ (∀ (s : State), s.dev.perst = true →
      exec .perstDeassert s = .next { s with dev := { s.dev with perst := false, pcieUp := true } })
  ∧ (∀ (s : State), s.serving = true →
      exec .configReady s = .next { s with dev := { s.dev with cfgReady := true } }
      ∧ exec .pldmSpdmReady s = .next { s with dev := { s.dev with pldmReady := true } })
  ∧ (∀ (s : State), s.dev.st ≠ .dormant → exec .servicePortReady s = .next { s with dev := { s.dev with svcReady := true } })
  ∧ (∀ (s t u : State) (r i : Nat) (c : BitVec 1024), s.target r 0 0x190 .service = some i → t = s.dropLatch r 0 → c = t.svcImage →
      t.rd R.svcBusy = 0 → u = t.wr R.svcBusy 1 →
      (privileged (Ad.opcode c) = true → Ad.dataLen c = 0 → Ad.wellFormed c = true →
        exec (.devSvcCtlGo r) s = .next { u with accepted := u.accepted ++ [{ src := 64, img := c }] })
      ∧ (privileged (Ad.opcode c) = false → exec (.devSvcCtlGo r) s = .next (u.deliver 64 (Ad.cid c) Code.notPermitted 0 false)))
  ∧ (∀ (s : State) (data : List Byte), s.dev.svcReady = true → zeros data 5 3 = true → fld data 0 4 % 4 = 0 →
      (data.length = 8 → fld data 4 1 = 0 → exec (.svcPrivateWrite data) s = .next ((s.busRead 64 (fld data 0 4)).2.setSvcRead
        (some (BitVec.ofNat 32 (s.busRead 64 (fld data 0 4)).1))))
      ∧ (data.length = 12 → fld data 4 1 = 1 → exec (.svcPrivateWrite data) s = .next
        ((s.regWrite 64 (fld data 0 4) 4 (BitVec.ofNat 64 (fld data 8 4))).setSvcRead none)))

/-! ### Weights -/

/-- Loading: a manifest that passes its checks and fits has its shards placed and starts the load, any other is only marked as
tried; a shard whose bytes give its root is verified, and every other reading counts, the third as WEIGHT_DIGEST_FAIL; a
verified shard is written to its place; the root announces a broadcast, which runs from its start tick with a valid time, when
nothing is due earlier, and waits for a retry without one; a receiver takes a leaf table that gives the root and a leaf that
has its hash, asks for what it misses at the end marker, and fails the digest after three rounds; with nothing left to take
the broadcast ends on it (R367, R368, R370, R372, R376 to R379). -/
def Obligations.WeightLoading : Prop :=
  (∀ (s : State) (p m : Nat) (b : List Byte), s.serving = true → s.rd R.fabricLoad = 0 →
    s.upd.gateDown = false → (s.model p m).isSome = true → (s.pav p).st = .loading → (s.wgt (wgtIx p m)).tried = false →
    (s.pav p).swap = none →
    ∃ u, exec (.manifestVerify p m b) s = .next u
      ∧ u.wgt (wgtIx p m) = (if s.manifestGood p m b then
          (match s.placement p m b with
            | some t => { tried := true, named := b, manifest := b, good := true, shards := t }
            | none => { tried := true, named := b, manifest := b })
          else { s.wgt (wgtIx p m) with tried := true })
      ∧ (∀ j, j ≠ wgtIx p m → u.wgt j = s.wgt j)
      ∧ (s.manifestGood p m b = true ∧ (s.placement p m b).isSome = true → u = { s with wgts := u.wgts }))
  ∧ (∀ (s : State) (p m i : Nat) (data : List Byte) (h : Shard) (b : List Byte), s.serving = true → s.rd R.fabricLoad = 0 →
      s.stages p m i = none → h = s.shard p m i → b = (s.wgt (wgtIx p m)).manifest → s.loads p m i = true → h.reads < 3 →
      (data.length = Man.size b i → rootOf (shardLeaves (Man.id b i) (Man.leaves b i) data) = Man.root b i →
        exec (.shardVerify p m i data) s = .next (s.setShard p m i { h with
          verified := true, leaves := shardLeaves (Man.id b i) (Man.leaves b i) data, data := data }))
      ∧ (¬(data.length = Man.size b i ∧ rootOf (shardLeaves (Man.id b i) (Man.leaves b i) data) = Man.root b i) → h.reads < 2 →
          exec (.shardVerify p m i data) s = .next (s.setShard p m i { h with reads := h.reads + 1 }))
      ∧ (¬(data.length = Man.size b i ∧ rootOf (shardLeaves (Man.id b i) (Man.leaves b i) data) = Man.root b i) → h.reads = 2 → exec (.shardVerify p m i data) s =
          .next ((s.setShard p m i { h with reads := 3 }).raise (wgtErr .pavilion Code.weightDigestFail p))))
  ∧ (∀ (s t : State) (p m i : Nat) (h : Shard), h = s.shard p m i → (s.pav p).st = .loading → h.verified = true → h.inPlace = false →
      t = ((s.writeShard h h.addr h.data).writeTable h h.leaves).setShard p m i
        { h with inPlace := true, data := [], leaves := [], got := [], reads := 0, rounds := 0 } →
      exec (.shardInPlace p m i) s =
        .next (if t.loaded p m then t.wr R.wgtGen (Man.gen (s.wgt (wgtIx p m)).manifest) p m else t)
      ∧ (t.shard p m i).inPlace = true ∧ (t.shard p m i).verified = true)
  ∧ (∀ (s : State) (start n : Nat), s.serving = true → s.rd R.wgtRoot = 1 → n = s.boundaryFrom (s.time + 100000) →
      exec (.broadcastAnnounce start) s = .next { s with
        bcast := { s.bcast with st := .announced, start := n }, out := s.out ++ [.announce (s.rd R.wgtTree) n] })
  ∧ (∀ (s : State) (start : Nat), s.serving = true → s.rd R.wgtRoot = 0 → s.rd R.fabricLoad = 1 →
      exec (.broadcastAnnounce start) s = .next { s with bcast := { s.bcast with st := .announced, start := start } })
  ∧ (∀ (s : State), s.serving = true → s.bcast.st = .announced → s.bcast.start ≤ s.time → s.before (turnAt s.bcast.start 2 0) = [] →
      (s.sdl.st.valid = false → exec .fabricBroadcastStart s = .next { s with bcast := { s.bcast with st := .retry } })
      ∧ (s.sdl.st.valid = true → s.rd R.wgtRoot = 0 →
          exec .fabricBroadcastStart s = .next { s with bcast := { s.bcast with st := .running, left := [] } })
      ∧ (s.sdl.st.valid = true → s.rd R.wgtRoot = 1 → exec .fabricBroadcastStart s =
          .next { s with bcast := { s.bcast with st := .running, left := s.bcastParts } }))
  ∧ (∀ (s u : State) (p m i k : Nat) (d b : List Byte) (h : Shard), s.serving = true → s.rd R.fabricLoad = 1 → s.bcast.st = .running →
      s.bcastShard p m i = some (h, b, none) → d.length = Man.leafLen b i k → h.leaves[k]? = some (leafHash (Man.id b i) k d) →
      u = (s.writeShard h (h.leafAt k) d).setShard p m i { h with
        got := setIns k h.got, verified := decide ((setIns k h.got).length = Man.leaves b i) } →
      exec (.broadcastLeaf (.leaf p m i k d)) s
        = .next (if u.bcastWants then u else { u with bcast := { u.bcast with st := .idle } })
      ∧ (u.shard p m i).got = setIns k h.got)
  ∧ (∀ (s u : State) (p m i : Nat) (hs : List (BitVec 384)) (b : List Byte) (h : Shard), s.serving = true → s.rd R.fabricLoad = 1 →
      s.bcast.st = .running → s.bcastShard p m i = some (h, b, none) → hs.length = Man.leaves b i →
      u = (if rootOf hs = Man.root b i then s.setShard p m i { h with leaves := hs } else s) →
      exec (.broadcastLeaf (.leafTable p m i hs)) s
        = .next (if u.bcastWants then u else { u with bcast := { u.bcast with st := .idle } }))
  ∧ (∀ (s u : State) (p m i : Nat) (b : List Byte) (h : Shard), s.serving = true → s.rd R.fabricLoad = 1 → s.bcast.st = .running →
      s.bcastShard p m i = some (h, b, none) →
      (h.rounds < 3 → exec (.shardEndMarker p m i) s = .next ((s.setShard p m i { h with rounds := h.rounds + 1 }).emit
        (.repairRequest p m (Man.id b i) ((List.range (Man.leaves b i)).filter fun k => !h.got.contains k))))
      ∧ (h.rounds = 3 → u = (s.setShard p m i { h with rounds := 4, reads := 3 }).raise (wgtErr .pavilion Code.weightDigestFail p) →
          exec (.shardEndMarker p m i) s
            = .next (if u.bcastWants then u else { u with bcast := { u.bcast with st := .idle } })))

/-- Swaps and scrub: WEIGHT_SWAP by the PF's rights takes a pavilion's one swap and else is busy; WEIGHT_QUERY answers
generation, state and unit; a unit whose shards are all verified waits for the copy, which begins at once where no step runs;
the last unit's copy ends the swap with the new generation, an earlier one's goes on to the next; a pass starts at its
interval, when nothing is due earlier, and counts late if one runs; its checks go on in order, a differing leaf starts a
restoration, with nothing left the pass ends, and the right bytes end a restoration (R373, R374, R380, R382, R383, R385 to
R388, R390, R391). -/
def Obligations.SwapsAndScrub : Prop :=
  (∀ (s t : State) (src p : Nat) (cid : Word32) (a : AdminCmd), s.findCmd src cid 0x30 = some a → pfRights src = true →
    t = { s with accepted := markStarted src cid 0x30 s.accepted } → p = byteAt a.img 24 1 →
    (∀ e, t.weightTarget a.img = some e → exec (.weightSwap src cid) s = .next (t.complete src cid e))
    ∧ (t.weightTarget a.img = none → (t.pav p).swap.isSome = true →
        exec (.weightSwap src cid) s = .next (t.complete src cid Code.weightSwapBusy))
    ∧ (t.weightTarget a.img = none → (t.pav p).swap = none → exec (.weightSwap src cid) s = .next (t.setPav p { t.pav p with
        swap := some { model := byteAt a.img 25 1, holdAll := byteAt a.img 26 1 == 0, addr := byteAt a.img 32 8, src := src, cid := cid } })))
  ∧ (∀ (s t : State) (src p m : Nat) (cid : Word32) (a : AdminCmd), s.findCmd src cid 0x31 = some a → pfRights src = true →
      t = { s with accepted := markStarted src cid 0x31 s.accepted } → p = byteAt a.img 24 1 → m = byteAt a.img 25 1 →
      t.weightTarget a.img = none →
      ((t.pav p).swap = none → exec (.weightQuery src cid) s = .next (t.complete src cid 0 (t.gen p m)))
      ∧ (∀ w, (t.pav p).swap = some w → w.model = m → exec (.weightQuery src cid) s =
          .next (t.complete src cid 0 (t.gen p m + t.swapNum p % 16 * 2 ^ 32 + w.unit % 256 * 2 ^ 40))))
  ∧ (∀ (s : State) (p : Nat) (w : Swap), (s.pav p).swap = some w → w.stage = .staging → w.back = false →
      (∀ i ∈ s.unitShards p w, (Tab.get ({} : Shard) w.staged i).verified = true) →
      exec (.swapUnitVerified p) s = .next (s.setPav p { s.pav p with
        swap := some { w with stage := if (s.pav p).held || !(s.pav p).st.active then .copying else .verified } }))
  ∧ (∀ (s : State) (p : Nat) (w : Swap), (s.pav p).swap = some w → w.stage = .staging → w.back = false →
      (∃ i ∈ s.unitShards p w, (Tab.get ({} : Shard) w.staged i).failedOut = true) →
      (w.copied = [] → ∃ u : State, exec (.swapUnitVerified p) s = .next (u.complete w.src w.cid Code.swapRolledBack 0)
        ∧ (u.pav p).swap = none ∧ (u.pav p).held = false ∧ (u.pav p).st ≠ .swapping ∧ u.mem = s.mem
        ∧ (∀ j, j ≠ p → u.pav j = s.pav j))
      ∧ (w.copied ≠ [] → exec (.swapUnitVerified p) s = .next (s.setPav p { s.pav p with
          held := (s.pav p).held && w.holdAll
          swap := some { w with back := true, unit := w.copied.foldl max 0, stage := .staging, staged := [] } })))
  ∧ (∀ (s0 s t : State) (p : Nat) (w : Swap) (evs : List (Nat × MemEvent)), (s0.pav p).swap = some w → w.stage = .copying →
      w.back = false → s = s0.hbmEvents evs →
      t = (s.unitShards p w).foldl (fun (u : State) i => u.copyShard p w w.manifest i) s →
      ((Man.units w.manifest).find? (fun u => decide (w.unit < u)) = none →
        ∃ u : State, exec (.swapUnitCopied p evs) s0 = .next (u.complete w.src w.cid Code.swapDone (Man.gen w.manifest))
          ∧ (u.pav p).swap = none ∧ (u.pav p).held = false ∧ (u.pav p).st ≠ .swapping ∧ (u.pav p).lostWeights = false
          ∧ u.rd R.wgtGen p w.model = Man.gen w.manifest % 2 ^ R.wgtGen.wid ∧ (u.wgt (wgtIx p w.model)).manifest = w.manifest
          ∧ u.mem = t.mem)
      ∧ (∀ v, (Man.units w.manifest).find? (fun u => decide (w.unit < u)) = some v →
          exec (.swapUnitCopied p evs) s0 = .next (t.setPav p { t.pav p with
            held := (t.pav p).held && w.holdAll
            swap := some { w with copied := w.copied ++ [w.unit], unit := v, stage := .staging, staged := [] } })))
  ∧ (∀ (s u : State), s.serving = true → s.scrubDue = true → s.before (turnAt s.time 8 0) = [] →
      u = { s with sdl := { s.sdl with
        scrubSeen := some (max (s.sdl.scrubSeen.getD 0) s.time), owed := { s.sdl.owed with scrub := false } } } →
      (s.scrub.running = true → exec .scrubPassStart s = .next (u.inc R.scrubLate))
      ∧ (s.scrub.running = false → ({ u with scrub := { u.scrub with running := true, pos := 0 } : State}).scrubNext ≠ none →
          exec .scrubPassStart s = .next { u with scrub := { u.scrub with running := true, pos := 0 } }))
  ∧ (∀ (s0 s u : State) (evs : List (Nat × MemEvent)) (k : Nat) (x : ScrubTarget), s0.serving = true → s0.scrub.running = true →
      s = s0.hbmEvents evs → u = { s with scrub := { s.scrub with pos := k + 1 } } → s.scrubNext = some (k, x) →
      (∀ p m i j, x = .leaf p m i j → (s.leafNow (s.shard p m i) (s.manifestAt p m i) i j).isSome = true →
        s.leafNow (s.shard p m i) (s.manifestAt p m i) i j = s.tableNow (s.shard p m i) j →
        exec (.scrubCheck evs) s0 = .next u.scrubEnds)
      ∧ (∀ p m i j, x = .leaf p m i j →
        s.leafNow (s.shard p m i) (s.manifestAt p m i) i j ≠ s.tableNow (s.shard p m i) j →
        ∃ t : State, exec (.scrubCheck evs) s0 = .next t.scrubEnds
          ∧ t.scrub.restores = s.scrub.restores ++ [{ pav := p, model := m, shard := i, leaf := some j }]
          ∧ t.out = s.out ++ (if s.rd R.fabricLoad = 1 then
              [.repairRequest p m (Man.id (s.manifestAt p m i) i) [j]] else []) ∧ t.mem = s.mem)
      ∧ (∀ i, x = .adapter i → s.blobGood (s.adrec i) = true → exec (.scrubCheck evs) s0 = .next u.scrubEnds)
      ∧ u.scrubEnds.mem = s.mem ∧ (u.scrubEnds.scrub.running = true → u.scrubEnds.scrub.pos = k + 1))
  ∧ (∀ (s0 s : State) (evs : List (Nat × MemEvent)), s0.serving = true → s0.scrub.running = true → s = s0.hbmEvents evs →
      s.scrubNext = none → exec (.scrubCheck evs) s0 = .next { s with scrub := { s.scrub with running := false, pos := 0 } })
  ∧ (∀ (s : State) (p m i k : Nat) (d : List Byte) (r : Restore), s.scrub.restores = [r] → r.pav = p → r.model = m → r.shard = i →
      r.leaf = some k → d.length = Man.leafLen (s.manifestAt p m i) i k →
      s.tableNow (s.shard p m i) k = some (leafHash (Man.id (s.manifestAt p m i) i) k d) →
      ∃ u : State, exec (.leafRestored p m i k d) s = .next (u.restored p) ∧ u.scrub.restores = []
        ∧ u.mem = (s.writeShard (s.shard p m i) ((s.shard p m i).leafAt k) d).mem)

/-! ### Torvol -/

/-- The link of a LINKED or READY port. A codeword with at most 15 symbols in error that has the SEQ expected is accepted, its
slots taken in order, a lane swap in force from its SEQ, every 32nd acknowledged; a numbered one with another SEQ or more
errors is discarded and one LINK_NAK names the SEQ expected; one with NOSEQ is not numbered. LINK_ACK frees the replay buffer
up to its SEQ; LINK_NAK has every codeword from its SEQ on sent again, and the eighth consecutive failure of one SEQ takes the
port DOWN. A symbol sent takes the next SEQ and stays in the replay buffer, or waits while that is full. Delays, lanes and
keys go as their symbols say; a reserved symbol is counted (R398 to R404, R416, R419, R425, R426, R503). -/
def Obligations.TorvolLink : Prop :=
  (∀ (s : State) (i : Nat) (prev : BitVec 58) (msg : BitVec 5140) (errs bad : List Nat) (at' : Word64) (rep : Bool) (c : Cw),
    (s.port i).linkedUp = true → bad = (errs.filter (· < 544)).eraseDups → bad.length ≤ 15 → c = Cw.ofMessage (descrambled prev msg) →
    c.noseq = false → c.seq = (s.port i).rxSeq →
    ∃ u : State, exec (.numberedCodeword i prev msg errs at' rep) s = .next (c.slots.foldl (fun v sl => v.takeSlot i at' rep sl) u)
      ∧ (u.port i).rxSeq = (s.port i).rxSeq + 1 ∧ (u.port i).nakSent = false ∧ (u.port i).acked = ((s.port i).acked + 1) % 32
      ∧ s.out <+: u.out ∧ ((s.port i).acked = 31 → Out.symbol i 0x04 [c.seq] ∈ u.out)
      ∧ (∀ lane, (s.port i).swapAt = some (c.seq, lane) →
          Tab.get none u.nvm.repair.tvlLane (i * 2 + 1) = some lane ∧ (u.port i).swapAt = none)
      ∧ (∀ j, j ≠ i → u.port j = s.port j) ∧ u.mem = s.mem ∧ u.mbox = s.mbox
      ∧ ((∀ sl ∈ c.slots, sl.ctrl = true ∧ fld sl.bytes 0 1 = 0) → c.slots.foldl (fun v sl => v.takeSlot i at' rep sl) u = u))
  ∧ (∀ (s : State) (i : Nat) (prev : BitVec 58) (msg : BitVec 5140) (errs bad : List Nat) (at' : Word64) (rep : Bool) (c : Cw),
      (s.port i).linkedUp = true → bad = (errs.filter (· < 544)).eraseDups → c = Cw.ofMessage (descrambled prev msg) →
      c.noseq = false → 15 < bad.length ∨ c.seq ≠ (s.port i).rxSeq →
      ∃ t : State, exec (.numberedCodeword i prev msg errs at' rep) s = .next t ∧ (t.port i).rxSeq = (s.port i).rxSeq
        ∧ (t.port i).nakSent = true ∧ ((s.port i).nakSent = true → t.out = s.out)
        ∧ ((s.port i).nakSent = false → Out.symbol i 0x05 [(s.port i).rxSeq] ∈ t.out)
        ∧ (∀ j, j ≠ i → t.port j = s.port j) ∧ t.mem = s.mem ∧ t.mbox = s.mbox)
  ∧ (∀ (s : State) (i : Nat) (prev : BitVec 58) (msg : BitVec 5140) (errs : List Nat) (at' : Word64) (rep : Bool),
      (s.port i).linkedUp = true → (Cw.ofMessage (descrambled prev msg)).noseq = true →
      ∃ t : State, exec (.numberedCodeword i prev msg errs at' rep) s = .next t ∧ (t.port i).rxSeq = (s.port i).rxSeq
        ∧ (t.port i).nakSent = (s.port i).nakSent ∧ t.out = s.out ∧ (∀ j, j ≠ i → t.port j = s.port j) ∧ t.mem = s.mem)
  ∧ (∀ (s u : State) (i : Nat) (q : Byte) (l : List Cw), (s.port i).linkedUp = true → afterSeq q (s.port i).replay = some l →
      u = s.setPort i { s.port i with replay := l, nakSeq := none, replayFails := 0 } →
      exec (.linkAck i q) s = .next (u.linkGoOn i)
      ∧ (s.tvlDue = [] → (s.port i).held = [] → (∀ j < 12, (s.port j).rxBuf = []) →
          ((u.linkGoOn i).port i).replay = l ∧ (u.linkGoOn i).out = s.out ∧ (∀ j, j ≠ i → (u.linkGoOn i).port j = s.port j)))
  ∧ (∀ (s : State) (i : Nat) (q : Byte) (again : List Cw), (s.port i).linkedUp = true →
      again = (s.port i).replay.dropWhile (fun c => c.seq != q) → again ≠ [] →
      ((s.port i).nakSeq ≠ some q ∨ (s.port i).replayFails < 7 → ∃ t : State, exec (.linkNak i q) s = .next t
          ∧ (t.port i).nakSeq = some q ∧ (t.port i).replayFails = (if (s.port i).nakSeq = some q then (s.port i).replayFails + 1 else 0)
          ∧ t.rd R.tvlReplays i = (s.inc R.tvlReplays i).rd R.tvlReplays i ∧ (t.port i).replay = (s.port i).replay
          ∧ t.out = s.out ++ (List.range again.length).map (fun k => Out.codeword i (s.onLanes i
              (scrambled ((Config.freeWord (s.freeCtr + k)).setWidth 58) ((again.map Cw.message).getD k 0))))
          ∧ (∀ j, j ≠ i → t.port j = s.port j) ∧ t.mem = s.mem)
      ∧ ((s.port i).nakSeq = some q → 7 ≤ (s.port i).replayFails → ∃ t : State, exec (.linkNak i q) s = .next t
          ∧ (t.port i).st = .down ∧ Out.symbol i 0x0E [1] ∈ t.out ∧ (∀ j, j ≠ i → t.port j = s.port j) ∧ t.mem = s.mem))
  ∧ (∀ (s : State) (i typ : Nat) (body : List Byte) (c : Instr), (s.port i).linkedUp = true →
      ((∃ t1 t2 t3 : Word64, c = .delayReq i t1 t2 t3 ∧ typ = 0x0A
          ∧ body = List.replicate 7 0 ++ leBytes 8 t1.toNat ++ leBytes 8 t2.toNat ++ leBytes 8 t3.toNat)
        ∨ (∃ t1 : Word64, c = .delayReqTimer i t1 ∧ typ = 0x09 ∧ body = List.replicate 7 0 ++ leBytes 8 t1.toNat)) →
      ∃ t : State, exec c s = .next t ∧ s.out <+: t.out ∧ Out.symbol i typ body ∈ t.out ∧ (t.port i).st = (s.port i).st
        ∧ ((s.port i).held = [] → (s.port i).replay.length < 128 → (t.port i).txSeq = (s.port i).txSeq + 1
          ∧ (t.port i).replay = (s.port i).replay
            ++ [{ seq := (s.port i).txSeq, slots := symSlot typ body :: List.replicate 9 (symSlot 0 []) }]
          ∧ (∀ lane, (s.port i).txSwap = some ((s.port i).txSeq, lane) → Tab.get none t.nvm.repair.tvlLane (i * 2) = some lane))
        ∧ (128 ≤ (s.port i).replay.length → (t.port i).txSeq = (s.port i).txSeq ∧ (t.port i).replay = (s.port i).replay
          ∧ (t.port i).held = (s.port i).held ++ [[symSlot typ body]])
        ∧ (∀ j, j ≠ i → t.port j = s.port j) ∧ t.mem = s.mem)
  ∧ (∀ (s : State) (i : Nat) (t1 t2 t3 t4 : Word64) (l : List Int), (s.port i).linkedUp = true →
      l = (((((t4.toNat : Int) - t1.toNat) - ((t3.toNat : Int) - t2.toNat)) / 2) :: (s.port i).delays).take 8 →
      exec (.delayRsp i t1 t2 t3 t4) s =
        .next ((s.setPort i { s.port i with delays := l }).wr R.tvlDelay (l.sum / (l.length : Int) % 2 ^ 32).toNat i))
  ∧ (∀ (s : State) (i lane count n : Nat) (q : Port) (map : List Nat), (s.port i).linkedUp = true →
      n = Tab.get 0 (s.port i).lanes lane + count → map = s.laneMap i 1 →
      q = { s.port i with lanes := Tab.put 0 (s.port i).lanes lane 0, lanesPast := Tab.put 0 (s.port i).lanesPast lane n } →
      (n ≤ s.rd R.tvlLaneThresh ∨ (s.port i).swapAt.isSome = true →
        exec (.laneWindowEnd i lane count) s = .next ((s.setPort i q).inc R.tvlCorrected i count))
      ∧ (s.rd R.tvlLaneThresh < n → (s.port i).swapAt = none → Tab.get none s.nvm.repair.tvlLane (i * 2 + 1) = none →
        ∃ t : State, exec (.laneWindowEnd i lane count) s = .next t ∧ Out.symbol i 0x0B [BitVec.ofNat 8 lane] ∈ t.out
          ∧ Tab.get 0 (t.port i).lanes lane = 0 ∧ Tab.get 0 (t.port i).lanesPast lane = n ∧ (t.port i).st = (s.port i).st
          ∧ (∀ j, j ≠ i → t.port j = s.port j) ∧ t.mem = s.mem)
      ∧ (s.rd R.tvlLaneThresh < n → (s.port i).swapAt = none → (Tab.get none s.nvm.repair.tvlLane (i * 2 + 1)).isSome = true →
        ∃ t : State, exec (.laneWindowEnd i lane count) s = .next t ∧ (t.port i).st = .training ∧ Out.symbol i 0x0E [4] ∈ t.out
          ∧ Tab.get [] t.nvm.repair.tvlHalf (i * 2 + 1) = (fourLowest q.laneCount map.length).map (fun k => map.getD k 0)
          ∧ t.errs.repairPending = true ∧ (∀ j, j ≠ i → t.port j = s.port j) ∧ t.mem = s.mem))
  ∧ (∀ (s : State) (i : Nat) (lane : Byte), (s.port i).linkedUp = true → (s.port i).txSwap = none →
      Tab.get none s.nvm.repair.tvlLane (i * 2) = none →
      ∃ t : State, exec (.laneSwapReq i lane) s = .next t ∧ (t.port i).txSwap = some ((s.port i).txSeq - 1 + 16, lane.toNat % 8)
        ∧ Out.symbol i 0x0C [lane, (s.port i).txSeq - 1 + 16] ∈ t.out ∧ t.nvm.repair = s.nvm.repair
        ∧ (∀ j, j ≠ i → t.port j = s.port j) ∧ t.mem = s.mem)
  ∧ (∀ (s : State) (i : Nat) (lane q : Byte), (s.port i).linkedUp = true → Tab.get none s.nvm.repair.tvlLane (i * 2 + 1) = none →
      exec (.laneSwap i lane q) s = .next (s.setPort i { s.port i with swapAt := some (q, lane.toNat % 8) }))
  ∧ (∀ (s : State) (i : Nat) (fmk : List Byte) (salt : BitVec 128), (s.port i).st = .ready → (s.port i).fmk = some fmk →
      salt = (if (s.port i).rxEpoch + 1 = 0 then nextSalt fmk (s.port i).rxSalt else (s.port i).rxSalt) →
      exec (.keyRoll i ((s.port i).rxEpoch + 1)) s = .next (s.setPort i { s.port i with
        rxEpoch := (s.port i).rxEpoch + 1, rxSalt := salt,
        rxKey := some (linkKey fmk (s.rd R.domain) (s.port i).peerId.toNat (s.port i).peerPort.toNat (s.rd R.devId)
                  ((s.port i).rxEpoch + 1).toNat salt) }))
  ∧ (∀ (s : State) (i : Nat) (typ : Byte), (s.port i).linkedUp = true → 0x0F ≤ typ.toNat →
      exec (.reservedControlSymbol i typ) s = .next (s.inc R.badCtrl))

/-- The states of a port: training starts on enabled DOWN ports and ends LINKED, with READY sent where the device may; READY
with the peer's domain and another device makes a port that has sent its own READY, with the keys of both directions; DOWN, a
lost lock and a retrain take it DOWN, a retrain from there to training; a failed attempt is counted, and a good one makes it
LINKED (R404, R421 to R424, R427, R428, R501). -/
def Obligations.TorvolPortStates : Prop :=
  (∀ (s : State), ∃ t, exec .trainingStart s = .next t ∧ t = { s with ports := t.ports }
    ∧ ∀ i, t.port i = if i < 12 ∧ s.mayTrain i = true ∧ (s.port i).st = .down then { s.port i with st := .training } else s.port i)
  ∧ (∀ (s : State) (i : Nat) (c : Instr), i < 12 → s.mayTrain i = true →
      ((s.port i).st = .training ∧ c = .trainingComplete i
        ∨ (s.port i).st = .down ∧ s.rd R.attempts i < 3
          ∧ ((1000000 * (s.rd R.attempts i + 1) : Nat) : Int) ≤ tkFrom (s.port i).downAt s.time ∧ c = .retrainAttempt i true) →
      ∃ t : State, exec c s = .next t ∧ (t.port i).st = .linked ∧ t.rd R.attempts i = 0
        ∧ (s.serving = true → s.gate.fmk.isSome = true → s.gate.errorState = false →
          (t.port i).sentReady = true ∧ ∃ body, Out.symbol i 0x06 body ∈ t.out)
        ∧ (∀ j, j ≠ i → t.port j = s.port j) ∧ t.mem = s.mem)
  ∧ (∀ (s : State) (i : Nat), (s.port i).st = .down → s.mayTrain i = true → s.rd R.attempts i < 3 →
      ((1000000 * (s.rd R.attempts i + 1) : Nat) : Int) ≤ tkFrom (s.port i).downAt s.time →
      exec (.retrainAttempt i false) s = .next (s.wr R.attempts (s.rd R.attempts i + 1) i))
  ∧ (∀ (s : State) (i : Nat) (dom : BitVec 16) (dev pp e : Byte) (c0 c1 c2 : BitVec 16) (salt : BitVec 128) (fmk : List Byte),
      (s.port i).st = .linked → (s.port i).sentReady = true → s.gate.fmk = some fmk → dom.toNat = s.rd R.domain →
      dev.toNat ≠ s.rd R.devId →
      ∃ t, exec (.ready i dom dev pp c0 c1 c2 e salt) s = .next t ∧ t = { s with ports := t.ports } ∧ (t.port i).st = .ready
        ∧ (t.port i).cr0 = c0.toNat ∧ (t.port i).cr1 = c1.toNat ∧ (t.port i).cr2 = c2.toNat ∧ (t.port i).nonce = 0
        ∧ (t.port i).txKey = some (linkKey fmk (s.rd R.domain) (s.rd R.devId) i dev.toNat 0 (s.port i).txSalt)
        ∧ (t.port i).rxKey = some (linkKey fmk (s.rd R.domain) dev.toNat pp.toNat (s.rd R.devId) e.toNat salt)
        ∧ ∀ j, j ≠ i → t.port j = s.port j)
  ∧ (∀ (s : State) (i : Nat) (c : Instr) (reason : Byte),
      (c, reason) ∈ ([(.down i reason, reason), (.lossOfCodewordLock i, 0xFF)] : List (Instr × Byte)) →
      (s.port i).linkedUp = true → i < 12 →
      ∃ t, exec c s = .next t ∧ (t.port i).st = .down ∧ (t.port i).downReason = reason.toNat ∧ t.rd R.attempts i = 0
        ∧ (∀ j, j ≠ i → t.port j = s.port j) ∧ t.mem = s.mem)
  ∧ (∀ (s t : State) (r i : Nat), s.target r 7 0x100 .pf = some i → t = s.dropLatch r (7 * 65536) → t.mayTrain i = true →
      ∃ u : State, exec (.tvlPortRetrain r) s = .next u ∧ (u.port i).st = .training ∧ u.rd R.attempts i = 0
        ∧ ((s.port i).linkedUp = true → Out.symbol i 0x0E [5] ∈ u.out) ∧ (∀ j, j ≠ i → u.port j = s.port j) ∧ u.mem = s.mem)

/-- Packets. CREDIT adds to the credits, and what waited goes on. A source delivers a MSG or PUT to itself at once and tells
its own ACK; a PUT to another device goes on its route's port, enciphered, with the credits of its slots, and is kept until
its ACK; without credits it waits. At the destination a good PUT writes the receive window and a good MSG enters a mailbox,
the slots' credits are returned and an ACK goes back; one whose tag fails changes no memory and is counted; a packet before
READY is refused; an ACK ends its transaction; a timeout sends a PUT again twice and then reports it; a multicast packet is
taken only from UP_PORT and written where LOCAL says (R405 to R410, R412, R414, R415, R417, R423). -/
def Obligations.TorvolPackets : Prop :=
  (∀ (s u : State) (i : Nat) (c0 c1 c2 : BitVec 16), (s.port i).st = .ready →
    u = s.setPort i { s.port i with
      cr0 := (s.port i).cr0 + c0.toNat, cr1 := (s.port i).cr1 + c1.toNat, cr2 := (s.port i).cr2 + c2.toNat } →
    exec (.credit i c0 c1 c2) s = .next (u.linkGoOn i)
    ∧ (s.tvlDue = [] → (s.port i).held = [] → (∀ j < 12, (s.port j).rxBuf = []) →
        (u.linkGoOn i).port i = u.port i ∧ (u.linkGoOn i).out = s.out ∧ (∀ j, j ≠ i → (u.linkGoOn i).port j = s.port j)))
  ∧ (∀ (s : State) (head h : BitVec 512) (payload : List Byte), s.serving = true →
      h = BitVec.ofNat 512 (putBits head.toNat 24 6 (s.rd R.devId)) → headGood h = true → payload.length = 64 * Hd.len h →
      Hd.mcast h = false → Hd.vc h = 0 →
      (Hd.op h = 1 → Hd.dest h = s.rd R.devId → s.rd R.wgtRoot = 0 → exec (.packetSend head payload) s =
        .next { s with mbox := s.mbox ++ [(Hd.addr h % 8, payload)], out := s.out ++ [.acked (Hd.xid h) 0] })
      ∧ (Hd.op h = 0 → Hd.dest h = s.rd R.devId → ∃ t : State, exec (.packetSend head payload) s = .next t
          ∧ t.out = s.out ++ [.acked (Hd.xid h) (if s.inWindow h then 0 else 2)]
          ∧ t.mem = (if s.inWindow h then Mem.write s.mem (s.rd R.rxBase + Hd.addr h) payload else s.mem) ∧ t.ports = s.ports)
      ∧ (∀ i key iv hd ct, Hd.op h = 0 → Hd.dest h ≠ s.rd R.devId → s.routeTo (Hd.dest h) = some i → s.tvlDue = [] →
          s.canSend i 0 (Hd.len h) = true → (s.port i).txKey = some key → (s.port i).nonce + 1 < 0xFFF00000 →
          iv = linkNonce (s.rd R.devId) i (s.port i).nonce → hd = sealHead h (s.port i).nonce → ct = Config.gcmSeal key iv payload →
          ∃ t : State, exec (.packetSend head payload) s = .next t
            ∧ Out.packet i hd ct (Config.gcmTag key iv (bvBytes 60 hd) ct) false (Config.crc32c payload) ∈ t.out
            ∧ (t.port i).nonce = (s.port i).nonce + 1 ∧ (t.port i).cr0 = (s.port i).cr0 - (Hd.len h + 2)
            ∧ t.xacts = Tab.ins (s.xacts.filter fun e => e.1 != (Hd.xid h).toNat) (Hd.xid h).toNat
              { head := h, payload := payload, sends := 1, sentAt := s.time }
            ∧ (∀ j, j ≠ i → t.port j = s.port j) ∧ t.mem = s.mem ∧ t.tvlDue = [])
      ∧ (∀ i, Hd.op h = 0 → Hd.dest h ≠ s.rd R.devId → s.routeTo (Hd.dest h) = some i → s.canSend i 0 (Hd.len h) = false →
          ∃ t : State, exec (.packetSend head payload) s = .next t ∧ t.ports = s.ports ∧ t.out = s.out
            ∧ t.tvlDue = s.tvlDue ++ [{ head := h, payload := payload, crc := Config.crc32c payload }]))
  ∧ (∀ (s : State) (i : Nat) (h : BitVec 512) (data payload : List Byte) (tag : BitVec 128) (crc : Word32), (s.port i).st = .ready →
      (s.port i).rxBuf = [] → headCrcGood h = true → headGood h = true → payload.length = 64 * Hd.len h → Hd.mcast h = false →
      Hd.dest h = s.rd R.devId → s.opened i h data tag = (true, payload) → Config.crc32c payload = crc →
      (Hd.op h = 0 → s.inWindow h = true → ∃ t : State, exec (.put i h data tag false crc) s = .next t
        ∧ t.mem = Mem.write s.mem (s.rd R.rxBase + Hd.addr h) payload ∧ t.mbox = s.mbox ∧ (t.port i).rxBuf = []
        ∧ Out.symbol i 0x03 ([0] ++ leBytes 2 (if Hd.vc h = 0 then Hd.len h + 2 else 0)
            ++ leBytes 2 (if Hd.vc h = 1 then Hd.len h + 2 else 0) ++ leBytes 2 (if Hd.vc h = 2 then Hd.len h + 2 else 0)) ∈ t.out
        ∧ t.xacts = s.xacts
        ∧ (∀ a e, a = Hd.mk 1 (Hd.src h) (s.rd R.devId) 0 2 1 0 (Hd.xid h) 0 → Hd.mcast a = false → s.routeTo (Hd.dest a) = some e →
            (s.canSend e (Hd.vc a) (Hd.len a) = false →
              t.tvlDue = s.tvlDue ++ [{ head := a, payload := List.replicate 64 0, crc := Config.crc32c (List.replicate 64 0) }])
            ∧ (s.canSend e (Hd.vc a) (Hd.len a) = true → s.tvlDue = [] → (s.port e).nonce + 1 < 2 ^ 32 →
              ∃ hd ct tg, Out.packet e hd ct tg false (Config.crc32c (List.replicate 64 0)) ∈ t.out)))
      ∧ (Hd.op h = 1 → ∃ t : State, exec (.msg i h data tag false crc) s = .next t
        ∧ t.mbox = s.mbox ++ [(Hd.addr h % 8, payload)] ∧ t.mem = s.mem ∧ (t.port i).rxBuf = [] ∧ t.xacts = s.xacts
        ∧ Out.symbol i 0x03 ([0] ++ leBytes 2 (if Hd.vc h = 0 then Hd.len h + 2 else 0)
            ++ leBytes 2 (if Hd.vc h = 1 then Hd.len h + 2 else 0) ++ leBytes 2 (if Hd.vc h = 2 then Hd.len h + 2 else 0)) ∈ t.out)
      ∧ (∀ x q, Hd.op h = 2 → x = (Hd.xid h).toNat → s.xacts = [(x, q)] → Hd.status h ≠ 1 →
        ∃ t : State, exec (.ack i h data tag false crc) s = .next t ∧ t.xacts = [] ∧ Out.acked (Hd.xid h) (Hd.status h) ∈ t.out
          ∧ (t.port i).rxBuf = [] ∧ t.mem = s.mem ∧ t.mbox = s.mbox))
  ∧ (∀ (s : State) (i : Nat) (h : BitVec 512) (data : List Byte) (tag : BitVec 128) (stomp : Bool) (crc : Word32),
      (s.port i).st = .ready → (s.port i).rxBuf = [] → headCrcGood h = true → Hd.op h = 0 → Hd.mcast h = false →
      Hd.dest h = s.rd R.devId → (s.opened i h data tag).1 = false →
      ((s.port i).authTimes.filter fun x => tkFrom x s.time < 1000000).length + 1 < s.rd R.authLimit → i < 12 →
      ∃ t : State, exec (.put i h data tag stomp crc) s = .next t ∧ t.mem = s.mem ∧ t.mbox = s.mbox
        ∧ t.rd R.authFails i = (s.inc R.authFails i).rd R.authFails i ∧ (t.port i).st = .ready)
  ∧ (∀ (s : State) (i : Nat) (c : Instr) (h : BitVec 512) (data : List Byte) (tag : BitVec 128) (stomp : Bool) (crc : Word32),
      (s.port i).st = .linked → headCrcGood h = true →
      (c = .put i h data tag stomp crc ∧ Hd.mcast h = false ∧ Hd.op h = 0 ∨ c = .msg i h data tag stomp crc ∧ Hd.mcast h = false ∧ Hd.op h = 1
        ∨ c = .ack i h data tag stomp crc ∧ Hd.mcast h = false ∧ Hd.op h = 2
        ∨ c = .multicastPacket i h data tag stomp crc ∧ Hd.mcast h = true) →
      ∃ t : State, exec c s = .next t ∧ t.rd R.earlyPkt = (s.inc R.earlyPkt).rd R.earlyPkt ∧ (∃ body, Out.symbol i 0x07 body ∈ t.out)
        ∧ t.mem = s.mem ∧ t.mbox = s.mbox ∧ (t.port i).st = .linked)
  ∧ (∀ (s : State) (xid : Word32) (q : Xact), s.xacts = [(xid.toNat, q)] → (s.rd R.e2eTimeout : Int) ≤ tkFrom q.sentAt s.time →
      (Hd.op q.head = 0 → q.sends < 3 → ∃ t : State, exec (.e2eTimeout xid) s = .next t
        ∧ t.xacts = [(xid.toNat, { q with sends := q.sends + 1, sentAt := s.time })] ∧ t.mem = s.mem
        ∧ (∀ i, Hd.mcast q.head = false → s.routeTo (Hd.dest q.head) = some i → s.tvlDue = [] →
            s.canSend i (Hd.vc q.head) (Hd.len q.head) = true → (s.port i).nonce + 1 < 2 ^ 32 →
            ∃ hd ct tag, Out.packet i hd ct tag false (Config.crc32c q.payload) ∈ t.out))
      ∧ (Hd.op q.head ≠ 0 ∨ 3 ≤ q.sends →
          exec (.e2eTimeout xid) s = .next { s with xacts := [], out := s.out ++ [.unreachable xid] }))
  ∧ (∀ (s : State) (i : Nat) (h : BitVec 512) (data payload : List Byte) (tag : BitVec 128) (crc : Word32), (s.port i).st = .ready →
      (s.port i).rxBuf = [] → headCrcGood h = true → headGood h = true → payload.length = 64 * Hd.len h → Hd.mcast h = true →
      s.opened i h data tag = (true, payload) → Config.crc32c payload = crc →
      (s.rd R.treeUp 0 (Hd.tree h) ≠ i → ∃ t : State, exec (.multicastPacket i h data tag false crc) s = .next t
        ∧ t.rd R.mcWrongPort = (s.inc R.mcWrongPort).rd R.mcWrongPort ∧ t.mem = s.mem ∧ (t.port i).rxBuf = [])
      ∧ (s.rd R.treeUp 0 (Hd.tree h) = i → s.rd R.treeValid 0 (Hd.tree h) = 1 → s.downPorts (Hd.tree h) = [] →
        s.rd R.treeLocal 0 (Hd.tree h) = 1 → s.inWindow h = true →
        ∃ t : State, exec (.multicastPacket i h data tag false crc) s = .next t
          ∧ t.mem = Mem.write s.mem (s.rd R.rxBase + Hd.addr h) payload ∧ (t.port i).rxBuf = [] ∧ t.mbox = s.mbox))

/-! ### Reset and boot -/

/-- Reset and boot in their order: RST_N asserted takes every state to DORMANT, where all is as after reset but for what NVM,
flash, fuses and pins hold, with the repair record as it was last written; its release with rails in range wakes the device,
once a trip's THERM_N is released; the fuses are read, with a waiting security version blown first if VFUSE allows; the
self-test makes the device's keys or fails; the trial bank is read once, else PRIMARY's (R531); a bank's header and image are
verified, a bad bank gives way to the other one, and two bad ones leave the boot in recovery; a device with an image enters
LOADING with the sites, lanes and cold-frame ports it found (R468 to R472, R483, R490, R531, R543, R571, R573). -/
def Obligations.ResetAndBoot : Prop :=
  (∀ (s : State), ∃ t, exec .rstNAssert s = .next t ∧ t = { State.reset with
      pending := s.pending, out := t.out, freeCtr := t.freeCtr, nvm := t.nvm, flash := s.flash, fuses := s.fuses
      dev := { State.reset.dev with
        perst := s.dev.perst, tripHold := s.dev.tripHold, thermN := s.dev.thermN && s.dev.tripHold, rstLow := true } }
    ∧ t.dev.st = .dormant ∧ s.out <+: t.out
    ∧ (s.keyPending = [] → s.upd.mode = false ∨ s.upd.kind ≠ 1 → t.nvm = { s.nvm with repair := s.nvm.saved }))
  ∧ (∀ (s : State), s.dev.rstLow = true → s.dev.st = .dormant →
      (s.dev.tripHold = false ∨ s.dev.thermN = false → exec (.rstNRelease true) s =
        .next { s with dev := { s.dev with rstLow := false, st := .waking, tripHold := false } })
      ∧ (s.dev.tripHold = true → s.dev.thermN = true → exec (.rstNRelease true) s =
        .next { s with dev := { s.dev with rstLow := false } })
      ∧ exec (.rstNRelease false) s = .next { s with dev := { s.dev with rstLow := false } })
  ∧ (∀ (s t : State) (v : Bool), s.dev.st = .waking →
      t = State.gradeDefault { s with dev := { s.dev with st := .rooting }, boot := { s.boot with fusesRead := true } } →
      (v = false ∨ s.bootRec.pendingSv = 0 → exec (.fuseReadComplete v) s = .next t)
      ∧ (v = true → s.bootRec.pendingSv ≠ 0 → ∃ u, exec (.fuseReadComplete v) s = .next u
          ∧ u = { t with nvm := u.nvm, fuses := { s.fuses with sv := max s.fuses.sv s.bootRec.pendingSv } }))
  ∧ (∀ (s : State), s.dev.st = .rooting → s.boot.selfTest = .notRun →
      exec (.selfTestComplete false) s = .next { s with boot := { s.boot with selfTest := .failed } }
      ∧ ∃ t, exec (.selfTestComplete true) s = .next t
        ∧ t = { s with freeCtr := t.freeCtr, boot := { s.boot with selfTest := .passed }, gate := { s.gate with
            keysLoaded := true, cfKey := t.gate.cfKey, wrapKey := some (wrapKeyOf s.fuses.huk)
            devId := some (kdf s.fuses.huk "DEVID" [] 448) } }
        ∧ t.gate.cfKey.isSome = true)
  ∧ (∀ (s t u : State) (k : Nat), s.reading = true → s.boot.headerOk = false →
      (s.boot.bank = some k ∧ t = s
        ∨ s.boot.bank = none ∧ t = { u with boot := { u.boot with bank := some k } }
          ∧ (s.bootRec.trialBank = 0xFF ∧ u = s ∧ k = s.bootRec.primary
            ∨ s.bootRec.trialBank ≠ 0xFF ∧ s.bootRec.trialBoots = 0
              ∧ u = s.writeRec (fun r => { r with trialBoots := 1 }) ∧ k = s.bootRec.trialBank
            ∨ s.bootRec.trialBank ≠ 0xFF ∧ s.bootRec.trialBoots ≠ 0 ∧ k = s.bootRec.primary
              ∧ u = (s.writeRec fun r => { r with trialBank := 0xFF }).raise (corrErr Code.updateFallback 7 0 0 3))) →
      exec .imageHeaderRead s = .next (
        if t.headerGood (t.bank k) then { t with boot := { t.boot with headerOk := true } }
        else if t.boot.failed.contains (1 - k) then State.raise { t with boot :=
            { t.boot with failed := t.boot.failed ++ [k], headerOk := false, invalid := true } }
            { cls := .device, event := Code.configInvalid, unit := 7 }
        else { t with boot := { t.boot with failed := t.boot.failed ++ [k], headerOk := false, bank := some (1 - k) } }))
  ∧ (∀ (s : State) (k : Nat) (reread : Bool), s.reading = true → s.boot.headerOk = true → s.boot.bank = some k →
      exec (.imageVerify reread) s = .next (
        if s.imageGood (s.bank k) && (decide (Img.size (s.bank k) ≤ 25165824) || reread) then s.bootImage k
        else s.bankFailed k))
  ∧ (∀ (s a b c : State) (bist lanes : List Nat) (raw0 raw1 : Nat) (f0 f1 : Bool), s.dev.st = .rooting →
      s.boot.imageApplied = true ∨ s.boot.invalid = true →
      a = ((lanes.foldl State.trainLane (bist.foldl State.bistSite s)).enumerate raw0 raw1 f0 f1).openFmk →
      b = { a with dev := { a.dev with recovery := a.boot.invalid, fabricReady := true } } →
      c = (b.goDev .loading).flushEarly →
      exec (.enterLoading bist lanes raw0 raw1 f0 f1) s = .next (
        if c.dev.st = .loading then (List.range 12).foldl State.sendReady c.startTrial.loadPavs else c))
  ∧ (∀ (s : State) (raw0 raw1 : Nat), s.dev.st = .rooting → s.boot.imageApplied = true ∨ s.boot.invalid = true →
      s.boot.early = [] → s.nvm.fmkWrapped = none → (∀ p, p < 8 → s.defined p = false) →
      ∃ t, exec (.enterLoading [] [] raw0 raw1 false false) s = .next t ∧ t.dev.st = .loading
        ∧ t.dev.recovery = s.boot.invalid ∧ t.dev.fabricReady = true
        ∧ t.cfm.port0 = (if raw0 = 0 then {} else { linked := true, raw := raw0 })
        ∧ t.cfm.port1 = (if raw1 = 0 then {} else { linked := true, raw := raw1 })
        ∧ t.rd R.cfmCapacity = usable (raw0 + raw1)
        ∧ t.pavs = s.pavs ∧ t.mem = s.mem ∧ t.plots = s.plots ∧ t.terrs = s.terrs ∧ t.flash = s.flash)

/-! ### The service port -/

/-- The requests that are answered once the port and the protocol are ready, outside recovery and the error state: each sends
one reply, with the body the manual gives, or a free one where it leaves it to the protocol's standard (log 8), and changes
nothing else but the address or endpoint it sets. A PLDM type, a state sensor (log 47), a certificate slot and a measurement
block that the device does not have are refused (R484, R511, R512, R514 to R516). -/
def Obligations.ServiceReplies : Prop :=
  (∀ (s : State) (c : Instr), s.dev.svcReady = true → c ∈ ([.getEndpointUuid, .getMctpVersionSupport] : List Instr) →
    exec c s = .next { s with out := s.out ++ [.reply c .done (Config.replyBody s.freeCtr)], freeCtr := s.freeCtr + 1 })
  ∧ (∀ (s : State) (eid : Byte), s.dev.svcReady = true → exec (.setEndpointId eid) s = .next { s with
      gate := { s.gate with eid := eid }
      out := s.out ++ [.reply (.setEndpointId eid) .done (Config.replyBody s.freeCtr)]
      freeCtr := s.freeCtr + 1 })
  ∧ (∀ (s : State), s.dev.svcReady = true →
      exec .getEndpointId s = .next (s.emit (.reply .getEndpointId .done [s.gate.eid]))
      ∧ exec .getMessageTypeSupport s = .next (s.emit (.reply .getMessageTypeSupport .done [0x00, 0x01, 0x05, 0x06])))
  ∧ (∀ (s : State) (addr : Byte), s.dev.st ≠ .dormant →
      exec (.entdaa addr) s = .next { s with gate := { s.gate with dynAddr := some addr } })
  ∧ (∀ (s : State) (c : Instr) (handle : Word32) (typ : Nat), s.dev.svcReady = true → s.dev.pldmReady = true → s.dev.recovery = false →
      typ = 0 ∨ typ = 2 ∨ typ = 5 →
      c ∈ ([.getTid, .getPldmVersion, .getPldmCommands typ, .getPdrRepositoryInfo, .getPdr handle] : List Instr) →
      exec c s = .next { s with out := s.out ++ [.reply c .done (Config.replyBody s.freeCtr)], freeCtr := s.freeCtr + 1 })
  ∧ (∀ (s : State) (sensor : Nat) (v : Word32), s.dev.svcReady = true → s.dev.pldmReady = true → s.dev.recovery = false →
      exec .getPldmTypes s = .next (s.emit (.reply .getPldmTypes .done [0, 2, 5]))
      ∧ (∀ typ, typ ≠ 0 → typ ≠ 2 → typ ≠ 5 →
          exec (.getPldmCommands typ) s = .next (s.emit (.reply (.getPldmCommands typ) .refused [])))
      ∧ exec (.getSensorReading sensor v) s = .next (s.emit (.reply (.getSensorReading sensor v) .done (leBytes 4 v.toNat)))
      ∧ exec (.getStateSensorReadings 0) s =
          .next (s.emit (.reply (.getStateSensorReadings 0) .done [BitVec.ofNat 8 s.dev.st.num]))
      ∧ (1 ≤ sensor → sensor ≤ 8 → exec (.getStateSensorReadings sensor) s =
          .next (s.emit (.reply (.getStateSensorReadings sensor) .done [BitVec.ofNat 8 (s.pav (sensor - 1)).st.num])))
      ∧ exec (.getStateSensorReadings 9) s =
          .next (s.emit (.reply (.getStateSensorReadings 9) .done [BitVec.ofNat 8 s.sdl.st.num]))
      ∧ (9 < sensor → exec (.getStateSensorReadings sensor) s =
          .next (s.emit (.reply (.getStateSensorReadings sensor) .refused []))))
  ∧ (∀ (s : State) (c : Instr) (nonce : List Byte), s.dev.svcReady = true → s.dev.pldmReady = true → s.dev.recovery = false →
      s.gate.errorState = false →
      c ∈ ([.getVersion, .getCapabilities, .negotiateAlgorithms, .getDigests, .getCertificate 0, .challenge nonce,
        .selfTestOnDemand true] : List Instr) →
      exec c s = .next { s with out := s.out ++ [.reply c .done (Config.replyBody s.freeCtr)], freeCtr := s.freeCtr + 1 })
  ∧ (∀ (s : State) (block : Nat) (code : Byte), s.dev.svcReady = true → s.dev.pldmReady = true → s.dev.recovery = false →
      s.gate.errorState = false →
      exec (.spdmUnsupportedRequest code) s = .next (s.emit (.reply (.spdmUnsupportedRequest code) .unsupportedRequest []))
      ∧ (1 ≤ block → block ≤ 9 → exec (.getMeasurements block) s =
          .next (s.emit (.reply (.getMeasurements block) .done (s.measureBlock block))))
      ∧ exec (.getMeasurements 0xFF) s = .next (s.emit (.reply (.getMeasurements 0xFF) .done
          ((List.range 9).flatMap fun i => s.measureBlock (i + 1))))
      ∧ exec (.getMeasurements 0) s = .next (s.emit (.reply (.getMeasurements 0) .done [9]))
      ∧ (9 < block → block ≠ 0xFF → exec (.getMeasurements block) s =
          .next (s.emit (.reply (.getMeasurements block) .refused [])))
      ∧ (∀ slot, slot ≠ 0 → exec (.getCertificate slot) s = .next (s.emit (.reply (.getCertificate slot) .refused []))))

/-- A request before its protocol is ready, in recovery or in the error state is answered as that says, with no other effect;
an SPDM session is opened, finished, used and ended, at most two at once; only a Crypto Officer's session may set the fabric
key (32 bytes, kept wrapped in NVM under a fresh nonce; log 46), zeroise or unlock debug; a failed self-test on demand or a
second entropy failure enters the error state, which takes every port DOWN (R484, R494, R495, R497, R499, R506, R508, R510,
R511, R517, R519). -/
def Obligations.SessionsAndOfficers : Prop :=
  (∀ (s : State), s.dev.svcReady = false → exec .getTid s = .next s ∧ exec .getVersion s = .next s ∧ exec .getEndpointId s = .next s)
  ∧ (∀ (s : State), s.dev.svcReady = true → s.dev.pldmReady = false ∨ s.dev.recovery = true →
      exec .getTid s = .next (s.emit (.reply .getTid .notReady [])) ∧ exec .getVersion s = .next (s.emit (.reply .getVersion .busy [])))
  ∧ (∀ (s : State) (sid : Nat), s.dev.svcReady = true → s.dev.pldmReady = true → s.dev.recovery = false → s.gate.errorState = true →
      exec (.zeroise sid) s = .next (s.emit (.reply (.zeroise sid) .unspecified [])))
  ∧ (∀ (s : State) (sid : Nat) (root key : List Byte), s.dev.svcReady = true → s.dev.pldmReady = true → s.dev.recovery = false →
      s.gate.errorState = false →
      (s.gate.sessions.length < 2 → sid ∉ s.gate.sessions → ∃ t, exec (.keyExchange sid) s = .next t
        ∧ t.gate = { s.gate with sessions := setIns sid s.gate.sessions }
        ∧ t = { s with gate := t.gate, out := t.out, freeCtr := s.freeCtr + 1 })
      ∧ (2 ≤ s.gate.sessions.length → exec (.keyExchange sid) s = .next (s.emit (.reply (.keyExchange sid) .refused [])))
      ∧ (sid ∈ s.gate.sessions → sid ∉ s.gate.established → ∃ t, exec (.finish sid root) s = .next t
        ∧ t.gate.established = setIns sid s.gate.established
        ∧ t.gate.officers = (if s.isOfficerRoot root then setIns sid s.gate.officers else s.gate.officers)
        ∧ t = { s with gate := t.gate, out := t.out, freeCtr := s.freeCtr + 1 })
      ∧ (sid ∈ s.gate.established →
        exec (.heartbeat sid) s = .next { s with
          out := s.out ++ [.reply (.heartbeat sid) .done (Config.replyBody s.freeCtr)], freeCtr := s.freeCtr + 1 }
        ∧ exec (.keyUpdate sid) s = .next { s with
          out := s.out ++ [.reply (.keyUpdate sid) .done (Config.replyBody s.freeCtr)], freeCtr := s.freeCtr + 1 }
        ∧ ∃ t, exec (.endSession sid) s = .next t ∧ sid ∉ t.gate.sessions ∧ sid ∉ t.gate.established ∧ sid ∉ t.gate.officers
          ∧ t = { s with gate := t.gate, out := t.out, freeCtr := s.freeCtr + 1 })
      ∧ (sid ∉ s.gate.officers →
        exec (.zeroise sid) s = .next (s.emit (.reply (.zeroise sid) .unexpectedRequest []))
        ∧ exec (.debugUnlock sid) s = .next (s.emit (.reply (.debugUnlock sid) .unexpectedRequest []))
        ∧ exec (.setFabricMasterKey sid key) s = .next (s.emit (.reply (.setFabricMasterKey sid key) .unexpectedRequest [])))
      ∧ (sid ∈ s.gate.officers →
        (∃ t, exec (.zeroise sid) s = .next t ∧ t.nvm.fmkWrapped = none ∧ t.nvm.plogHead = (s.nvm.plogHead + 1) % 65536
          ∧ t.gate = {} ∧ t.dev.st = .waking ∧ t.mem = [] ∧ t.reqs = [] ∧ t.objs = [] ∧ t.pages = [] ∧ t.fuses = s.fuses)
        ∧ (∃ t, exec (.debugUnlock sid) s = .next t ∧ t.nvm.fmkWrapped = none ∧ t.nvm.plogHead = (s.nvm.plogHead + 1) % 65536
          ∧ t.gate = { debug := true } ∧ t.dev.st = .waking ∧ t.mem = [] ∧ t.reqs = [] ∧ t.objs = [] ∧ t.pages = []
          ∧ t.fuses = s.fuses)
        ∧ (∀ w, s.gate.wrapKey = some w → s.dev.st ≠ .shuttered → key.length = 32 →
          ∃ t, exec (.setFabricMasterKey sid key) s = .next t ∧ t.gate = { s.gate with fmk := some key }
            ∧ t.nvm.fmkNonce = s.nvm.fmkNonce + 1
            ∧ t.nvm.fmkWrapped = some (Config.gcmSeal w (wrapNonce t.nvm.fmkNonce) key,
                Config.gcmTag w (wrapNonce t.nvm.fmkNonce) [] (Config.gcmSeal w (wrapNonce t.nvm.fmkNonce) key))
            ∧ ((∀ i, (s.port i).st ≠ .linked) → t.ports = s.ports) ∧ t.mem = s.mem ∧ t.reqs = s.reqs)
        ∧ (s.gate.wrapKey = none ∨ s.dev.st = .shuttered ∨ key.length ≠ 32 →
          exec (.setFabricMasterKey sid key) s = .next (s.emit (.reply (.setFabricMasterKey sid key) .refused [])))))
  ∧ (∀ (s : State), s.dev.svcReady = true → s.dev.pldmReady = true → s.dev.recovery = false → s.gate.errorState = false →
      ∃ t, exec (.selfTestOnDemand false) s = .next t ∧ t.gate = { s.gate with errorState := true }
        ∧ t = State.gateFails { s with
            out := s.out ++ [.reply (.selfTestOnDemand false) .done (Config.replyBody s.freeCtr)], freeCtr := s.freeCtr + 1 }
        ∧ (∀ i, i < 12 → (t.port i).st = .down) ∧ t.mem = s.mem ∧ t.reqs = s.reqs)
  ∧ (∀ (s : State), s.gate.keysLoaded = true → s.gate.errorState = false →
      exec (.entropyHealthFail true) s = .next (s.raise (corrErr Code.entropyRestart 7 0))
      ∧ ∃ t, exec (.entropyHealthFail false) s = .next t ∧ t = s.gateFails ∧ t.gate = { s.gate with errorState := true }
        ∧ (∀ i, i < 12 → (t.port i).st = .down) ∧ t.mem = s.mem ∧ t.reqs = s.reqs)

/-! ### Firmware update -/

/-- The update agent's requests: queries are answered; RequestUpdate opens update mode and is told to retry while an update or
a trial is in hand; a component is taken in update mode, one of each KIND, and the device asks for its manifest; an authentic
manifest and each block with its CRC are taken, a block that fails three times over, a manifest that fails and an old version
drop the component; verification and application go on as they succeed; ActivateFirmware ends update mode; a cancel and a
timeout leave it with the staging bank empty; each request restarts the agent's timer. Out of its state a request is refused
(log 49, log 51); before 600 ms it is told so (R484, R516, R522, R524 to R529, R532, R534, R548). -/
def Obligations.UpdateTransfer : Prop :=
  (∀ (s t : State) (c : Instr), s.dev.svcReady = true → s.dev.pldmReady = true → s.dev.st ≠ .shuttered →
    t = { s with upd := { s.upd with lastMsg := s.time } } →
    c ∈ ([.queryDeviceIdentifiers, .getFirmwareParameters, .getStatus] : List Instr) → exec c s = .next (t.answerFree c))
  ∧ (∀ (s : State) (c : Instr), c ∈ ([.queryDeviceIdentifiers, .getFirmwareParameters, .getStatus, .passComponentTable,
        .cancelUpdateComponent, .cancelUpdate] : List Instr) →
      (s.dev.svcReady = false → exec c s = .next s)
      ∧ (s.dev.svcReady = true → s.dev.pldmReady = false → exec c s = .next (s.answerErr c .notReady))
      ∧ (s.dev.svcReady = true → s.dev.pldmReady = true → s.dev.st = .shuttered → exec c s = .next (s.answerErr c .refused)))
  ∧ (∀ (s t : State) (cmd : Byte), s.dev.svcReady = true → s.dev.pldmReady = true → s.dev.st ≠ .shuttered →
      t = { s with upd := { s.upd with lastMsg := s.time } } →
      exec (.pldmUnsupportedCommand cmd) s = .next (t.answerErr (.pldmUnsupportedCommand cmd) .unsupportedPldmCmd)
      ∧ (s.upd.mode = false → s.upd.scheduled = false → s.upd.trial = false → exec .requestUpdate s =
          .next (State.answerFree { s with upd := { ({} : Upd) with mode := true, lastMsg := s.time } } .requestUpdate))
      ∧ (s.upd.mode = true ∨ s.upd.scheduled = true ∨ s.upd.trial = true →
          exec .requestUpdate s = .next (t.answerErr .requestUpdate .retryRequestUpdate))
      ∧ (s.upd.mode = true → exec .passComponentTable s = .next (t.answerFree .passComponentTable))
      ∧ (∀ kind, s.upd.mode = true → s.upd.kind = 0 → kind = 1 ∨ kind = 2 → kind ∉ s.upd.applied →
          exec (.updateComponent kind) s = .next (State.send5 (State.answerFree { t with upd := { t.upd.noComponent with kind := kind } }
            (.updateComponent kind)) (.requestData 0 4096)))
      ∧ (∀ kind, s.upd.mode = false ∨ s.upd.kind ≠ 0 ∨ kind ≠ 1 ∧ kind ≠ 2 ∨ kind ∈ s.upd.applied →
          exec (.updateComponent kind) s = .next (t.answerErr (.updateComponent kind) .refused))
      ∧ (s.upd.mode = true → s.upd.kind ≠ 0 → exec .cancelUpdateComponent s =
          .next (State.answerFree { t with upd := t.upd.noComponent } .cancelUpdateComponent))
      ∧ (s.upd.trial = true → s.upd.cause = none → exec .cancelUpdate s =
          .next (State.answerFree { t with upd := { t.upd with cause := some 1 } } .cancelUpdate))
      ∧ (s.upd.trial = false → s.upd.mode = true → exec .cancelUpdate s = .next { (t.answerFree .cancelUpdate).setBank s.stagingBank []
          with upd := { ({} : Upd) with lastMsg := s.time } })
      ∧ (∀ v, s.upd.mode = true → s.upd.applied ≠ [] → s.upd.kind = 0 → exec (.activateFirmware true v) s =
          .next (State.answerFree { t with upd := { t.upd with
            mode := false, scheduled := s.upd.applied.contains 1 && s.upd.hitless } } (.activateFirmware true v)))
      ∧ (∀ x v, s.upd.mode = false → s.upd.trial = true → s.upd.windowEnd.isSome = true → s.upd.cause = none →
          ∃ u, exec (.activateFirmware x v) s = .next u ∧ u = (t.answerFree (.activateFirmware x v)).confirm v
            ∧ u.upd.trial = false ∧ u.upd.windowEnd = none ∧ u.stw.newFw = [] ∧ u.mem = s.mem
            ∧ u.fuses = (if v then { s.fuses with sv := max s.fuses.sv (Img.sv s.boot.image) } else s.fuses)))
  ∧ (∀ (s t : State) (data : List Byte) (ok : Bool), s.upd.mode = true → s.upd.kind ≠ 0 → s.upd.transferred = false →
      s.dev.st ≠ .shuttered → t = { s with upd := { s.upd with lastMsg := s.time } } → data.length = s.upd.nextData.2 →
      (s.upd.manifest = [] → exec (.requestFirmwareData data ok) s = .next (
        if updFieldsGood data s.upd.kind = false ∨ s.updSigned data = false then
          State.send5 { t with upd := t.upd.noComponent } .imageCorrupt
        else if s.upd.kind = 1 ∧ UMan.sv data < s.fuses.sv then State.send5 { t with upd := t.upd.noComponent } .versionMismatch
        else State.askData { t with upd := { t.upd with manifest := data } }))
      ∧ (s.upd.manifest ≠ [] → (s.upd.chunk ++ data).length < s.upd.blockLen → exec (.requestFirmwareData data ok) s =
          .next (State.askData { t with upd := { t.upd with chunk := s.upd.chunk ++ data } }))
      ∧ (∀ b, s.upd.manifest ≠ [] → b = s.upd.chunk ++ data → s.upd.blockLen ≤ b.length →
          ((Config.crc32c b).toNat ≠ UMan.crc s.upd.manifest s.upd.block → exec (.requestFirmwareData data ok) s = .next (
            if s.upd.tries < 3 then State.askData { t with upd := { t.upd with chunk := [], tries := s.upd.tries + 1 } }
            else State.send5 { t with upd := t.upd.noComponent } .imageCorrupt))
          ∧ ((Config.crc32c b).toNat = UMan.crc s.upd.manifest s.upd.block → s.upd.kind = 1 ∧ ok = false →
            exec (.requestFirmwareData data ok) s =
              .next (((t.setBank s.stagingBank []).raise (corrErr Code.configNvmWriteFail 7 0)).failComponent .imageCorrupt))
          ∧ (∀ u, (Config.crc32c b).toNat = UMan.crc s.upd.manifest s.upd.block → s.upd.kind ≠ 1 ∨ ok = true →
            u = (if s.upd.kind = 1 then t.programBlock b else { t with upd := { t.upd with record := b } }) →
            exec (.requestFirmwareData data ok) s = .next (
              if s.upd.block + 1 < UMan.blocks s.upd.manifest then
                State.askData { u with upd := { u.upd with block := s.upd.block + 1, chunk := [], tries := 0 } }
              else State.send5 { u with upd := { u.upd with
                block := s.upd.block + 1, chunk := [], tries := 0, transferred := true } } .transferOk))))
  ∧ (∀ (s : State), s.awaitsVerify = true →
      (s.upd.kind = 1 → exec .verifyComplete s = .next (if s.stagedGood then State.send5 { s with upd := { s.upd with
          verified := true, hitless := !s.dev.recovery && s.hitlessClass (s.bank s.stagingBank) } } .verifyOk
        else State.send5 { s.setBank s.stagingBank [] with upd := s.upd.noComponent } .verifyFailure))
      ∧ (s.upd.kind = 2 → exec .verifyComplete s = .next (if s.keyRecordGood s.upd.record then
            State.send5 { s with upd := { s.upd with verified := true } } .verifyOk
          else State.send5 { s with upd := s.upd.noComponent } .verifyFailure)))
  ∧ (∀ (s : State), s.upd.mode = true → s.upd.verified = true → s.dev.st ≠ .shuttered →
      (s.upd.kind = 1 → exec .applyComplete s = .next (State.send5 (State.writeRec
        { s with upd := { s.upd.noComponent with applied := s.upd.applied ++ [1] } } fun r => { r with
          trialBank := s.stagingBank, trialFormat := UMan.format s.upd.manifest, actKind := b2n (!s.upd.hitless)
          trialBoots := b2n s.upd.hitless }) .applyOk))
      ∧ (s.upd.kind = 2 → exec .applyComplete s = .next (State.send5 { s with
          upd := { s.upd.noComponent with applied := s.upd.applied ++ [2] }
          keyPending := s.keyPending ++ [(fld s.upd.record 0 1, s.upd.record)] } .applyOk)))
  ∧ (∀ (s : State), s.upd.mode = true → s.passed s.upd.lastMsg 120000000 = true → s.dev.st ≠ .shuttered →
      exec .updateTimeout s = .next { s.setBank s.stagingBank [] with upd := { ({} : Upd) with lastMsg := s.upd.lastMsg } })

/-- A hitless activation and its end: it starts at a boundary with no swap, in TENDING; a steward that hands over is paused
until it resumes on the new firmware, with the record of its state; steward 0 applies what fell due meanwhile; the last to
resume opens the confirmation window; a late steward and the window's end give the trial its fallback cause, and the fallback
goes back through the stewards; one that is late on the way back abandons the update and resets the device (R535, R536, R538
to R541, R544, R545, R547). -/
def Obligations.HitlessActivation : Prop :=
  (∀ (s t : State) (b : List Byte), s.upd.scheduled = true → s.atBoundary = true → (∀ p, p < 8 → (s.pav p).swap = none) →
    b = (s.bank s.stagingBank).take (Img.size (s.bank s.stagingBank)) →
    t = { s with
      upd := { ({} : Upd) with
        lastMsg := s.upd.lastMsg, trial := true, hitlessTrial := true, gateDown := true,
        oldImage := s.boot.image, oldFormat := s.boot.format },
      stw := { s.stw with newFw := [] },
      gate := { s.gate with sessions := [], established := [], officers := [] } } →
    ∃ u, exec .hitlessActivationStart s = .next u ∧ u = ((t.useImage b s.bootRec.trialFormat).goDev .tending).pauseIdle
      ∧ u.dev.st = .tending ∧ u.upd.trial = true ∧ u.upd.gateDown = true ∧ u.gate.sessions = []
      ∧ (∀ p, p < 8 → u.defined p = false → u.handing p = true) ∧ u.mem = s.mem ∧ u.plots = s.plots ∧ u.reqs = s.reqs)
  ∧ (∀ (s : State), s.upd.gateDown = true →
      exec .gatehouseServicesResume s = .next { s with upd := { s.upd with gateDown := false } })
  ∧ (∀ (s : State) (p : Nat), s.dev.st = .tending → s.upd.hitlessTrial = true → p < 8 → s.handing p = false →
      s.stw.newFw.contains p = s.upd.reverse →
      ∃ t, exec (.stewardHandover p) s = .next t ∧ t.handing p = true
        ∧ (s.upd.reverse = false → Tab.get [] t.upd.records (8 + p) = s.stateRecord p s.upd.oldFormat)
        ∧ t = { s with upd := { s.upd with paused := t.upd.paused, records := t.upd.records } })
  ∧ (∀ (s : State) (p : Nat), s.dev.st = .tending → s.handing p = true →
      ∃ t, exec (.stewardResume p) s = .next t ∧ t.handing p = false
        ∧ t.stw.newFw = (if s.upd.reverse then setDel p s.stw.newFw else setIns p s.stw.newFw)
        ∧ (s.upd.reverse = false → (∀ e ∈ s.upd.paused, e.1 = p) → (setIns p s.stw.newFw).length = 8 →
            t.upd.windowEnd = some (s.time + s.rd R.confirmWindow))
        ∧ (p = 0 → t.upd.flipDue = []) ∧ (p ≠ 0 → t.dir = s.dir ∧ t.recs = s.recs ∧ t.mem = s.mem) ∧ t.pavs = s.pavs)
  ∧ (∀ (s : State) (p x : Nat), s.dev.st = .tending → s.upd.reverse = false → (p, x) ∈ s.upd.paused → s.passed x 3000 = true →
      s.upd.cause = none → exec (.resumeTimeout p) s = .next { s with upd := { s.upd with cause := some 2 } })
  ∧ (∀ (s : State) (x : Nat), s.upd.windowEnd = some x → s.upd.trial = true → x ≤ s.time → s.before (turnAt x 9 0) = [] →
      exec .confirmWindowExpiry s = .next { s with upd := { s.upd with
        windowEnd := none, cause := if s.upd.cause = none then some 0 else s.upd.cause } })
  ∧ (∀ (s t : State), s.upd.hitlessTrial = true → s.upd.cause.isSome = true → s.upd.reverse = false → s.dev.st = .tending →
      s.atBoundary = true → t = { s with upd := { s.upd with
        reverse := true, windowEnd := none, paused := s.upd.paused.map fun e => (e.1, s.time) } } →
      ∃ u, exec .hitlessFallbackStart s = .next u ∧ u = ((t.useImage s.upd.oldImage s.upd.oldFormat).pauseIdle).handoverDone
        ∧ u.upd.windowEnd = none ∧ u.mem = s.mem ∧ u.reqs = s.reqs)
  ∧ (∀ (s : State), s.dev.st = .tending → s.upd.reverse = true → s.overdue = true →
      ∃ t, exec .updateAbandoned s = .next t ∧ t.dev.st = .waking ∧ t.upd = {} ∧ t.mem = [] ∧ t.fuses = s.fuses)

/-! ### Error handling and repair -/

/-- Handling and repair: steward 0 clears HIP and a reader moves the ring's RD within it; a handler at its limit raises the
next class; the oldest waiting entry goes to the persistent log, the repairs to NVM; a triggered plot whose terrace is drained
and whose messages have all arrived moves to its region's spare with its state, and without a spare its terrace is to be
withdrawn; the second residue failure within 1,000,000 tk triggers; REPAIR_CTL triggers, or returns a port's lanes; an aging
sample sets the margins, and a plot below RETIRE_PS without a spare lowers the ceiling by 50 MHz, down to 600 (R124, R131,
R280, R555, R557 to R560, R564 to R566, R570, R574 to R576, R578). -/
def Obligations.HandlingAndRepair : Prop :=
  (∀ (s : State) (r i : Nat) (c : Cls), s.target r 12 0x130 .steward0 = some i → Cls.ofInst i = some c → s.dev.recovery = false →
      ∃ t, exec (.errCtlHipClr r) s = .next t ∧ t.errs.bank c = (s.errs.bank c).clearHip ∧ (t.errs.bank c).hip = false
        ∧ (∀ n, (t.errs.bank c).primary.getLsbD n = ((s.errs.bank c).primary.getLsbD n && n != 17))
        ∧ t.errs.irq = s.errs.irq.filter (fun d => some d != some c) ∧ (∀ d, d ≠ c → t.errs.bank d = s.errs.bank d)
        ∧ t = { s.dropLatch r (12 * 65536) with errs := t.errs })
  ∧ (∀ (s : State) (r i : Nat) (v : Word32), s.target r 12 0x124 .any = some i → r = 0 ∨ r = 64 →
      exec (.errRingRd r v) s = .next ((s.dropLatch r (12 * 65536)).modBank i fun b =>
        if (b.wr - v).toNat ≤ 64 then { b with rd := v } else b))
  ∧ (∀ (s : State) (i : Nat) (c : Cls), Cls.ofInst i = some c → s.locked = true → s.dev.recovery = false →
      (s.errs.bank c).hip = true → (s.errs.bank c).timedOut = false → s.passed (s.errs.bank c).hipAt (s.rd R.hipLimit) = true →
      exec (.errHandlerTimeout i) s = .next ((s.modBank i fun b => { b with timedOut := true }).raise
        { cls := c.up, event := Code.errHandlerTimeout, unit := 3, d1 := c.num
          pav := if (s.errs.bank c).primary.getLsbD 27 then none else some ((s.errs.bank c).primary.toNat / 2 ^ 24 % 8) }))
  ∧ (∀ (s : State) (r : BitVec 256) (rest : List (BitVec 256)), s.errs.plogPending = r :: rest → s.locked = true →
      s.dev.recovery = false ∨ s.dev.st = .shuttered →
      exec (.persistentLogWrite true) s = .next { s with
        errs := { s.errs with plogPending := rest }
        nvm := { s.nvm with plog := Tab.put 0 s.nvm.plog s.nvm.plogHead r, plogHead := (s.nvm.plogHead + 1) % 65536 } }
      ∧ exec (.persistentLogWrite false) s = .next (s.raise (corrErr Code.configNvmWriteFail 7 0)))
  ∧ (∀ (s : State), s.serving = true → s.errs.repairPending = true →
      exec (.repairRecordWrite true) s = .next { s with
        nvm := { s.nvm with saved := s.nvm.repair }, errs := { s.errs with repairPending := false } }
      ∧ exec (.repairRecordWrite false) s = .next (s.raise (corrErr Code.configNvmWriteFail 7 0)))
  ∧ (∀ (s t : State) (p : Nat), s.mayRetire p = true → s.hasSpare (terrOf p) = true →
      t = (((s.moveToSpare p).takeTerr (terrOf p)).setPlot p { s.plot p with retire := false, rowRepair := [], ce := [], resid := none }).raise
          { cls := .corrected, event := Code.plotRetired, pav := s.plotPav p, unit := 1, inst := p } →
      ((s.plot p).bad = [] → exec (.plotRetire p) s = .next t)
      ∧ ((s.plot p).bad ≠ [] → exec (.plotRetire p) s = .next (t.restartPlot p))
      ∧ (s.moveToSpare p).siteOf p = (s.idleSites (terrOf p)).headD 0 ∧ (s.moveToSpare p).hasSpare (terrOf p) = false)
  ∧ (∀ (s : State) (p : Nat), s.mayRetire p = true → s.hasSpare (terrOf p) = false →
      exec (.plotRetire p) s = .next (State.noSpare (s.setPlot p { s.plot p with retire := false }) p))
  ∧ (∀ (s : State) (p : Nat), (s.terr (terrOf p)).took = true ∨ (∃ m ∈ s.trellis, m.src = p ∨ m.dst = p)
        ∨ ((s.plotPav p).isSome = true ∧ (s.terr (terrOf p)).rows ≠ []) → exec (.plotRetire p) s = .next s)
  ∧ (∀ (s t : State) (p : Nat), s.serving = true → t = s.setPlot p { s.plot p with resid := some s.time } →
      ((s.plot p).resid = none → exec (.macResidueFail p) s = .next t)
      ∧ (∀ u, (s.plot p).resid = some u → exec (.macResidueFail p) s =
          .next (if tkFrom u s.time ≤ 1000000 then t.trigger p else t)))
  ∧ (∀ (s t : State) (r i : Nat) (v : Word32), s.target r 13 0x8 .pf = some i → t = s.dropLatch r (13 * 65536) →
      exec (.repairCtlRetire r v) s = .next (if v.getLsbD 31 then t.trigger (v.toNat % 2048) else t))
  ∧ (∀ (s : State) (r i p : Nat) (v : Word32), s.target r 13 0xC .pf = some i → v.getLsbD 31 = true → p = v.toNat % 16 → p < 12 →
      ∃ t, exec (.repairCtlLaneClr r v) s = .next t ∧ t.errs.repairPending = true
        ∧ (∀ d, d = p * 2 ∨ d = p * 2 + 1 →
            Tab.get none t.nvm.repair.tvlLane d = none ∧ Tab.get [] t.nvm.repair.tvlHalf d = [])
        ∧ (∀ d, d ≠ p * 2 → d ≠ p * 2 + 1 → Tab.get none t.nvm.repair.tvlLane d = Tab.get none s.nvm.repair.tvlLane d
            ∧ Tab.get [] t.nvm.repair.tvlHalf d = Tab.get [] s.nvm.repair.tvlHalf d)
        ∧ t.ports = s.ports ∧ t.mem = s.mem)
  ∧ (∀ (s : State) (ms : List Nat), s.serving = true → s.agingDue = true → ms.length ≤ 2048 →
      ∃ t, exec (.agingSample ms) s = .next t ∧ (∀ p, p < ms.length → t.rd R.margin p = min (ms.getD p 0) 255)
        ∧ ((∀ m ∈ ms, s.rd R.warnPs ≤ m ∧ s.rd R.retirePs ≤ m) → t.plots = s.plots ∧ t.nvm = s.nvm)
        ∧ (∀ p, p < ms.length → ms.getD p 0 < s.rd R.retirePs → s.hasSpare (terrOf p) = false → 600 < s.nvm.repair.fmaxCap →
            t.nvm.repair.fmaxCap = max 600 (s.nvm.repair.fmaxCap - 50) ∧ t.errs.repairPending = true)
        ∧ t.agingDue = false ∧ t.mem = s.mem)

/-! ### Power, temperature and flash maintenance -/

/-- Power and temperature: a reading of power joins those of the last 1,000 tk, whose average is POWER_W and sets the limits'
marks (log 60); a fast cap halves PLOT_MHZ and counts; the regulator's answer lets a raise go on, its fault takes the setpoint
back and stops raises until a retry; a thermal sample sets THERM_N, with 5 °C of hysteresis, and where a reading is due TJ and
the throttle marks; a trip goes to DORMANT and holds it; lost rails and the always-on clock reset the device; a lost reference
clock takes its links down (R593, R595 to R599, R604 to R606). -/
def Obligations.PowerAndTemperature : Prop :=
  (∀ (s : State) (w : Nat) (l : List Nat), s.readingDue = true → s.sdl.powerDone = false → l = (w :: s.pwr.samples).take 10 →
    ∃ t, exec (.powerSample w) s = .next t ∧ t.pwr.samples = l ∧ t.rd R.powerW = min (l.sum / l.length) 1023
    ∧ t.pwr.capDown = (s.pwr.capDown || decide (s.rd R.capW * l.length < l.sum))
    ∧ (s.rd R.capW * 95 * l.length ≤ l.sum * 100 → t.pwr.capUp = false ∧ t.pwr.belowSince = none)
    ∧ (l.sum * 100 < s.rd R.capW * 95 * l.length → ∀ u, s.pwr.belowSince = some u →
        t.pwr.belowSince = some u ∧ t.pwr.capUp = s.passed u 10000)
    ∧ (l.sum * 100 < s.rd R.capW * 95 * l.length → s.pwr.belowSince = none → t.pwr.belowSince = some s.time)
    ∧ t = { s with regs := t.regs, sdl := { s.sdl with powerDone := true }, pwr := { s.pwr with
        samples := l, capDown := t.pwr.capDown, capUp := t.pwr.capUp, belowSince := t.pwr.belowSince } }
    ∧ t.rd R.devPlotMhz = s.rd R.devPlotMhz)
  ∧ (∀ (s : State), s.locked = true → s.dev.st ≠ .shuttered → s.pwr.fastCapped = false →
      exec .fastCap s = .next (State.inc { s.wr R.devPlotMhz (s.rd R.devPlotMhz / 2) with pwr := { s.pwr with fastCapped := true } }
        R.fastCaps))
  ∧ (∀ (s : State) (x : Nat), s.pwr.raising = some x →
      exec .avsSetpointReached s = .next { s with pwr := { s.pwr with reached := true } }
      ∧ (s.pwr.reached = false → ∃ t, exec .avsFault s = .next t ∧ t.rd R.avsFault = 1 ∧ t.pwr.raising = none
          ∧ t.pwr.vcore = s.pwr.vPrev ∧ t.out = s.out ++ [.avs s.pwr.vPrev]
          ∧ t = { s with regs := t.regs, out := t.out, pwr := { s.pwr with raising := none, vcore := s.pwr.vPrev } }))
  ∧ (∀ (s : State) (r i : Nat), s.target r 0 0x10 .pf = some i →
      exec (.devPwrAvsRetry r) s = .next ((s.dropLatch r (0 * 65536)).wr R.avsFault 0))
  ∧ (∀ (s : State) (tj : Nat), s.dev.st ≠ .dormant → ∃ t, exec (.thermalSample tj) s = .next t
      ∧ (s.rd R.assertC ≤ tj → t.dev.thermN = true) ∧ (tj < s.rd R.assertC → s.rd R.assertC < tj + 5 → t.dev.thermN = s.dev.thermN)
      ∧ (tj + 5 ≤ s.rd R.assertC → t.dev.thermN = false)
      ∧ (s.readingDue = true → t.rd R.tj = min tj 255 ∧ t.pwr.thermDown = decide (s.rd R.throttleC ≤ tj)
        ∧ t.pwr.thermUp = decide (tj + 3 ≤ s.rd R.throttleC) ∧ t.pwr.thermLimit = s.pwr.thermLimit)
      ∧ (s.readingDue = false → t.pwr = s.pwr ∧ t.regs = s.regs)
      ∧ t = { s with regs := t.regs, pwr := t.pwr, dev := { s.dev with thermN := t.dev.thermN } })
  ∧ (∀ (s : State), s.dev.st ≠ .dormant → ∃ t, exec .thermalTrip s = .next t ∧ t.dev.st = .dormant ∧ t.dev.tripHold = true
      ∧ t.dev.thermN = true ∧ t.mem = [] ∧ t.regs = [] ∧ t.plots = [] ∧ t.fuses = s.fuses ∧ t.flash = s.flash ∧ t.out = s.out
      ∧ t.pending = s.pending)
  ∧ (∀ (s : State) (tj : Nat), s.dev.st = .dormant → s.dev.tripHold = true → tj < 95 →
      exec (.thermNReleaseAfterTrip tj) s = .next { s with dev := { s.dev with thermN := false } })
  ∧ (∀ (s : State) (c : Instr), s.dev.st ≠ .dormant → c ∈ ([.railUndervoltage, .aonOscillatorStop] : List Instr) →
      ∃ t, exec c s = .next t ∧ t.dev.st = .waking ∧ t.mem = [] ∧ t.regs = [] ∧ t.plots = [] ∧ t.fuses = s.fuses
        ∧ t.flash = s.flash ∧ t.pending = s.pending)
  ∧ (∀ (s : State), ∃ t, exec .tvlRefclkLoss s = .next t ∧ (∀ i, i < 12 → (t.port i).st = .down)
      ∧ (∀ i, 12 ≤ i → t.port i = s.port i) ∧ t.mem = s.mem ∧ t.plots = s.plots ∧ t.reqs = s.reqs)
  ∧ (∀ (s : State), exec .pcieRefclkLoss s = .next { s with dev := { s.dev with pcieUp := false } })

/-- Flash maintenance: a GO that names no protected block sets BUSY with its OP, channel and chip enable, one that does is
refused and starts nothing, one while BUSY is ignored; completion clears GO and BUSY, an erased block reads erased, a
programmed page has only cleared bits (log 53), nothing outside the range changes, and a failed command sets FAIL, what it
leaves in its range being free (log 1) (R602, R632, R633). -/
def Obligations.FlashMaintenance : Prop :=
  (∀ (s t u : State) (c : Instr) (r i op chan ce : Nat),
    (c, op) ∈ ([(.nandPageProgram r chan ce, 1), (.nandBlockErase r chan ce, 2)] : List (Instr × Nat)) →
    s.target r 15 0 .pf = some i → t = s.dropLatch r (15 * 65536) →
    u = ((t.wr R.nandOp op).wr R.nandChannel chan).wr R.nandCe ce →
    (t.rd R.nandBusy = 1 → exec c s = .next t)
    ∧ (t.rd R.nandBusy ≠ 1 → exec c s = .next (if u.flashProtected chan ce (u.rd R.nandRow) then u.wr R.maintRefused 1
        else (u.wr R.nandGo 1).wr R.nandBusy 1)))
  ∧ (∀ (s : State) (a n : Nat), s.rd R.nandBusy = 1 → s.rd R.nandOp = 2 →
      (a, n) = Config.nandBlock (s.rd R.nandChannel) (s.rd R.nandCe) (s.rd R.nandRow) →
      ∃ t, exec (.nandMaintComplete true) s = .next t ∧ t.rd R.nandBusy = 0 ∧ t.rd R.nandGo = 0
        ∧ (∀ x, a ≤ x → x < a + n → Flash.rd t.flash x = erased) ∧ (∀ x, x < a ∨ a + n ≤ x → Flash.rd t.flash x = Flash.rd s.flash x)
        ∧ t = { s with regs := t.regs, flash := t.flash })
  ∧ (∀ (s : State) (a : Nat), s.rd R.nandBusy = 1 → s.rd R.nandOp = 1 →
      a = Config.nandPage (s.rd R.nandChannel) (s.rd R.nandCe) (s.rd R.nandRow) →
      ∃ t, exec (.nandMaintComplete true) s = .next t ∧ t.rd R.nandBusy = 0 ∧ t.rd R.nandGo = 0
        ∧ (∀ i, i < 32768 → Flash.rd t.flash (a + i) = s.pageBuffer.getD i 0 &&& Flash.rd s.flash (a + i))
        ∧ (∀ x, x < a ∨ a + 32768 ≤ x → Flash.rd t.flash x = Flash.rd s.flash x) ∧ t = { s with regs := t.regs, flash := t.flash })
  ∧ (∀ (s : State) (a n : Nat), s.rd R.nandBusy = 1 →
      (a, n) = (if s.rd R.nandOp = 1 then (Config.nandPage (s.rd R.nandChannel) (s.rd R.nandCe) (s.rd R.nandRow), 32768)
        else Config.nandBlock (s.rd R.nandChannel) (s.rd R.nandCe) (s.rd R.nandRow)) →
      ∃ t, exec (.nandMaintComplete false) s = .next t ∧ t.rd R.nandFail = 1 ∧ t.rd R.nandBusy = 0 ∧ t.rd R.nandGo = 0
        ∧ (∀ x, x < a ∨ a + n ≤ x → Flash.rd t.flash x = Flash.rd s.flash x)
        ∧ t = { s with regs := t.regs, flash := t.flash, freeCtr := s.freeCtr + 1 })
end

