-- ==== Sys2Proof/Laws/Cipher.lean ====
section
/-! SUPPORT. GCM keeps a length, and opens what it sealed. -/
namespace Sys2Proof.Laws
open Sys2Proof

@[simp] theorem gcmSeal_length (key : BitVec 256) (nonce : BitVec 96) (data : List Byte) :
    (Config.gcmSeal key nonce data).length = data.length := by simp [Config.gcmSeal]

@[simp] theorem gcmSeal_gcmSeal (key : BitVec 256) (nonce : BitVec 96) (data : List Byte) :
    Config.gcmSeal key nonce (Config.gcmSeal key nonce data) = data := by
  apply List.ext_getElem
  · simp
  · intro i h1 h2
    simp [Config.gcmSeal, BitVec.xor_assoc]

end Sys2Proof.Laws
end

