-- ==== Sys2Proof/Laws/Tables.lean ====
section
/-! SUPPORT. Tables, memory and flash: every operation keeps the canonical form, a read after a write. -/
namespace Sys2Proof.Machine
open Sys2Proof

/-! ### Tables -/

theorem Tab.wf_cons {α : Type} [DecidableEq α] {d : α} {i : Nat} {v : α} {t : Tab α} :
    Tab.wf d ((i, v) :: t) = true ↔ v ≠ d ∧ (∀ e ∈ t, i < e.1) ∧ Tab.wf d t = true := by
  simp [Tab.wf, and_assoc]

theorem Tab.wf_filter {α : Type} [DecidableEq α] {d : α} {t : Tab α} (f : Nat × α → Bool) (h : Tab.wf d t = true) :
    Tab.wf d (t.filter f) = true := by
  induction t with
  | nil => rfl
  | cons e t ih =>
    obtain ⟨i, v⟩ := e
    obtain ⟨hv, hi, ht⟩ := Tab.wf_cons.1 h
    rw [List.filter_cons]
    split
    · exact Tab.wf_cons.2 ⟨hv, fun e he => hi e ((List.mem_filter.1 he).1), ih ht⟩
    · exact ih ht

theorem Tab.mem_ins {α : Type} {t : Tab α} {k : Nat} {v : α} {e : Nat × α} (h : e ∈ Tab.ins t k v) :
    e = (k, v) ∨ e ∈ t := by
  induction t with
  | nil => simpa [Tab.ins] using h
  | cons a t ih =>
    simp only [Tab.ins] at h
    split at h
    · simpa using h
    · split at h
      · rcases List.mem_cons.1 h with h | h
        · exact .inl h
        · exact .inr (List.mem_cons_of_mem _ h)
      · rcases List.mem_cons.1 h with h | h
        · exact .inr (by simp [h])
        · exact (ih h).imp id (List.mem_cons_of_mem _)

theorem Tab.wf_ins {α : Type} [DecidableEq α] {d : α} {t : Tab α} {k : Nat} {v : α} (hv : v ≠ d) (h : Tab.wf d t = true) :
    Tab.wf d (Tab.ins t k v) = true := by
  induction t with
  | nil => simp [Tab.ins, Tab.wf, hv]
  | cons e t ih =>
    obtain ⟨i, w⟩ := e
    obtain ⟨hw, hi, ht⟩ := Tab.wf_cons.1 h
    simp only [Tab.ins]
    split
    · refine Tab.wf_cons.2 ⟨hv, fun e he => ?_, h⟩
      rcases List.mem_cons.1 he with rfl | he
      · assumption
      · exact Nat.lt_trans ‹_› (hi e he)
    · split
      · subst k; exact Tab.wf_cons.2 ⟨hv, hi, ht⟩
      · refine Tab.wf_cons.2 ⟨hw, fun e he => ?_, ih ht⟩
        rcases Tab.mem_ins he with rfl | he
        · simp only; omega
        · exact hi e he

/-- A table keeps its canonical form when it is written. -/
theorem Tab.wf_put {α : Type} [DecidableEq α] {d : α} {t : Tab α} (k : Nat) (v : α) (h : Tab.wf d t = true) :
    Tab.wf d (Tab.put d t k v) = true := by
  unfold Tab.put
  split
  · exact Tab.wf_filter _ h
  · exact Tab.wf_ins ‹_› h

theorem Tab.rises_filter {α : Type} {t : Tab α} (f : Nat × α → Bool) (h : Tab.Rises t) : Tab.Rises (t.filter f) :=
  List.Pairwise.sublist (List.Sublist.map _ List.filter_sublist) h

theorem Tab.rises_ins {α : Type} {t : Tab α} (k : Nat) (v : α) (h : Tab.Rises t) : Tab.Rises (Tab.ins t k v) := by
  induction t with
  | nil => simp [Tab.ins, Tab.Rises, Tab.keys]
  | cons e t ih =>
    obtain ⟨i, w⟩ := e
    obtain ⟨hi, ht⟩ := List.pairwise_cons.1 h
    have hi' : ∀ e ∈ t, i < e.1 := fun e he => hi e.1 (List.mem_map_of_mem he)
    simp only [Tab.ins]
    split
    · refine List.pairwise_cons.2 ⟨fun x hx => ?_, h⟩
      rcases List.mem_cons.1 hx with rfl | hx
      · assumption
      · exact Nat.lt_trans ‹_› (hi x hx)
    · split
      · subst k; exact List.pairwise_cons.2 ⟨hi, ht⟩
      · refine List.pairwise_cons.2 ⟨fun x hx => ?_, ih ht⟩
        obtain ⟨e, he, rfl⟩ := List.mem_map.1 hx
        rcases Tab.mem_ins he with rfl | he
        · simp only; omega
        · exact hi' e he

theorem Tab.rises_put {α : Type} [DecidableEq α] {d : α} {t : Tab α} (k : Nat) (v : α) (h : Tab.Rises t) :
    Tab.Rises (Tab.put d t k v) := by
  unfold Tab.put
  split
  · exact Tab.rises_filter _ h
  · exact Tab.rises_ins k v h

theorem Tab.get_filter_ne {α : Type} {d : α} {t : Tab α} (k : Nat) : Tab.get d (t.filter fun e => e.1 != k) k = d := by
  induction t with
  | nil => rfl
  | cons e t ih =>
    rw [List.filter_cons]
    split
    · next h => rw [Tab.get, if_neg (by simpa using h), ih]
    · exact ih

theorem Tab.get_filter_other {α : Type} {d : α} {t : Tab α} {j k : Nat} (h : j ≠ k) :
    Tab.get d (t.filter fun e => e.1 != k) j = Tab.get d t j := by
  induction t with
  | nil => rfl
  | cons e t ih =>
    rw [List.filter_cons]
    split
    · simp only [Tab.get, ih]
    · next hk => rw [Tab.get, if_neg (by rintro rfl; exact hk (by simpa using h)), ih]

theorem Tab.get_ins {α : Type} {d : α} {t : Tab α} (k : Nat) (v : α) : Tab.get d (Tab.ins t k v) k = v := by
  induction t with
  | nil => simp [Tab.ins, Tab.get]
  | cons e t ih =>
    simp only [Tab.ins]
    split
    · simp [Tab.get]
    · split
      · simp [Tab.get]
      · rw [Tab.get, if_neg (by omega), ih]

theorem Tab.get_ins_other {α : Type} {d : α} {t : Tab α} {j k : Nat} (v : α) (h : j ≠ k) :
    Tab.get d (Tab.ins t k v) j = Tab.get d t j := by
  induction t with
  | nil => simp [Tab.ins, Tab.get, Ne.symm h]
  | cons e t ih =>
    simp only [Tab.ins]
    split
    · rw [Tab.get, if_neg (Ne.symm h)]
    · split
      · next hk => subst hk; simp only [Tab.get, if_neg (Ne.symm h)]
      · simp only [Tab.get, ih]

/-- A read of the index that was written gives the value written. -/
@[simp] theorem Tab.get_put {α : Type} [DecidableEq α] {d : α} {t : Tab α} (k : Nat) (v : α) :
    Tab.get d (Tab.put d t k v) k = v := by
  unfold Tab.put
  split
  · next h => rw [h, Tab.get_filter_ne]
  · exact Tab.get_ins k v

/-- A write leaves every other index alone. -/
theorem Tab.get_put_other {α : Type} [DecidableEq α] {d d' : α} {t : Tab α} {j k : Nat} (v : α) (h : j ≠ k) :
    Tab.get d (Tab.put d' t k v) j = Tab.get d t j := by
  unfold Tab.put
  split
  · exact Tab.get_filter_other h
  · exact Tab.get_ins_other v h

/-! ### Memory -/

theorem Memory.wf_wr {m : List Host.Cell} (a : Nat) (b : Byte) (h : Memory.wf m = true) : Memory.wf (Mem.wr m a b) = true :=
  Tab.wf_put a b h

/-- Every memory write keeps the canonical form. -/
theorem Memory.wf_write {m : List Host.Cell} (a : Nat) (bs : List Byte) (h : Memory.wf m = true) :
    Memory.wf (Mem.write m a bs) = true := by
  induction bs generalizing m a with
  | nil => exact h
  | cons b bs ih => exact ih (a + 1) (Memory.wf_wr a b h)

@[simp] theorem Mem.rd_wr (m : List Host.Cell) (a : Nat) (b : Byte) : Mem.rd (Mem.wr m a b) a = b := Tab.get_put a b

theorem Mem.rd_wr_other (m : List Host.Cell) {a c : Nat} (b : Byte) (h : c ≠ a) : Mem.rd (Mem.wr m a b) c = Mem.rd m c :=
  Tab.get_put_other b h

/-- A write of bytes leaves every byte outside its range alone. -/
theorem Mem.rd_write_other (m : List Host.Cell) {a c : Nat} (bs : List Byte) (h : c < a ∨ a + bs.length ≤ c) :
    Mem.rd (Mem.write m a bs) c = Mem.rd m c := by
  induction bs generalizing m a with
  | nil => rfl
  | cons b bs ih =>
    simp only [List.length_cons] at h
    rw [Mem.write, ih _ (by omega), Mem.rd_wr_other _ _ (by omega)]

/-- A byte that was written reads back. -/
theorem Mem.rd_write (m : List Host.Cell) (a i : Nat) (bs : List Byte) (h : i < bs.length) :
    Mem.rd (Mem.write m a bs) (a + i) = bs.getD i 0 := by
  induction bs generalizing m a i with
  | nil => simp at h
  | cons b bs ih =>
    cases i with
    | zero => rw [Mem.write, Mem.rd_write_other _ _ (by omega)]; simp
    | succ i =>
      rw [Mem.write, show a + (i + 1) = a + 1 + i by omega, ih _ _ _ (by simpa using h)]
      simp

theorem Mem.read_length (m : List Host.Cell) (a n : Nat) : (Mem.read m a n).length = n := by
  induction n generalizing a with
  | zero => rfl
  | succ n ih => simp [Mem.read, ih]

/-! ### Flash -/

theorem Flash.wf_put {m : List Host.Cell} (a : Nat) (bs : List Byte) (h : Flash.wf m = true) :
    Flash.wf (Flash.put m a bs) = true := by
  unfold Flash.put
  induction bs generalizing m a with
  | nil => exact h
  | cons b bs ih => exact ih (a + 1) (Tab.wf_put a b h)

end Sys2Proof.Machine
end

