-- ==== Sys2Proof/Laws/State.lean ====
section
/-! SUPPORT. What each update of the state leaves: one lemma per field per update. -/
namespace Sys2Proof.Machine
open Sys2Proof

/-! ### emit -/

section
variable (s : State) (o : Out)
@[simp] theorem State.emit_pending : (s.emit o).pending = s.pending := rfl
@[simp] theorem State.emit_freeCtr : (s.emit o).freeCtr = s.freeCtr := rfl
@[simp] theorem State.emit_time : (s.emit o).time = s.time := rfl
@[simp] theorem State.emit_sdl : (s.emit o).sdl = s.sdl := rfl
@[simp] theorem State.emit_dev : (s.emit o).dev = s.dev := rfl
@[simp] theorem State.emit_fuses : (s.emit o).fuses = s.fuses := rfl
@[simp] theorem State.emit_boot : (s.emit o).boot = s.boot := rfl
@[simp] theorem State.emit_regs : (s.emit o).regs = s.regs := rfl
@[simp] theorem State.emit_acc : (s.emit o).acc = s.acc := rfl
@[simp] theorem State.emit_qps : (s.emit o).qps = s.qps := rfl
@[simp] theorem State.emit_msixTab : (s.emit o).msixTab = s.msixTab := rfl
@[simp] theorem State.emit_msixPend : (s.emit o).msixPend = s.msixPend := rfl
@[simp] theorem State.emit_accepted : (s.emit o).accepted = s.accepted := rfl
@[simp] theorem State.emit_dir : (s.emit o).dir = s.dir := rfl
@[simp] theorem State.emit_recs : (s.emit o).recs = s.recs := rfl
@[simp] theorem State.emit_dirOps : (s.emit o).dirOps = s.dirOps := rfl
@[simp] theorem State.emit_loadSerial : (s.emit o).loadSerial = s.loadSerial := rfl
@[simp] theorem State.emit_plots : (s.emit o).plots = s.plots := rfl
@[simp] theorem State.emit_tcnt : (s.emit o).tcnt = s.tcnt := rfl
@[simp] theorem State.emit_terrs : (s.emit o).terrs = s.terrs := rfl
@[simp] theorem State.emit_trellis : (s.emit o).trellis = s.trellis := rfl
@[simp] theorem State.emit_mem : (s.emit o).mem = s.mem := rfl
@[simp] theorem State.emit_poison : (s.emit o).poison = s.poison := rfl
@[simp] theorem State.emit_homes : (s.emit o).homes = s.homes := rfl
@[simp] theorem State.emit_homeBusy : (s.emit o).homeBusy = s.homeBusy := rfl
@[simp] theorem State.emit_cfm : (s.emit o).cfm = s.cfm := rfl
@[simp] theorem State.emit_hbmLane : (s.emit o).hbmLane = s.hbmLane := rfl
@[simp] theorem State.emit_pavs : (s.emit o).pavs = s.pavs := rfl
@[simp] theorem State.emit_reqs : (s.emit o).reqs = s.reqs := rfl
@[simp] theorem State.emit_admitSeq : (s.emit o).admitSeq = s.admitSeq := rfl
@[simp] theorem State.emit_pages : (s.emit o).pages = s.pages := rfl
@[simp] theorem State.emit_cfUsed : (s.emit o).cfUsed = s.cfUsed := rfl
@[simp] theorem State.emit_objs : (s.emit o).objs = s.objs := rfl
@[simp] theorem State.emit_nextHandle : (s.emit o).nextHandle = s.nextHandle := rfl
@[simp] theorem State.emit_cancels : (s.emit o).cancels = s.cancels := rfl
@[simp] theorem State.emit_stw : (s.emit o).stw = s.stw := rfl
@[simp] theorem State.emit_wgts : (s.emit o).wgts = s.wgts := rfl
@[simp] theorem State.emit_flash : (s.emit o).flash = s.flash := rfl
@[simp] theorem State.emit_scrub : (s.emit o).scrub = s.scrub := rfl
@[simp] theorem State.emit_bcast : (s.emit o).bcast = s.bcast := rfl
@[simp] theorem State.emit_ports : (s.emit o).ports = s.ports := rfl
@[simp] theorem State.emit_xacts : (s.emit o).xacts = s.xacts := rfl
@[simp] theorem State.emit_tvlDue : (s.emit o).tvlDue = s.tvlDue := rfl
@[simp] theorem State.emit_mbox : (s.emit o).mbox = s.mbox := rfl
@[simp] theorem State.emit_gate : (s.emit o).gate = s.gate := rfl
@[simp] theorem State.emit_upd : (s.emit o).upd = s.upd := rfl
@[simp] theorem State.emit_nvm : (s.emit o).nvm = s.nvm := rfl
@[simp] theorem State.emit_keyPending : (s.emit o).keyPending = s.keyPending := rfl
@[simp] theorem State.emit_errs : (s.emit o).errs = s.errs := rfl
@[simp] theorem State.emit_pwr : (s.emit o).pwr = s.pwr := rfl
end

/-! ### tickFree -/

section
variable (s : State)
@[simp] theorem State.tickFree_pending : (s.tickFree).pending = s.pending := rfl
@[simp] theorem State.tickFree_out : (s.tickFree).out = s.out := rfl
@[simp] theorem State.tickFree_time : (s.tickFree).time = s.time := rfl
@[simp] theorem State.tickFree_sdl : (s.tickFree).sdl = s.sdl := rfl
@[simp] theorem State.tickFree_dev : (s.tickFree).dev = s.dev := rfl
@[simp] theorem State.tickFree_fuses : (s.tickFree).fuses = s.fuses := rfl
@[simp] theorem State.tickFree_boot : (s.tickFree).boot = s.boot := rfl
@[simp] theorem State.tickFree_regs : (s.tickFree).regs = s.regs := rfl
@[simp] theorem State.tickFree_acc : (s.tickFree).acc = s.acc := rfl
@[simp] theorem State.tickFree_qps : (s.tickFree).qps = s.qps := rfl
@[simp] theorem State.tickFree_msixTab : (s.tickFree).msixTab = s.msixTab := rfl
@[simp] theorem State.tickFree_msixPend : (s.tickFree).msixPend = s.msixPend := rfl
@[simp] theorem State.tickFree_accepted : (s.tickFree).accepted = s.accepted := rfl
@[simp] theorem State.tickFree_dir : (s.tickFree).dir = s.dir := rfl
@[simp] theorem State.tickFree_recs : (s.tickFree).recs = s.recs := rfl
@[simp] theorem State.tickFree_dirOps : (s.tickFree).dirOps = s.dirOps := rfl
@[simp] theorem State.tickFree_loadSerial : (s.tickFree).loadSerial = s.loadSerial := rfl
@[simp] theorem State.tickFree_plots : (s.tickFree).plots = s.plots := rfl
@[simp] theorem State.tickFree_tcnt : (s.tickFree).tcnt = s.tcnt := rfl
@[simp] theorem State.tickFree_terrs : (s.tickFree).terrs = s.terrs := rfl
@[simp] theorem State.tickFree_trellis : (s.tickFree).trellis = s.trellis := rfl
@[simp] theorem State.tickFree_mem : (s.tickFree).mem = s.mem := rfl
@[simp] theorem State.tickFree_poison : (s.tickFree).poison = s.poison := rfl
@[simp] theorem State.tickFree_homes : (s.tickFree).homes = s.homes := rfl
@[simp] theorem State.tickFree_homeBusy : (s.tickFree).homeBusy = s.homeBusy := rfl
@[simp] theorem State.tickFree_cfm : (s.tickFree).cfm = s.cfm := rfl
@[simp] theorem State.tickFree_hbmLane : (s.tickFree).hbmLane = s.hbmLane := rfl
@[simp] theorem State.tickFree_pavs : (s.tickFree).pavs = s.pavs := rfl
@[simp] theorem State.tickFree_reqs : (s.tickFree).reqs = s.reqs := rfl
@[simp] theorem State.tickFree_admitSeq : (s.tickFree).admitSeq = s.admitSeq := rfl
@[simp] theorem State.tickFree_pages : (s.tickFree).pages = s.pages := rfl
@[simp] theorem State.tickFree_cfUsed : (s.tickFree).cfUsed = s.cfUsed := rfl
@[simp] theorem State.tickFree_objs : (s.tickFree).objs = s.objs := rfl
@[simp] theorem State.tickFree_nextHandle : (s.tickFree).nextHandle = s.nextHandle := rfl
@[simp] theorem State.tickFree_cancels : (s.tickFree).cancels = s.cancels := rfl
@[simp] theorem State.tickFree_stw : (s.tickFree).stw = s.stw := rfl
@[simp] theorem State.tickFree_wgts : (s.tickFree).wgts = s.wgts := rfl
@[simp] theorem State.tickFree_flash : (s.tickFree).flash = s.flash := rfl
@[simp] theorem State.tickFree_scrub : (s.tickFree).scrub = s.scrub := rfl
@[simp] theorem State.tickFree_bcast : (s.tickFree).bcast = s.bcast := rfl
@[simp] theorem State.tickFree_ports : (s.tickFree).ports = s.ports := rfl
@[simp] theorem State.tickFree_xacts : (s.tickFree).xacts = s.xacts := rfl
@[simp] theorem State.tickFree_tvlDue : (s.tickFree).tvlDue = s.tvlDue := rfl
@[simp] theorem State.tickFree_mbox : (s.tickFree).mbox = s.mbox := rfl
@[simp] theorem State.tickFree_gate : (s.tickFree).gate = s.gate := rfl
@[simp] theorem State.tickFree_upd : (s.tickFree).upd = s.upd := rfl
@[simp] theorem State.tickFree_nvm : (s.tickFree).nvm = s.nvm := rfl
@[simp] theorem State.tickFree_keyPending : (s.tickFree).keyPending = s.keyPending := rfl
@[simp] theorem State.tickFree_errs : (s.tickFree).errs = s.errs := rfl
@[simp] theorem State.tickFree_pwr : (s.tickFree).pwr = s.pwr := rfl
end

/-! ### wr -/

section
variable (s : State) (f : Field) (v i k : Nat)
@[simp] theorem State.wr_pending : (s.wr f v i k).pending = s.pending := rfl
@[simp] theorem State.wr_out : (s.wr f v i k).out = s.out := rfl
@[simp] theorem State.wr_freeCtr : (s.wr f v i k).freeCtr = s.freeCtr := rfl
@[simp] theorem State.wr_time : (s.wr f v i k).time = s.time := rfl
@[simp] theorem State.wr_sdl : (s.wr f v i k).sdl = s.sdl := rfl
@[simp] theorem State.wr_dev : (s.wr f v i k).dev = s.dev := rfl
@[simp] theorem State.wr_fuses : (s.wr f v i k).fuses = s.fuses := rfl
@[simp] theorem State.wr_boot : (s.wr f v i k).boot = s.boot := rfl
@[simp] theorem State.wr_acc : (s.wr f v i k).acc = s.acc := rfl
@[simp] theorem State.wr_qps : (s.wr f v i k).qps = s.qps := rfl
@[simp] theorem State.wr_msixTab : (s.wr f v i k).msixTab = s.msixTab := rfl
@[simp] theorem State.wr_msixPend : (s.wr f v i k).msixPend = s.msixPend := rfl
@[simp] theorem State.wr_accepted : (s.wr f v i k).accepted = s.accepted := rfl
@[simp] theorem State.wr_dir : (s.wr f v i k).dir = s.dir := rfl
@[simp] theorem State.wr_recs : (s.wr f v i k).recs = s.recs := rfl
@[simp] theorem State.wr_dirOps : (s.wr f v i k).dirOps = s.dirOps := rfl
@[simp] theorem State.wr_loadSerial : (s.wr f v i k).loadSerial = s.loadSerial := rfl
@[simp] theorem State.wr_plots : (s.wr f v i k).plots = s.plots := rfl
@[simp] theorem State.wr_tcnt : (s.wr f v i k).tcnt = s.tcnt := rfl
@[simp] theorem State.wr_terrs : (s.wr f v i k).terrs = s.terrs := rfl
@[simp] theorem State.wr_trellis : (s.wr f v i k).trellis = s.trellis := rfl
@[simp] theorem State.wr_mem : (s.wr f v i k).mem = s.mem := rfl
@[simp] theorem State.wr_poison : (s.wr f v i k).poison = s.poison := rfl
@[simp] theorem State.wr_homes : (s.wr f v i k).homes = s.homes := rfl
@[simp] theorem State.wr_homeBusy : (s.wr f v i k).homeBusy = s.homeBusy := rfl
@[simp] theorem State.wr_cfm : (s.wr f v i k).cfm = s.cfm := rfl
@[simp] theorem State.wr_hbmLane : (s.wr f v i k).hbmLane = s.hbmLane := rfl
@[simp] theorem State.wr_pavs : (s.wr f v i k).pavs = s.pavs := rfl
@[simp] theorem State.wr_reqs : (s.wr f v i k).reqs = s.reqs := rfl
@[simp] theorem State.wr_admitSeq : (s.wr f v i k).admitSeq = s.admitSeq := rfl
@[simp] theorem State.wr_pages : (s.wr f v i k).pages = s.pages := rfl
@[simp] theorem State.wr_cfUsed : (s.wr f v i k).cfUsed = s.cfUsed := rfl
@[simp] theorem State.wr_objs : (s.wr f v i k).objs = s.objs := rfl
@[simp] theorem State.wr_nextHandle : (s.wr f v i k).nextHandle = s.nextHandle := rfl
@[simp] theorem State.wr_cancels : (s.wr f v i k).cancels = s.cancels := rfl
@[simp] theorem State.wr_stw : (s.wr f v i k).stw = s.stw := rfl
@[simp] theorem State.wr_wgts : (s.wr f v i k).wgts = s.wgts := rfl
@[simp] theorem State.wr_flash : (s.wr f v i k).flash = s.flash := rfl
@[simp] theorem State.wr_scrub : (s.wr f v i k).scrub = s.scrub := rfl
@[simp] theorem State.wr_bcast : (s.wr f v i k).bcast = s.bcast := rfl
@[simp] theorem State.wr_ports : (s.wr f v i k).ports = s.ports := rfl
@[simp] theorem State.wr_xacts : (s.wr f v i k).xacts = s.xacts := rfl
@[simp] theorem State.wr_tvlDue : (s.wr f v i k).tvlDue = s.tvlDue := rfl
@[simp] theorem State.wr_mbox : (s.wr f v i k).mbox = s.mbox := rfl
@[simp] theorem State.wr_gate : (s.wr f v i k).gate = s.gate := rfl
@[simp] theorem State.wr_upd : (s.wr f v i k).upd = s.upd := rfl
@[simp] theorem State.wr_nvm : (s.wr f v i k).nvm = s.nvm := rfl
@[simp] theorem State.wr_keyPending : (s.wr f v i k).keyPending = s.keyPending := rfl
@[simp] theorem State.wr_errs : (s.wr f v i k).errs = s.errs := rfl
@[simp] theorem State.wr_pwr : (s.wr f v i k).pwr = s.pwr := rfl
end

/-! ### setPlot -/

section
variable (s : State) (p : Nat) (v : Plot)
@[simp] theorem State.setPlot_pending : (s.setPlot p v).pending = s.pending := rfl
@[simp] theorem State.setPlot_out : (s.setPlot p v).out = s.out := rfl
@[simp] theorem State.setPlot_freeCtr : (s.setPlot p v).freeCtr = s.freeCtr := rfl
@[simp] theorem State.setPlot_time : (s.setPlot p v).time = s.time := rfl
@[simp] theorem State.setPlot_sdl : (s.setPlot p v).sdl = s.sdl := rfl
@[simp] theorem State.setPlot_dev : (s.setPlot p v).dev = s.dev := rfl
@[simp] theorem State.setPlot_fuses : (s.setPlot p v).fuses = s.fuses := rfl
@[simp] theorem State.setPlot_boot : (s.setPlot p v).boot = s.boot := rfl
@[simp] theorem State.setPlot_regs : (s.setPlot p v).regs = s.regs := rfl
@[simp] theorem State.setPlot_acc : (s.setPlot p v).acc = s.acc := rfl
@[simp] theorem State.setPlot_qps : (s.setPlot p v).qps = s.qps := rfl
@[simp] theorem State.setPlot_msixTab : (s.setPlot p v).msixTab = s.msixTab := rfl
@[simp] theorem State.setPlot_msixPend : (s.setPlot p v).msixPend = s.msixPend := rfl
@[simp] theorem State.setPlot_accepted : (s.setPlot p v).accepted = s.accepted := rfl
@[simp] theorem State.setPlot_dir : (s.setPlot p v).dir = s.dir := rfl
@[simp] theorem State.setPlot_recs : (s.setPlot p v).recs = s.recs := rfl
@[simp] theorem State.setPlot_dirOps : (s.setPlot p v).dirOps = s.dirOps := rfl
@[simp] theorem State.setPlot_loadSerial : (s.setPlot p v).loadSerial = s.loadSerial := rfl
@[simp] theorem State.setPlot_tcnt : (s.setPlot p v).tcnt = s.tcnt := rfl
@[simp] theorem State.setPlot_terrs : (s.setPlot p v).terrs = s.terrs := rfl
@[simp] theorem State.setPlot_trellis : (s.setPlot p v).trellis = s.trellis := rfl
@[simp] theorem State.setPlot_mem : (s.setPlot p v).mem = s.mem := rfl
@[simp] theorem State.setPlot_poison : (s.setPlot p v).poison = s.poison := rfl
@[simp] theorem State.setPlot_homes : (s.setPlot p v).homes = s.homes := rfl
@[simp] theorem State.setPlot_homeBusy : (s.setPlot p v).homeBusy = s.homeBusy := rfl
@[simp] theorem State.setPlot_cfm : (s.setPlot p v).cfm = s.cfm := rfl
@[simp] theorem State.setPlot_hbmLane : (s.setPlot p v).hbmLane = s.hbmLane := rfl
@[simp] theorem State.setPlot_pavs : (s.setPlot p v).pavs = s.pavs := rfl
@[simp] theorem State.setPlot_reqs : (s.setPlot p v).reqs = s.reqs := rfl
@[simp] theorem State.setPlot_admitSeq : (s.setPlot p v).admitSeq = s.admitSeq := rfl
@[simp] theorem State.setPlot_pages : (s.setPlot p v).pages = s.pages := rfl
@[simp] theorem State.setPlot_cfUsed : (s.setPlot p v).cfUsed = s.cfUsed := rfl
@[simp] theorem State.setPlot_objs : (s.setPlot p v).objs = s.objs := rfl
@[simp] theorem State.setPlot_nextHandle : (s.setPlot p v).nextHandle = s.nextHandle := rfl
@[simp] theorem State.setPlot_cancels : (s.setPlot p v).cancels = s.cancels := rfl
@[simp] theorem State.setPlot_stw : (s.setPlot p v).stw = s.stw := rfl
@[simp] theorem State.setPlot_wgts : (s.setPlot p v).wgts = s.wgts := rfl
@[simp] theorem State.setPlot_flash : (s.setPlot p v).flash = s.flash := rfl
@[simp] theorem State.setPlot_scrub : (s.setPlot p v).scrub = s.scrub := rfl
@[simp] theorem State.setPlot_bcast : (s.setPlot p v).bcast = s.bcast := rfl
@[simp] theorem State.setPlot_ports : (s.setPlot p v).ports = s.ports := rfl
@[simp] theorem State.setPlot_xacts : (s.setPlot p v).xacts = s.xacts := rfl
@[simp] theorem State.setPlot_tvlDue : (s.setPlot p v).tvlDue = s.tvlDue := rfl
@[simp] theorem State.setPlot_mbox : (s.setPlot p v).mbox = s.mbox := rfl
@[simp] theorem State.setPlot_gate : (s.setPlot p v).gate = s.gate := rfl
@[simp] theorem State.setPlot_upd : (s.setPlot p v).upd = s.upd := rfl
@[simp] theorem State.setPlot_nvm : (s.setPlot p v).nvm = s.nvm := rfl
@[simp] theorem State.setPlot_keyPending : (s.setPlot p v).keyPending = s.keyPending := rfl
@[simp] theorem State.setPlot_errs : (s.setPlot p v).errs = s.errs := rfl
@[simp] theorem State.setPlot_pwr : (s.setPlot p v).pwr = s.pwr := rfl
end

@[simp] theorem State.plot_setPlot (s : State) (p : Nat) (v : Plot) : (s.setPlot p v).plot p = v := Tab.get_put p v
theorem State.plot_setPlot_other (s : State) {p q : Nat} (v : Plot) (h : q ≠ p) : (s.setPlot p v).plot q = s.plot q :=
  Tab.get_put_other v h

/-! ### setPav -/

section
variable (s : State) (p : Nat) (v : Pav)
@[simp] theorem State.setPav_pending : (s.setPav p v).pending = s.pending := rfl
@[simp] theorem State.setPav_out : (s.setPav p v).out = s.out := rfl
@[simp] theorem State.setPav_freeCtr : (s.setPav p v).freeCtr = s.freeCtr := rfl
@[simp] theorem State.setPav_time : (s.setPav p v).time = s.time := rfl
@[simp] theorem State.setPav_sdl : (s.setPav p v).sdl = s.sdl := rfl
@[simp] theorem State.setPav_dev : (s.setPav p v).dev = s.dev := rfl
@[simp] theorem State.setPav_fuses : (s.setPav p v).fuses = s.fuses := rfl
@[simp] theorem State.setPav_boot : (s.setPav p v).boot = s.boot := rfl
@[simp] theorem State.setPav_regs : (s.setPav p v).regs = s.regs := rfl
@[simp] theorem State.setPav_acc : (s.setPav p v).acc = s.acc := rfl
@[simp] theorem State.setPav_qps : (s.setPav p v).qps = s.qps := rfl
@[simp] theorem State.setPav_msixTab : (s.setPav p v).msixTab = s.msixTab := rfl
@[simp] theorem State.setPav_msixPend : (s.setPav p v).msixPend = s.msixPend := rfl
@[simp] theorem State.setPav_accepted : (s.setPav p v).accepted = s.accepted := rfl
@[simp] theorem State.setPav_dir : (s.setPav p v).dir = s.dir := rfl
@[simp] theorem State.setPav_recs : (s.setPav p v).recs = s.recs := rfl
@[simp] theorem State.setPav_dirOps : (s.setPav p v).dirOps = s.dirOps := rfl
@[simp] theorem State.setPav_loadSerial : (s.setPav p v).loadSerial = s.loadSerial := rfl
@[simp] theorem State.setPav_plots : (s.setPav p v).plots = s.plots := rfl
@[simp] theorem State.setPav_tcnt : (s.setPav p v).tcnt = s.tcnt := rfl
@[simp] theorem State.setPav_terrs : (s.setPav p v).terrs = s.terrs := rfl
@[simp] theorem State.setPav_trellis : (s.setPav p v).trellis = s.trellis := rfl
@[simp] theorem State.setPav_mem : (s.setPav p v).mem = s.mem := rfl
@[simp] theorem State.setPav_poison : (s.setPav p v).poison = s.poison := rfl
@[simp] theorem State.setPav_homes : (s.setPav p v).homes = s.homes := rfl
@[simp] theorem State.setPav_homeBusy : (s.setPav p v).homeBusy = s.homeBusy := rfl
@[simp] theorem State.setPav_cfm : (s.setPav p v).cfm = s.cfm := rfl
@[simp] theorem State.setPav_hbmLane : (s.setPav p v).hbmLane = s.hbmLane := rfl
@[simp] theorem State.setPav_reqs : (s.setPav p v).reqs = s.reqs := rfl
@[simp] theorem State.setPav_admitSeq : (s.setPav p v).admitSeq = s.admitSeq := rfl
@[simp] theorem State.setPav_pages : (s.setPav p v).pages = s.pages := rfl
@[simp] theorem State.setPav_cfUsed : (s.setPav p v).cfUsed = s.cfUsed := rfl
@[simp] theorem State.setPav_objs : (s.setPav p v).objs = s.objs := rfl
@[simp] theorem State.setPav_nextHandle : (s.setPav p v).nextHandle = s.nextHandle := rfl
@[simp] theorem State.setPav_cancels : (s.setPav p v).cancels = s.cancels := rfl
@[simp] theorem State.setPav_stw : (s.setPav p v).stw = s.stw := rfl
@[simp] theorem State.setPav_wgts : (s.setPav p v).wgts = s.wgts := rfl
@[simp] theorem State.setPav_flash : (s.setPav p v).flash = s.flash := rfl
@[simp] theorem State.setPav_scrub : (s.setPav p v).scrub = s.scrub := rfl
@[simp] theorem State.setPav_bcast : (s.setPav p v).bcast = s.bcast := rfl
@[simp] theorem State.setPav_ports : (s.setPav p v).ports = s.ports := rfl
@[simp] theorem State.setPav_xacts : (s.setPav p v).xacts = s.xacts := rfl
@[simp] theorem State.setPav_tvlDue : (s.setPav p v).tvlDue = s.tvlDue := rfl
@[simp] theorem State.setPav_mbox : (s.setPav p v).mbox = s.mbox := rfl
@[simp] theorem State.setPav_gate : (s.setPav p v).gate = s.gate := rfl
@[simp] theorem State.setPav_upd : (s.setPav p v).upd = s.upd := rfl
@[simp] theorem State.setPav_nvm : (s.setPav p v).nvm = s.nvm := rfl
@[simp] theorem State.setPav_keyPending : (s.setPav p v).keyPending = s.keyPending := rfl
@[simp] theorem State.setPav_errs : (s.setPav p v).errs = s.errs := rfl
@[simp] theorem State.setPav_pwr : (s.setPav p v).pwr = s.pwr := rfl
end

@[simp] theorem State.pav_setPav (s : State) (p : Nat) (v : Pav) : (s.setPav p v).pav p = v := Tab.get_put p v
theorem State.pav_setPav_other (s : State) {p q : Nat} (v : Pav) (h : q ≠ p) : (s.setPav p v).pav q = s.pav q :=
  Tab.get_put_other v h

/-! ### setTerr -/

section
variable (s : State) (p : Nat) (v : Terr)
@[simp] theorem State.setTerr_pending : (s.setTerr p v).pending = s.pending := rfl
@[simp] theorem State.setTerr_out : (s.setTerr p v).out = s.out := rfl
@[simp] theorem State.setTerr_freeCtr : (s.setTerr p v).freeCtr = s.freeCtr := rfl
@[simp] theorem State.setTerr_time : (s.setTerr p v).time = s.time := rfl
@[simp] theorem State.setTerr_sdl : (s.setTerr p v).sdl = s.sdl := rfl
@[simp] theorem State.setTerr_dev : (s.setTerr p v).dev = s.dev := rfl
@[simp] theorem State.setTerr_fuses : (s.setTerr p v).fuses = s.fuses := rfl
@[simp] theorem State.setTerr_boot : (s.setTerr p v).boot = s.boot := rfl
@[simp] theorem State.setTerr_regs : (s.setTerr p v).regs = s.regs := rfl
@[simp] theorem State.setTerr_acc : (s.setTerr p v).acc = s.acc := rfl
@[simp] theorem State.setTerr_qps : (s.setTerr p v).qps = s.qps := rfl
@[simp] theorem State.setTerr_msixTab : (s.setTerr p v).msixTab = s.msixTab := rfl
@[simp] theorem State.setTerr_msixPend : (s.setTerr p v).msixPend = s.msixPend := rfl
@[simp] theorem State.setTerr_accepted : (s.setTerr p v).accepted = s.accepted := rfl
@[simp] theorem State.setTerr_dir : (s.setTerr p v).dir = s.dir := rfl
@[simp] theorem State.setTerr_recs : (s.setTerr p v).recs = s.recs := rfl
@[simp] theorem State.setTerr_dirOps : (s.setTerr p v).dirOps = s.dirOps := rfl
@[simp] theorem State.setTerr_loadSerial : (s.setTerr p v).loadSerial = s.loadSerial := rfl
@[simp] theorem State.setTerr_plots : (s.setTerr p v).plots = s.plots := rfl
@[simp] theorem State.setTerr_tcnt : (s.setTerr p v).tcnt = s.tcnt := rfl
@[simp] theorem State.setTerr_trellis : (s.setTerr p v).trellis = s.trellis := rfl
@[simp] theorem State.setTerr_mem : (s.setTerr p v).mem = s.mem := rfl
@[simp] theorem State.setTerr_poison : (s.setTerr p v).poison = s.poison := rfl
@[simp] theorem State.setTerr_homes : (s.setTerr p v).homes = s.homes := rfl
@[simp] theorem State.setTerr_homeBusy : (s.setTerr p v).homeBusy = s.homeBusy := rfl
@[simp] theorem State.setTerr_cfm : (s.setTerr p v).cfm = s.cfm := rfl
@[simp] theorem State.setTerr_hbmLane : (s.setTerr p v).hbmLane = s.hbmLane := rfl
@[simp] theorem State.setTerr_pavs : (s.setTerr p v).pavs = s.pavs := rfl
@[simp] theorem State.setTerr_reqs : (s.setTerr p v).reqs = s.reqs := rfl
@[simp] theorem State.setTerr_admitSeq : (s.setTerr p v).admitSeq = s.admitSeq := rfl
@[simp] theorem State.setTerr_pages : (s.setTerr p v).pages = s.pages := rfl
@[simp] theorem State.setTerr_cfUsed : (s.setTerr p v).cfUsed = s.cfUsed := rfl
@[simp] theorem State.setTerr_objs : (s.setTerr p v).objs = s.objs := rfl
@[simp] theorem State.setTerr_nextHandle : (s.setTerr p v).nextHandle = s.nextHandle := rfl
@[simp] theorem State.setTerr_cancels : (s.setTerr p v).cancels = s.cancels := rfl
@[simp] theorem State.setTerr_stw : (s.setTerr p v).stw = s.stw := rfl
@[simp] theorem State.setTerr_wgts : (s.setTerr p v).wgts = s.wgts := rfl
@[simp] theorem State.setTerr_flash : (s.setTerr p v).flash = s.flash := rfl
@[simp] theorem State.setTerr_scrub : (s.setTerr p v).scrub = s.scrub := rfl
@[simp] theorem State.setTerr_bcast : (s.setTerr p v).bcast = s.bcast := rfl
@[simp] theorem State.setTerr_ports : (s.setTerr p v).ports = s.ports := rfl
@[simp] theorem State.setTerr_xacts : (s.setTerr p v).xacts = s.xacts := rfl
@[simp] theorem State.setTerr_tvlDue : (s.setTerr p v).tvlDue = s.tvlDue := rfl
@[simp] theorem State.setTerr_mbox : (s.setTerr p v).mbox = s.mbox := rfl
@[simp] theorem State.setTerr_gate : (s.setTerr p v).gate = s.gate := rfl
@[simp] theorem State.setTerr_upd : (s.setTerr p v).upd = s.upd := rfl
@[simp] theorem State.setTerr_nvm : (s.setTerr p v).nvm = s.nvm := rfl
@[simp] theorem State.setTerr_keyPending : (s.setTerr p v).keyPending = s.keyPending := rfl
@[simp] theorem State.setTerr_errs : (s.setTerr p v).errs = s.errs := rfl
@[simp] theorem State.setTerr_pwr : (s.setTerr p v).pwr = s.pwr := rfl
end

@[simp] theorem State.terr_setTerr (s : State) (p : Nat) (v : Terr) : (s.setTerr p v).terr p = v := Tab.get_put p v
theorem State.terr_setTerr_other (s : State) {p q : Nat} (v : Terr) (h : q ≠ p) : (s.setTerr p v).terr q = s.terr q :=
  Tab.get_put_other v h

/-! ### setPort -/

section
variable (s : State) (p : Nat) (v : Port)
@[simp] theorem State.setPort_pending : (s.setPort p v).pending = s.pending := rfl
@[simp] theorem State.setPort_out : (s.setPort p v).out = s.out := rfl
@[simp] theorem State.setPort_freeCtr : (s.setPort p v).freeCtr = s.freeCtr := rfl
@[simp] theorem State.setPort_time : (s.setPort p v).time = s.time := rfl
@[simp] theorem State.setPort_sdl : (s.setPort p v).sdl = s.sdl := rfl
@[simp] theorem State.setPort_dev : (s.setPort p v).dev = s.dev := rfl
@[simp] theorem State.setPort_fuses : (s.setPort p v).fuses = s.fuses := rfl
@[simp] theorem State.setPort_boot : (s.setPort p v).boot = s.boot := rfl
@[simp] theorem State.setPort_regs : (s.setPort p v).regs = s.regs := rfl
@[simp] theorem State.setPort_acc : (s.setPort p v).acc = s.acc := rfl
@[simp] theorem State.setPort_qps : (s.setPort p v).qps = s.qps := rfl
@[simp] theorem State.setPort_msixTab : (s.setPort p v).msixTab = s.msixTab := rfl
@[simp] theorem State.setPort_msixPend : (s.setPort p v).msixPend = s.msixPend := rfl
@[simp] theorem State.setPort_accepted : (s.setPort p v).accepted = s.accepted := rfl
@[simp] theorem State.setPort_dir : (s.setPort p v).dir = s.dir := rfl
@[simp] theorem State.setPort_recs : (s.setPort p v).recs = s.recs := rfl
@[simp] theorem State.setPort_dirOps : (s.setPort p v).dirOps = s.dirOps := rfl
@[simp] theorem State.setPort_loadSerial : (s.setPort p v).loadSerial = s.loadSerial := rfl
@[simp] theorem State.setPort_plots : (s.setPort p v).plots = s.plots := rfl
@[simp] theorem State.setPort_tcnt : (s.setPort p v).tcnt = s.tcnt := rfl
@[simp] theorem State.setPort_terrs : (s.setPort p v).terrs = s.terrs := rfl
@[simp] theorem State.setPort_trellis : (s.setPort p v).trellis = s.trellis := rfl
@[simp] theorem State.setPort_mem : (s.setPort p v).mem = s.mem := rfl
@[simp] theorem State.setPort_poison : (s.setPort p v).poison = s.poison := rfl
@[simp] theorem State.setPort_homes : (s.setPort p v).homes = s.homes := rfl
@[simp] theorem State.setPort_homeBusy : (s.setPort p v).homeBusy = s.homeBusy := rfl
@[simp] theorem State.setPort_cfm : (s.setPort p v).cfm = s.cfm := rfl
@[simp] theorem State.setPort_hbmLane : (s.setPort p v).hbmLane = s.hbmLane := rfl
@[simp] theorem State.setPort_pavs : (s.setPort p v).pavs = s.pavs := rfl
@[simp] theorem State.setPort_reqs : (s.setPort p v).reqs = s.reqs := rfl
@[simp] theorem State.setPort_admitSeq : (s.setPort p v).admitSeq = s.admitSeq := rfl
@[simp] theorem State.setPort_pages : (s.setPort p v).pages = s.pages := rfl
@[simp] theorem State.setPort_cfUsed : (s.setPort p v).cfUsed = s.cfUsed := rfl
@[simp] theorem State.setPort_objs : (s.setPort p v).objs = s.objs := rfl
@[simp] theorem State.setPort_nextHandle : (s.setPort p v).nextHandle = s.nextHandle := rfl
@[simp] theorem State.setPort_cancels : (s.setPort p v).cancels = s.cancels := rfl
@[simp] theorem State.setPort_stw : (s.setPort p v).stw = s.stw := rfl
@[simp] theorem State.setPort_wgts : (s.setPort p v).wgts = s.wgts := rfl
@[simp] theorem State.setPort_flash : (s.setPort p v).flash = s.flash := rfl
@[simp] theorem State.setPort_scrub : (s.setPort p v).scrub = s.scrub := rfl
@[simp] theorem State.setPort_bcast : (s.setPort p v).bcast = s.bcast := rfl
@[simp] theorem State.setPort_xacts : (s.setPort p v).xacts = s.xacts := rfl
@[simp] theorem State.setPort_tvlDue : (s.setPort p v).tvlDue = s.tvlDue := rfl
@[simp] theorem State.setPort_mbox : (s.setPort p v).mbox = s.mbox := rfl
@[simp] theorem State.setPort_gate : (s.setPort p v).gate = s.gate := rfl
@[simp] theorem State.setPort_upd : (s.setPort p v).upd = s.upd := rfl
@[simp] theorem State.setPort_nvm : (s.setPort p v).nvm = s.nvm := rfl
@[simp] theorem State.setPort_keyPending : (s.setPort p v).keyPending = s.keyPending := rfl
@[simp] theorem State.setPort_errs : (s.setPort p v).errs = s.errs := rfl
@[simp] theorem State.setPort_pwr : (s.setPort p v).pwr = s.pwr := rfl
end

@[simp] theorem State.port_setPort (s : State) (p : Nat) (v : Port) : (s.setPort p v).port p = v := Tab.get_put p v
theorem State.port_setPort_other (s : State) {p q : Nat} (v : Port) (h : q ≠ p) : (s.setPort p v).port q = s.port q :=
  Tab.get_put_other v h

/-! ### setQp -/

section
variable (s : State) (p : Nat) (v : Qp)
@[simp] theorem State.setQp_pending : (s.setQp p v).pending = s.pending := rfl
@[simp] theorem State.setQp_out : (s.setQp p v).out = s.out := rfl
@[simp] theorem State.setQp_freeCtr : (s.setQp p v).freeCtr = s.freeCtr := rfl
@[simp] theorem State.setQp_time : (s.setQp p v).time = s.time := rfl
@[simp] theorem State.setQp_sdl : (s.setQp p v).sdl = s.sdl := rfl
@[simp] theorem State.setQp_dev : (s.setQp p v).dev = s.dev := rfl
@[simp] theorem State.setQp_fuses : (s.setQp p v).fuses = s.fuses := rfl
@[simp] theorem State.setQp_boot : (s.setQp p v).boot = s.boot := rfl
@[simp] theorem State.setQp_regs : (s.setQp p v).regs = s.regs := rfl
@[simp] theorem State.setQp_acc : (s.setQp p v).acc = s.acc := rfl
@[simp] theorem State.setQp_msixTab : (s.setQp p v).msixTab = s.msixTab := rfl
@[simp] theorem State.setQp_msixPend : (s.setQp p v).msixPend = s.msixPend := rfl
@[simp] theorem State.setQp_accepted : (s.setQp p v).accepted = s.accepted := rfl
@[simp] theorem State.setQp_dir : (s.setQp p v).dir = s.dir := rfl
@[simp] theorem State.setQp_recs : (s.setQp p v).recs = s.recs := rfl
@[simp] theorem State.setQp_dirOps : (s.setQp p v).dirOps = s.dirOps := rfl
@[simp] theorem State.setQp_loadSerial : (s.setQp p v).loadSerial = s.loadSerial := rfl
@[simp] theorem State.setQp_plots : (s.setQp p v).plots = s.plots := rfl
@[simp] theorem State.setQp_tcnt : (s.setQp p v).tcnt = s.tcnt := rfl
@[simp] theorem State.setQp_terrs : (s.setQp p v).terrs = s.terrs := rfl
@[simp] theorem State.setQp_trellis : (s.setQp p v).trellis = s.trellis := rfl
@[simp] theorem State.setQp_mem : (s.setQp p v).mem = s.mem := rfl
@[simp] theorem State.setQp_poison : (s.setQp p v).poison = s.poison := rfl
@[simp] theorem State.setQp_homes : (s.setQp p v).homes = s.homes := rfl
@[simp] theorem State.setQp_homeBusy : (s.setQp p v).homeBusy = s.homeBusy := rfl
@[simp] theorem State.setQp_cfm : (s.setQp p v).cfm = s.cfm := rfl
@[simp] theorem State.setQp_hbmLane : (s.setQp p v).hbmLane = s.hbmLane := rfl
@[simp] theorem State.setQp_pavs : (s.setQp p v).pavs = s.pavs := rfl
@[simp] theorem State.setQp_reqs : (s.setQp p v).reqs = s.reqs := rfl
@[simp] theorem State.setQp_admitSeq : (s.setQp p v).admitSeq = s.admitSeq := rfl
@[simp] theorem State.setQp_pages : (s.setQp p v).pages = s.pages := rfl
@[simp] theorem State.setQp_cfUsed : (s.setQp p v).cfUsed = s.cfUsed := rfl
@[simp] theorem State.setQp_objs : (s.setQp p v).objs = s.objs := rfl
@[simp] theorem State.setQp_nextHandle : (s.setQp p v).nextHandle = s.nextHandle := rfl
@[simp] theorem State.setQp_cancels : (s.setQp p v).cancels = s.cancels := rfl
@[simp] theorem State.setQp_stw : (s.setQp p v).stw = s.stw := rfl
@[simp] theorem State.setQp_wgts : (s.setQp p v).wgts = s.wgts := rfl
@[simp] theorem State.setQp_flash : (s.setQp p v).flash = s.flash := rfl
@[simp] theorem State.setQp_scrub : (s.setQp p v).scrub = s.scrub := rfl
@[simp] theorem State.setQp_bcast : (s.setQp p v).bcast = s.bcast := rfl
@[simp] theorem State.setQp_ports : (s.setQp p v).ports = s.ports := rfl
@[simp] theorem State.setQp_xacts : (s.setQp p v).xacts = s.xacts := rfl
@[simp] theorem State.setQp_tvlDue : (s.setQp p v).tvlDue = s.tvlDue := rfl
@[simp] theorem State.setQp_mbox : (s.setQp p v).mbox = s.mbox := rfl
@[simp] theorem State.setQp_gate : (s.setQp p v).gate = s.gate := rfl
@[simp] theorem State.setQp_upd : (s.setQp p v).upd = s.upd := rfl
@[simp] theorem State.setQp_nvm : (s.setQp p v).nvm = s.nvm := rfl
@[simp] theorem State.setQp_keyPending : (s.setQp p v).keyPending = s.keyPending := rfl
@[simp] theorem State.setQp_errs : (s.setQp p v).errs = s.errs := rfl
@[simp] theorem State.setQp_pwr : (s.setQp p v).pwr = s.pwr := rfl
end

@[simp] theorem State.qp_setQp (s : State) (p : Nat) (v : Qp) : (s.setQp p v).qp p = v := Tab.get_put p v
theorem State.qp_setQp_other (s : State) {p q : Nat} (v : Qp) (h : q ≠ p) : (s.setQp p v).qp q = s.qp q :=
  Tab.get_put_other v h

/-! ### setEnt -/

section
variable (s : State) (p : Nat) (v : DirEnt)
@[simp] theorem State.setEnt_pending : (s.setEnt p v).pending = s.pending := rfl
@[simp] theorem State.setEnt_out : (s.setEnt p v).out = s.out := rfl
@[simp] theorem State.setEnt_freeCtr : (s.setEnt p v).freeCtr = s.freeCtr := rfl
@[simp] theorem State.setEnt_time : (s.setEnt p v).time = s.time := rfl
@[simp] theorem State.setEnt_sdl : (s.setEnt p v).sdl = s.sdl := rfl
@[simp] theorem State.setEnt_dev : (s.setEnt p v).dev = s.dev := rfl
@[simp] theorem State.setEnt_fuses : (s.setEnt p v).fuses = s.fuses := rfl
@[simp] theorem State.setEnt_boot : (s.setEnt p v).boot = s.boot := rfl
@[simp] theorem State.setEnt_regs : (s.setEnt p v).regs = s.regs := rfl
@[simp] theorem State.setEnt_acc : (s.setEnt p v).acc = s.acc := rfl
@[simp] theorem State.setEnt_qps : (s.setEnt p v).qps = s.qps := rfl
@[simp] theorem State.setEnt_msixTab : (s.setEnt p v).msixTab = s.msixTab := rfl
@[simp] theorem State.setEnt_msixPend : (s.setEnt p v).msixPend = s.msixPend := rfl
@[simp] theorem State.setEnt_accepted : (s.setEnt p v).accepted = s.accepted := rfl
@[simp] theorem State.setEnt_recs : (s.setEnt p v).recs = s.recs := rfl
@[simp] theorem State.setEnt_dirOps : (s.setEnt p v).dirOps = s.dirOps := rfl
@[simp] theorem State.setEnt_loadSerial : (s.setEnt p v).loadSerial = s.loadSerial := rfl
@[simp] theorem State.setEnt_plots : (s.setEnt p v).plots = s.plots := rfl
@[simp] theorem State.setEnt_tcnt : (s.setEnt p v).tcnt = s.tcnt := rfl
@[simp] theorem State.setEnt_terrs : (s.setEnt p v).terrs = s.terrs := rfl
@[simp] theorem State.setEnt_trellis : (s.setEnt p v).trellis = s.trellis := rfl
@[simp] theorem State.setEnt_mem : (s.setEnt p v).mem = s.mem := rfl
@[simp] theorem State.setEnt_poison : (s.setEnt p v).poison = s.poison := rfl
@[simp] theorem State.setEnt_homes : (s.setEnt p v).homes = s.homes := rfl
@[simp] theorem State.setEnt_homeBusy : (s.setEnt p v).homeBusy = s.homeBusy := rfl
@[simp] theorem State.setEnt_cfm : (s.setEnt p v).cfm = s.cfm := rfl
@[simp] theorem State.setEnt_hbmLane : (s.setEnt p v).hbmLane = s.hbmLane := rfl
@[simp] theorem State.setEnt_pavs : (s.setEnt p v).pavs = s.pavs := rfl
@[simp] theorem State.setEnt_reqs : (s.setEnt p v).reqs = s.reqs := rfl
@[simp] theorem State.setEnt_admitSeq : (s.setEnt p v).admitSeq = s.admitSeq := rfl
@[simp] theorem State.setEnt_pages : (s.setEnt p v).pages = s.pages := rfl
@[simp] theorem State.setEnt_cfUsed : (s.setEnt p v).cfUsed = s.cfUsed := rfl
@[simp] theorem State.setEnt_objs : (s.setEnt p v).objs = s.objs := rfl
@[simp] theorem State.setEnt_nextHandle : (s.setEnt p v).nextHandle = s.nextHandle := rfl
@[simp] theorem State.setEnt_cancels : (s.setEnt p v).cancels = s.cancels := rfl
@[simp] theorem State.setEnt_stw : (s.setEnt p v).stw = s.stw := rfl
@[simp] theorem State.setEnt_wgts : (s.setEnt p v).wgts = s.wgts := rfl
@[simp] theorem State.setEnt_flash : (s.setEnt p v).flash = s.flash := rfl
@[simp] theorem State.setEnt_scrub : (s.setEnt p v).scrub = s.scrub := rfl
@[simp] theorem State.setEnt_bcast : (s.setEnt p v).bcast = s.bcast := rfl
@[simp] theorem State.setEnt_ports : (s.setEnt p v).ports = s.ports := rfl
@[simp] theorem State.setEnt_xacts : (s.setEnt p v).xacts = s.xacts := rfl
@[simp] theorem State.setEnt_tvlDue : (s.setEnt p v).tvlDue = s.tvlDue := rfl
@[simp] theorem State.setEnt_mbox : (s.setEnt p v).mbox = s.mbox := rfl
@[simp] theorem State.setEnt_gate : (s.setEnt p v).gate = s.gate := rfl
@[simp] theorem State.setEnt_upd : (s.setEnt p v).upd = s.upd := rfl
@[simp] theorem State.setEnt_nvm : (s.setEnt p v).nvm = s.nvm := rfl
@[simp] theorem State.setEnt_keyPending : (s.setEnt p v).keyPending = s.keyPending := rfl
@[simp] theorem State.setEnt_errs : (s.setEnt p v).errs = s.errs := rfl
@[simp] theorem State.setEnt_pwr : (s.setEnt p v).pwr = s.pwr := rfl
end

@[simp] theorem State.ent_setEnt (s : State) (p : Nat) (v : DirEnt) : (s.setEnt p v).ent p = v := Tab.get_put p v
theorem State.ent_setEnt_other (s : State) {p q : Nat} (v : DirEnt) (h : q ≠ p) : (s.setEnt p v).ent q = s.ent q :=
  Tab.get_put_other v h

/-! ### setAdrec -/

section
variable (s : State) (p : Nat) (v : AdRec)
@[simp] theorem State.setAdrec_pending : (s.setAdrec p v).pending = s.pending := rfl
@[simp] theorem State.setAdrec_out : (s.setAdrec p v).out = s.out := rfl
@[simp] theorem State.setAdrec_freeCtr : (s.setAdrec p v).freeCtr = s.freeCtr := rfl
@[simp] theorem State.setAdrec_time : (s.setAdrec p v).time = s.time := rfl
@[simp] theorem State.setAdrec_sdl : (s.setAdrec p v).sdl = s.sdl := rfl
@[simp] theorem State.setAdrec_dev : (s.setAdrec p v).dev = s.dev := rfl
@[simp] theorem State.setAdrec_fuses : (s.setAdrec p v).fuses = s.fuses := rfl
@[simp] theorem State.setAdrec_boot : (s.setAdrec p v).boot = s.boot := rfl
@[simp] theorem State.setAdrec_regs : (s.setAdrec p v).regs = s.regs := rfl
@[simp] theorem State.setAdrec_acc : (s.setAdrec p v).acc = s.acc := rfl
@[simp] theorem State.setAdrec_qps : (s.setAdrec p v).qps = s.qps := rfl
@[simp] theorem State.setAdrec_msixTab : (s.setAdrec p v).msixTab = s.msixTab := rfl
@[simp] theorem State.setAdrec_msixPend : (s.setAdrec p v).msixPend = s.msixPend := rfl
@[simp] theorem State.setAdrec_accepted : (s.setAdrec p v).accepted = s.accepted := rfl
@[simp] theorem State.setAdrec_dir : (s.setAdrec p v).dir = s.dir := rfl
@[simp] theorem State.setAdrec_dirOps : (s.setAdrec p v).dirOps = s.dirOps := rfl
@[simp] theorem State.setAdrec_loadSerial : (s.setAdrec p v).loadSerial = s.loadSerial := rfl
@[simp] theorem State.setAdrec_plots : (s.setAdrec p v).plots = s.plots := rfl
@[simp] theorem State.setAdrec_tcnt : (s.setAdrec p v).tcnt = s.tcnt := rfl
@[simp] theorem State.setAdrec_terrs : (s.setAdrec p v).terrs = s.terrs := rfl
@[simp] theorem State.setAdrec_trellis : (s.setAdrec p v).trellis = s.trellis := rfl
@[simp] theorem State.setAdrec_mem : (s.setAdrec p v).mem = s.mem := rfl
@[simp] theorem State.setAdrec_poison : (s.setAdrec p v).poison = s.poison := rfl
@[simp] theorem State.setAdrec_homes : (s.setAdrec p v).homes = s.homes := rfl
@[simp] theorem State.setAdrec_homeBusy : (s.setAdrec p v).homeBusy = s.homeBusy := rfl
@[simp] theorem State.setAdrec_cfm : (s.setAdrec p v).cfm = s.cfm := rfl
@[simp] theorem State.setAdrec_hbmLane : (s.setAdrec p v).hbmLane = s.hbmLane := rfl
@[simp] theorem State.setAdrec_pavs : (s.setAdrec p v).pavs = s.pavs := rfl
@[simp] theorem State.setAdrec_reqs : (s.setAdrec p v).reqs = s.reqs := rfl
@[simp] theorem State.setAdrec_admitSeq : (s.setAdrec p v).admitSeq = s.admitSeq := rfl
@[simp] theorem State.setAdrec_pages : (s.setAdrec p v).pages = s.pages := rfl
@[simp] theorem State.setAdrec_cfUsed : (s.setAdrec p v).cfUsed = s.cfUsed := rfl
@[simp] theorem State.setAdrec_objs : (s.setAdrec p v).objs = s.objs := rfl
@[simp] theorem State.setAdrec_nextHandle : (s.setAdrec p v).nextHandle = s.nextHandle := rfl
@[simp] theorem State.setAdrec_cancels : (s.setAdrec p v).cancels = s.cancels := rfl
@[simp] theorem State.setAdrec_stw : (s.setAdrec p v).stw = s.stw := rfl
@[simp] theorem State.setAdrec_wgts : (s.setAdrec p v).wgts = s.wgts := rfl
@[simp] theorem State.setAdrec_flash : (s.setAdrec p v).flash = s.flash := rfl
@[simp] theorem State.setAdrec_scrub : (s.setAdrec p v).scrub = s.scrub := rfl
@[simp] theorem State.setAdrec_bcast : (s.setAdrec p v).bcast = s.bcast := rfl
@[simp] theorem State.setAdrec_ports : (s.setAdrec p v).ports = s.ports := rfl
@[simp] theorem State.setAdrec_xacts : (s.setAdrec p v).xacts = s.xacts := rfl
@[simp] theorem State.setAdrec_tvlDue : (s.setAdrec p v).tvlDue = s.tvlDue := rfl
@[simp] theorem State.setAdrec_mbox : (s.setAdrec p v).mbox = s.mbox := rfl
@[simp] theorem State.setAdrec_gate : (s.setAdrec p v).gate = s.gate := rfl
@[simp] theorem State.setAdrec_upd : (s.setAdrec p v).upd = s.upd := rfl
@[simp] theorem State.setAdrec_nvm : (s.setAdrec p v).nvm = s.nvm := rfl
@[simp] theorem State.setAdrec_keyPending : (s.setAdrec p v).keyPending = s.keyPending := rfl
@[simp] theorem State.setAdrec_errs : (s.setAdrec p v).errs = s.errs := rfl
@[simp] theorem State.setAdrec_pwr : (s.setAdrec p v).pwr = s.pwr := rfl
end

@[simp] theorem State.adrec_setAdrec (s : State) (p : Nat) (v : AdRec) : (s.setAdrec p v).adrec p = v := Tab.get_put p v
theorem State.adrec_setAdrec_other (s : State) {p q : Nat} (v : AdRec) (h : q ≠ p) : (s.setAdrec p v).adrec q = s.adrec q :=
  Tab.get_put_other v h

/-! ### setReq -/

section
variable (s : State) (p : Nat) (v : Req)
@[simp] theorem State.setReq_pending : (s.setReq p v).pending = s.pending := rfl
@[simp] theorem State.setReq_out : (s.setReq p v).out = s.out := rfl
@[simp] theorem State.setReq_freeCtr : (s.setReq p v).freeCtr = s.freeCtr := rfl
@[simp] theorem State.setReq_time : (s.setReq p v).time = s.time := rfl
@[simp] theorem State.setReq_sdl : (s.setReq p v).sdl = s.sdl := rfl
@[simp] theorem State.setReq_dev : (s.setReq p v).dev = s.dev := rfl
@[simp] theorem State.setReq_fuses : (s.setReq p v).fuses = s.fuses := rfl
@[simp] theorem State.setReq_boot : (s.setReq p v).boot = s.boot := rfl
@[simp] theorem State.setReq_regs : (s.setReq p v).regs = s.regs := rfl
@[simp] theorem State.setReq_acc : (s.setReq p v).acc = s.acc := rfl
@[simp] theorem State.setReq_qps : (s.setReq p v).qps = s.qps := rfl
@[simp] theorem State.setReq_msixTab : (s.setReq p v).msixTab = s.msixTab := rfl
@[simp] theorem State.setReq_msixPend : (s.setReq p v).msixPend = s.msixPend := rfl
@[simp] theorem State.setReq_accepted : (s.setReq p v).accepted = s.accepted := rfl
@[simp] theorem State.setReq_dir : (s.setReq p v).dir = s.dir := rfl
@[simp] theorem State.setReq_recs : (s.setReq p v).recs = s.recs := rfl
@[simp] theorem State.setReq_dirOps : (s.setReq p v).dirOps = s.dirOps := rfl
@[simp] theorem State.setReq_loadSerial : (s.setReq p v).loadSerial = s.loadSerial := rfl
@[simp] theorem State.setReq_plots : (s.setReq p v).plots = s.plots := rfl
@[simp] theorem State.setReq_tcnt : (s.setReq p v).tcnt = s.tcnt := rfl
@[simp] theorem State.setReq_terrs : (s.setReq p v).terrs = s.terrs := rfl
@[simp] theorem State.setReq_trellis : (s.setReq p v).trellis = s.trellis := rfl
@[simp] theorem State.setReq_mem : (s.setReq p v).mem = s.mem := rfl
@[simp] theorem State.setReq_poison : (s.setReq p v).poison = s.poison := rfl
@[simp] theorem State.setReq_homes : (s.setReq p v).homes = s.homes := rfl
@[simp] theorem State.setReq_homeBusy : (s.setReq p v).homeBusy = s.homeBusy := rfl
@[simp] theorem State.setReq_cfm : (s.setReq p v).cfm = s.cfm := rfl
@[simp] theorem State.setReq_hbmLane : (s.setReq p v).hbmLane = s.hbmLane := rfl
@[simp] theorem State.setReq_pavs : (s.setReq p v).pavs = s.pavs := rfl
@[simp] theorem State.setReq_admitSeq : (s.setReq p v).admitSeq = s.admitSeq := rfl
@[simp] theorem State.setReq_pages : (s.setReq p v).pages = s.pages := rfl
@[simp] theorem State.setReq_cfUsed : (s.setReq p v).cfUsed = s.cfUsed := rfl
@[simp] theorem State.setReq_objs : (s.setReq p v).objs = s.objs := rfl
@[simp] theorem State.setReq_nextHandle : (s.setReq p v).nextHandle = s.nextHandle := rfl
@[simp] theorem State.setReq_cancels : (s.setReq p v).cancels = s.cancels := rfl
@[simp] theorem State.setReq_stw : (s.setReq p v).stw = s.stw := rfl
@[simp] theorem State.setReq_wgts : (s.setReq p v).wgts = s.wgts := rfl
@[simp] theorem State.setReq_flash : (s.setReq p v).flash = s.flash := rfl
@[simp] theorem State.setReq_scrub : (s.setReq p v).scrub = s.scrub := rfl
@[simp] theorem State.setReq_bcast : (s.setReq p v).bcast = s.bcast := rfl
@[simp] theorem State.setReq_ports : (s.setReq p v).ports = s.ports := rfl
@[simp] theorem State.setReq_xacts : (s.setReq p v).xacts = s.xacts := rfl
@[simp] theorem State.setReq_tvlDue : (s.setReq p v).tvlDue = s.tvlDue := rfl
@[simp] theorem State.setReq_mbox : (s.setReq p v).mbox = s.mbox := rfl
@[simp] theorem State.setReq_gate : (s.setReq p v).gate = s.gate := rfl
@[simp] theorem State.setReq_upd : (s.setReq p v).upd = s.upd := rfl
@[simp] theorem State.setReq_nvm : (s.setReq p v).nvm = s.nvm := rfl
@[simp] theorem State.setReq_keyPending : (s.setReq p v).keyPending = s.keyPending := rfl
@[simp] theorem State.setReq_errs : (s.setReq p v).errs = s.errs := rfl
@[simp] theorem State.setReq_pwr : (s.setReq p v).pwr = s.pwr := rfl
end

@[simp] theorem State.req_setReq (s : State) (p : Nat) (v : Req) : (s.setReq p v).req p = v := Tab.get_put p v
theorem State.req_setReq_other (s : State) {p q : Nat} (v : Req) (h : q ≠ p) : (s.setReq p v).req q = s.req q :=
  Tab.get_put_other v h

/-! ### setPage -/

section
variable (s : State) (p : Nat) (v : KvPage)
@[simp] theorem State.setPage_pending : (s.setPage p v).pending = s.pending := rfl
@[simp] theorem State.setPage_out : (s.setPage p v).out = s.out := rfl
@[simp] theorem State.setPage_freeCtr : (s.setPage p v).freeCtr = s.freeCtr := rfl
@[simp] theorem State.setPage_time : (s.setPage p v).time = s.time := rfl
@[simp] theorem State.setPage_sdl : (s.setPage p v).sdl = s.sdl := rfl
@[simp] theorem State.setPage_dev : (s.setPage p v).dev = s.dev := rfl
@[simp] theorem State.setPage_fuses : (s.setPage p v).fuses = s.fuses := rfl
@[simp] theorem State.setPage_boot : (s.setPage p v).boot = s.boot := rfl
@[simp] theorem State.setPage_regs : (s.setPage p v).regs = s.regs := rfl
@[simp] theorem State.setPage_acc : (s.setPage p v).acc = s.acc := rfl
@[simp] theorem State.setPage_qps : (s.setPage p v).qps = s.qps := rfl
@[simp] theorem State.setPage_msixTab : (s.setPage p v).msixTab = s.msixTab := rfl
@[simp] theorem State.setPage_msixPend : (s.setPage p v).msixPend = s.msixPend := rfl
@[simp] theorem State.setPage_accepted : (s.setPage p v).accepted = s.accepted := rfl
@[simp] theorem State.setPage_dir : (s.setPage p v).dir = s.dir := rfl
@[simp] theorem State.setPage_recs : (s.setPage p v).recs = s.recs := rfl
@[simp] theorem State.setPage_dirOps : (s.setPage p v).dirOps = s.dirOps := rfl
@[simp] theorem State.setPage_loadSerial : (s.setPage p v).loadSerial = s.loadSerial := rfl
@[simp] theorem State.setPage_plots : (s.setPage p v).plots = s.plots := rfl
@[simp] theorem State.setPage_tcnt : (s.setPage p v).tcnt = s.tcnt := rfl
@[simp] theorem State.setPage_terrs : (s.setPage p v).terrs = s.terrs := rfl
@[simp] theorem State.setPage_trellis : (s.setPage p v).trellis = s.trellis := rfl
@[simp] theorem State.setPage_mem : (s.setPage p v).mem = s.mem := rfl
@[simp] theorem State.setPage_poison : (s.setPage p v).poison = s.poison := rfl
@[simp] theorem State.setPage_homes : (s.setPage p v).homes = s.homes := rfl
@[simp] theorem State.setPage_homeBusy : (s.setPage p v).homeBusy = s.homeBusy := rfl
@[simp] theorem State.setPage_cfm : (s.setPage p v).cfm = s.cfm := rfl
@[simp] theorem State.setPage_hbmLane : (s.setPage p v).hbmLane = s.hbmLane := rfl
@[simp] theorem State.setPage_pavs : (s.setPage p v).pavs = s.pavs := rfl
@[simp] theorem State.setPage_reqs : (s.setPage p v).reqs = s.reqs := rfl
@[simp] theorem State.setPage_admitSeq : (s.setPage p v).admitSeq = s.admitSeq := rfl
@[simp] theorem State.setPage_cfUsed : (s.setPage p v).cfUsed = s.cfUsed := rfl
@[simp] theorem State.setPage_objs : (s.setPage p v).objs = s.objs := rfl
@[simp] theorem State.setPage_nextHandle : (s.setPage p v).nextHandle = s.nextHandle := rfl
@[simp] theorem State.setPage_cancels : (s.setPage p v).cancels = s.cancels := rfl
@[simp] theorem State.setPage_stw : (s.setPage p v).stw = s.stw := rfl
@[simp] theorem State.setPage_wgts : (s.setPage p v).wgts = s.wgts := rfl
@[simp] theorem State.setPage_flash : (s.setPage p v).flash = s.flash := rfl
@[simp] theorem State.setPage_scrub : (s.setPage p v).scrub = s.scrub := rfl
@[simp] theorem State.setPage_bcast : (s.setPage p v).bcast = s.bcast := rfl
@[simp] theorem State.setPage_ports : (s.setPage p v).ports = s.ports := rfl
@[simp] theorem State.setPage_xacts : (s.setPage p v).xacts = s.xacts := rfl
@[simp] theorem State.setPage_tvlDue : (s.setPage p v).tvlDue = s.tvlDue := rfl
@[simp] theorem State.setPage_mbox : (s.setPage p v).mbox = s.mbox := rfl
@[simp] theorem State.setPage_gate : (s.setPage p v).gate = s.gate := rfl
@[simp] theorem State.setPage_upd : (s.setPage p v).upd = s.upd := rfl
@[simp] theorem State.setPage_nvm : (s.setPage p v).nvm = s.nvm := rfl
@[simp] theorem State.setPage_keyPending : (s.setPage p v).keyPending = s.keyPending := rfl
@[simp] theorem State.setPage_errs : (s.setPage p v).errs = s.errs := rfl
@[simp] theorem State.setPage_pwr : (s.setPage p v).pwr = s.pwr := rfl
end

@[simp] theorem State.page_setPage (s : State) (p : Nat) (v : KvPage) : (s.setPage p v).page p = v := Tab.get_put p v
theorem State.page_setPage_other (s : State) {p q : Nat} (v : KvPage) (h : q ≠ p) : (s.setPage p v).page q = s.page q :=
  Tab.get_put_other v h

/-! ### setObj -/

section
variable (s : State) (p : Nat) (v : Obj)
@[simp] theorem State.setObj_pending : (s.setObj p v).pending = s.pending := rfl
@[simp] theorem State.setObj_out : (s.setObj p v).out = s.out := rfl
@[simp] theorem State.setObj_freeCtr : (s.setObj p v).freeCtr = s.freeCtr := rfl
@[simp] theorem State.setObj_time : (s.setObj p v).time = s.time := rfl
@[simp] theorem State.setObj_sdl : (s.setObj p v).sdl = s.sdl := rfl
@[simp] theorem State.setObj_dev : (s.setObj p v).dev = s.dev := rfl
@[simp] theorem State.setObj_fuses : (s.setObj p v).fuses = s.fuses := rfl
@[simp] theorem State.setObj_boot : (s.setObj p v).boot = s.boot := rfl
@[simp] theorem State.setObj_regs : (s.setObj p v).regs = s.regs := rfl
@[simp] theorem State.setObj_acc : (s.setObj p v).acc = s.acc := rfl
@[simp] theorem State.setObj_qps : (s.setObj p v).qps = s.qps := rfl
@[simp] theorem State.setObj_msixTab : (s.setObj p v).msixTab = s.msixTab := rfl
@[simp] theorem State.setObj_msixPend : (s.setObj p v).msixPend = s.msixPend := rfl
@[simp] theorem State.setObj_accepted : (s.setObj p v).accepted = s.accepted := rfl
@[simp] theorem State.setObj_dir : (s.setObj p v).dir = s.dir := rfl
@[simp] theorem State.setObj_recs : (s.setObj p v).recs = s.recs := rfl
@[simp] theorem State.setObj_dirOps : (s.setObj p v).dirOps = s.dirOps := rfl
@[simp] theorem State.setObj_loadSerial : (s.setObj p v).loadSerial = s.loadSerial := rfl
@[simp] theorem State.setObj_plots : (s.setObj p v).plots = s.plots := rfl
@[simp] theorem State.setObj_tcnt : (s.setObj p v).tcnt = s.tcnt := rfl
@[simp] theorem State.setObj_terrs : (s.setObj p v).terrs = s.terrs := rfl
@[simp] theorem State.setObj_trellis : (s.setObj p v).trellis = s.trellis := rfl
@[simp] theorem State.setObj_mem : (s.setObj p v).mem = s.mem := rfl
@[simp] theorem State.setObj_poison : (s.setObj p v).poison = s.poison := rfl
@[simp] theorem State.setObj_homes : (s.setObj p v).homes = s.homes := rfl
@[simp] theorem State.setObj_homeBusy : (s.setObj p v).homeBusy = s.homeBusy := rfl
@[simp] theorem State.setObj_cfm : (s.setObj p v).cfm = s.cfm := rfl
@[simp] theorem State.setObj_hbmLane : (s.setObj p v).hbmLane = s.hbmLane := rfl
@[simp] theorem State.setObj_pavs : (s.setObj p v).pavs = s.pavs := rfl
@[simp] theorem State.setObj_reqs : (s.setObj p v).reqs = s.reqs := rfl
@[simp] theorem State.setObj_admitSeq : (s.setObj p v).admitSeq = s.admitSeq := rfl
@[simp] theorem State.setObj_pages : (s.setObj p v).pages = s.pages := rfl
@[simp] theorem State.setObj_cfUsed : (s.setObj p v).cfUsed = s.cfUsed := rfl
@[simp] theorem State.setObj_nextHandle : (s.setObj p v).nextHandle = s.nextHandle := rfl
@[simp] theorem State.setObj_cancels : (s.setObj p v).cancels = s.cancels := rfl
@[simp] theorem State.setObj_stw : (s.setObj p v).stw = s.stw := rfl
@[simp] theorem State.setObj_wgts : (s.setObj p v).wgts = s.wgts := rfl
@[simp] theorem State.setObj_flash : (s.setObj p v).flash = s.flash := rfl
@[simp] theorem State.setObj_scrub : (s.setObj p v).scrub = s.scrub := rfl
@[simp] theorem State.setObj_bcast : (s.setObj p v).bcast = s.bcast := rfl
@[simp] theorem State.setObj_ports : (s.setObj p v).ports = s.ports := rfl
@[simp] theorem State.setObj_xacts : (s.setObj p v).xacts = s.xacts := rfl
@[simp] theorem State.setObj_tvlDue : (s.setObj p v).tvlDue = s.tvlDue := rfl
@[simp] theorem State.setObj_mbox : (s.setObj p v).mbox = s.mbox := rfl
@[simp] theorem State.setObj_gate : (s.setObj p v).gate = s.gate := rfl
@[simp] theorem State.setObj_upd : (s.setObj p v).upd = s.upd := rfl
@[simp] theorem State.setObj_nvm : (s.setObj p v).nvm = s.nvm := rfl
@[simp] theorem State.setObj_keyPending : (s.setObj p v).keyPending = s.keyPending := rfl
@[simp] theorem State.setObj_errs : (s.setObj p v).errs = s.errs := rfl
@[simp] theorem State.setObj_pwr : (s.setObj p v).pwr = s.pwr := rfl
end

@[simp] theorem State.obj_setObj (s : State) (p : Nat) (v : Obj) : (s.setObj p v).obj p = v := Tab.get_put p v
theorem State.obj_setObj_other (s : State) {p q : Nat} (v : Obj) (h : q ≠ p) : (s.setObj p v).obj q = s.obj q :=
  Tab.get_put_other v h

/-! ### setWgt -/

section
variable (s : State) (p : Nat) (v : Wgt)
@[simp] theorem State.setWgt_pending : (s.setWgt p v).pending = s.pending := rfl
@[simp] theorem State.setWgt_out : (s.setWgt p v).out = s.out := rfl
@[simp] theorem State.setWgt_freeCtr : (s.setWgt p v).freeCtr = s.freeCtr := rfl
@[simp] theorem State.setWgt_time : (s.setWgt p v).time = s.time := rfl
@[simp] theorem State.setWgt_sdl : (s.setWgt p v).sdl = s.sdl := rfl
@[simp] theorem State.setWgt_dev : (s.setWgt p v).dev = s.dev := rfl
@[simp] theorem State.setWgt_fuses : (s.setWgt p v).fuses = s.fuses := rfl
@[simp] theorem State.setWgt_boot : (s.setWgt p v).boot = s.boot := rfl
@[simp] theorem State.setWgt_regs : (s.setWgt p v).regs = s.regs := rfl
@[simp] theorem State.setWgt_acc : (s.setWgt p v).acc = s.acc := rfl
@[simp] theorem State.setWgt_qps : (s.setWgt p v).qps = s.qps := rfl
@[simp] theorem State.setWgt_msixTab : (s.setWgt p v).msixTab = s.msixTab := rfl
@[simp] theorem State.setWgt_msixPend : (s.setWgt p v).msixPend = s.msixPend := rfl
@[simp] theorem State.setWgt_accepted : (s.setWgt p v).accepted = s.accepted := rfl
@[simp] theorem State.setWgt_dir : (s.setWgt p v).dir = s.dir := rfl
@[simp] theorem State.setWgt_recs : (s.setWgt p v).recs = s.recs := rfl
@[simp] theorem State.setWgt_dirOps : (s.setWgt p v).dirOps = s.dirOps := rfl
@[simp] theorem State.setWgt_loadSerial : (s.setWgt p v).loadSerial = s.loadSerial := rfl
@[simp] theorem State.setWgt_plots : (s.setWgt p v).plots = s.plots := rfl
@[simp] theorem State.setWgt_tcnt : (s.setWgt p v).tcnt = s.tcnt := rfl
@[simp] theorem State.setWgt_terrs : (s.setWgt p v).terrs = s.terrs := rfl
@[simp] theorem State.setWgt_trellis : (s.setWgt p v).trellis = s.trellis := rfl
@[simp] theorem State.setWgt_mem : (s.setWgt p v).mem = s.mem := rfl
@[simp] theorem State.setWgt_poison : (s.setWgt p v).poison = s.poison := rfl
@[simp] theorem State.setWgt_homes : (s.setWgt p v).homes = s.homes := rfl
@[simp] theorem State.setWgt_homeBusy : (s.setWgt p v).homeBusy = s.homeBusy := rfl
@[simp] theorem State.setWgt_cfm : (s.setWgt p v).cfm = s.cfm := rfl
@[simp] theorem State.setWgt_hbmLane : (s.setWgt p v).hbmLane = s.hbmLane := rfl
@[simp] theorem State.setWgt_pavs : (s.setWgt p v).pavs = s.pavs := rfl
@[simp] theorem State.setWgt_reqs : (s.setWgt p v).reqs = s.reqs := rfl
@[simp] theorem State.setWgt_admitSeq : (s.setWgt p v).admitSeq = s.admitSeq := rfl
@[simp] theorem State.setWgt_pages : (s.setWgt p v).pages = s.pages := rfl
@[simp] theorem State.setWgt_cfUsed : (s.setWgt p v).cfUsed = s.cfUsed := rfl
@[simp] theorem State.setWgt_objs : (s.setWgt p v).objs = s.objs := rfl
@[simp] theorem State.setWgt_nextHandle : (s.setWgt p v).nextHandle = s.nextHandle := rfl
@[simp] theorem State.setWgt_cancels : (s.setWgt p v).cancels = s.cancels := rfl
@[simp] theorem State.setWgt_stw : (s.setWgt p v).stw = s.stw := rfl
@[simp] theorem State.setWgt_flash : (s.setWgt p v).flash = s.flash := rfl
@[simp] theorem State.setWgt_scrub : (s.setWgt p v).scrub = s.scrub := rfl
@[simp] theorem State.setWgt_bcast : (s.setWgt p v).bcast = s.bcast := rfl
@[simp] theorem State.setWgt_ports : (s.setWgt p v).ports = s.ports := rfl
@[simp] theorem State.setWgt_xacts : (s.setWgt p v).xacts = s.xacts := rfl
@[simp] theorem State.setWgt_tvlDue : (s.setWgt p v).tvlDue = s.tvlDue := rfl
@[simp] theorem State.setWgt_mbox : (s.setWgt p v).mbox = s.mbox := rfl
@[simp] theorem State.setWgt_gate : (s.setWgt p v).gate = s.gate := rfl
@[simp] theorem State.setWgt_upd : (s.setWgt p v).upd = s.upd := rfl
@[simp] theorem State.setWgt_nvm : (s.setWgt p v).nvm = s.nvm := rfl
@[simp] theorem State.setWgt_keyPending : (s.setWgt p v).keyPending = s.keyPending := rfl
@[simp] theorem State.setWgt_errs : (s.setWgt p v).errs = s.errs := rfl
@[simp] theorem State.setWgt_pwr : (s.setWgt p v).pwr = s.pwr := rfl
end

@[simp] theorem State.wgt_setWgt (s : State) (p : Nat) (v : Wgt) : (s.setWgt p v).wgt p = v := Tab.get_put p v
theorem State.wgt_setWgt_other (s : State) {p q : Nat} (v : Wgt) (h : q ≠ p) : (s.setWgt p v).wgt q = s.wgt q :=
  Tab.get_put_other v h

/-! ### setTc -/

section
variable (s : State) (p c : Nat) (v : Nat × Nat)
@[simp] theorem State.setTc_pending : (s.setTc p c v).pending = s.pending := rfl
@[simp] theorem State.setTc_out : (s.setTc p c v).out = s.out := rfl
@[simp] theorem State.setTc_freeCtr : (s.setTc p c v).freeCtr = s.freeCtr := rfl
@[simp] theorem State.setTc_time : (s.setTc p c v).time = s.time := rfl
@[simp] theorem State.setTc_sdl : (s.setTc p c v).sdl = s.sdl := rfl
@[simp] theorem State.setTc_dev : (s.setTc p c v).dev = s.dev := rfl
@[simp] theorem State.setTc_fuses : (s.setTc p c v).fuses = s.fuses := rfl
@[simp] theorem State.setTc_boot : (s.setTc p c v).boot = s.boot := rfl
@[simp] theorem State.setTc_regs : (s.setTc p c v).regs = s.regs := rfl
@[simp] theorem State.setTc_acc : (s.setTc p c v).acc = s.acc := rfl
@[simp] theorem State.setTc_qps : (s.setTc p c v).qps = s.qps := rfl
@[simp] theorem State.setTc_msixTab : (s.setTc p c v).msixTab = s.msixTab := rfl
@[simp] theorem State.setTc_msixPend : (s.setTc p c v).msixPend = s.msixPend := rfl
@[simp] theorem State.setTc_accepted : (s.setTc p c v).accepted = s.accepted := rfl
@[simp] theorem State.setTc_dir : (s.setTc p c v).dir = s.dir := rfl
@[simp] theorem State.setTc_recs : (s.setTc p c v).recs = s.recs := rfl
@[simp] theorem State.setTc_dirOps : (s.setTc p c v).dirOps = s.dirOps := rfl
@[simp] theorem State.setTc_loadSerial : (s.setTc p c v).loadSerial = s.loadSerial := rfl
@[simp] theorem State.setTc_plots : (s.setTc p c v).plots = s.plots := rfl
@[simp] theorem State.setTc_terrs : (s.setTc p c v).terrs = s.terrs := rfl
@[simp] theorem State.setTc_trellis : (s.setTc p c v).trellis = s.trellis := rfl
@[simp] theorem State.setTc_mem : (s.setTc p c v).mem = s.mem := rfl
@[simp] theorem State.setTc_poison : (s.setTc p c v).poison = s.poison := rfl
@[simp] theorem State.setTc_homes : (s.setTc p c v).homes = s.homes := rfl
@[simp] theorem State.setTc_homeBusy : (s.setTc p c v).homeBusy = s.homeBusy := rfl
@[simp] theorem State.setTc_cfm : (s.setTc p c v).cfm = s.cfm := rfl
@[simp] theorem State.setTc_hbmLane : (s.setTc p c v).hbmLane = s.hbmLane := rfl
@[simp] theorem State.setTc_pavs : (s.setTc p c v).pavs = s.pavs := rfl
@[simp] theorem State.setTc_reqs : (s.setTc p c v).reqs = s.reqs := rfl
@[simp] theorem State.setTc_admitSeq : (s.setTc p c v).admitSeq = s.admitSeq := rfl
@[simp] theorem State.setTc_pages : (s.setTc p c v).pages = s.pages := rfl
@[simp] theorem State.setTc_cfUsed : (s.setTc p c v).cfUsed = s.cfUsed := rfl
@[simp] theorem State.setTc_objs : (s.setTc p c v).objs = s.objs := rfl
@[simp] theorem State.setTc_nextHandle : (s.setTc p c v).nextHandle = s.nextHandle := rfl
@[simp] theorem State.setTc_cancels : (s.setTc p c v).cancels = s.cancels := rfl
@[simp] theorem State.setTc_stw : (s.setTc p c v).stw = s.stw := rfl
@[simp] theorem State.setTc_wgts : (s.setTc p c v).wgts = s.wgts := rfl
@[simp] theorem State.setTc_flash : (s.setTc p c v).flash = s.flash := rfl
@[simp] theorem State.setTc_scrub : (s.setTc p c v).scrub = s.scrub := rfl
@[simp] theorem State.setTc_bcast : (s.setTc p c v).bcast = s.bcast := rfl
@[simp] theorem State.setTc_ports : (s.setTc p c v).ports = s.ports := rfl
@[simp] theorem State.setTc_xacts : (s.setTc p c v).xacts = s.xacts := rfl
@[simp] theorem State.setTc_tvlDue : (s.setTc p c v).tvlDue = s.tvlDue := rfl
@[simp] theorem State.setTc_mbox : (s.setTc p c v).mbox = s.mbox := rfl
@[simp] theorem State.setTc_gate : (s.setTc p c v).gate = s.gate := rfl
@[simp] theorem State.setTc_upd : (s.setTc p c v).upd = s.upd := rfl
@[simp] theorem State.setTc_nvm : (s.setTc p c v).nvm = s.nvm := rfl
@[simp] theorem State.setTc_keyPending : (s.setTc p c v).keyPending = s.keyPending := rfl
@[simp] theorem State.setTc_errs : (s.setTc p c v).errs = s.errs := rfl
@[simp] theorem State.setTc_pwr : (s.setTc p c v).pwr = s.pwr := rfl
end

@[simp] theorem State.emit_out (s : State) (o : Out) : (s.emit o).out = s.out ++ [o] := rfl
@[simp] theorem State.tickFree_freeCtr (s : State) : s.tickFree.freeCtr = s.freeCtr + 1 := rfl
@[simp] theorem State.tc_setTc (s : State) (t c : Nat) (v : Nat × Nat) : (s.setTc t c v).tc t c = v := Tab.get_put _ v

/-- A field reads back what was written to it, cut to its width. -/
@[simp] theorem State.rd_wr (s : State) (f : Field) (v i k : Nat) : (s.wr f v i k).rd f i k = v % 2 ^ f.wid :=
  Tab.get_put _ _

/-- A write of a field leaves every field of another key alone. -/
theorem State.rd_wr_other (s : State) {f g : Field} {v i k j l : Nat} (h : g.key j l ≠ f.key i k) :
    (s.wr f v i k).rd g j l = s.rd g j l :=
  Tab.get_put_other _ h

end Sys2Proof.Machine
end

