-- ==== Sys2Proof/Laws/Insn.lean ====
section
/-! SUPPORT. What an instruction of a plot controller, a trap, a message injection and a register command can change. -/
namespace Sys2Proof.Laws
open Sys2Proof Sys2Proof.Machine

/-- x0 is never written; another register holds what was written. -/
theorem reg_setReg (c : Cpu) (i : Nat) (v : Word32) (j : Nat) : (c.setReg i v).reg j = if j = i ∧ i ≠ 0 then v else c.reg j := by
  unfold Cpu.setReg Cpu.reg
  by_cases hi : i = 0
  · simp [hi]
  · by_cases hj : j = 0
    · simp [hi, hj]; intro h; exact absurd h.symm hi
    · by_cases hji : j = i
      · subst hji; simp [hi]
      · simp [hi, hj, hji]; exact Tab.get_put_other _ hji

/-- It changes no other plot and nothing outside the plots. -/
theorem insnDone_only (s : State) (p rd : Nat) (v : Word32) {n : Nat} : OnlyPlot p s (s.insnDone p rd v n) := by
  refine ⟨rfl, fun j hj => ?_⟩
  exact State.plot_setPlot_other _ _ hj

theorem retired_base (c : Cpu) (rd : Nat) (v : Word32) {n : Nat} : Retired rd v c { c.setReg rd v with pc := (c.setReg rd v).pc + BitVec.ofNat 32 n } n := by
  have R : ∀ i, ({ c.setReg rd v with pc := (c.setReg rd v).pc + BitVec.ofNat 32 n } : Cpu).reg i = (c.setReg rd v).reg i := fun _ => rfl
  refine ⟨rfl, fun h => ?_, fun i hi => ?_, ?_⟩
  · rw [R, reg_setReg]; simp [h]
  · rw [R, reg_setReg]; simp [hi]
  · unfold Cpu.setReg; split <;> rfl

/-- What an instruction that ends normally does to the register file and the pc. -/
theorem insnDone_retired (s : State) (p rd : Nat) (v : Word32) {n : Nat} : Retired rd v (s.plot p).cpu ((s.insnDone p rd v n).plot p).cpu n := by
  unfold State.insnDone; rw [State.plot_setPlot]; exact retired_base _ _ _

theorem insnDone_plot (s : State) (p rd : Nat) (v : Word32) {n : Nat} : ((s.insnDone p rd v n).plot p) = { s.plot p with cpu := ((s.insnDone p rd v n).plot p).cpu } := by
  unfold State.insnDone; simp only [State.plot_setPlot]

theorem onlyPlot_trans {p : Nat} {s t u : State} (h : OnlyPlot p s t) (k : OnlyPlot p t u) : OnlyPlot p s u := by
  obtain ⟨a, b⟩ := h; obtain ⟨c, d⟩ := k
  exact ⟨by rw [c, a], fun j hj => (d j hj).trans (b j hj)⟩

theorem onlyPlot_setPlot (s : State) (p : Nat) (q : Plot) : OnlyPlot p s (s.setPlot p q) := ⟨rfl, fun _ hj => State.plot_setPlot_other _ _ hj⟩

theorem onlyPlot_refl (s : State) (p : Nat) : OnlyPlot p s s := ⟨rfl, fun _ _ => rfl⟩

theorem setPlot_insnDone_only (s : State) (p rd : Nat) (v : Word32) {n : Nat} (q : Plot) : OnlyPlot p s ((s.setPlot p q).insnDone p rd v n) :=
  onlyPlot_trans (onlyPlot_setPlot s p q) (insnDone_only _ _ _ _)

theorem setPlot_insnDone_retired (s : State) (p rd : Nat) (v : Word32) {n : Nat} (q : Plot) : Retired rd v q.cpu (((s.setPlot p q).insnDone p rd v n).plot p).cpu n := by
  have := insnDone_retired (s.setPlot p q) p rd v (n := n)
  rwa [State.plot_setPlot] at this

theorem setPlot_insnDone_plot (s : State) (p rd : Nat) (v : Word32) {n : Nat} (q : Plot) : (((s.setPlot p q).insnDone p rd v n).plot p) = { q with cpu := (((s.setPlot p q).insnDone p rd v n).plot p).cpu } := by
  have := insnDone_plot (s.setPlot p q) p rd v (n := n)
  rwa [State.plot_setPlot] at this

@[simp] theorem insnDone_run (s : State) (p rd : Nat) (v : Word32) {n : Nat} : ((s.insnDone p rd v n).plot p).run = (s.plot p).run := by
  unfold State.insnDone; simp only [State.plot_setPlot]

@[simp] theorem insnDone_halted (s : State) (p rd : Nat) (v : Word32) {n : Nat} : ((s.insnDone p rd v n).plot p).halted = (s.plot p).halted := by
  unfold State.insnDone; simp only [State.plot_setPlot]

@[simp] theorem insnDone_inTrap (s : State) (p rd : Nat) (v : Word32) {n : Nat} : ((s.insnDone p rd v n).plot p).inTrap = (s.plot p).inTrap := by
  unfold State.insnDone; simp only [State.plot_setPlot]

@[simp] theorem insnDone_store (s : State) (p rd : Nat) (v : Word32) {n : Nat} : ((s.insnDone p rd v n).plot p).store = (s.plot p).store := by
  unfold State.insnDone; simp only [State.plot_setPlot]

@[simp] theorem insnDone_bad (s : State) (p rd : Nat) (v : Word32) {n : Nat} : ((s.insnDone p rd v n).plot p).bad = (s.plot p).bad := by
  unfold State.insnDone; simp only [State.plot_setPlot]

@[simp] theorem insnDone_queue (s : State) (p rd : Nat) (v : Word32) {n : Nat} : ((s.insnDone p rd v n).plot p).queue = (s.plot p).queue := by
  unfold State.insnDone; simp only [State.plot_setPlot]

@[simp] theorem insnDone_nextTicket (s : State) (p rd : Nat) (v : Word32) {n : Nat} : ((s.insnDone p rd v n).plot p).nextTicket = (s.plot p).nextTicket := by
  unfold State.insnDone; simp only [State.plot_setPlot]

@[simp] theorem insnDone_running (s : State) (p rd : Nat) (v : Word32) {n : Nat} : ((s.insnDone p rd v n).plot p).running = (s.plot p).running := by
  unfold State.insnDone; simp only [State.plot_setPlot]

@[simp] theorem insnDone_fault (s : State) (p rd : Nat) (v : Word32) {n : Nat} : ((s.insnDone p rd v n).plot p).fault = (s.plot p).fault := by
  unfold State.insnDone; simp only [State.plot_setPlot]

@[simp] theorem insnDone_discarding (s : State) (p rd : Nat) (v : Word32) {n : Nat} : ((s.insnDone p rd v n).plot p).discarding = (s.plot p).discarding := by
  unfold State.insnDone; simp only [State.plot_setPlot]

@[simp] theorem insnDone_inj (s : State) (p rd : Nat) (v : Word32) {n : Nat} : ((s.insnDone p rd v n).plot p).inj = (s.plot p).inj := by
  unfold State.insnDone; simp only [State.plot_setPlot]

@[simp] theorem insnDone_injStage (s : State) (p rd : Nat) (v : Word32) {n : Nat} : ((s.insnDone p rd v n).plot p).injStage = (s.plot p).injStage := by
  unfold State.insnDone; simp only [State.plot_setPlot]

@[simp] theorem insnDone_gens (s : State) (p rd : Nat) (v : Word32) {n : Nat} : ((s.insnDone p rd v n).plot p).gens = (s.plot p).gens := by
  unfold State.insnDone; simp only [State.plot_setPlot]

@[simp] theorem insnDone_outq (s : State) (p rd : Nat) (v : Word32) {n : Nat} : ((s.insnDone p rd v n).plot p).outq = (s.plot p).outq := by
  unfold State.insnDone; simp only [State.plot_setPlot]

@[simp] theorem insnDone_inq (s : State) (p rd : Nat) (v : Word32) {n : Nat} : ((s.insnDone p rd v n).plot p).inq = (s.plot p).inq := by
  unfold State.insnDone; simp only [State.plot_setPlot]

@[simp] theorem insnDone_halo (s : State) (p rd : Nat) (v : Word32) {n : Nat} : ((s.insnDone p rd v n).plot p).halo = (s.plot p).halo := by
  unfold State.insnDone; simp only [State.plot_setPlot]

@[simp] theorem insnDone_sb (s : State) (p rd : Nat) (v : Word32) {n : Nat} : ((s.insnDone p rd v n).plot p).sb = (s.plot p).sb := by
  unfold State.insnDone; simp only [State.plot_setPlot]

@[simp] theorem insnDone_fence (s : State) (p rd : Nat) (v : Word32) {n : Nat} : ((s.insnDone p rd v n).plot p).fence = (s.plot p).fence := by
  unfold State.insnDone; simp only [State.plot_setPlot]

@[simp] theorem insnDone_barrier (s : State) (p rd : Nat) (v : Word32) {n : Nat} : ((s.insnDone p rd v n).plot p).barrier = (s.plot p).barrier := by
  unfold State.insnDone; simp only [State.plot_setPlot]

/-- A legal custom instruction of an active plot runs its body on x[rs1] and x[rs2]. -/
theorem custom_legal {s : State} {p : Nat} {w : Word32} {op f3 : Nat} {a b : Bool} {body} (h : (s.plot p).active = true) (k : In.legal w op f3 a b = true) :
    s.custom p w op f3 a b body = .next (body ((s.plot p).cpu.reg (In.rs1 w)) ((s.plot p).cpu.reg (In.rs2 w))) := by
  simp [State.custom, h, k]

theorem setPlot_same (s : State) (p j : Nat) : (s.setPlot p (s.plot p)).plot j = s.plot j := by
  by_cases h : j = p
  · subst h; simp
  · exact State.plot_setPlot_other _ _ h

/-- With nothing outbound, injection changes no plot. -/
theorem inject_plot (s : State) (src : Nat) (h : (s.plot src).outq = []) (j : Nat) : (s.inject src).plot j = s.plot j := by
  have : (s.inject src).plot j = (s.setPlot src { s.plot src with outq := (s.plot src).outq.dropWhile Message.ready }).plot j := rfl
  rw [this, h]
  have : ({ s.plot src with outq := [] } : Plot) = s.plot src := by rw [← h]
  simp only [List.dropWhile]; rw [this]; exact setPlot_same _ _ _

theorem inject_trellis (s : State) (src : Nat) (h : (s.plot src).outq = []) : (s.inject src).trellis = s.trellis := by
  simp [State.inject, h]

/-- The bytes of a read. -/
theorem read_length (m : List Host.Cell) (a n : Nat) : (Mem.read m a n).length = n := by
  induction n generalizing a with
  | zero => rfl
  | succ n ih => simp [Mem.read, ih]

/-- A trap outside a trap: one plot changes, and it is trapped. -/
theorem trap_trapped {s : State} {p cause : Nat} {v : Word32} (h : (s.plot p).inTrap = false) :
    OnlyPlot p s (s.trap p cause v) ∧ Trapped cause v (s.plot p) ((s.trap p cause v).plot p) := by
  have e : s.trap p cause v = s.setPlot p { s.plot p with inTrap := true, cpu := (s.plot p).cpu.trap cause v } := by
    simp only [State.trap, h]; rfl
  rw [e]
  refine ⟨onlyPlot_setPlot _ _ _, ?_⟩
  rw [State.plot_setPlot]
  exact ⟨rfl, rfl, rfl, rfl, rfl, fun _ => rfl, rfl⟩

/-- A generator bank holds what was written to it. -/
theorem gen_setGen (q : Plot) (b : Nat) (g : Gen) (b' : Nat) : (q.setGen b g).gen b' = if b' = b then g else q.gen b' := by
  unfold Plot.setGen Plot.gen
  split
  · subst b'; exact Tab.get_put _ _
  · rename_i h; exact Tab.get_put_other _ h

/-- GEN_SEED leaves every lane phase at the counter. -/
theorem seed_phase (k c0 : Word64) (i : Nat) (h : i < 16) : (Gen.seed k c0).phase i = c0 := by
  have : i ∈ List.range 16 := List.mem_range.mpr h
  have : i = 0 ∨ i = 1 ∨ i = 2 ∨ i = 3 ∨ i = 4 ∨ i = 5 ∨ i = 6 ∨ i = 7 ∨ i = 8 ∨ i = 9 ∨ i = 10 ∨ i = 11 ∨ i = 12 ∨ i = 13 ∨ i = 14 ∨ i = 15 := by omega
  have F : ∀ (l : List Nat) (t : Tab Word64), (∀ j, Tab.get (0:Word64) (l.foldl (fun t i => Tab.put 0 t i c0) t) j = if j ∈ l then c0 else Tab.get 0 t j) := by
    intro l; induction l with
    | nil => intro t j; simp
    | cons x l ih =>
      intro t j; simp only [List.foldl]; rw [ih]
      by_cases hj : j = x
      · subst hj; simp
      · simp [hj]; split
        · rfl
        · exact Tab.get_put_other _ hj
  unfold Gen.seed Gen.phase
  rw [F]; simp [h]

theorem setPlot_insnDone_retired_of {s : State} {p rd : Nat} {v : Word32} {q : Plot} {c : Cpu} {n : Nat} (hq : q.cpu = c) : Retired rd v c (((s.setPlot p q).insnDone p rd v n).plot p).cpu n := by
  rw [← hq]; exact setPlot_insnDone_retired s p rd v q

theorem setGen_cpu (q : Plot) (b : Nat) (g : Gen) : (q.setGen b g).cpu = q.cpu := rfl

theorem setPlot_insnDone_gen (s : State) (p rd : Nat) (v : Word32) (q : Plot) (b : Nat) {n : Nat} : (((s.setPlot p q).insnDone p rd v n).plot p).gen b = q.gen b := by
  unfold Plot.gen; simp

/-- The bytes of a number. -/
theorem leBytes_length (n v : Nat) : (leBytes n v).length = n := by
  induction n generalizing v with
  | zero => rfl
  | succ n ih => simp [leBytes, ih]

/-- An HBM address lies below the private region. -/
theorem region_hbm {s : State} {a : Nat} (h : s.region a = .hbm) : a < 0x47C0000000 := by
  unfold State.region at h
  by_cases q : a < 0x47C0000000
  · exact q
  · rw [if_neg q] at h; repeat (split at h <;> try cases h)

theorem dropLatch_plot (s : State) (r o j : Nat) : (s.dropLatch r o).plot j = s.plot j := rfl

theorem dropLatch_rd (s : State) (r o : Nat) (f : Field) (j l : Nat) : (s.dropLatch r o).rd f j l = s.rd f j l := rfl

/-- A command of its own on a register acts on the instance its requester reaches. -/
theorem own_target {s : State} {r b o : Nat} {w : Who} {act : Nat → State → State} {i : Nat} (h : s.target r b o w = some i) :
    s.own r b o w act = act i (s.dropLatch r (b * 65536)) := by simp only [State.own, h]

end Sys2Proof.Laws
end

