-- ==== Sys2Proof/Laws/Keeps.lean ====
section
/-! SUPPORT. What every command keeps, as one relation between the state before it and the state after it. -/
namespace Sys2Proof.Laws
open Sys2Proof Sys2Proof.Machine

/-- What every command keeps, field by field, beside the state `b` before it. -/
structure KeepsF (b : State) (pending : List Instr) (out : List Out) (freeCtr : Nat) (fuses : Fuses) (regs : Tab Nat)
    (mem flash : List Host.Cell) : Prop where
  pending : pending = b.pending
  out : b.out <+: out
  freeCtr : b.freeCtr ≤ freeCtr
  sv : b.fuses.sv ≤ fuses.sv
  fuses : { fuses with sv := b.fuses.sv } = b.fuses
  mem : Memory.wf mem = true
  flash : Flash.wf flash = true
  regs : Tab.Rises regs

/-- `s` keeps, beside `b`: the queue as it is, the outputs appended to, the fuses as they are but for anti-rollback
positions blown, the canonical forms. -/
structure Keeps (b s : State) : Prop where
  all : KeepsF b s.pending s.out s.freeCtr s.fuses s.regs s.mem s.flash

/-- A command answers a next state, which keeps. -/
inductive KeepsR (b : State) : Res → Prop where
  | next {t : State} (h : Keeps b t) : KeepsR b (.next t)

theorem keeps_foldl {α : Type} {b s : State} {l : List α} {f : State → α → State} (h : Keeps b s)
    (hf : ∀ t x, Keeps b t → Keeps b (f t x)) : Keeps b (l.foldl f s) := by
  induction l generalizing s with
  | nil => exact h
  | cons x l ih => exact ih (hf s x h)

theorem keepsR_next {b t : State} (h : Keeps b t) : KeepsR b (.next t) := .next h

theorem keepsR_onlyIf {b s t : State} {c : Bool} (h : Keeps b s) (k : Keeps b t) : KeepsR b (onlyIf c s t) := by
  cases c
  · exact keepsR_next h
  · exact keepsR_next k

theorem keeps_mk {b t : State} {x_time x_sdl x_dev x_boot x_acc x_qps x_msixTab x_msixPend x_accepted x_dir x_recs
      x_dirOps x_loadSerial x_plots x_tcnt x_terrs x_trellis x_poison x_homes x_homeBusy x_cfm x_hbmLane x_pavs x_reqs
      x_admitSeq x_pages x_cfUsed x_objs x_nextHandle x_cancels x_stw x_wgts x_scrub x_bcast x_ports x_xacts x_tvlDue
      x_mbox x_gate x_upd x_nvm x_keyPending x_errs x_pwr} :
Keeps b (State.mk t.pending t.out t.freeCtr x_time x_sdl x_dev t.fuses x_boot t.regs x_acc x_qps x_msixTab x_msixPend
      x_accepted x_dir x_recs x_dirOps x_loadSerial x_plots x_tcnt x_terrs x_trellis t.mem x_poison x_homes x_homeBusy
      x_cfm x_hbmLane x_pavs x_reqs x_admitSeq x_pages x_cfUsed x_objs x_nextHandle x_cancels x_stw x_wgts t.flash
      x_scrub x_bcast x_ports x_xacts x_tvlDue x_mbox x_gate x_upd x_nvm x_keyPending x_errs x_pwr) ↔ Keeps b t := ⟨fun
      h => ⟨h.all⟩, fun h => ⟨h.all⟩⟩

/-- A state that may be absent keeps. -/
inductive KeepsO (b : State) : Option State → Prop where
  | some {t : State} (h : Keeps b t) : KeepsO b (some t)
  | none : KeepsO b none

/-- A pair with a state that may be absent keeps. -/
inductive KeepsOP {α : Type} (b : State) : Option (α × State) → Prop where
  | some {k : α} {t : State} (h : Keeps b t) : KeepsOP b (some (k, t))
  | none : KeepsOP b none

theorem keepsO_some {b t : State} (h : Keeps b t) : KeepsO b (some t) := .some h
theorem keepsO_none {b : State} : KeepsO b none := .none
theorem keepsOP_some {α : Type} {b t : State} {k : α} (h : Keeps b t) : KeepsOP b (some (k, t)) := .some h
theorem keepsOP_none {α : Type} {b : State} : KeepsOP (α := α) b none := .none

theorem keepsO_getD {b s : State} {o : Option State} (h : KeepsO b o) (k : Keeps b s) : Keeps b (o.getD s) := by
  cases h with
  | some h => exact h
  | none => exact k

theorem keepsO_of {b t : State} {o : Option State} (e : o = some t) (h : KeepsO b o) : Keeps b t := by
  subst e; cases h; assumption

theorem keepsOP_of {α : Type} {b t : State} {k : α} {o : Option (α × State)} (e : o = some (k, t)) (h : KeepsOP b o) :
    Keeps b t := by
  subst e; cases h; assumption

theorem keepsP_of {α : Type} {b t : State} {k : α} {p : α × State} (e : p = (k, t)) (h : Keeps b p.2) : Keeps b t := by
  subst e; exact h

end Sys2Proof.Laws
end

