-- ==== Sys2Proof/Laws/KeepsCore.lean ====
section
/-! SUPPORT. Each operation on the parts of the state, registers, errors, the Sundial and memory keeps what every command keeps. -/
namespace Sys2Proof.Laws
open Sys2Proof Sys2Proof.Machine

theorem keeps_State_emit {b s : State} (o) (h : Keeps b s) : Keeps b (State.emit s o) :=
  ⟨{ h.all with out := h.all.out.trans (List.prefix_append _ _) }⟩

theorem keeps_State_dropUnverified {b s : State} (h : Keeps b s) : Keeps b (State.dropUnverified s) := by
  unfold State.dropUnverified
  try dsimp only
  repeat' first
    | with_reducible assumption
    | simp only [↓keeps_mk]

theorem keeps_State_abortBroadcast {b s : State} (h : Keeps b s) : Keeps b (State.abortBroadcast s) := by
  unfold State.abortBroadcast
  try dsimp only
  repeat' first
    | with_reducible assumption
    | simp only [↓keeps_mk]
    | with_reducible refine keeps_State_emit _ ?_
    | with_reducible refine keeps_State_dropUnverified ?_
    | split

theorem keeps_State_nextSeq {b s : State} (h : Keeps b s) : Keeps b (State.nextSeq s) := by
  unfold State.nextSeq
  try dsimp only
  repeat' first
    | with_reducible assumption
    | simp only [↓keeps_mk]

theorem keeps_State_countErr {b s : State} (a1) (h : Keeps b s) : Keeps b (State.countErr s a1) := by
  unfold State.countErr
  try dsimp only
  repeat' first
    | with_reducible assumption
    | simp only [↓keeps_mk]

theorem keeps_State_ringPut {b s : State} (a1) (a2) (h : Keeps b s) : Keeps b (State.ringPut s a1 a2) := by
  unfold State.ringPut
  try dsimp only
  repeat' first
    | with_reducible assumption
    | simp only [↓keeps_mk]

theorem keeps_State_ringOnly {b s : State} (a1) (a2) (a3) (a4) (h : Keeps b s) : Keeps b (State.ringOnly s a1 a2 a3 a4)
      := by
  unfold State.ringOnly
  try dsimp only
  repeat' first
    | with_reducible assumption
    | simp only [↓keeps_mk]
    | with_reducible refine keeps_State_ringPut _ _ ?_
    | split

theorem keeps_State_setPort {b s : State} (a1) (a2) (h : Keeps b s) : Keeps b (State.setPort s a1 a2) := by
  unfold State.setPort
  try dsimp only
  repeat' first
    | with_reducible assumption
    | simp only [↓keeps_mk]

theorem keeps_State_tickFree {b s : State} (h : Keeps b s) : Keeps b (State.tickFree s) :=
  ⟨{ h.all with freeCtr := Nat.le_succ_of_le h.all.freeCtr }⟩

theorem keeps_State_putCw {b s : State} (a1) (a2) (h : Keeps b s) : Keeps b (State.putCw s a1 a2) := by
  unfold State.putCw
  try dsimp only
  repeat' first
    | with_reducible assumption
    | with_reducible refine keeps_State_tickFree ?_
    | with_reducible refine keeps_State_emit _ ?_

theorem keeps_State_switchLane {b s : State} (a1) (a2) (a3) (h : Keeps b s) : Keeps b (State.switchLane s a1 a2 a3) :=
      by
  unfold State.switchLane
  try dsimp only
  repeat' first
    | with_reducible assumption
    | simp only [↓keeps_mk]

theorem keeps_State_number {b s : State} (a1) (a2) (h : Keeps b s) : Keeps b (State.number s a1 a2) := by
  unfold State.number
  try dsimp only
  repeat' first
    | with_reducible assumption
    | with_reducible refine keeps_State_setPort _ _ ?_
    | with_reducible refine keeps_State_putCw _ _ ?_
    | with_reducible refine keeps_State_switchLane _ _ _ ?_
    | split

theorem keeps_State_sendSlots {b s : State} (a1) (a2) (h : Keeps b s) : Keeps b (State.sendSlots s a1 a2) := by
  unfold State.sendSlots
  try dsimp only
  repeat' first
    | with_reducible assumption
    | with_reducible refine keeps_State_number _ _ ?_
    | with_reducible refine keeps_State_setPort _ _ ?_
    | split

theorem keeps_State_sendSym {b s : State} (a1) (a2) (a3) (h : Keeps b s) : Keeps b (State.sendSym s a1 a2 a3) := by
  unfold State.sendSym
  try dsimp only
  repeat' first
    | with_reducible assumption
    | with_reducible refine keeps_State_sendSlots _ _ ?_
    | with_reducible refine keeps_State_emit _ ?_

theorem keeps_State_sendDown {b s : State} (a1) (a2) (h : Keeps b s) : Keeps b (State.sendDown s a1 a2) := by
  unfold State.sendDown
  try dsimp only
  repeat' first
    | with_reducible assumption
    | with_reducible refine keeps_State_sendSym _ _ _ ?_
    | split

theorem keeps_State_shutPort {b s : State} (a1) (h : Keeps b s) : Keeps b (State.shutPort s a1) := by
  unfold State.shutPort
  try dsimp only
  repeat' first
    | with_reducible assumption
    | with_reducible refine keeps_State_setPort _ _ ?_
    | with_reducible refine keeps_State_sendDown _ _ ?_
    | with_reducible refine keeps_State_nextSeq ?_
    | with_reducible refine keeps_State_ringPut _ _ ?_
    | with_reducible refine keeps_State_countErr _ ?_
    | split

theorem keeps_State_shutter {b s : State} (a1) (h : Keeps b s) : Keeps b (State.shutter s a1) := by
  unfold State.shutter
  try dsimp only
  repeat' first
    | with_reducible assumption
    | simp only [↓keeps_mk]
    | with_reducible refine keeps_State_shutPort _ ?_
    | with_reducible refine keeps_foldl ?_ ?_
    | (intro _ _ _; try dsimp only)

theorem keeps_State_trialCause {b s : State} (a1) (h : Keeps b s) : Keeps b (State.trialCause s a1) := by
  unfold State.trialCause
  try dsimp only
  repeat' first
    | with_reducible assumption
    | simp only [↓keeps_mk]
    | split

theorem keeps_State_fire {b s : State} (a1) (a2) (h : Keeps b s) : Keeps b (State.fire s a1 a2) := by
  unfold State.fire
  try dsimp only
  repeat' first
    | with_reducible assumption
    | simp only [↓keeps_mk]
    | with_reducible refine keeps_State_emit _ ?_
    | split

theorem keeps_State_wr {b s : State} (f v i k) (h : Keeps b s) : Keeps b (State.wr s f v i k) :=
  ⟨{ h.all with regs := Tab.rises_put _ _ h.all.regs }⟩

theorem keeps_State_notify {b s : State} (a1) (a2) (h : Keeps b s) : Keeps b (State.notify s a1 a2) := by
  unfold State.notify
  try dsimp only
  repeat' first
    | with_reducible assumption
    | with_reducible refine keeps_State_fire _ _ ?_
    | with_reducible refine keeps_State_wr _ _ _ _ ?_
    | split

theorem keeps_State_putPrimary {b s : State} (a1) (a2) (h : Keeps b s) : Keeps b (State.putPrimary s a1 a2) := by
  unfold State.putPrimary
  try dsimp only
  repeat' first
    | with_reducible assumption
    | simp only [↓keeps_mk]
    | with_reducible refine keeps_State_notify _ _ ?_
    | split

theorem keeps_State_preempt {b s : State} (h : Keeps b s) : Keeps b (State.preempt s) := by
  unfold State.preempt
  try dsimp only
  repeat' first
    | with_reducible assumption
    | simp only [↓keeps_mk]
    | split

theorem keeps_State_primaryIn {b s : State} (a1) (a2) (a3) (h : Keeps b s) : Keeps b (State.primaryIn s a1 a2 a3) := by
  unfold State.primaryIn
  try dsimp only
  repeat' first
    | with_reducible assumption
    | simp only [↓keeps_mk]
    | with_reducible refine keeps_State_putPrimary _ _ ?_
    | with_reducible refine keeps_State_preempt ?_
    | split

theorem keeps_State_enter {b s : State} (a1) (a2) (h : Keeps b s) : Keeps b (State.enter s a1 a2) := by
  unfold State.enter
  try dsimp only
  repeat' first
    | with_reducible assumption
    | with_reducible refine keeps_State_nextSeq ?_
    | with_reducible refine keeps_State_countErr _ ?_
    | with_reducible refine keeps_State_ringOnly _ _ _ _ ?_
    | with_reducible refine keeps_State_shutter _ ?_
    | with_reducible refine keeps_State_trialCause _ ?_
    | with_reducible refine keeps_State_ringPut _ _ ?_
    | with_reducible refine keeps_State_primaryIn _ _ _ ?_
    | split

theorem keeps_State_raise {b s : State} (a1) (h : Keeps b s) : Keeps b (State.raise s a1) := by
  unfold State.raise
  try dsimp only
  repeat' first
    | with_reducible assumption
    | simp only [↓keeps_mk]
    | with_reducible refine keeps_State_enter _ _ ?_
    | split

theorem keeps_State_inc {b s : State} (a1) (a2) (a3) (h : Keeps b s) : Keeps b (State.inc s a1 a2 a3) := by
  unfold State.inc
  try dsimp only
  repeat' first
    | with_reducible assumption
    | with_reducible refine keeps_State_wr _ _ _ _ ?_

theorem keeps_State_portDown {b s : State} (a1) (a2) (a3) (h : Keeps b s) : Keeps b (State.portDown s a1 a2 a3) := by
  unfold State.portDown
  try dsimp only
  repeat' first
    | with_reducible assumption
    | with_reducible refine keeps_State_sendDown _ _ ?_
    | with_reducible refine keeps_State_raise _ ?_
    | with_reducible refine keeps_State_wr _ _ _ _ ?_
    | with_reducible refine keeps_State_setPort _ _ ?_
    | split

theorem keeps_State_homeWrite {b s : State} (a l) (h : Keeps b s) : Keeps b (State.homeWrite s a l) :=
  ⟨{ h.all with mem := Memory.wf_write a l h.all.mem }⟩

theorem keeps_State_sendHeld {b s : State} (a1) (h : Keeps b s) : Keeps b (State.sendHeld s a1) := by
  unfold State.sendHeld
  try dsimp only
  repeat' first
    | with_reducible assumption
    | with_reducible refine keeps_State_sendSlots _ _ ?_
    | with_reducible refine keeps_State_setPort _ _ ?_
    | with_reducible refine keeps_foldl ?_ ?_
    | (intro _ _ _; try dsimp only)

theorem keeps_execTime {b s : State} (a0) (a1) (a2) (a3) (a4) (h : Keeps b s) : KeepsR b (execTime a0 a1 a2 a3 a4 s) :=
      by
  unfold execTime
  try dsimp only
  repeat' first
    | with_reducible assumption
    | simp only [↓keeps_mk]
    | with_reducible refine keepsR_onlyIf ?_ ?_

theorem keeps_State_setQp {b s : State} (a1) (a2) (h : Keeps b s) : Keeps b (State.setQp s a1 a2) := by
  unfold State.setQp
  try dsimp only
  repeat' first
    | with_reducible assumption
    | simp only [↓keeps_mk]

theorem keeps_State_laneCount {b s : State} (a1) (a2) (h : Keeps b s) : Keeps b (State.laneCount s a1 a2) := by
  unfold State.laneCount
  try dsimp only
  repeat' first
    | with_reducible assumption
    | simp only [↓keeps_mk]
    | with_reducible refine keeps_State_raise _ ?_
    | split

theorem keeps_State_markPoison {b s : State} (a1) (h : Keeps b s) : Keeps b (State.markPoison s a1) := by
  unfold State.markPoison
  try dsimp only
  repeat' first
    | with_reducible assumption
    | simp only [↓keeps_mk]

theorem keeps_State_spoilLines {b s : State} (a1) (a2) (h : Keeps b s) : Keeps b (State.spoilLines s a1 a2) :=
  keeps_foldl h fun _ _ k => keeps_State_markPoison _ k

theorem keeps_State_hbmEvent {b s : State} (a1) (a2) (h : Keeps b s) : Keeps b (State.hbmEvent s a1 a2) := by
  unfold State.hbmEvent
  try dsimp only
  repeat' first
    | with_reducible assumption
    | with_reducible refine keeps_State_laneCount _ _ ?_
    | with_reducible refine keeps_State_raise _ ?_
    | with_reducible refine keeps_State_inc _ _ _ ?_
    | with_reducible refine keeps_State_markPoison _ ?_
    | split

theorem keeps_State_setPlot {b s : State} (a1) (a2) (h : Keeps b s) : Keeps b (State.setPlot s a1 a2) := by
  unfold State.setPlot
  try dsimp only
  repeat' first
    | with_reducible assumption
    | simp only [↓keeps_mk]

theorem keeps_State_storeEvent {b s : State} (a1) (a2) (a3) (h : Keeps b s) : Keeps b (State.storeEvent s a1 a2 a3) :=
      by
  unfold State.storeEvent
  try dsimp only
  repeat' first
    | with_reducible assumption
    | with_reducible refine keeps_State_setPlot _ _ ?_
    | split

theorem keeps_State_accessEvents {b s : State} (a1) (a2) (h : Keeps b s) : Keeps b (State.accessEvents s a1 a2) := by
  unfold State.accessEvents
  try dsimp only
  repeat' first
    | with_reducible assumption
    | with_reducible refine keeps_State_hbmEvent _ _ ?_
    | with_reducible refine keeps_State_storeEvent _ _ _ ?_
    | with_reducible refine keeps_foldl ?_ ?_
    | split
    | (intro _ _ _; try dsimp only)

theorem keeps_State_setAdrec {b s : State} (a1) (a2) (h : Keeps b s) : Keeps b (State.setAdrec s a1 a2) := by
  unfold State.setAdrec
  try dsimp only
  repeat' first
    | with_reducible assumption
    | simp only [↓keeps_mk]

theorem keeps_State_setReq {b s : State} (a1) (a2) (h : Keeps b s) : Keeps b (State.setReq s a1 a2) := by
  unfold State.setReq
  try dsimp only
  repeat' first
    | with_reducible assumption
    | simp only [↓keeps_mk]

theorem keeps_State_markEnd {b s : State} (a1) (a2) (h : Keeps b s) : Keeps b (State.markEnd s a1 a2) := by
  unfold State.markEnd
  try dsimp only
  repeat' first
    | with_reducible assumption
    | with_reducible refine keeps_State_setReq _ _ ?_
    | split

theorem keeps_State_failReq {b s : State} (a1) (a2) (a3) (h : Keeps b s) : Keeps b (State.failReq s a1 a2 a3) := by
  unfold State.failReq
  try dsimp only
  repeat' first
    | with_reducible assumption
    | with_reducible refine keeps_State_markEnd _ _ ?_
    | with_reducible refine keeps_State_raise _ ?_
    | split

theorem keeps_State_setObj {b s : State} (a1) (a2) (h : Keeps b s) : Keeps b (State.setObj s a1 a2) := by
  unfold State.setObj
  try dsimp only
  repeat' first
    | with_reducible assumption
    | simp only [↓keeps_mk]

theorem keeps_State_setPage {b s : State} (a1) (a2) (h : Keeps b s) : Keeps b (State.setPage s a1 a2) := by
  unfold State.setPage
  try dsimp only
  repeat' first
    | with_reducible assumption
    | simp only [↓keeps_mk]

theorem keeps_State_setTime {b s : State} (a1) (h : Keeps b s) : Keeps b (State.setTime s a1) := by
  unfold State.setTime
  try dsimp only
  repeat' first
    | with_reducible assumption
    | simp only [↓keeps_mk]

theorem keeps_State_paySlew {b s : State} (h : Keeps b s) : Keeps b (State.paySlew s) := by
  unfold State.paySlew
  try dsimp only
  repeat' first
    | with_reducible assumption
    | simp only [↓keeps_mk]
    | with_reducible refine keeps_State_setTime _ ?_

theorem keeps_State_oweOver {b s : State} (a1) (a2) (h : Keeps b s) : Keeps b (State.oweOver s a1 a2) := by
  unfold State.oweOver
  try dsimp only
  repeat' first
    | with_reducible assumption
    | simp only [↓keeps_mk]

theorem keeps_State_advance {b s : State} (h : Keeps b s) : Keeps b (State.advance s) := by
  unfold State.advance
  try dsimp only
  repeat' first
    | with_reducible assumption
    | simp only [↓keeps_mk]
    | with_reducible refine keeps_State_paySlew ?_
    | with_reducible refine keeps_State_oweOver _ _ ?_
    | with_reducible refine keeps_State_setTime _ ?_
    | split

theorem keeps_State_allPortsDown {b s : State} (a1) (a2) (h : Keeps b s) : Keeps b (State.allPortsDown s a1 a2) := by
  unfold State.allPortsDown
  try dsimp only
  repeat' first
    | with_reducible assumption
    | with_reducible refine keeps_State_portDown _ _ _ ?_
    | with_reducible refine keeps_foldl ?_ ?_
    | (intro _ _ _; try dsimp only)

theorem keeps_State_setEnt {b s : State} (a1) (a2) (h : Keeps b s) : Keeps b (State.setEnt s a1 a2) := by
  unfold State.setEnt
  try dsimp only
  repeat' first
    | with_reducible assumption
    | simp only [↓keeps_mk]

theorem keeps_State_coldOpen {b s : State} (a1) (a2) (h : Keeps b s) : Keeps b (State.coldOpen s a1 a2) := by
  unfold State.coldOpen
  try dsimp only
  repeat' first
    | with_reducible assumption
    | simp only [↓keeps_mk]
    | with_reducible refine keeps_foldl ?_ ?_
    | split
    | (intro _ _ _; try dsimp only)

theorem keeps_State_devWrite {b s : State} (a1) (a2) (a3) (h : Keeps b s) : Keeps b (State.devWrite s a1 a2 a3) := by
  unfold State.devWrite
  try dsimp only
  repeat' first
    | with_reducible assumption
    | with_reducible refine keeps_State_setPlot _ _ ?_
    | with_reducible refine keeps_State_homeWrite _ _ ?_
    | split

theorem keeps_State_poisonSpan {b s : State} (a1) (a2) (a3) (h : Keeps b s) : Keeps b (State.poisonSpan s a1 a2 a3) :=
      by
  unfold State.poisonSpan
  try dsimp only
  repeat' first
    | with_reducible assumption
    | with_reducible refine keeps_State_setPlot _ _ ?_
    | with_reducible refine keeps_State_markPoison _ ?_
    | with_reducible refine keeps_foldl ?_ ?_
    | split
    | (intro _ _ _; try dsimp only)

theorem keeps_State_performStore {b s : State} (a1) (h : Keeps b s) : Keeps b (State.performStore s a1) := by
  unfold State.performStore
  try dsimp only
  repeat' first
    | with_reducible assumption
    | with_reducible refine keeps_State_setPlot _ _ ?_
    | with_reducible refine keeps_State_homeWrite _ _ ?_
    | split

theorem keeps_State_drain {b s : State} (a1) (a2) (h : Keeps b s) : Keeps b (State.drain s a1 a2) := by
  induction a2 generalizing s a1 with
  | zero => exact h
  | succ _ ih =>
    unfold State.drain
    try dsimp only
    repeat' first
      | with_reducible assumption
      | with_reducible apply ih
      | with_reducible refine keeps_State_performStore _ ?_

theorem keeps_State_drainAll {b s : State} (a1) (h : Keeps b s) : Keeps b (State.drainAll s a1) := by
  unfold State.drainAll
  try dsimp only
  repeat' first
    | with_reducible assumption
    | with_reducible refine keeps_State_drain _ _ ?_

theorem keeps_State_frameFrom {b s : State} (a1) (h : Keeps b s) : Keeps b (State.frameFrom s a1) := by
  unfold State.frameFrom
  try dsimp only
  repeat' first
    | with_reducible assumption
    | simp only [↓keeps_mk]

theorem keeps_State_badFrame {b s : State} (a1) (h : Keeps b s) : Keeps b (State.badFrame s a1) := by
  unfold State.badFrame
  try dsimp only
  repeat' first
    | with_reducible assumption
    | simp only [↓keeps_mk]
    | with_reducible refine keeps_State_frameFrom _ ?_
    | with_reducible refine keeps_State_raise _ ?_
    | split

theorem keeps_State_setTerr {b s : State} (a1) (a2) (h : Keeps b s) : Keeps b (State.setTerr s a1 a2) := by
  unfold State.setTerr
  try dsimp only
  repeat' first
    | with_reducible assumption
    | simp only [↓keeps_mk]

theorem keeps_State_notifyAll {b s : State} (a1) (h : Keeps b s) : Keeps b (State.notifyAll s a1) := by
  unfold State.notifyAll
  try dsimp only
  repeat' first
    | with_reducible assumption
    | with_reducible refine keeps_State_notify _ _ ?_
    | with_reducible refine keeps_foldl ?_ ?_
    | split
    | (intro _ _ _; try dsimp only)

theorem keeps_State_setPav {b s : State} (a1) (a2) (h : Keeps b s) : Keeps b (State.setPav s a1 a2) := by
  unfold State.setPav
  try dsimp only
  repeat' first
    | with_reducible assumption
    | simp only [↓keeps_mk]

theorem keeps_State_goDev {b s : State} (a1) (h : Keeps b s) : Keeps b (State.goDev s a1) := by
  unfold State.goDev
  try dsimp only
  repeat' first
    | with_reducible assumption
    | simp only [↓keeps_mk]
    | with_reducible refine keeps_State_notifyAll _ ?_
    | split

theorem keeps_State_setLatch {b s : State} (a1) (a2) (a3) (h : Keeps b s) : Keeps b (State.setLatch s a1 a2 a3) := by
  unfold State.setLatch
  try dsimp only
  repeat' first
    | with_reducible assumption
    | simp only [↓keeps_mk]

theorem keeps_State_dropLatch {b s : State} (a1) (a2) (h : Keeps b s) : Keeps b (State.dropLatch s a1 a2) := by
  unfold State.dropLatch
  try dsimp only
  repeat' first
    | with_reducible assumption
    | with_reducible refine keeps_State_setLatch _ _ _ ?_

theorem keeps_State_busRead {b s : State} (a1) (a2) (h : Keeps b s) : Keeps b (State.busRead s a1 a2).2 := by
  unfold State.busRead
  try dsimp only
  repeat' first
    | with_reducible assumption
    | with_reducible refine keeps_State_dropLatch _ _ ?_
    | with_reducible refine keeps_State_setLatch _ _ _ ?_
    | split

theorem keeps_State_chselWrite {b s : State} (a1) (a2) (a3) (h : Keeps b s) : Keeps b (State.chselWrite s a1 a2 a3) :=
      by
  unfold State.chselWrite
  try dsimp only
  repeat' first
    | with_reducible assumption
    | simp only [↓keeps_mk]
    | with_reducible refine keeps_State_dropLatch _ _ ?_
    | split

theorem keeps_State_clr {b s : State} (a1) (a2) (h : Keeps b s) : Keeps b (State.clr s a1 a2) := by
  unfold State.clr
  try dsimp only
  repeat' first
    | with_reducible assumption
    | with_reducible refine keeps_State_wr _ _ _ _ ?_

theorem keeps_State_incWrap {b s : State} (a1) (a2) (a3) (h : Keeps b s) : Keeps b (State.incWrap s a1 a2 a3) := by
  unfold State.incWrap
  try dsimp only
  repeat' first
    | with_reducible assumption
    | with_reducible refine keeps_State_wr _ _ _ _ ?_

theorem keeps_State_setWgt {b s : State} (a1) (a2) (h : Keeps b s) : Keeps b (State.setWgt s a1 a2) := by
  unfold State.setWgt
  try dsimp only
  repeat' first
    | with_reducible assumption
    | simp only [↓keeps_mk]

theorem keeps_State_stopSlew {b s : State} (h : Keeps b s) : Keeps b (State.stopSlew s) := by
  unfold State.stopSlew
  try dsimp only
  repeat' first
    | with_reducible assumption
    | simp only [↓keeps_mk]

theorem keeps_State_correct {b s : State} (a1) (h : Keeps b s) : Keeps b (State.correct s a1) := by
  unfold State.correct
  try dsimp only
  repeat' first
    | with_reducible assumption
    | simp only [↓keeps_mk]
    | with_reducible refine keeps_State_stopSlew ?_
    | with_reducible refine keeps_State_oweOver _ _ ?_
    | with_reducible refine keeps_State_raise _ ?_
    | with_reducible refine keeps_State_frameFrom _ ?_
    | with_reducible refine keeps_State_setTime _ ?_
    | split

theorem keeps_State_countLate {b s : State} (a1) (a2) (a3) (a4) (a5) (h : Keeps b s) : Keeps b (State.countLate s a1 a2
      a3 a4 a5) := by
  unfold State.countLate
  try dsimp only
  repeat' first
    | with_reducible assumption
    | with_reducible refine keeps_State_inc _ _ _ ?_
    | split

theorem keeps_State_setTc {b s : State} (a1) (a2) (a3) (h : Keeps b s) : Keeps b (State.setTc s a1 a2 a3) := by
  unfold State.setTc
  try dsimp only
  repeat' first
    | with_reducible assumption
    | simp only [↓keeps_mk]

theorem keeps_State_fieldWrite {b s : State} (a1) (a2) (a3) (a4) (a5) (h : Keeps b s) : Keeps b (State.fieldWrite s a1
      a2 a3 a4 a5) := by
  unfold State.fieldWrite
  try dsimp only
  repeat' first
    | with_reducible assumption
    | simp only [↓keeps_mk]
    | with_reducible refine keeps_State_setPlot _ _ ?_
    | with_reducible refine keeps_State_wr _ _ _ _ ?_
    | split

theorem keeps_State_goodLocked {b s : State} (a1) (h : Keeps b s) : Keeps b (State.goodLocked s a1) := by
  unfold State.goodLocked
  try dsimp only
  repeat' first
    | with_reducible assumption
    | simp only [↓keeps_mk]
    | with_reducible refine keeps_State_frameFrom _ ?_
    | with_reducible refine keeps_State_correct _ ?_
    | with_reducible refine keeps_State_inc _ _ _ ?_
    | split

theorem keeps_State_noteHops {b s : State} (a1) (h : Keeps b s) : Keeps b (State.noteHops s a1) := by
  unfold State.noteHops
  try dsimp only
  repeat' first
    | with_reducible assumption
    | with_reducible refine keeps_State_wr _ _ _ _ ?_

theorem keeps_State_oweCad {b s : State} (a1) (a2) (h : Keeps b s) : Keeps b (State.oweCad s a1 a2) := by
  unfold State.oweCad
  try dsimp only
  repeat' first
    | with_reducible assumption
    | simp only [↓keeps_mk]

theorem keeps_State_shiftEvents {b s : State} (a1) (h : Keeps b s) : Keeps b (State.shiftEvents s a1) := by
  unfold State.shiftEvents
  try dsimp only
  repeat' first
    | with_reducible assumption
    | simp only [↓keeps_mk]

theorem keeps_State_lock {b s : State} (a1) (h : Keeps b s) : Keeps b (State.lock s a1) := by
  unfold State.lock
  try dsimp only
  repeat' first
    | with_reducible assumption
    | simp only [↓keeps_mk]
    | with_reducible refine keeps_State_frameFrom _ ?_
    | with_reducible refine keeps_State_correct _ ?_
    | with_reducible refine keeps_State_setTime _ ?_
    | with_reducible refine keeps_State_oweCad _ _ ?_
    | with_reducible refine keeps_State_shiftEvents _ ?_
    | split

theorem keeps_State_goodUnlocked {b s : State} (a1) (h : Keeps b s) : Keeps b (State.goodUnlocked s a1) := by
  unfold State.goodUnlocked
  try dsimp only
  repeat' first
    | with_reducible assumption
    | simp only [↓keeps_mk]
    | with_reducible refine keeps_State_lock _ ?_
    | split

theorem keeps_State_goodEnd {b s : State} (a1) (h : Keeps b s) : Keeps b (State.goodEnd s a1) := by
  unfold State.goodEnd
  try dsimp only
  repeat' first
    | with_reducible assumption
    | with_reducible refine keeps_State_goodLocked _ ?_
    | with_reducible refine keeps_State_noteHops _ ?_
    | with_reducible refine keeps_State_goodUnlocked _ ?_
    | split

theorem keeps_State_hbmEvents {b s : State} (a1) (h : Keeps b s) : Keeps b (State.hbmEvents s a1) := by
  unfold State.hbmEvents
  try dsimp only
  repeat' first
    | with_reducible assumption
    | with_reducible refine keeps_State_hbmEvent _ _ ?_
    | with_reducible refine keeps_foldl ?_ ?_
    | split
    | (intro _ _ _; try dsimp only)

theorem keeps_State_symTick {b s : State} (a1) (a2) (a3) (h : Keeps b s) : Keeps b (State.symTick s a1 a2 a3) := by
  unfold State.symTick
  try dsimp only
  repeat' first
    | with_reducible assumption
    | simp only [↓keeps_mk]
    | with_reducible refine keeps_State_advance ?_
    | with_reducible refine keeps_foldl ?_ ?_
    | split
    | (intro _ _ _; try dsimp only)

theorem keeps_State_idle {b s : State} (h : Keeps b s) : Keeps b (State.idle s) := by
  unfold State.idle
  try dsimp only
  repeat' first
    | with_reducible assumption
    | simp only [↓keeps_mk]
    | with_reducible refine keeps_State_symTick _ _ _ ?_
    | with_reducible refine keeps_State_advance ?_
    | with_reducible refine keeps_State_paySlew ?_
    | split

theorem keeps_State_setMsixWord {b s : State} (a1) (a2) (h : Keeps b s) : Keeps b (State.setMsixWord s a1 a2) := by
  unfold State.setMsixWord
  try dsimp only
  repeat' first
    | with_reducible assumption
    | simp only [↓keeps_mk]

theorem keeps_State_unmask {b s : State} (a1) (a2) (h : Keeps b s) : Keeps b (State.unmask s a1 a2) := by
  unfold State.unmask
  try dsimp only
  repeat' first
    | with_reducible assumption
    | simp only [↓keeps_mk]
    | with_reducible refine keeps_State_setMsixWord _ _ ?_
    | with_reducible refine keeps_State_fire _ _ ?_
    | split

theorem keeps_State_msixWrite {b s : State} (a1) (a2) (a3) (h : Keeps b s) : Keeps b (State.msixWrite s a1 a2 a3) := by
  unfold State.msixWrite
  try dsimp only
  repeat' first
    | with_reducible assumption
    | with_reducible refine keeps_State_setMsixWord _ _ ?_
    | with_reducible refine keeps_State_unmask _ _ ?_
    | split

theorem keeps_State_own {b s : State} (a1) (a2) (a3) (a4) (a5) (h5 : ∀ x0 t, Keeps b t → Keeps b (a5 x0 t)) (h : Keeps b
      s) : Keeps b (State.own s a1 a2 a3 a4 a5) := by
  unfold State.own
  try dsimp only
  repeat' first
    | with_reducible assumption
    | with_reducible refine h5 _ _ ?_
    | with_reducible refine keeps_State_dropLatch _ _ ?_
    | split

theorem keeps_State_wordWrite {b s : State} (a1) (a2) (a3) (a4) (h : Keeps b s) : Keeps b (State.wordWrite s a1 a2 a3
      a4) := by
  unfold State.wordWrite
  try dsimp only
  repeat' first
    | with_reducible assumption
    | with_reducible refine keeps_State_fieldWrite _ _ _ _ _ ?_
    | with_reducible refine keeps_State_wr _ _ _ _ ?_
    | with_reducible refine keeps_foldl ?_ ?_
    | split
    | (intro _ _ _; try dsimp only)

theorem keeps_State_ringWrite {b s : State} (a1) (a2) (a3) (h : Keeps b s) : Keeps b (State.ringWrite s a1 a2 a3) := by
  unfold State.ringWrite
  try dsimp only
  repeat' first
    | with_reducible assumption
    | with_reducible refine keeps_State_setQp _ _ ?_
    | split

theorem keeps_State_write32 {b s : State} (a1) (a2) (a3) (h : Keeps b s) : Keeps b (State.write32 s a1 a2 a3) := by
  unfold State.write32
  try dsimp only
  repeat' first
    | with_reducible assumption
    | with_reducible refine keeps_State_wordWrite _ _ _ _ ?_
    | with_reducible refine keeps_State_msixWrite _ _ _ ?_
    | with_reducible refine keeps_State_ringWrite _ _ _ ?_
    | split

theorem keeps_State_regWrite {b s : State} (a1) (a2) (a3) (a4) (h : Keeps b s) : Keeps b (State.regWrite s a1 a2 a3 a4)
      := by
  unfold State.regWrite
  try dsimp only
  repeat' first
    | with_reducible assumption
    | with_reducible refine keeps_State_dropLatch _ _ ?_
    | with_reducible refine keeps_State_countLate _ _ _ _ _ ?_
    | with_reducible refine keeps_State_write32 _ _ _ ?_
    | split

theorem keeps_State_sendTime {b s : State} (a1) (a2) (a3) (h : Keeps b s) : Keeps b (State.sendTime s a1 a2 a3) := by
  unfold State.sendTime
  try dsimp only
  repeat' first
    | with_reducible assumption
    | with_reducible refine keeps_State_sendSym _ _ _ ?_
    | split

theorem keeps_execRegisterWrite {b s : State} (a0) (a1) (a2) (a3) (h : Keeps b s) : KeepsR b (execRegisterWrite a0 a1 a2
      a3 s) := by
  unfold execRegisterWrite
  try dsimp only
  repeat' first
    | with_reducible assumption
    | with_reducible refine keepsR_next ?_
    | with_reducible refine keeps_State_regWrite _ _ _ _ ?_

theorem keeps_execChselWrite {b s : State} (a0) (a1) (a2) (h : Keeps b s) : KeepsR b (execChselWrite a0 a1 a2 s) := by
  unfold execChselWrite
  try dsimp only
  repeat' first
    | with_reducible assumption
    | with_reducible refine keepsR_next ?_
    | with_reducible refine keeps_State_chselWrite _ _ _ ?_

theorem keeps_execSundialReceiverEnable {b s : State} (h : Keeps b s) : KeepsR b (execSundialReceiverEnable s) := by
  unfold execSundialReceiverEnable
  try dsimp only
  repeat' first
    | with_reducible assumption
    | simp only [↓keeps_mk]
    | with_reducible refine keepsR_onlyIf ?_ ?_

theorem keeps_execSundialFrameEnd {b s : State} (h : Keeps b s) : KeepsR b (execSundialFrameEnd s) := by
  unfold execSundialFrameEnd
  try dsimp only
  repeat' first
    | with_reducible assumption
    | with_reducible refine keepsR_next ?_
    | with_reducible refine keeps_State_goodEnd _ ?_
    | with_reducible refine keeps_State_frameFrom _ ?_
    | with_reducible refine keeps_State_badFrame _ ?_
    | split

theorem keeps_execSlewComplete {b s : State} (h : Keeps b s) : KeepsR b (execSlewComplete s) := by
  unfold execSlewComplete
  try dsimp only
  repeat' first
    | with_reducible assumption
    | with_reducible refine keeps_State_stopSlew ?_
    | with_reducible refine keepsR_onlyIf ?_ ?_

theorem keeps_execHoldover {b s : State} (h : Keeps b s) : KeepsR b (execHoldover s) := by
  unfold execHoldover
  try dsimp only
  repeat' first
    | with_reducible assumption
    | simp only [↓keeps_mk]
    | with_reducible refine keeps_State_raise _ ?_
    | with_reducible refine keepsR_onlyIf ?_ ?_

theorem keeps_execSundialLost {b s : State} (h : Keeps b s) : KeepsR b (execSundialLost s) := by
  unfold execSundialLost
  try dsimp only
  repeat' first
    | with_reducible assumption
    | simp only [↓keeps_mk]
    | with_reducible refine keeps_State_raise _ ?_
    | with_reducible refine keeps_State_abortBroadcast ?_
    | with_reducible refine keepsR_onlyIf ?_ ?_

theorem keeps_execTimeForward {b s : State} (h : Keeps b s) : KeepsR b (execTimeForward s) := by
  unfold execTimeForward
  try dsimp only
  repeat' first
    | with_reducible assumption
    | simp only [↓keeps_mk]
    | with_reducible refine keeps_State_sendTime _ _ _ ?_
    | with_reducible refine keeps_State_tickFree ?_
    | with_reducible refine keepsR_onlyIf ?_ ?_
    | with_reducible refine keeps_foldl ?_ ?_
    | (intro _ _ _; try dsimp only)

theorem keeps_execTimeFrameMissing {b s : State} (a0) (h : Keeps b s) : KeepsR b (execTimeFrameMissing a0 s) := by
  unfold execTimeFrameMissing
  try dsimp only
  repeat' first
    | with_reducible assumption
    | simp only [↓keeps_mk]
    | with_reducible refine keepsR_next ?_
    | split

theorem keeps_execPlotCtlStatClr {b s : State} (a0) (h : Keeps b s) : KeepsR b (execPlotCtlStatClr a0 s) := by
  unfold execPlotCtlStatClr
  try dsimp only
  repeat' first
    | with_reducible assumption
    | with_reducible refine keepsR_next ?_
    | with_reducible refine keeps_State_own _ _ _ _ _ ?_ ?_
    | with_reducible refine keeps_State_clr _ _ ?_
    | with_reducible refine keeps_foldl ?_ ?_
    | (intro _ _ _; try dsimp only)

theorem keeps_execSelCtlClear {b s : State} (a0) (h : Keeps b s) : KeepsR b (execSelCtlClear a0 s) := by
  unfold execSelCtlClear
  try dsimp only
  repeat' first
    | with_reducible assumption
    | with_reducible refine keepsR_next ?_
    | with_reducible refine keeps_State_own _ _ _ _ _ ?_ ?_
    | with_reducible refine keeps_State_clr _ _ ?_
    | (intro _ _ _; try dsimp only)

theorem keeps_execDevCtlRouteTieClr {b s : State} (a0) (h : Keeps b s) : KeepsR b (execDevCtlRouteTieClr a0 s) := by
  unfold execDevCtlRouteTieClr
  try dsimp only
  repeat' first
    | with_reducible assumption
    | with_reducible refine keepsR_next ?_
    | with_reducible refine keeps_State_own _ _ _ _ _ ?_ ?_
    | with_reducible refine keeps_State_clr _ _ ?_
    | (intro _ _ _; try dsimp only)

theorem keeps_execDirCtlClearTieCount {b s : State} (a0) (h : Keeps b s) : KeepsR b (execDirCtlClearTieCount a0 s) := by
  unfold execDirCtlClearTieCount
  try dsimp only
  repeat' first
    | with_reducible assumption
    | with_reducible refine keepsR_next ?_
    | with_reducible refine keeps_State_own _ _ _ _ _ ?_ ?_
    | with_reducible refine keeps_State_clr _ _ ?_
    | (intro _ _ _; try dsimp only)

theorem keeps_execDirCtlClearColdReads {b s : State} (a0) (h : Keeps b s) : KeepsR b (execDirCtlClearColdReads a0 s) :=
      by
  unfold execDirCtlClearColdReads
  try dsimp only
  repeat' first
    | with_reducible assumption
    | with_reducible refine keepsR_next ?_
    | with_reducible refine keeps_State_own _ _ _ _ _ ?_ ?_
    | with_reducible refine keeps_State_clr _ _ ?_
    | (intro _ _ _; try dsimp only)

theorem keeps_execDirCtlClearSatCount {b s : State} (a0) (h : Keeps b s) : KeepsR b (execDirCtlClearSatCount a0 s) := by
  unfold execDirCtlClearSatCount
  try dsimp only
  repeat' first
    | with_reducible assumption
    | with_reducible refine keepsR_next ?_
    | with_reducible refine keeps_State_own _ _ _ _ _ ?_ ?_
    | with_reducible refine keeps_State_clr _ _ ?_
    | (intro _ _ _; try dsimp only)

theorem keeps_execSundialEdge {b s : State} (a0) (a1) (a2) (h : Keeps b s) : KeepsR b (execSundialEdge a0 a1 a2 s) := by
  unfold execSundialEdge
  try dsimp only
  repeat' first
    | with_reducible assumption
    | with_reducible refine keeps_State_symTick _ _ _ ?_
    | with_reducible refine keepsR_onlyIf ?_ ?_

theorem keeps_execLowHalfRead {b s : State} (a0) (a1) (h : Keeps b s) : KeepsR b (execLowHalfRead a0 a1 s) := by
  unfold execLowHalfRead
  try dsimp only
  repeat' first
    | with_reducible assumption
    | with_reducible refine keepsR_next ?_
    | with_reducible refine keeps_State_emit _ ?_
    | with_reducible refine keeps_State_busRead _ _ ?_
    | split

end Sys2Proof.Laws
end

