-- ==== Sys2Proof/Laws/KeepsPlots.lean ====
section
/-! SUPPORT. Each operation on plots, the Trellis and macro-ops keeps what every command keeps. -/
namespace Sys2Proof.Laws
open Sys2Proof Sys2Proof.Machine

theorem keeps_State_advanceGens {b s : State} (a1) (h : Keeps b s) : Keeps b (State.advanceGens s a1) := by
  unfold State.advanceGens
  try dsimp only
  repeat' first
    | with_reducible assumption
    | with_reducible refine keeps_State_setPlot _ _ ?_

theorem keeps_State_failRows {b s : State} (a1) (a2) (a3) (h : Keeps b s) : Keeps b (State.failRows s a1 a2 a3) := by
  unfold State.failRows
  try dsimp only
  repeat' first
    | with_reducible assumption
    | with_reducible refine keeps_State_failReq _ _ _ ?_
    | with_reducible refine keeps_State_setReq _ _ ?_
    | with_reducible refine keeps_foldl ?_ ?_
    | split
    | (intro _ _ _; try dsimp only)

theorem keeps_State_loseRows {b s : State} (a1) (a2) (a3) (a4) (h : Keeps b s) : Keeps b (State.loseRows s a1 a2 a3 a4)
      := by
  unfold State.loseRows
  try dsimp only
  repeat' first
    | with_reducible assumption
    | with_reducible refine keeps_State_failRows _ _ _ ?_
    | with_reducible refine keeps_State_poisonSpan _ _ _ ?_
    | with_reducible refine keeps_foldl ?_ ?_
    | (intro _ _ _; try dsimp only)

theorem keeps_State_applyTile {b s : State} (a1) (a2) (h : Keeps b s) : Keeps b (State.applyTile s a1 a2) := by
  unfold State.applyTile
  try dsimp only
  repeat' first
    | with_reducible assumption
    | with_reducible refine keeps_State_coldOpen _ _ ?_
    | with_reducible refine keeps_State_devWrite _ _ _ ?_
    | with_reducible refine keeps_State_inc _ _ _ ?_
    | with_reducible refine keeps_State_setPlot _ _ ?_
    | with_reducible refine keeps_State_loseRows _ _ _ _ ?_
    | with_reducible refine keeps_foldl ?_ ?_
    | split
    | (intro _ _ _; try dsimp only)

theorem keeps_State_arrive {b s : State} (a1) (h : Keeps b s) : Keeps b (State.arrive s a1) := by
  unfold State.arrive
  try dsimp only
  repeat' first
    | with_reducible assumption
    | simp only [↓keeps_mk]
    | with_reducible refine keeps_State_setPlot _ _ ?_
    | split

theorem keeps_State_trap {b s : State} (a1) (a2) (a3) (h : Keeps b s) : Keeps b (State.trap s a1 a2 a3) := by
  unfold State.trap
  try dsimp only
  repeat' first
    | with_reducible assumption
    | with_reducible refine keeps_State_raise _ ?_
    | with_reducible refine keeps_State_setPlot _ _ ?_
    | split

theorem keeps_State_consumed {b s : State} (a1) (a2) (a3) (h : Keeps b s) : Keeps b (State.consumed s a1 a2 a3) := by
  unfold State.consumed
  try dsimp only
  repeat' first
    | with_reducible assumption
    | with_reducible refine keeps_State_raise _ ?_
    | with_reducible refine keeps_State_trap _ _ _ ?_

theorem keeps_State_insnDone {b s : State} (a1) (a2) (a3) (a4) (h : Keeps b s) : Keeps b (State.insnDone s a1 a2 a3 a4)
      := by
  unfold State.insnDone
  try dsimp only
  repeat' first
    | with_reducible assumption
    | with_reducible refine keeps_State_setPlot _ _ ?_

theorem keeps_State_atomic {b s : State} (a1) (a2) (a3) (a4) (a5) (a6) (h : Keeps b s) : Keeps b (State.atomic s a1 a2
      a3 a4 a5 a6) := by
  unfold State.atomic
  try dsimp only
  repeat' first
    | with_reducible assumption
    | with_reducible refine keeps_State_trap _ _ _ ?_
    | with_reducible refine keeps_State_hbmEvent _ _ ?_
    | with_reducible refine keeps_State_drainAll _ ?_
    | with_reducible refine keeps_State_consumed _ _ _ ?_
    | with_reducible refine keeps_State_insnDone _ _ _ _ ?_
    | with_reducible refine keeps_State_homeWrite _ _ ?_
    | split

theorem keeps_State_atomicCmd {b s : State} (a1) (a2) (a3) (a4) (a5) (a6) (h : Keeps b s) : KeepsR b (State.atomicCmd s
      a1 a2 a3 a4 a5 a6) := by
  unfold State.atomicCmd
  try dsimp only
  repeat' first
    | with_reducible assumption
    | with_reducible refine keeps_State_atomic _ _ _ _ _ _ ?_
    | with_reducible refine keepsR_onlyIf ?_ ?_

theorem keeps_State_custom {b s : State} (a1) (a2) (a3) (a4) (a5) (a6) (a7) (h7 : ∀ x0 x1, Keeps b (a7 x0 x1)) (h :
      Keeps b s) : KeepsR b (State.custom s a1 a2 a3 a4 a5 a6 a7) := by
  unfold State.custom
  try dsimp only
  repeat' first
    | with_reducible assumption
    | with_reducible refine keepsR_next ?_
    | with_reducible refine h7 _ _ 
    | with_reducible refine keeps_State_trap _ _ _ ?_
    | split

theorem keeps_State_draw {b s : State} (a1) (a2) (h : Keeps b s) : Keeps b (State.draw s a1 a2).2 := by
  unfold State.draw
  try dsimp only
  repeat' first
    | with_reducible assumption
    | with_reducible refine keeps_State_setTc _ _ _ ?_
    | split

theorem keeps_State_drawAhead {b s : State} (a1) (a2) (h : Keeps b s) : Keeps b (State.drawAhead s a1 a2).2 := by
  unfold State.drawAhead
  try dsimp only
  repeat' first
    | with_reducible assumption
    | with_reducible refine keeps_State_draw _ _ ?_
    | split

theorem keeps_State_dropReissue {b s : State} (a1) (a2) (h : Keeps b s) : Keeps b (State.dropReissue s a1 a2) := by
  unfold State.dropReissue
  try dsimp only
  repeat' first
    | with_reducible assumption
    | with_reducible refine keeps_State_setPav _ _ ?_

theorem keeps_State_setRun {b s : State} (a1) (a2) (h : Keeps b s) : Keeps b (State.setRun s a1 a2) := by
  unfold State.setRun
  try dsimp only
  repeat' first
    | with_reducible assumption
    | with_reducible refine keeps_State_setPlot _ _ ?_

theorem keeps_State_faultRun {b s : State} (a1) (a2) (h : Keeps b s) : Keeps b (State.faultRun s a1 a2) := by
  unfold State.faultRun
  try dsimp only
  repeat' first
    | with_reducible assumption
    | with_reducible refine keeps_State_setRun _ _ ?_
    | split

theorem keeps_State_haloPair {b s : State} (a1) (a2) (h : Keeps b s) : Keeps b (State.haloPair s a1 a2) := by
  unfold State.haloPair
  try dsimp only
  repeat' first
    | with_reducible assumption
    | with_reducible refine keeps_State_setRun _ _ ?_
    | with_reducible refine keeps_State_faultRun _ _ ?_
    | split

theorem keeps_State_haloStep {b s : State} (a1) (a2) (h : Keeps b s) : Keeps b (State.haloStep s a1 a2) := by
  unfold State.haloStep
  try dsimp only
  repeat' first
    | with_reducible assumption
    | with_reducible refine keeps_State_faultRun _ _ ?_
    | with_reducible refine keeps_State_setRun _ _ ?_
    | with_reducible refine keeps_State_haloPair _ _ ?_
    | split

theorem keeps_State_runTile {b s : State} (a1) (a2) (a3) (h : Keeps b s) : Keeps b (State.runTile s a1 a2 a3) := by
  unfold State.runTile
  try dsimp only
  repeat' first
    | with_reducible assumption
    | with_reducible refine keeps_State_drawAhead _ _ ?_
    | with_reducible refine keeps_State_applyTile _ _ ?_
    | with_reducible refine keeps_State_inc _ _ _ ?_
    | with_reducible refine keeps_State_setRun _ _ ?_
    | split

theorem keeps_State_sharedTile {b s : State} (a1) (a2) (h : Keeps b s) : Keeps b (State.sharedTile s a1 a2) := by
  unfold State.sharedTile
  try dsimp only
  repeat' first
    | with_reducible assumption
    | with_reducible refine keeps_State_runTile _ _ _ ?_
    | with_reducible refine keeps_State_setRun _ _ ?_
    | refine keepsP_of (by with_reducible assumption) (keeps_State_draw _ _ ?_)
    | split

theorem keeps_State_walk {b s : State} (a1) (a2) (h : Keeps b s) : Keeps b (State.walk s a1 a2) := by
  induction a2 generalizing s a1 with
  | zero => exact h
  | succ _ ih =>
    unfold State.walk
    try dsimp only
    repeat' first
      | with_reducible assumption
      | with_reducible apply ih
      | with_reducible refine keeps_State_sharedTile _ _ ?_
      | with_reducible refine keeps_State_runTile _ _ _ ?_
      | with_reducible refine keeps_State_setRun _ _ ?_
      | split

theorem keeps_State_goOn {b s : State} (a1) (a2) (h : Keeps b s) : Keeps b (State.goOn s a1 a2) := by
  unfold State.goOn
  try dsimp only
  repeat' first
    | with_reducible assumption
    | with_reducible refine keeps_State_haloStep _ _ ?_
    | with_reducible refine keeps_State_walk _ _ ?_
    | split

theorem keeps_State_haloEnd {b s : State} (a1) (a2) (a3) (h : Keeps b s) : Keeps b (State.haloEnd s a1 a2 a3) := by
  unfold State.haloEnd
  try dsimp only
  repeat' first
    | with_reducible assumption
    | with_reducible refine keeps_State_insnDone _ _ _ _ ?_
    | with_reducible refine keeps_State_setPlot _ _ ?_

theorem keeps_State_haloTrap {b s : State} (a1) (a2) (a3) (h : Keeps b s) : Keeps b (State.haloTrap s a1 a2 a3) := by
  unfold State.haloTrap
  try dsimp only
  repeat' first
    | with_reducible assumption
    | with_reducible refine keeps_State_trap _ _ _ ?_
    | with_reducible refine keeps_State_setPlot _ _ ?_

theorem keeps_State_injDone {b s : State} (a1) (h : Keeps b s) : Keeps b (State.injDone s a1) := by
  unfold State.injDone
  try dsimp only
  repeat' first
    | with_reducible assumption
    | with_reducible refine keeps_State_advanceGens _ ?_
    | with_reducible refine keeps_State_raise _ ?_
    | with_reducible refine keeps_State_dropReissue _ _ ?_
    | split

theorem keeps_State_reissue {b s : State} (a1) (a2) (a3) (a4) (h : Keeps b s) : Keeps b (State.reissue s a1 a2 a3 a4) :=
      by
  unfold State.reissue
  try dsimp only
  repeat' first
    | with_reducible assumption
    | with_reducible refine keeps_State_loseRows _ _ _ _ ?_
    | with_reducible refine keeps_State_setPlot _ _ ?_
    | with_reducible refine keeps_State_setPav _ _ ?_
    | split

theorem keeps_State_markFaulted {b s : State} (a1) (a2) (h : Keeps b s) : Keeps b (State.markFaulted s a1 a2) := by
  unfold State.markFaulted
  try dsimp only
  repeat' first
    | with_reducible assumption
    | with_reducible refine keeps_State_setPlot _ _ ?_

theorem keeps_State_injFault {b s : State} (a1) (a2) (a3) (h : Keeps b s) : Keeps b (State.injFault s a1 a2 a3) := by
  unfold State.injFault
  try dsimp only
  repeat' first
    | with_reducible assumption
    | with_reducible refine keeps_State_emit _ ?_
    | with_reducible refine keeps_State_loseRows _ _ _ _ ?_
    | with_reducible refine keeps_State_dropReissue _ _ ?_
    | with_reducible refine keeps_State_reissue _ _ _ _ ?_
    | with_reducible refine keeps_State_markFaulted _ _ ?_
    | split

theorem keeps_State_inject {b s : State} (a1) (h : Keeps b s) : Keeps b (State.inject s a1) := by
  unfold State.inject
  try dsimp only
  repeat' first
    | with_reducible assumption
    | simp only [↓keeps_mk]
    | with_reducible refine keeps_State_setPlot _ _ ?_

theorem keeps_State_insnNext {b s : State} (a1) (a2) (h : Keeps b s) : Keeps b (State.insnNext s a1 a2) := by
  unfold State.insnNext
  try dsimp only
  repeat' first
    | with_reducible assumption
    | with_reducible refine keeps_State_insnDone _ _ _ _ ?_

theorem keeps_State_popOp {b s : State} (a1) (h : Keeps b s) : Keeps b (State.popOp s a1) := by
  unfold State.popOp
  try dsimp only
  repeat' first
    | with_reducible assumption
    | with_reducible refine keeps_State_setPlot _ _ ?_

theorem keeps_State_recordFault {b s : State} (a1) (a2) (h : Keeps b s) : Keeps b (State.recordFault s a1 a2) := by
  unfold State.recordFault
  try dsimp only
  repeat' first
    | with_reducible assumption
    | with_reducible refine keeps_State_setPlot _ _ ?_

theorem keeps_State_overflowed {b s : State} (a1) (a2) (h : Keeps b s) : Keeps b (State.overflowed s a1 a2) := by
  unfold State.overflowed
  try dsimp only
  repeat' first
    | with_reducible assumption
    | with_reducible refine keeps_State_loseRows _ _ _ _ ?_
    | split

theorem keeps_State_startOp {b s : State} (a1) (a2) (h : Keeps b s) : Keeps b (State.startOp s a1 a2) := by
  unfold State.startOp
  try dsimp only
  repeat' first
    | with_reducible assumption
    | with_reducible refine keeps_State_setPlot _ _ ?_

theorem keeps_State_issueStats {b s : State} (a1) (h : Keeps b s) : Keeps b (State.issueStats s a1) := by
  unfold State.issueStats
  try dsimp only
  repeat' first
    | with_reducible assumption
    | with_reducible refine keeps_State_inc _ _ _ ?_
    | split

theorem keeps_State_issue {b s : State} (a1) (a2) (h : Keeps b s) : Keeps b (State.issue s a1 a2) := by
  unfold State.issue
  try dsimp only
  repeat' first
    | with_reducible assumption
    | with_reducible refine keeps_State_popOp _ ?_
    | with_reducible refine keeps_State_recordFault _ _ ?_
    | with_reducible refine keeps_State_overflowed _ _ ?_
    | with_reducible refine keeps_State_startOp _ _ ?_
    | with_reducible refine keeps_State_issueStats _ ?_
    | split

theorem keeps_State_loadProgram {b s : State} (a1) (h : Keeps b s) : Keeps b (State.loadProgram s a1) := by
  unfold State.loadProgram
  try dsimp only
  repeat' first
    | with_reducible assumption
    | with_reducible refine keeps_State_setPlot _ _ ?_

theorem keeps_State_loadStore {b s : State} (a1) (a2) (a3) (a4) (a5) (a6) (h : Keeps b s) : Keeps b (State.loadStore s
      a1 a2 a3 a4 a5 a6) := by
  unfold State.loadStore
  try dsimp only
  repeat' first
    | with_reducible assumption
    | with_reducible refine keeps_State_storeEvent _ _ _ ?_
    | with_reducible refine keeps_State_drain _ _ ?_
    | with_reducible refine keeps_State_tickFree ?_
    | with_reducible refine keeps_State_insnDone _ _ _ _ ?_
    | with_reducible refine keeps_State_raise _ ?_
    | with_reducible refine keeps_State_trap _ _ _ ?_
    | with_reducible refine keeps_State_setPlot _ _ ?_
    | split

theorem keeps_State_loadWindow {b s : State} (a1) (a2) (a3) (a4) (a5) (a6) (h : Keeps b s) : Keeps b (State.loadWindow s
      a1 a2 a3 a4 a5 a6) := by
  unfold State.loadWindow
  try dsimp only
  repeat' first
    | with_reducible assumption
    | with_reducible refine keeps_State_trap _ _ _ ?_
    | with_reducible refine keeps_State_coldOpen _ _ ?_
    | with_reducible refine keeps_State_drain _ _ ?_
    | with_reducible refine keeps_State_insnDone _ _ _ _ ?_
    | with_reducible refine keeps_State_hbmEvent _ _ ?_
    | with_reducible refine keeps_State_consumed _ _ _ ?_
    | split

theorem keeps_State_macroOp {b s : State} (a1) (a2) (a3) (a4) (h : Keeps b s) : Keeps b (State.macroOp s a1 a2 a3 a4) :=
      by
  unfold State.macroOp
  try dsimp only
  repeat' first
    | with_reducible assumption
    | with_reducible refine keeps_State_goOn _ _ ?_
    | with_reducible refine keeps_State_accessEvents _ _ ?_
    | with_reducible refine keeps_State_popOp _ ?_
    | with_reducible refine keeps_State_issue _ _ ?_
    | with_reducible refine keeps_State_drain _ _ ?_
    | split

theorem keeps_State_passBarrier {b s : State} (a1) (h : Keeps b s) : Keeps b (State.passBarrier s a1) := by
  unfold State.passBarrier
  try dsimp only
  repeat' first
    | with_reducible assumption
    | with_reducible refine keeps_State_setPlot _ _ ?_
    | split

theorem keeps_State_reach {b s : State} (a1) (a2) (h : Keeps b s) : Keeps b (State.reach s a1 a2) := by
  unfold State.reach
  try dsimp only
  repeat' first
    | with_reducible assumption
    | with_reducible refine keeps_State_issue _ _ ?_
    | with_reducible refine keeps_State_setPlot _ _ ?_
    | split

theorem keeps_State_startPav {b s : State} (a1) (h : Keeps b s) : Keeps b (State.startPav s a1).2 := by
  unfold State.startPav
  try dsimp only
  repeat' first
    | with_reducible assumption
    | with_reducible refine keeps_State_tickFree ?_
    | split

theorem keeps_State_startPlot {b s : State} (a1) (h : Keeps b s) : Keeps b (State.startPlot s a1) := by
  unfold State.startPlot
  try dsimp only
  repeat' first
    | with_reducible assumption
    | with_reducible refine keeps_State_startPav _ ?_
    | with_reducible refine keeps_State_setPlot _ _ ?_

theorem keeps_State_stepMemAddr {b s : State} (a1) (h : Keeps b s) : Keeps b (State.stepMemAddr s a1) := by
  unfold State.stepMemAddr
  try dsimp only
  repeat' first
    | with_reducible assumption
    | with_reducible refine keeps_State_wr _ _ _ _ ?_

theorem keeps_State_storeStore {b s : State} (a1) (a2) (a3) (a4) (h : Keeps b s) : Keeps b (State.storeStore s a1 a2 a3
      a4) := by
  unfold State.storeStore
  try dsimp only
  repeat' first
    | with_reducible assumption
    | with_reducible refine keeps_State_tickFree ?_
    | with_reducible refine keeps_State_insnNext _ _ ?_
    | with_reducible refine keeps_State_setPlot _ _ ?_
    | split

theorem keeps_State_storeWindow {b s : State} (a1) (a2) (a3) (h : Keeps b s) : Keeps b (State.storeWindow s a1 a2 a3) :=
      by
  unfold State.storeWindow
  try dsimp only
  repeat' first
    | with_reducible assumption
    | with_reducible refine keeps_State_trap _ _ _ ?_
    | with_reducible refine keeps_State_insnNext _ _ ?_
    | with_reducible refine keeps_State_setPlot _ _ ?_
    | split

theorem keeps_State_tryBarrier {b s : State} (a1) (h : Keeps b s) : Keeps b (State.tryBarrier s a1) := by
  unfold State.tryBarrier
  try dsimp only
  repeat' first
    | with_reducible assumption
    | with_reducible refine keeps_State_passBarrier _ ?_
    | with_reducible refine keeps_foldl ?_ ?_
    | split
    | (intro _ _ _; try dsimp only)

theorem keeps_execMsgSend {b s : State} (a0) (a1) (h : Keeps b s) : KeepsR b (execMsgSend a0 a1 s) := by
  unfold execMsgSend
  try dsimp only
  repeat' first
    | with_reducible assumption
    | with_reducible refine keeps_State_custom _ _ _ _ _ _ _ ?_ ?_
    | with_reducible refine keeps_State_trap _ _ _ ?_
    | with_reducible refine keeps_State_insnDone _ _ _ _ ?_
    | with_reducible refine keeps_State_setPlot _ _ ?_
    | split
    | (intro _ _; try dsimp only)

theorem keeps_execMsgRecv {b s : State} (a0) (a1) (h : Keeps b s) : KeepsR b (execMsgRecv a0 a1 s) := by
  unfold execMsgRecv
  try dsimp only
  repeat' first
    | with_reducible assumption
    | with_reducible refine keeps_State_custom _ _ _ _ _ _ _ ?_ ?_
    | with_reducible refine keeps_State_trap _ _ _ ?_
    | with_reducible refine keeps_State_insnDone _ _ _ _ ?_
    | with_reducible refine keeps_State_setPlot _ _ ?_
    | split
    | (intro _ _; try dsimp only)

theorem keeps_execMessageDelivery {b s : State} (a0) (a1) (h : Keeps b s) : KeepsR b (execMessageDelivery a0 a1 s) := by
  unfold execMessageDelivery
  try dsimp only
  repeat' first
    | with_reducible assumption
    | simp only [↓keeps_mk]
    | with_reducible refine keepsR_next ?_
    | with_reducible refine keeps_State_inject _ ?_
    | with_reducible refine keeps_State_arrive _ ?_
    | split

theorem keeps_execTrlMsgStall {b s : State} (a0) (a1) (h : Keeps b s) : KeepsR b (execTrlMsgStall a0 a1 s) := by
  unfold execTrlMsgStall
  try dsimp only
  repeat' first
    | with_reducible assumption
    | with_reducible refine keepsR_next ?_
    | with_reducible refine keeps_State_inject _ ?_
    | with_reducible refine keeps_State_raise _ ?_
    | with_reducible refine keeps_State_inc _ _ _ ?_
    | with_reducible refine keepsR_onlyIf ?_ ?_
    | split

theorem keeps_execTcntNext {b s : State} (a0) (a1) (h : Keeps b s) : KeepsR b (execTcntNext a0 a1 s) := by
  unfold execTcntNext
  try dsimp only
  repeat' first
    | with_reducible assumption
    | with_reducible refine keeps_State_custom _ _ _ _ _ _ _ ?_ ?_
    | with_reducible refine keeps_State_trap _ _ _ ?_
    | with_reducible refine keeps_State_draw _ _ ?_
    | with_reducible refine keeps_State_insnDone _ _ _ _ ?_
    | split
    | (intro _ _; try dsimp only)

theorem keeps_execTcntArm {b s : State} (a0) (a1) (h : Keeps b s) : KeepsR b (execTcntArm a0 a1 s) := by
  unfold execTcntArm
  try dsimp only
  repeat' first
    | with_reducible assumption
    | with_reducible refine keepsR_next ?_
    | with_reducible refine keeps_State_trap _ _ _ ?_
    | with_reducible refine keeps_State_tickFree ?_
    | with_reducible refine keeps_State_insnDone _ _ _ _ ?_
    | with_reducible refine keeps_State_setTc _ _ _ ?_
    | split

theorem keeps_execSeqPush {b s : State} (a0) (a1) (h : Keeps b s) : KeepsR b (execSeqPush a0 a1 s) := by
  unfold execSeqPush
  try dsimp only
  repeat' first
    | with_reducible assumption
    | with_reducible refine keeps_State_custom _ _ _ _ _ _ _ ?_ ?_
    | with_reducible refine keeps_State_trap _ _ _ ?_
    | with_reducible refine keeps_State_insnDone _ _ _ _ ?_
    | with_reducible refine keeps_State_setPlot _ _ ?_
    | split
    | (intro _ _; try dsimp only)

theorem keeps_execSeqWait {b s : State} (a0) (a1) (h : Keeps b s) : KeepsR b (execSeqWait a0 a1 s) := by
  unfold execSeqWait
  try dsimp only
  repeat' first
    | with_reducible assumption
    | with_reducible refine keeps_State_custom _ _ _ _ _ _ _ ?_ ?_
    | with_reducible refine keeps_State_trap _ _ _ ?_
    | with_reducible refine keeps_State_insnDone _ _ _ _ ?_
    | with_reducible refine keeps_State_setPlot _ _ ?_
    | split
    | (intro _ _; try dsimp only)

theorem keeps_execHaloXch {b s : State} (a0) (a1) (h : Keeps b s) : KeepsR b (execHaloXch a0 a1 s) := by
  unfold execHaloXch
  try dsimp only
  repeat' first
    | with_reducible assumption
    | with_reducible refine keeps_State_custom _ _ _ _ _ _ _ ?_ ?_
    | with_reducible refine keeps_State_trap _ _ _ ?_
    | with_reducible refine keeps_State_insnDone _ _ _ _ ?_
    | with_reducible refine keeps_State_setPlot _ _ ?_
    | with_reducible refine keeps_State_haloEnd _ _ _ ?_
    | with_reducible refine keeps_State_haloTrap _ _ _ ?_
    | split
    | (intro _ _; try dsimp only)

theorem keeps_execHaloTimeout {b s : State} (a0) (h : Keeps b s) : KeepsR b (execHaloTimeout a0 s) := by
  unfold execHaloTimeout
  try dsimp only
  repeat' first
    | with_reducible assumption
    | with_reducible refine keepsR_next ?_
    | with_reducible refine keeps_State_haloTrap _ _ _ ?_
    | with_reducible refine keeps_State_faultRun _ _ ?_
    | with_reducible refine keepsR_onlyIf ?_ ?_
    | split

theorem keeps_execGenSeed {b s : State} (a0) (a1) (h : Keeps b s) : KeepsR b (execGenSeed a0 a1 s) := by
  unfold execGenSeed
  try dsimp only
  repeat' first
    | with_reducible assumption
    | with_reducible refine keeps_State_custom _ _ _ _ _ _ _ ?_ ?_
    | with_reducible refine keeps_State_trap _ _ _ ?_
    | with_reducible refine keeps_State_insnDone _ _ _ _ ?_
    | with_reducible refine keeps_State_setPlot _ _ ?_
    | split
    | (intro _ _; try dsimp only)

theorem keeps_execGenRead {b s : State} (a0) (a1) (h : Keeps b s) : KeepsR b (execGenRead a0 a1 s) := by
  unfold execGenRead
  try dsimp only
  repeat' first
    | with_reducible assumption
    | with_reducible refine keeps_State_custom _ _ _ _ _ _ _ ?_ ?_
    | with_reducible refine keeps_State_trap _ _ _ ?_
    | with_reducible refine keeps_State_insnDone _ _ _ _ ?_
    | with_reducible refine keeps_State_setPlot _ _ ?_
    | split
    | (intro _ _; try dsimp only)

theorem keeps_execMret {b s : State} (a0) (h : Keeps b s) : KeepsR b (execMret a0 s) := by
  unfold execMret
  try dsimp only
  repeat' first
    | with_reducible assumption
    | with_reducible refine keeps_State_setPlot _ _ ?_
    | with_reducible refine keepsR_onlyIf ?_ ?_

theorem keeps_execFence {b s : State} (a0) (a1) (h : Keeps b s) : KeepsR b (execFence a0 a1 s) := by
  unfold execFence
  try dsimp only
  repeat' first
    | with_reducible assumption
    | with_reducible refine keeps_State_insnNext _ _ ?_
    | with_reducible refine keeps_State_setPlot _ _ ?_
    | with_reducible refine keepsR_onlyIf ?_ ?_
    | split

theorem keeps_execFenceI {b s : State} (a0) (h : Keeps b s) : KeepsR b (execFenceI a0 s) := by
  unfold execFenceI
  try dsimp only
  repeat' first
    | with_reducible assumption
    | with_reducible refine keeps_State_trap _ _ _ ?_
    | with_reducible refine keepsR_onlyIf ?_ ?_

theorem keeps_execDwinWrite {b s : State} (a0) (a1) (a2) (h : Keeps b s) : KeepsR b (execDwinWrite a0 a1 a2 s) := by
  unfold execDwinWrite
  try dsimp only
  repeat' first
    | with_reducible assumption
    | with_reducible refine keepsR_next ?_
    | with_reducible refine keeps_State_trap _ _ _ ?_
    | with_reducible refine keeps_State_insnDone _ _ _ _ ?_
    | with_reducible refine keeps_State_setPlot _ _ ?_
    | split

theorem keeps_execControllerLoad {b s : State} (a0) (a1) (a2) (a3) (a4) (a5) (h : Keeps b s) : KeepsR b
      (execControllerLoad a0 a1 a2 a3 a4 a5 s) := by
  unfold execControllerLoad
  try dsimp only
  repeat' first
    | with_reducible assumption
    | with_reducible refine keepsR_next ?_
    | with_reducible refine keeps_State_loadStore _ _ _ _ _ _ ?_
    | with_reducible refine keeps_State_trap _ _ _ ?_
    | with_reducible refine keeps_State_loadWindow _ _ _ _ _ _ ?_
    | with_reducible refine keeps_State_atomic _ _ _ _ _ _ ?_
    | split

theorem keeps_execControllerStore {b s : State} (a0) (a1) (a2) (a3) (h : Keeps b s) : KeepsR b (execControllerStore a0
      a1 a2 a3 s) := by
  unfold execControllerStore
  try dsimp only
  repeat' first
    | with_reducible assumption
    | with_reducible refine keepsR_next ?_
    | with_reducible refine keeps_State_storeStore _ _ _ _ ?_
    | with_reducible refine keeps_State_trap _ _ _ ?_
    | with_reducible refine keeps_State_storeWindow _ _ _ ?_
    | split

theorem keeps_execStorePerform {b s : State} (a0) (a1) (h : Keeps b s) : KeepsR b (execStorePerform a0 a1 s) := by
  unfold execStorePerform
  try dsimp only
  repeat' first
    | with_reducible assumption
    | with_reducible refine keepsR_next ?_
    | with_reducible refine keeps_State_performStore _ ?_
    | with_reducible refine keeps_State_hbmEvent _ _ ?_
    | split

theorem keeps_execAtomicAdd {b s : State} (a0) (a1) (a2) (a3) (a4) (h : Keeps b s) : KeepsR b (execAtomicAdd a0 a1 a2 a3
      a4 s) := by
  unfold execAtomicAdd
  try dsimp only
  repeat' first
    | with_reducible assumption
    | with_reducible refine keeps_State_atomicCmd _ _ _ _ _ _ ?_

theorem keeps_execAtomicSwap {b s : State} (a0) (a1) (a2) (a3) (a4) (h : Keeps b s) : KeepsR b (execAtomicSwap a0 a1 a2
      a3 a4 s) := by
  unfold execAtomicSwap
  try dsimp only
  repeat' first
    | with_reducible assumption
    | with_reducible refine keeps_State_atomicCmd _ _ _ _ _ _ ?_

theorem keeps_execAtomicCas {b s : State} (a0) (a1) (a2) (a3) (a4) (h : Keeps b s) : KeepsR b (execAtomicCas a0 a1 a2 a3
      a4 s) := by
  unfold execAtomicCas
  try dsimp only
  repeat' first
    | with_reducible assumption
    | with_reducible refine keeps_State_atomicCmd _ _ _ _ _ _ ?_

theorem keeps_execAtomicAnd {b s : State} (a0) (a1) (a2) (a3) (a4) (h : Keeps b s) : KeepsR b (execAtomicAnd a0 a1 a2 a3
      a4 s) := by
  unfold execAtomicAnd
  try dsimp only
  repeat' first
    | with_reducible assumption
    | with_reducible refine keeps_State_atomicCmd _ _ _ _ _ _ ?_

theorem keeps_execAtomicOr {b s : State} (a0) (a1) (a2) (a3) (a4) (h : Keeps b s) : KeepsR b (execAtomicOr a0 a1 a2 a3
      a4 s) := by
  unfold execAtomicOr
  try dsimp only
  repeat' first
    | with_reducible assumption
    | with_reducible refine keeps_State_atomicCmd _ _ _ _ _ _ ?_

theorem keeps_execAtomicXor {b s : State} (a0) (a1) (a2) (a3) (a4) (h : Keeps b s) : KeepsR b (execAtomicXor a0 a1 a2 a3
      a4 s) := by
  unfold execAtomicXor
  try dsimp only
  repeat' first
    | with_reducible assumption
    | with_reducible refine keeps_State_atomicCmd _ _ _ _ _ _ ?_

theorem keeps_execAtomicMaxu {b s : State} (a0) (a1) (a2) (a3) (a4) (h : Keeps b s) : KeepsR b (execAtomicMaxu a0 a1 a2
      a3 a4 s) := by
  unfold execAtomicMaxu
  try dsimp only
  repeat' first
    | with_reducible assumption
    | with_reducible refine keeps_State_atomicCmd _ _ _ _ _ _ ?_

theorem keeps_execAtomicMinu {b s : State} (a0) (a1) (a2) (a3) (a4) (h : Keeps b s) : KeepsR b (execAtomicMinu a0 a1 a2
      a3 a4 s) := by
  unfold execAtomicMinu
  try dsimp only
  repeat' first
    | with_reducible assumption
    | with_reducible refine keeps_State_atomicCmd _ _ _ _ _ _ ?_

theorem keeps_execPlotStart {b s : State} (a0) (h : Keeps b s) : KeepsR b (execPlotStart a0 s) := by
  unfold execPlotStart
  try dsimp only
  repeat' first
    | with_reducible assumption
    | with_reducible refine keepsR_next ?_
    | with_reducible refine keeps_State_own _ _ _ _ _ ?_ ?_
    | with_reducible refine keeps_State_startPlot _ ?_
    | split
    | (intro _ _ _; try dsimp only)

theorem keeps_execPlotStop {b s : State} (a0) (h : Keeps b s) : KeepsR b (execPlotStop a0 s) := by
  unfold execPlotStop
  try dsimp only
  repeat' first
    | with_reducible assumption
    | with_reducible refine keepsR_next ?_
    | with_reducible refine keeps_State_own _ _ _ _ _ ?_ ?_
    | with_reducible refine keeps_State_setPlot _ _ ?_
    | split
    | (intro _ _ _; try dsimp only)

theorem keeps_execPlotLoadGo {b s : State} (a0) (h : Keeps b s) : KeepsR b (execPlotLoadGo a0 s) := by
  unfold execPlotLoadGo
  try dsimp only
  repeat' first
    | with_reducible assumption
    | with_reducible refine keepsR_next ?_
    | with_reducible refine keeps_State_own _ _ _ _ _ ?_ ?_
    | with_reducible refine keeps_State_inc _ _ _ ?_
    | with_reducible refine keeps_State_wr _ _ _ _ ?_
    | split
    | (intro _ _ _; try dsimp only)

theorem keeps_execPlotLoadComplete {b s : State} (a0) (a1) (h : Keeps b s) : KeepsR b (execPlotLoadComplete a0 a1 s) :=
      by
  unfold execPlotLoadComplete
  try dsimp only
  repeat' first
    | with_reducible assumption
    | with_reducible refine keeps_State_coldOpen _ _ ?_
    | with_reducible refine keeps_State_accessEvents _ _ ?_
    | with_reducible refine keeps_State_wr _ _ _ _ ?_
    | with_reducible refine keeps_State_loadProgram _ ?_
    | with_reducible refine keepsR_onlyIf ?_ ?_
    | split

theorem keeps_execPlotInj {b s : State} (a0) (a1) (h : Keeps b s) : KeepsR b (execPlotInj a0 a1 s) := by
  unfold execPlotInj
  try dsimp only
  repeat' first
    | with_reducible assumption
    | with_reducible refine keepsR_next ?_
    | with_reducible refine keeps_State_own _ _ _ _ _ ?_ ?_
    | with_reducible refine keeps_State_setPlot _ _ ?_
    | with_reducible refine keeps_State_wr _ _ _ _ ?_
    | split
    | (intro _ _ _; try dsimp only)

theorem keeps_execPlotMemData {b s : State} (a0) (a1) (a2) (h : Keeps b s) : KeepsR b (execPlotMemData a0 a1 a2 s) := by
  unfold execPlotMemData
  try dsimp only
  repeat' first
    | with_reducible assumption
    | with_reducible refine keepsR_next ?_
    | with_reducible refine keeps_State_emit _ ?_
    | with_reducible refine keeps_State_dropLatch _ _ ?_
    | with_reducible refine keeps_State_stepMemAddr _ ?_
    | with_reducible refine keeps_State_setPlot _ _ ?_
    | split

theorem keeps_execMatmul {b s : State} (a0) (a1) (a2) (h : Keeps b s) : KeepsR b (execMatmul a0 a1 a2 s) := by
  unfold execMatmul
  try dsimp only
  repeat' first
    | with_reducible assumption
    | with_reducible refine keepsR_next ?_
    | with_reducible refine keeps_State_macroOp _ _ _ _ ?_

theorem keeps_execAdaptShrink {b s : State} (a0) (a1) (a2) (h : Keeps b s) : KeepsR b (execAdaptShrink a0 a1 a2 s) := by
  unfold execAdaptShrink
  try dsimp only
  repeat' first
    | with_reducible assumption
    | with_reducible refine keepsR_next ?_
    | with_reducible refine keeps_State_macroOp _ _ _ _ ?_

theorem keeps_execAdaptExpand {b s : State} (a0) (a1) (a2) (h : Keeps b s) : KeepsR b (execAdaptExpand a0 a1 a2 s) := by
  unfold execAdaptExpand
  try dsimp only
  repeat' first
    | with_reducible assumption
    | with_reducible refine keepsR_next ?_
    | with_reducible refine keeps_State_macroOp _ _ _ _ ?_

theorem keeps_execEltwise {b s : State} (a0) (a1) (a2) (h : Keeps b s) : KeepsR b (execEltwise a0 a1 a2 s) := by
  unfold execEltwise
  try dsimp only
  repeat' first
    | with_reducible assumption
    | with_reducible refine keepsR_next ?_
    | with_reducible refine keeps_State_macroOp _ _ _ _ ?_

theorem keeps_execTable {b s : State} (a0) (a1) (a2) (h : Keeps b s) : KeepsR b (execTable a0 a1 a2 s) := by
  unfold execTable
  try dsimp only
  repeat' first
    | with_reducible assumption
    | with_reducible refine keepsR_next ?_
    | with_reducible refine keeps_State_macroOp _ _ _ _ ?_

theorem keeps_execReduce {b s : State} (a0) (a1) (a2) (h : Keeps b s) : KeepsR b (execReduce a0 a1 a2 s) := by
  unfold execReduce
  try dsimp only
  repeat' first
    | with_reducible assumption
    | with_reducible refine keepsR_next ?_
    | with_reducible refine keeps_State_macroOp _ _ _ _ ?_

theorem keeps_execSoftmaxRows {b s : State} (a0) (a1) (a2) (h : Keeps b s) : KeepsR b (execSoftmaxRows a0 a1 a2 s) := by
  unfold execSoftmaxRows
  try dsimp only
  repeat' first
    | with_reducible assumption
    | with_reducible refine keepsR_next ?_
    | with_reducible refine keeps_State_macroOp _ _ _ _ ?_

theorem keeps_execNormRows {b s : State} (a0) (a1) (a2) (h : Keeps b s) : KeepsR b (execNormRows a0 a1 a2 s) := by
  unfold execNormRows
  try dsimp only
  repeat' first
    | with_reducible assumption
    | with_reducible refine keepsR_next ?_
    | with_reducible refine keeps_State_macroOp _ _ _ _ ?_

theorem keeps_execGather {b s : State} (a0) (a1) (a2) (h : Keeps b s) : KeepsR b (execGather a0 a1 a2 s) := by
  unfold execGather
  try dsimp only
  repeat' first
    | with_reducible assumption
    | with_reducible refine keepsR_next ?_
    | with_reducible refine keeps_State_macroOp _ _ _ _ ?_

theorem keeps_execScatter {b s : State} (a0) (a1) (a2) (h : Keeps b s) : KeepsR b (execScatter a0 a1 a2 s) := by
  unfold execScatter
  try dsimp only
  repeat' first
    | with_reducible assumption
    | with_reducible refine keepsR_next ?_
    | with_reducible refine keeps_State_macroOp _ _ _ _ ?_

theorem keeps_execConv1d {b s : State} (a0) (a1) (a2) (h : Keeps b s) : KeepsR b (execConv1d a0 a1 a2 s) := by
  unfold execConv1d
  try dsimp only
  repeat' first
    | with_reducible assumption
    | with_reducible refine keepsR_next ?_
    | with_reducible refine keeps_State_macroOp _ _ _ _ ?_

theorem keeps_execCopy {b s : State} (a0) (a1) (a2) (h : Keeps b s) : KeepsR b (execCopy a0 a1 a2 s) := by
  unfold execCopy
  try dsimp only
  repeat' first
    | with_reducible assumption
    | with_reducible refine keepsR_next ?_
    | with_reducible refine keeps_State_macroOp _ _ _ _ ?_

theorem keeps_execPad {b s : State} (a0) (a1) (a2) (h : Keeps b s) : KeepsR b (execPad a0 a1 a2 s) := by
  unfold execPad
  try dsimp only
  repeat' first
    | with_reducible assumption
    | with_reducible refine keepsR_next ?_
    | with_reducible refine keeps_State_macroOp _ _ _ _ ?_

theorem keeps_execBarrier {b s : State} (a0) (h : Keeps b s) : KeepsR b (execBarrier a0 s) := by
  unfold execBarrier
  try dsimp only
  repeat' first
    | with_reducible assumption
    | with_reducible refine keepsR_next ?_
    | with_reducible refine keeps_State_tryBarrier _ ?_
    | with_reducible refine keeps_State_popOp _ ?_
    | with_reducible refine keeps_State_reach _ _ ?_
    | with_reducible refine keeps_State_drain _ _ ?_
    | split

theorem keeps_execBarrierTimeout {b s : State} (a0) (h : Keeps b s) : KeepsR b (execBarrierTimeout a0 s) := by
  unfold execBarrierTimeout
  try dsimp only
  repeat' first
    | with_reducible assumption
    | with_reducible refine keepsR_next ?_
    | with_reducible refine keeps_State_setPlot _ _ ?_
    | with_reducible refine keeps_State_faultRun _ _ ?_
    | split

theorem keeps_execMacroOpComplete {b s : State} (a0) (h : Keeps b s) : KeepsR b (execMacroOpComplete a0 s) := by
  unfold execMacroOpComplete
  try dsimp only
  repeat' first
    | with_reducible assumption
    | with_reducible refine keepsR_next ?_
    | with_reducible refine keeps_State_popOp _ ?_
    | with_reducible refine keeps_State_advanceGens _ ?_
    | with_reducible refine keepsR_onlyIf ?_ ?_
    | split

theorem keeps_execExecutionFault {b s : State} (a0) (h : Keeps b s) : KeepsR b (execExecutionFault a0 s) := by
  unfold execExecutionFault
  try dsimp only
  repeat' first
    | with_reducible assumption
    | with_reducible refine keepsR_next ?_
    | with_reducible refine keeps_State_emit _ ?_
    | with_reducible refine keeps_State_popOp _ ?_
    | with_reducible refine keeps_State_markFaulted _ _ ?_
    | with_reducible refine keeps_State_recordFault _ _ ?_
    | with_reducible refine keeps_State_reissue _ _ _ _ ?_
    | with_reducible refine keeps_foldl ?_ ?_
    | split
    | (intro _ _ _; try dsimp only)

theorem keeps_execInjectedMacroOp {b s : State} (a0) (a1) (h : Keeps b s) : KeepsR b (execInjectedMacroOp a0 a1 s) := by
  unfold execInjectedMacroOp
  try dsimp only
  repeat' first
    | with_reducible assumption
    | with_reducible refine keepsR_next ?_
    | with_reducible refine keeps_State_accessEvents _ _ ?_
    | with_reducible refine keeps_State_setPlot _ _ ?_
    | with_reducible refine keeps_State_injFault _ _ _ ?_
    | with_reducible refine keeps_State_overflowed _ _ ?_
    | with_reducible refine keeps_State_issueStats _ ?_
    | with_reducible refine keeps_State_applyTile _ _ ?_
    | with_reducible refine keeps_State_injDone _ ?_
    | with_reducible refine keeps_State_inc _ _ _ ?_
    | split

end Sys2Proof.Laws
end

