-- ==== Sys2Proof/Laws/KeepsAdmin.lean ====
section
/-! SUPPORT. Each operation on administrative commands, adapters, selection objects and KV pages keeps what every command keeps. -/
namespace Sys2Proof.Laws
open Sys2Proof Sys2Proof.Machine

theorem keeps_State_svcComplete {b s : State} (a1) (a2) (h : Keeps b s) : Keeps b (State.svcComplete s a1 a2) := by
  unfold State.svcComplete
  try dsimp only
  repeat' first
    | with_reducible assumption
    | with_reducible refine keeps_State_wr _ _ _ _ ?_
    | with_reducible refine keeps_foldl ?_ ?_
    | split
    | (intro _ _ _; try dsimp only)

theorem keeps_State_putEvent {b s : State} (a1) (a2) (h : Keeps b s) : Keeps b (State.putEvent s a1 a2) := by
  unfold State.putEvent
  try dsimp only
  repeat' first
    | with_reducible assumption
    | with_reducible refine keeps_State_setQp _ _ ?_
    | split

theorem keeps_State_deliver {b s : State} (a1) (a2) (a3) (a4) (a5) (h : Keeps b s) : Keeps b (State.deliver s a1 a2 a3
      a4 a5) := by
  unfold State.deliver
  try dsimp only
  repeat' first
    | with_reducible assumption
    | with_reducible refine keeps_State_svcComplete _ _ ?_
    | with_reducible refine keeps_State_putEvent _ _ ?_
    | split

theorem keeps_State_acceptHead {b s : State} (a1) (h : Keeps b s) : Keeps b (State.acceptHead s a1) := by
  unfold State.acceptHead
  try dsimp only
  repeat' first
    | with_reducible assumption
    | simp only [↓keeps_mk]
    | with_reducible refine keeps_State_setQp _ _ ?_
    | with_reducible refine keeps_State_deliver _ _ _ _ _ ?_
    | split

theorem keeps_State_pumpAdmin {b s : State} (a1) (a2) (h : Keeps b s) : Keeps b (State.pumpAdmin s a1 a2) := by
  induction a2 generalizing s a1 with
  | zero => exact h
  | succ _ ih =>
    unfold State.pumpAdmin
    try dsimp only
    repeat' first
      | with_reducible assumption
      | with_reducible apply ih
      | with_reducible refine keeps_State_acceptHead _ ?_
      | split

theorem keeps_State_complete {b s : State} (a1) (a2) (a3) (a4) (a5) (h : Keeps b s) : Keeps b (State.complete s a1 a2 a3
      a4 a5) := by
  unfold State.complete
  try dsimp only
  repeat' first
    | with_reducible assumption
    | simp only [↓keeps_mk]
    | with_reducible refine keeps_State_pumpAdmin _ _ ?_
    | with_reducible refine keeps_State_deliver _ _ _ _ _ ?_
    | split

theorem keeps_State_settleEntry {b s : State} (a1) (h : Keeps b s) : Keeps b (State.settleEntry s a1) := by
  unfold State.settleEntry
  try dsimp only
  repeat' first
    | with_reducible assumption
    | simp only [↓keeps_mk]
    | with_reducible refine keeps_State_complete _ _ _ _ _ ?_
    | split

theorem keeps_State_dropRec {b s : State} (a1) (h : Keeps b s) : Keeps b (State.dropRec s a1) := by
  unfold State.dropRec
  try dsimp only
  repeat' first
    | with_reducible assumption
    | simp only [↓keeps_mk]

theorem keeps_State_freeRec {b s : State} (a1) (a2) (h : Keeps b s) : Keeps b (State.freeRec s a1 a2) := by
  unfold State.freeRec
  try dsimp only
  repeat' first
    | with_reducible assumption
    | with_reducible refine keeps_State_settleEntry _ ?_
    | with_reducible refine keeps_State_dropRec _ ?_
    | with_reducible refine keeps_State_complete _ _ _ _ _ ?_
    | split

theorem keeps_State_maybeFree {b s : State} (a1) (h : Keeps b s) : Keeps b (State.maybeFree s a1) := by
  unfold State.maybeFree
  try dsimp only
  repeat' first
    | with_reducible assumption
    | with_reducible refine keeps_State_freeRec _ _ ?_
    | split

theorem keeps_State_demote {b s : State} (a1) (h : Keeps b s) : Keeps b (State.demote s a1) := by
  unfold State.demote
  try dsimp only
  repeat' first
    | with_reducible assumption
    | with_reducible refine keeps_State_setAdrec _ _ ?_

theorem keeps_State_makeRoom {b s : State} (a1) (a2) (h : Keeps b s) : Keeps b (State.makeRoom s a1 a2) := by
  induction a2 generalizing s a1 with
  | nil => exact h
  | cons _ _ ih =>
    unfold State.makeRoom
    try dsimp only
    repeat' first
      | with_reducible assumption
      | with_reducible apply ih
      | with_reducible refine keeps_State_demote _ ?_
      | split

theorem keeps_State_promote {b s : State} (a1) (h : Keeps b s) : KeepsO b (State.promote s a1) := by
  unfold State.promote
  try dsimp only
  repeat' first
    | with_reducible assumption
    | with_reducible refine keeps_State_spoilLines _ _ ?_
    | with_reducible refine keepsO_some ?_
    | with_reducible exact keepsO_none
    | with_reducible refine keeps_State_homeWrite _ _ ?_
    | with_reducible refine keeps_State_setAdrec _ _ ?_
    | with_reducible refine keeps_State_tickFree ?_
    | split

theorem keeps_State_wantHbm {b s : State} (a1) (h : Keeps b s) : Keeps b (State.wantHbm s a1) := by
  unfold State.wantHbm
  try dsimp only
  repeat' first
    | with_reducible assumption
    | with_reducible refine keeps_State_makeRoom _ _ ?_
    | refine keepsO_of (by with_reducible assumption) (keeps_State_promote _ ?_)
    | split

theorem keeps_State_pinRec {b s : State} (a1) (h : Keeps b s) : Keeps b (State.pinRec s a1) := by
  unfold State.pinRec
  try dsimp only
  repeat' first
    | with_reducible assumption
    | with_reducible refine keeps_State_setAdrec _ _ ?_

theorem keeps_State_takeRecs {b s : State} (a1) (h : Keeps b s) : Keeps b (State.takeRecs s a1) := by
  unfold State.takeRecs
  try dsimp only
  repeat' first
    | with_reducible assumption
    | with_reducible refine keeps_State_wantHbm _ ?_
    | with_reducible refine keeps_State_pinRec _ ?_
    | with_reducible refine keeps_foldl ?_ ?_
    | (intro _ _ _; try dsimp only)

theorem keeps_State_freePage {b s : State} (a1) (h : Keeps b s) : Keeps b (State.freePage s a1) := by
  unfold State.freePage
  try dsimp only
  repeat' first
    | with_reducible assumption
    | with_reducible refine keeps_State_setPage _ _ ?_

theorem keeps_State_releasePage {b s : State} (a1) (h : Keeps b s) : Keeps b (State.releasePage s a1) := by
  unfold State.releasePage
  try dsimp only
  repeat' first
    | with_reducible assumption
    | with_reducible refine keeps_State_setPage _ _ ?_
    | with_reducible refine keeps_State_freePage _ ?_
    | split

theorem keeps_State_dropPages {b s : State} (a1) (h : Keeps b s) : Keeps b (State.dropPages s a1) := by
  unfold State.dropPages
  try dsimp only
  repeat' first
    | with_reducible assumption
    | simp only [↓keeps_mk]
    | with_reducible refine keeps_State_releasePage _ ?_
    | with_reducible refine keeps_State_setReq _ _ ?_
    | with_reducible refine keeps_foldl ?_ ?_
    | split
    | (intro _ _ _; try dsimp only)

theorem keeps_State_unpinRec {b s : State} (a1) (h : Keeps b s) : Keeps b (State.unpinRec s a1) := by
  unfold State.unpinRec
  try dsimp only
  repeat' first
    | with_reducible assumption
    | with_reducible refine keeps_State_maybeFree _ ?_
    | with_reducible refine keeps_State_setAdrec _ _ ?_

theorem keeps_State_freeObj {b s : State} (a1) (h : Keeps b s) : Keeps b (State.freeObj s a1) := by
  unfold State.freeObj
  try dsimp only
  repeat' first
    | with_reducible assumption
    | simp only [↓keeps_mk]
    | with_reducible refine keeps_State_notify _ _ ?_
    | with_reducible refine keeps_State_complete _ _ _ _ _ ?_
    | split

theorem keeps_State_unpinObj {b s : State} (a1) (h : Keeps b s) : Keeps b (State.unpinObj s a1) := by
  unfold State.unpinObj
  try dsimp only
  repeat' first
    | with_reducible assumption
    | with_reducible refine keeps_State_setObj _ _ ?_
    | with_reducible refine keeps_State_freeObj _ ?_
    | split

theorem keeps_State_allocPage {b s : State} (a1) (a2) (a3) (h : Keeps b s) : Keeps b (State.allocPage s a1 a2 a3).2 :=
      by
  unfold State.allocPage
  try dsimp only
  repeat' first
    | with_reducible assumption
    | with_reducible refine keeps_State_setPage _ _ ?_
    | with_reducible refine keeps_State_tickFree ?_

theorem keeps_State_dueAdvance {b s : State} (a1) (h : Keeps b s) : Keeps b (State.dueAdvance s a1) := by
  unfold State.dueAdvance
  try dsimp only
  repeat' first
    | with_reducible assumption
    | simp only [↓keeps_mk]

theorem keeps_State_flipRec {b s : State} (a1) (a2) (h : Keeps b s) : Keeps b (State.flipRec s a1 a2) := by
  unfold State.flipRec
  try dsimp only
  repeat' first
    | with_reducible assumption
    | with_reducible refine keeps_State_freeRec _ _ ?_
    | with_reducible refine keeps_State_setAdrec _ _ ?_
    | with_reducible refine keeps_State_setEnt _ _ ?_
    | with_reducible refine keeps_State_maybeFree _ ?_
    | with_reducible refine keeps_State_dueAdvance _ ?_
    | with_reducible refine keeps_State_complete _ _ _ _ _ ?_
    | with_reducible refine keeps_foldl ?_ ?_
    | split
    | (intro _ _ _; try dsimp only)

theorem keeps_State_retireRec {b s : State} (a1) (h : Keeps b s) : Keeps b (State.retireRec s a1) := by
  unfold State.retireRec
  try dsimp only
  repeat' first
    | with_reducible assumption
    | with_reducible refine keeps_State_freeRec _ _ ?_
    | with_reducible refine keeps_State_maybeFree _ ?_
    | with_reducible refine keeps_State_setAdrec _ _ ?_
    | split

theorem keeps_State_applyDelete {b s : State} (a1) (a2) (a3) (h : Keeps b s) : Keeps b (State.applyDelete s a1 a2 a3) :=
      by
  unfold State.applyDelete
  try dsimp only
  repeat' first
    | with_reducible assumption
    | with_reducible refine keeps_State_setEnt _ _ ?_
    | with_reducible refine keeps_State_complete _ _ _ _ _ ?_
    | with_reducible refine keeps_State_retireRec _ ?_
    | with_reducible refine keeps_foldl ?_ ?_
    | split
    | (intro _ _ _; try dsimp only)

theorem keeps_State_applyPrio {b s : State} (a1) (a2) (a3) (a4) (h : Keeps b s) : Keeps b (State.applyPrio s a1 a2 a3
      a4) := by
  unfold State.applyPrio
  try dsimp only
  repeat' first
    | with_reducible assumption
    | with_reducible refine keeps_State_complete _ _ _ _ _ ?_
    | with_reducible refine keeps_State_setEnt _ _ ?_

theorem keeps_State_applyDir {b s : State} (a0) (a2) (h : Keeps b s) : Keeps b (State.applyDir a0 s a2) := by
  unfold State.applyDir
  try dsimp only
  repeat' first
    | with_reducible assumption
    | with_reducible refine keeps_State_flipRec _ _ ?_
    | with_reducible refine keeps_State_applyDelete _ _ _ ?_
    | with_reducible refine keeps_State_complete _ _ _ _ _ ?_
    | with_reducible refine keeps_State_applyPrio _ _ _ _ ?_
    | split

theorem keeps_State_applyActs {b s : State} (a1) (h : Keeps b s) : Keeps b (State.applyActs s a1) := by
  unfold State.applyActs
  try dsimp only
  repeat' first
    | with_reducible assumption
    | with_reducible refine keeps_State_applyDir _ _ ?_
    | with_reducible refine keeps_foldl ?_ ?_
    | (intro _ _ _; try dsimp only)

theorem keeps_State_oweDir {b s : State} (h : Keeps b s) : Keeps b (State.oweDir s) := by
  unfold State.oweDir
  try dsimp only
  repeat' first
    | with_reducible assumption
    | simp only [↓keeps_mk]

theorem keeps_State_dirBoundary {b s : State} (h : Keeps b s) : Keeps b (State.dirBoundary s) := by
  unfold State.dirBoundary
  try dsimp only
  repeat' first
    | with_reducible assumption
    | simp only [↓keeps_mk]
    | with_reducible refine keeps_State_applyActs _ ?_

theorem keeps_State_takePage {b s : State} (a1) (h : Keeps b s) : Keeps b (State.takePage s a1) := by
  unfold State.takePage
  try dsimp only
  repeat' first
    | with_reducible assumption
    | with_reducible refine keeps_State_setPage _ _ ?_

theorem keeps_State_writePt {b s : State} (a1) (h : Keeps b s) : Keeps b (State.writePt s a1) := by
  unfold State.writePt
  try dsimp only
  repeat' first
    | with_reducible assumption
    | with_reducible refine keeps_State_homeWrite _ _ ?_
    | split

theorem keeps_State_dropCopy {b s : State} (a1) (a2) (h : Keeps b s) : Keeps b (State.dropCopy s a1 a2) := by
  unfold State.dropCopy
  try dsimp only
  repeat' first
    | with_reducible assumption
    | simp only [↓keeps_mk]
    | with_reducible refine keeps_State_setReq _ _ ?_

theorem keeps_State_matchSpill {b s : State} (a1) (a2) (h : Keeps b s) : Keeps b (State.matchSpill s a1 a2) := by
  induction a2 generalizing s a1 with
  | nil => exact h
  | cons _ _ ih =>
    unfold State.matchSpill
    try dsimp only
    repeat' first
      | with_reducible assumption
      | with_reducible apply ih
      | with_reducible refine keeps_State_takePage _ ?_
      | with_reducible refine keeps_State_setReq _ _ ?_
      | with_reducible refine keeps_State_writePt _ ?_
      | with_reducible refine keeps_State_dropCopy _ _ ?_
      | split

theorem keeps_State_pageInStart {b s : State} (a1) (h : Keeps b s) : Keeps b (State.pageInStart s a1) := by
  unfold State.pageInStart
  try dsimp only
  repeat' first
    | with_reducible assumption
    | with_reducible refine keeps_State_setReq _ _ ?_
    | with_reducible refine keeps_State_matchSpill _ _ ?_

theorem keeps_State_evictFor {b s : State} (a1) (a2) (a3) (a4) (h : Keeps b s) : Keeps b (State.evictFor s a1 a2 a3 a4)
      := by
  induction a4 generalizing s a1 a2 a3 with
  | nil => exact h
  | cons _ _ ih =>
    unfold State.evictFor
    try dsimp only
    repeat' first
      | with_reducible assumption
      | with_reducible apply ih
      | with_reducible refine keeps_State_freePage _ ?_
      | split

theorem keeps_State_spillStart {b s : State} (a1) (h : Keeps b s) : Keeps b (State.spillStart s a1) := by
  unfold State.spillStart
  try dsimp only
  repeat' first
    | with_reducible assumption
    | simp only [↓keeps_mk]
    | with_reducible refine keeps_State_setReq _ _ ?_

theorem keeps_State_spillFor {b s : State} (a1) (a2) (a3) (h : Keeps b s) : Keeps b (State.spillFor s a1 a2 a3) := by
  unfold State.spillFor
  try dsimp only
  repeat' first
    | with_reducible assumption
    | with_reducible refine keeps_State_spillStart _ ?_
    | split

theorem keeps_State_pageInTry {b s : State} (a1) (a2) (h : Keeps b s) : Keeps b (State.pageInTry s a1 a2).2 := by
  unfold State.pageInTry
  try dsimp only
  repeat' first
    | with_reducible assumption
    | with_reducible refine keeps_State_pageInStart _ ?_
    | with_reducible refine keeps_State_evictFor _ _ _ _ ?_
    | with_reducible refine keeps_State_setReq _ _ ?_
    | with_reducible refine keeps_State_spillFor _ _ _ ?_
    | split

theorem keeps_State_stepRoom {b s : State} (a1) (a2) (h : Keeps b s) : Keeps b (State.stepRoom s a1 a2).2 := by
  unfold State.stepRoom
  try dsimp only
  repeat' first
    | with_reducible assumption
    | with_reducible refine keeps_State_evictFor _ _ _ _ ?_

theorem keeps_State_matchPrompt {b s : State} (a1) (a2) (h : Keeps b s) : Keeps b (State.matchPrompt s a1 a2) := by
  induction a2 generalizing s a1 with
  | zero => exact h
  | succ _ ih =>
    unfold State.matchPrompt
    try dsimp only
    repeat' first
      | with_reducible assumption
      | with_reducible apply ih
      | with_reducible refine keeps_State_setReq _ _ ?_
      | with_reducible refine keeps_State_takePage _ ?_
      | with_reducible refine keeps_State_inc _ _ _ ?_
      | split

theorem keeps_State_prefixMatch {b s : State} (a1) (h : Keeps b s) : Keeps b (State.prefixMatch s a1) := by
  unfold State.prefixMatch
  try dsimp only
  repeat' first
    | with_reducible assumption
    | with_reducible refine keeps_State_setReq _ _ ?_
    | with_reducible refine keeps_State_matchPrompt _ _ ?_
    | split

theorem keeps_State_growPages {b s : State} (a1) (a2) (a3) (h : Keeps b s) : Keeps b (State.growPages s a1 a2 a3) := by
  induction a3 generalizing s a1 a2 with
  | zero => exact h
  | succ _ ih =>
    unfold State.growPages
    try dsimp only
    repeat' first
      | with_reducible assumption
      | with_reducible apply ih
      | with_reducible refine keeps_State_allocPage _ _ _ ?_
      | with_reducible refine keeps_State_setReq _ _ ?_

theorem keeps_State_claim {b s : State} (a1) (a2) (h : Keeps b s) : Keeps b (State.claim s a1 a2) := by
  unfold State.claim
  try dsimp only
  repeat' first
    | with_reducible assumption
    | with_reducible refine keeps_State_growPages _ _ _ ?_

theorem keeps_State_dropPoisoned {b s : State} (h : Keeps b s) : Keeps b (State.dropPoisoned s) := by
  unfold State.dropPoisoned
  try dsimp only
  repeat' first
    | with_reducible assumption
    | simp only [↓keeps_mk]

theorem keeps_State_indexFrom {b s : State} (a1) (a2) (h : Keeps b s) : Keeps b (State.indexFrom s a1 a2) := by
  unfold State.indexFrom
  try dsimp only
  repeat' first
    | with_reducible assumption
    | with_reducible refine keeps_State_setReq _ _ ?_
    | with_reducible refine keeps_State_setPage _ _ ?_
    | with_reducible refine keeps_foldl ?_ ?_
    | split
    | (intro _ _ _; try dsimp only)

theorem keeps_State_indexPages {b s : State} (a1) (h : Keeps b s) : Keeps b (State.indexPages s a1) := by
  unfold State.indexPages
  try dsimp only
  repeat' first
    | with_reducible assumption
    | with_reducible refine keeps_State_indexFrom _ _ ?_

theorem keeps_State_sealPage {b s : State} (a1) (a2) (h : Keeps b s) : Keeps b (State.sealPage s a1 a2) := by
  unfold State.sealPage
  try dsimp only
  repeat' first
    | with_reducible assumption
    | simp only [↓keeps_mk]
    | split

theorem keeps_State_movePage {b s : State} (a1) (a2) (h : Keeps b s) : Keeps b (State.movePage s a1 a2) := by
  unfold State.movePage
  try dsimp only
  repeat' first
    | with_reducible assumption
    | simp only [↓keeps_mk]
    | with_reducible refine keeps_State_homeWrite _ _ ?_
    | with_reducible refine keeps_State_sealPage _ _ ?_
    | split

theorem keeps_State_moveOut {b s : State} (a1) (a2) (h : Keeps b s) : Keeps b (State.moveOut s a1 a2) := by
  unfold State.moveOut
  try dsimp only
  repeat' first
    | with_reducible assumption
    | with_reducible refine keeps_State_movePage _ _ ?_
    | with_reducible refine keeps_foldl ?_ ?_
    | (intro _ _ _; try dsimp only)

theorem keeps_State_cover {b s : State} (a1) (a2) (h : Keeps b s) : Keeps b (State.cover s a1 a2) := by
  unfold State.cover
  try dsimp only
  repeat' first
    | with_reducible assumption
    | with_reducible refine keeps_State_setReq _ _ ?_
    | with_reducible refine keeps_State_claim _ _ ?_

theorem keeps_State_deleteObj {b s : State} (a1) (a2) (h : Keeps b s) : Keeps b (State.deleteObj s a1 a2) := by
  unfold State.deleteObj
  try dsimp only
  repeat' first
    | with_reducible assumption
    | with_reducible refine keeps_State_freeObj _ ?_
    | with_reducible refine keeps_State_setObj _ _ ?_
    | split

theorem keeps_State_trim {b s : State} (a1) (h : Keeps b s) : Keeps b (State.trim s a1) := by
  unfold State.trim
  try dsimp only
  repeat' first
    | with_reducible assumption
    | with_reducible refine keeps_State_releasePage _ ?_
    | with_reducible refine keeps_State_writePt _ ?_
    | with_reducible refine keeps_State_setReq _ _ ?_
    | with_reducible refine keeps_foldl ?_ ?_
    | split
    | (intro _ _ _; try dsimp only)

theorem keeps_State_placeBlob {b s : State} (a1) (a2) (h : Keeps b s) : KeepsOP b (State.placeBlob s a1 a2) := by
  unfold State.placeBlob
  try dsimp only
  repeat' first
    | with_reducible assumption
    | with_reducible refine keepsOP_some ?_
    | with_reducible exact keepsOP_none
    | with_reducible refine keeps_State_tickFree ?_
    | split

theorem keeps_State_writeBlob {b s : State} (a1) (a2) (a3) (h : Keeps b s) : Keeps b (State.writeBlob s a1 a2 a3) := by
  unfold State.writeBlob
  try dsimp only
  repeat' first
    | with_reducible assumption
    | with_reducible refine keeps_State_spoilLines _ _ ?_
    | with_reducible refine keeps_State_homeWrite _ _ ?_
    | with_reducible refine keeps_State_moveOut _ _ ?_
    | split

theorem keeps_State_loadAt {b s : State} (a1) (a2) (a3) (a4) (a5) (a6) (a7) (a8) (h : Keeps b s) : Keeps b
      (State.loadAt s a1 a2 a3 a4 a5 a6 a7 a8) := by
  unfold State.loadAt
  try dsimp only
  repeat' first
    | with_reducible assumption
    | simp only [↓keeps_mk]
    | with_reducible refine keeps_State_tickFree ?_
    | with_reducible refine keeps_State_complete _ _ _ _ _ ?_
    | refine keepsOP_of (by with_reducible assumption) (keeps_State_placeBlob _ _ ?_)
    | with_reducible refine keeps_State_setEnt _ _ ?_
    | with_reducible refine keeps_State_writeBlob _ _ _ ?_
    | with_reducible refine keeps_State_setAdrec _ _ ?_
    | split

theorem keeps_State_loadInto {b s : State} (a1) (a2) (a3) (a4) (a5) (a6) (a7) (h : Keeps b s) : Keeps b
      (State.loadInto s a1 a2 a3 a4 a5 a6 a7) := by
  unfold State.loadInto
  try dsimp only
  repeat' first
    | with_reducible assumption
    | with_reducible refine keeps_State_complete _ _ _ _ _ ?_
    | with_reducible refine keeps_State_loadAt _ _ _ _ _ _ _ _ ?_
    | split

theorem keeps_State_objLoad {b s : State} (a1) (a2) (a3) (a4) (a5) (a6) (h : Keeps b s) : Keeps b (State.objLoad s a1 a2
      a3 a4 a5 a6) := by
  unfold State.objLoad
  try dsimp only
  repeat' first
    | with_reducible assumption
    | simp only [↓keeps_mk]
    | with_reducible refine keeps_State_complete _ _ _ _ _ ?_
    | with_reducible refine keeps_State_homeWrite _ _ ?_
    | with_reducible refine keeps_State_setObj _ _ ?_
    | with_reducible refine keeps_State_tickFree ?_
    | split

theorem keeps_State_payDir {b s : State} (h : Keeps b s) : Keeps b (State.payDir s) := by
  unfold State.payDir
  try dsimp only
  repeat' first
    | with_reducible assumption
    | simp only [↓keeps_mk]
    | with_reducible refine keeps_State_applyActs _ ?_

theorem keeps_State_placeRec {b s : State} (a1) (a2) (h : Keeps b s) : KeepsO b (State.placeRec s a1 a2) := by
  unfold State.placeRec
  try dsimp only
  repeat' first
    | with_reducible assumption
    | with_reducible refine keeps_State_spoilLines _ _ ?_
    | with_reducible refine keepsO_some ?_
    | with_reducible exact keepsO_none
    | with_reducible refine keeps_State_tickFree ?_
    | with_reducible refine keeps_State_setAdrec _ _ ?_
    | with_reducible refine keeps_State_homeWrite _ _ ?_
    | with_reducible refine keeps_State_moveOut _ _ ?_
    | split

theorem keeps_State_readBack {b s : State} (a1) (a2) (h : Keeps b s) : Keeps b (State.readBack s a1 a2) := by
  unfold State.readBack
  try dsimp only
  repeat' first
    | with_reducible assumption
    | with_reducible refine keeps_State_allocPage _ _ _ ?_
    | with_reducible refine keeps_State_homeWrite _ _ ?_
    | with_reducible refine keeps_State_coldOpen _ _ ?_
    | with_reducible refine keeps_State_setPage _ _ ?_
    | with_reducible refine keeps_State_writePt _ ?_
    | with_reducible refine keeps_State_dropCopy _ _ ?_
    | with_reducible refine keeps_State_setReq _ _ ?_

theorem keeps_State_runCmd {b s : State} (a1) (a2) (a3) (a4) (h4 : ∀ x0 t, Keeps b t → Keeps b (a4 x0 t)) (h : Keeps b
      s) : Keeps b (State.runCmd s a1 a2 a3 a4) := by
  unfold State.runCmd
  try dsimp only
  repeat' first
    | with_reducible assumption
    | simp only [↓keeps_mk]
    | with_reducible refine h4 _ _ ?_
    | with_reducible refine keeps_State_complete _ _ _ _ _ ?_
    | split

theorem keeps_State_spillDone {b s : State} (a1) (h : Keeps b s) : Keeps b (State.spillDone s a1) := by
  unfold State.spillDone
  try dsimp only
  repeat' first
    | with_reducible assumption
    | with_reducible refine keeps_State_setReq _ _ ?_
    | split

theorem keeps_execAdapterLoad {b s : State} (a0) (a1) (a2) (a3) (h : Keeps b s) : KeepsR b (execAdapterLoad a0 a1 a2 a3
      s) := by
  unfold execAdapterLoad
  try dsimp only
  repeat' first
    | with_reducible assumption
    | with_reducible refine keepsR_next ?_
    | with_reducible refine keeps_State_runCmd _ _ _ _ ?_ ?_
    | with_reducible refine keeps_State_complete _ _ _ _ _ ?_
    | with_reducible refine keeps_State_loadInto _ _ _ _ _ _ _ ?_
    | split
    | (intro _ _ _; try dsimp only)

theorem keeps_execAdapterDigestCheck {b s : State} (a0) (h : Keeps b s) : KeepsR b (execAdapterDigestCheck a0 s) := by
  unfold execAdapterDigestCheck
  try dsimp only
  repeat' first
    | with_reducible assumption
    | with_reducible refine keepsR_next ?_
    | with_reducible refine keeps_State_setAdrec _ _ ?_
    | with_reducible refine keeps_State_freeRec _ _ ?_
    | split

theorem keeps_execAdapterDelete {b s : State} (a0) (a1) (h : Keeps b s) : KeepsR b (execAdapterDelete a0 a1 s) := by
  unfold execAdapterDelete
  try dsimp only
  repeat' first
    | with_reducible assumption
    | simp only [↓keeps_mk]
    | with_reducible refine keepsR_next ?_
    | with_reducible refine keeps_State_runCmd _ _ _ _ ?_ ?_
    | with_reducible refine keeps_State_complete _ _ _ _ _ ?_
    | split
    | (intro _ _ _; try dsimp only)

theorem keeps_execAdapterQuery {b s : State} (a0) (a1) (h : Keeps b s) : KeepsR b (execAdapterQuery a0 a1 s) := by
  unfold execAdapterQuery
  try dsimp only
  repeat' first
    | with_reducible assumption
    | with_reducible refine keepsR_next ?_
    | with_reducible refine keeps_State_runCmd _ _ _ _ ?_ ?_
    | with_reducible refine keeps_State_complete _ _ _ _ _ ?_
    | with_reducible refine keeps_State_emit _ ?_
    | split
    | (intro _ _ _; try dsimp only)

theorem keeps_execAdapterPlace {b s : State} (a0) (a1) (h : Keeps b s) : KeepsR b (execAdapterPlace a0 a1 s) := by
  unfold execAdapterPlace
  try dsimp only
  repeat' first
    | with_reducible assumption
    | with_reducible refine keepsR_next ?_
    | with_reducible refine keeps_State_runCmd _ _ _ _ ?_ ?_
    | with_reducible refine keeps_State_complete _ _ _ _ _ ?_
    | refine keepsO_of (by with_reducible assumption) (keeps_State_placeRec _ _ ?_)
    | split
    | (intro _ _ _; try dsimp only)

theorem keeps_execAdapterSetPrio {b s : State} (a0) (a1) (h : Keeps b s) : KeepsR b (execAdapterSetPrio a0 a1 s) := by
  unfold execAdapterSetPrio
  try dsimp only
  repeat' first
    | with_reducible assumption
    | simp only [↓keeps_mk]
    | with_reducible refine keepsR_next ?_
    | with_reducible refine keeps_State_runCmd _ _ _ _ ?_ ?_
    | with_reducible refine keeps_State_complete _ _ _ _ _ ?_
    | split
    | (intro _ _ _; try dsimp only)

theorem keeps_execHbmHome {b s : State} (a0) (a1) (h : Keeps b s) : KeepsR b (execHbmHome a0 a1 s) := by
  unfold execHbmHome
  try dsimp only
  repeat' first
    | with_reducible assumption
    | simp only [↓keeps_mk]
    | with_reducible refine keepsR_next ?_
    | with_reducible refine keeps_State_own _ _ _ _ _ ?_ ?_
    | split
    | (intro _ _ _; try dsimp only)

theorem keeps_execHomeChangeComplete {b s : State} (a0) (h : Keeps b s) : KeepsR b (execHomeChangeComplete a0 s) := by
  unfold execHomeChangeComplete
  try dsimp only
  repeat' first
    | with_reducible assumption
    | simp only [↓keeps_mk]
    | with_reducible refine keepsR_next ?_
    | split

theorem keeps_execCfmLinkDown {b s : State} (a0) (h : Keeps b s) : KeepsR b (execCfmLinkDown a0 s) := by
  unfold execCfmLinkDown
  try dsimp only
  repeat' first
    | with_reducible assumption
    | simp only [↓keeps_mk]
    | with_reducible refine keeps_State_raise _ ?_
    | with_reducible refine keepsR_onlyIf ?_ ?_

theorem keeps_execColdFrameHotEnumeration {b s : State} (a0) (a1) (h : Keeps b s) : KeepsR b
      (execColdFrameHotEnumeration a0 a1 s) := by
  unfold execColdFrameHotEnumeration
  try dsimp only
  repeat' first
    | with_reducible assumption
    | simp only [↓keeps_mk]
    | with_reducible refine keeps_State_wr _ _ _ _ ?_
    | with_reducible refine keepsR_onlyIf ?_ ?_

theorem keeps_execSpillPageWrite {b s : State} (a0) (a1) (a2) (h : Keeps b s) : KeepsR b (execSpillPageWrite a0 a1 a2 s)
      := by
  unfold execSpillPageWrite
  try dsimp only
  repeat' first
    | with_reducible assumption
    | simp only [↓keeps_mk]
    | with_reducible refine keepsR_next ?_
    | with_reducible refine keeps_State_hbmEvents _ ?_
    | with_reducible refine keeps_State_setReq _ _ ?_
    | with_reducible refine keeps_State_failReq _ _ _ ?_
    | with_reducible refine keeps_State_moveOut _ _ ?_
    | with_reducible refine keeps_State_tickFree ?_
    | with_reducible refine keeps_State_releasePage _ ?_
    | with_reducible refine keeps_State_spillDone _ ?_
    | with_reducible refine keeps_State_writePt _ ?_
    | with_reducible refine keeps_State_raise _ ?_
    | split

theorem keeps_execListLoad {b s : State} (a0) (a1) (a2) (a3) (h : Keeps b s) : KeepsR b (execListLoad a0 a1 a2 a3 s) :=
      by
  unfold execListLoad
  try dsimp only
  repeat' first
    | with_reducible assumption
    | with_reducible refine keepsR_next ?_
    | with_reducible refine keeps_State_runCmd _ _ _ _ ?_ ?_
    | with_reducible refine keeps_State_objLoad _ _ _ _ _ _ ?_
    | (intro _ _ _; try dsimp only)

theorem keeps_execGrammarLoad {b s : State} (a0) (a1) (a2) (a3) (h : Keeps b s) : KeepsR b (execGrammarLoad a0 a1 a2 a3
      s) := by
  unfold execGrammarLoad
  try dsimp only
  repeat' first
    | with_reducible assumption
    | with_reducible refine keepsR_next ?_
    | with_reducible refine keeps_State_runCmd _ _ _ _ ?_ ?_
    | with_reducible refine keeps_State_objLoad _ _ _ _ _ _ ?_
    | (intro _ _ _; try dsimp only)

theorem keeps_execSelObjDelete {b s : State} (a0) (a1) (h : Keeps b s) : KeepsR b (execSelObjDelete a0 a1 s) := by
  unfold execSelObjDelete
  try dsimp only
  repeat' first
    | with_reducible assumption
    | with_reducible refine keepsR_next ?_
    | with_reducible refine keeps_State_runCmd _ _ _ _ ?_ ?_
    | with_reducible refine keeps_State_complete _ _ _ _ _ ?_
    | with_reducible refine keeps_State_deleteObj _ _ ?_
    | split
    | (intro _ _ _; try dsimp only)

theorem keeps_execHbmLaneWindowStart {b s : State} (h : Keeps b s) : KeepsR b (execHbmLaneWindowStart s) := by
  unfold execHbmLaneWindowStart
  try dsimp only
  repeat' first
    | with_reducible assumption
    | simp only [↓keeps_mk]
    | with_reducible refine keepsR_next ?_

end Sys2Proof.Laws
end

