-- ==== Sys2Proof/Laws/KeepsSteward.lean ====
section
/-! SUPPORT. Each operation on requests, stewards and queue pairs keeps what every command keeps. -/
namespace Sys2Proof.Laws
open Sys2Proof Sys2Proof.Machine

theorem keeps_State_resend {b s : State} (a1) (a2) (a3) (a4) (a5) (h : Keeps b s) : Keeps b (State.resend s a1 a2 a3 a4
      a5) := by
  unfold State.resend
  try dsimp only
  repeat' first
    | with_reducible assumption
    | with_reducible refine keeps_State_emit _ ?_
    | with_reducible refine keeps_foldl ?_ ?_
    | split
    | (intro _ _ _; try dsimp only)

theorem keeps_State_advanceSq {b s : State} (a1) (h : Keeps b s) : Keeps b (State.advanceSq s a1) := by
  unfold State.advanceSq
  try dsimp only
  repeat' first
    | with_reducible assumption
    | simp only [↓keeps_mk]
    | with_reducible refine keeps_State_setQp _ _ ?_

theorem keeps_State_hostOut {b s : State} (a1) (a2) (a3) (h : Keeps b s) : Keeps b (State.hostOut s a1 a2 a3) := by
  unfold State.hostOut
  try dsimp only
  repeat' first
    | with_reducible assumption
    | with_reducible refine keeps_State_emit _ ?_
    | split

theorem keeps_State_report {b s : State} (a1) (a2) (a3) (a4) (a5) (a6) (h : Keeps b s) : Keeps b (State.report s a1 a2
      a3 a4 a5 a6) := by
  unfold State.report
  try dsimp only
  repeat' first
    | with_reducible assumption
    | with_reducible refine keeps_State_putEvent _ _ ?_
    | with_reducible refine keeps_State_hostOut _ _ _ ?_
    | split

theorem keeps_State_finish {b s : State} (a1) (a2) (h : Keeps b s) : Keeps b (State.finish s a1 a2) := by
  unfold State.finish
  try dsimp only
  repeat' first
    | with_reducible assumption
    | simp only [↓keeps_mk]
    | with_reducible refine keeps_State_dropPages _ ?_
    | with_reducible refine keeps_State_unpinRec _ ?_
    | with_reducible refine keeps_State_unpinObj _ ?_
    | with_reducible refine keeps_State_report _ _ _ _ _ _ ?_
    | with_reducible refine keeps_foldl ?_ ?_
    | split
    | (intro _ _ _; try dsimp only)

theorem keeps_State_admits {b s : State} (a1) (a2) (a3) (h : Keeps b s) : Keeps b (State.admits s a1 a2 a3) := by
  unfold State.admits
  try dsimp only
  repeat' first
    | with_reducible assumption
    | simp only [↓keeps_mk]
    | with_reducible refine keeps_State_tickFree ?_
    | with_reducible refine keeps_State_setReq _ _ ?_
    | with_reducible refine keeps_State_takeRecs _ ?_
    | with_reducible refine keeps_State_setObj _ _ ?_
    | with_reducible refine keeps_State_inc _ _ _ ?_
    | with_reducible refine keeps_State_advanceSq _ ?_
    | with_reducible refine keeps_State_finish _ _ ?_
    | with_reducible refine keeps_State_failReq _ _ _ ?_
    | split

theorem keeps_State_advanceReq {b s : State} (a1) (h : Keeps b s) : Keeps b (State.advanceReq s a1) := by
  unfold State.advanceReq
  try dsimp only
  repeat' first
    | with_reducible assumption
    | with_reducible refine keeps_State_setReq _ _ ?_
    | with_reducible refine keeps_State_takeRecs _ ?_
    | with_reducible refine keeps_State_unpinRec _ ?_
    | with_reducible refine keeps_foldl ?_ ?_
    | split
    | (intro _ _ _; try dsimp only)

theorem keeps_State_askRaise {b s : State} (a1) (h : Keeps b s) : Keeps b (State.askRaise s a1) := by
  unfold State.askRaise
  try dsimp only
  repeat' first
    | with_reducible assumption
    | simp only [↓keeps_mk]
    | with_reducible refine keeps_State_emit _ ?_
    | split

theorem keeps_State_bcastRun {b s : State} (h : Keeps b s) : Keeps b (State.bcastRun s) := by
  unfold State.bcastRun
  try dsimp only
  repeat' first
    | with_reducible assumption
    | simp only [↓keeps_mk]

theorem keeps_State_requestMissing {b s : State} (h : Keeps b s) : Keeps b (State.requestMissing s) := by
  unfold State.requestMissing
  try dsimp only
  repeat' first
    | with_reducible assumption
    | with_reducible refine keeps_State_emit _ ?_
    | with_reducible refine keeps_foldl ?_ ?_
    | split
    | (intro _ _ _; try dsimp only)

theorem keeps_State_bcastRetry {b s : State} (h : Keeps b s) : Keeps b (State.bcastRetry s) := by
  unfold State.bcastRetry
  try dsimp only
  repeat' first
    | with_reducible assumption
    | simp only [↓keeps_mk]
    | with_reducible refine keeps_State_bcastRun ?_
    | with_reducible refine keeps_State_requestMissing ?_
    | split

theorem keeps_State_sendPart {b s : State} (a1) (h : Keeps b s) : Keeps b (State.sendPart s a1) := by
  unfold State.sendPart
  try dsimp only
  repeat' first
    | with_reducible assumption
    | with_reducible refine keeps_State_emit _ ?_
    | split

theorem keeps_State_bcastSend {b s : State} (h : Keeps b s) : Keeps b (State.bcastSend s) := by
  unfold State.bcastSend
  try dsimp only
  repeat' first
    | with_reducible assumption
    | simp only [↓keeps_mk]
    | with_reducible refine keeps_State_sendPart _ ?_
    | split

theorem keeps_State_withdrawTerr {b s : State} (a1) (h : Keeps b s) : Keeps b (State.withdrawTerr s a1) := by
  unfold State.withdrawTerr
  try dsimp only
  repeat' first
    | with_reducible assumption
    | simp only [↓keeps_mk]
    | with_reducible refine keeps_State_setTerr _ _ ?_

theorem keeps_State_ringsAgain {b s : State} (h : Keeps b s) : Keeps b (State.ringsAgain s) := by
  unfold State.ringsAgain
  try dsimp only
  repeat' first
    | with_reducible assumption
    | simp only [↓keeps_mk]

theorem keeps_State_installKeys {b s : State} (h : Keeps b s) : Keeps b (State.installKeys s) := by
  unfold State.installKeys
  try dsimp only
  repeat' first
    | with_reducible assumption
    | simp only [↓keeps_mk]

theorem keeps_State_goPav {b s : State} (a1) (a2) (h : Keeps b s) : Keeps b (State.goPav s a1 a2) := by
  unfold State.goPav
  try dsimp only
  repeat' first
    | with_reducible assumption
    | with_reducible refine keeps_State_notifyAll _ ?_
    | with_reducible refine keeps_State_setPav _ _ ?_
    | split

theorem keeps_State_settleDev {b s : State} (h : Keeps b s) : Keeps b (State.settleDev s) := by
  unfold State.settleDev
  try dsimp only
  repeat' first
    | with_reducible assumption
    | with_reducible refine keeps_State_goDev _ ?_
    | split

theorem keeps_State_closePav {b s : State} (a1) (h : Keeps b s) : Keeps b (State.closePav s a1) := by
  unfold State.closePav
  try dsimp only
  repeat' first
    | with_reducible assumption
    | with_reducible refine keeps_State_markEnd _ _ ?_
    | with_reducible refine keeps_State_setReq _ _ ?_
    | with_reducible refine keeps_State_goPav _ _ ?_
    | with_reducible refine keeps_State_settleDev ?_
    | with_reducible refine keeps_foldl ?_ ?_
    | (intro _ _ _; try dsimp only)

theorem keeps_State_noTerrace {b s : State} (a1) (h : Keeps b s) : Keeps b (State.noTerrace s a1) := by
  unfold State.noTerrace
  try dsimp only
  repeat' first
    | with_reducible assumption
    | with_reducible refine keeps_State_raise _ ?_
    | with_reducible refine keeps_State_closePav _ ?_
    | split

theorem keeps_State_clampNp {b s : State} (a1) (h : Keeps b s) : Keeps b (State.clampNp s a1) := by
  unfold State.clampNp
  try dsimp only
  repeat' first
    | with_reducible assumption
    | with_reducible refine keeps_State_setPav _ _ ?_
    | split

theorem keeps_State_withdrawals {b s : State} (a1) (h : Keeps b s) : Keeps b (State.withdrawals s a1) := by
  unfold State.withdrawals
  try dsimp only
  repeat' first
    | with_reducible assumption
    | with_reducible refine keeps_State_withdrawTerr _ ?_
    | with_reducible refine keeps_State_noTerrace _ ?_
    | with_reducible refine keeps_State_clampNp _ ?_
    | with_reducible refine keeps_foldl ?_ ?_
    | split
    | (intro _ _ _; try dsimp only)

theorem keeps_State_openPav {b s : State} (a1) (h : Keeps b s) : Keeps b (State.openPav s a1) := by
  unfold State.openPav
  try dsimp only
  repeat' first
    | with_reducible assumption
    | with_reducible refine keeps_State_setPav _ _ ?_
    | with_reducible refine keeps_State_settleDev ?_
    | with_reducible refine keeps_State_goPav _ _ ?_

theorem keeps_State_markSwapMade {b s : State} (a1) (h : Keeps b s) : Keeps b (State.markSwapMade s a1) := by
  unfold State.markSwapMade
  try dsimp only
  repeat' first
    | with_reducible assumption
    | with_reducible refine keeps_State_setPage _ _ ?_
    | with_reducible refine keeps_foldl ?_ ?_
    | (intro _ _ _; try dsimp only)

theorem keeps_State_swapEnter {b s : State} (a1) (h : Keeps b s) : Keeps b (State.swapEnter s a1) := by
  unfold State.swapEnter
  try dsimp only
  repeat' first
    | with_reducible assumption
    | with_reducible refine keeps_State_goPav _ _ ?_
    | with_reducible refine keeps_State_setPav _ _ ?_
    | with_reducible refine keeps_State_markSwapMade _ ?_
    | with_reducible refine keeps_foldl ?_ ?_
    | split
    | (intro _ _ _; try dsimp only)

theorem keeps_State_rosterGo {b s : State} (a1) (a2) (a3) (a4) (a5) (h : Keeps b s) : Keeps b (State.rosterGo s a1 a2 a3
      a4 a5) := by
  induction a5 generalizing s a1 a2 a3 a4 with
  | nil => exact h
  | cons _ _ ih =>
    unfold State.rosterGo
    try dsimp only
    repeat' first
      | with_reducible assumption
      | with_reducible apply ih
      | with_reducible refine keeps_State_pageInTry _ _ ?_
      | with_reducible refine keeps_State_stepRoom _ _ ?_
      | with_reducible refine keeps_State_prefixMatch _ ?_
      | with_reducible refine keeps_State_claim _ _ ?_
      | with_reducible refine keeps_State_setReq _ _ ?_
      | with_reducible refine keeps_State_spillFor _ _ _ ?_
      | split

theorem keeps_State_roster {b s : State} (a1) (h : Keeps b s) : Keeps b (State.roster s a1) := by
  unfold State.roster
  try dsimp only
  repeat' first
    | with_reducible assumption
    | with_reducible refine keeps_State_setReq _ _ ?_
    | with_reducible refine keeps_State_rosterGo _ _ _ _ _ ?_
    | with_reducible refine keeps_foldl ?_ ?_
    | (intro _ _ _; try dsimp only)

theorem keeps_State_rebalance {b s : State} (a1) (h : Keeps b s) : Keeps b (State.rebalance s a1) := by
  unfold State.rebalance
  try dsimp only
  repeat' first
    | with_reducible assumption
    | with_reducible refine keeps_State_setPav _ _ ?_
    | split

theorem keeps_State_markSlices {b s : State} (a1) (h : Keeps b s) : Keeps b (State.markSlices s a1) := by
  unfold State.markSlices
  try dsimp only
  repeat' first
    | with_reducible assumption
    | with_reducible refine keeps_State_setReq _ _ ?_
    | with_reducible refine keeps_foldl ?_ ?_
    | (intro _ _ _; try dsimp only)

theorem keeps_State_setDepths {b s : State} (a1) (h : Keeps b s) : Keeps b (State.setDepths s a1) := by
  unfold State.setDepths
  try dsimp only
  repeat' first
    | with_reducible assumption
    | with_reducible refine keeps_State_setReq _ _ ?_
    | with_reducible refine keeps_foldl ?_ ?_
    | (intro _ _ _; try dsimp only)

theorem keeps_State_cadPav {b s : State} (a1) (h : Keeps b s) : Keeps b (State.cadPav s a1) := by
  unfold State.cadPav
  try dsimp only
  repeat' first
    | with_reducible assumption
    | with_reducible refine keeps_State_withdrawals _ ?_
    | with_reducible refine keeps_State_openPav _ ?_
    | with_reducible refine keeps_State_swapEnter _ ?_
    | with_reducible refine keeps_State_roster _ ?_
    | with_reducible refine keeps_State_rebalance _ ?_
    | with_reducible refine keeps_State_markSlices _ ?_
    | with_reducible refine keeps_State_setDepths _ ?_
    | with_reducible refine keeps_State_dropPoisoned ?_
    | split

theorem keeps_State_limitsStep {b s : State} (h : Keeps b s) : Keeps b (State.limitsStep s) := by
  unfold State.limitsStep
  try dsimp only
  repeat' first
    | with_reducible assumption
    | simp only [↓keeps_mk]
    | with_reducible refine keeps_State_inc _ _ _ ?_
    | split

theorem keeps_State_setRate {b s : State} (a1) (h : Keeps b s) : Keeps b (State.setRate s a1) := by
  unfold State.setRate
  try dsimp only
  repeat' first
    | with_reducible assumption
    | simp only [↓keeps_mk]
    | with_reducible refine keeps_State_emit _ ?_
    | with_reducible refine keeps_State_wr _ _ _ _ ?_

theorem keeps_State_rateStep {b s : State} (h : Keeps b s) : Keeps b (State.rateStep s) := by
  unfold State.rateStep
  try dsimp only
  repeat' first
    | with_reducible assumption
    | simp only [↓keeps_mk]
    | with_reducible refine keeps_State_wr _ _ _ _ ?_
    | with_reducible refine keeps_State_limitsStep ?_
    | with_reducible refine keeps_State_setRate _ ?_
    | with_reducible refine keeps_State_askRaise _ ?_
    | split

theorem keeps_State_oldRecords {b s : State} (h : Keeps b s) : Keeps b (State.oldRecords s) := by
  unfold State.oldRecords
  try dsimp only
  repeat' first
    | with_reducible assumption
    | simp only [↓keeps_mk]
    | split

theorem keeps_State_noSpare {b s : State} (a1) (h : Keeps b s) : Keeps b (State.noSpare s a1) := by
  unfold State.noSpare
  try dsimp only
  repeat' first
    | with_reducible assumption
    | with_reducible refine keeps_State_raise _ ?_
    | with_reducible refine keeps_State_setTerr _ _ ?_
    | with_reducible refine keeps_State_withdrawTerr _ ?_
    | split

theorem keeps_State_trigger {b s : State} (a1) (h : Keeps b s) : Keeps b (State.trigger s a1) := by
  unfold State.trigger
  try dsimp only
  repeat' first
    | with_reducible assumption
    | with_reducible refine keeps_State_setPlot _ _ ?_
    | with_reducible refine keeps_State_noSpare _ ?_
    | split

theorem keeps_State_repairRow {b s : State} (a1) (a2) (h : Keeps b s) : Keeps b (State.repairRow s a1 a2) := by
  unfold State.repairRow
  try dsimp only
  repeat' first
    | with_reducible assumption
    | simp only [↓keeps_mk]
    | with_reducible refine keeps_State_setPlot _ _ ?_
    | with_reducible refine keeps_State_raise _ ?_
    | with_reducible refine keeps_State_trigger _ ?_
    | split

theorem keeps_State_repairRows {b s : State} (a1) (h : Keeps b s) : Keeps b (State.repairRows s a1) := by
  unfold State.repairRows
  try dsimp only
  repeat' first
    | with_reducible assumption
    | with_reducible refine keeps_State_repairRow _ _ ?_
    | with_reducible refine keeps_foldl ?_ ?_
    | split
    | (intro _ _ _; try dsimp only)

theorem keeps_State_freeTerrs {b s : State} (h : Keeps b s) : Keeps b (State.freeTerrs s) := by
  unfold State.freeTerrs
  simp only [↓keeps_mk]
  exact h

theorem keeps_State_boundary {b s : State} (h : Keeps b s) : Keeps b (State.boundary s) := by
  unfold State.boundary
  try dsimp only
  repeat' first
    | with_reducible assumption
    | with_reducible refine keeps_State_freeTerrs ?_
    | simp only [↓keeps_mk]
    | with_reducible refine keeps_State_bcastRetry ?_
    | with_reducible refine keeps_State_oweDir ?_
    | with_reducible refine keeps_State_dirBoundary ?_
    | with_reducible refine keeps_State_ringsAgain ?_
    | with_reducible refine keeps_State_installKeys ?_
    | with_reducible refine keeps_State_cadPav _ ?_
    | with_reducible refine keeps_State_rateStep ?_
    | with_reducible refine keeps_State_settleDev ?_
    | with_reducible refine keeps_State_oldRecords ?_
    | with_reducible refine keeps_State_repairRows _ ?_
    | with_reducible refine keeps_foldl ?_ ?_
    | split
    | (intro _ _ _; try dsimp only)

theorem keeps_State_emitTokens {b s : State} (a1) (a2) (h : Keeps b s) : Keeps b (State.emitTokens s a1 a2) := by
  unfold State.emitTokens
  try dsimp only
  repeat' first
    | with_reducible assumption
    | with_reducible refine keeps_State_hostOut _ _ _ ?_
    | with_reducible refine keeps_State_putEvent _ _ ?_
    | with_reducible refine keeps_foldl ?_ ?_
    | split
    | (intro _ _ _; try dsimp only)

theorem keeps_State_moveGrammar {b s : State} (a1) (a2) (h : Keeps b s) : Keeps b (State.moveGrammar s a1 a2) := by
  unfold State.moveGrammar
  try dsimp only
  repeat' first
    | with_reducible assumption
    | with_reducible refine keeps_State_setReq _ _ ?_
    | with_reducible refine keeps_State_inc _ _ _ ?_
    | with_reducible refine keeps_foldl ?_ ?_
    | split
    | (intro _ _ _; try dsimp only)

theorem keeps_State_countCommit {b s : State} (a1) (a2) (a3) (h : Keeps b s) : Keeps b (State.countCommit s a1 a2 a3) :=
      by
  unfold State.countCommit
  try dsimp only
  repeat' first
    | with_reducible assumption
    | with_reducible refine keeps_State_incWrap _ _ _ ?_
    | with_reducible refine keeps_State_setPav _ _ ?_
    | split

theorem keeps_State_commit {b s : State} (a1) (a2) (h : Keeps b s) : Keeps b (State.commit s a1 a2) := by
  unfold State.commit
  try dsimp only
  repeat' first
    | with_reducible assumption
    | with_reducible refine keeps_State_emitTokens _ _ ?_
    | with_reducible refine keeps_State_setReq _ _ ?_
    | with_reducible refine keeps_State_indexPages _ ?_
    | with_reducible refine keeps_State_moveGrammar _ _ ?_
    | with_reducible refine keeps_State_writePt _ ?_
    | with_reducible refine keeps_State_countCommit _ _ _ ?_
    | with_reducible refine keeps_State_markEnd _ _ ?_
    | split

theorem keeps_State_writeShard {b s : State} (a1) (a2) (a3) (h : Keeps b s) : Keeps b (State.writeShard s a1 a2 a3) :=
      by
  unfold State.writeShard
  try dsimp only
  repeat' first
    | with_reducible assumption
    | with_reducible refine keeps_State_moveOut _ _ ?_
    | with_reducible refine keeps_State_homeWrite _ _ ?_
    | split

theorem keeps_State_writeTable {b s : State} (a1) (a2) (h : Keeps b s) : Keeps b (State.writeTable s a1 a2) := by
  unfold State.writeTable
  try dsimp only
  repeat' first
    | with_reducible assumption
    | with_reducible refine keeps_State_homeWrite _ _ ?_

theorem keeps_State_countRoute {b s : State} (a1) (a2) (h : Keeps b s) : Keeps b (State.countRoute s a1 a2) := by
  unfold State.countRoute
  try dsimp only
  repeat' first
    | with_reducible assumption
    | with_reducible refine keeps_State_inc _ _ _ ?_
    | split

theorem keeps_State_cutReq {b s : State} (a1) (a2) (a3) (h : Keeps b s) : Keeps b (State.cutReq s a1 a2 a3) := by
  unfold State.cutReq
  try dsimp only
  repeat' first
    | with_reducible assumption
    | with_reducible refine keeps_State_failReq _ _ _ ?_
    | with_reducible refine keeps_State_markEnd _ _ ?_
    | with_reducible refine keeps_State_setReq _ _ ?_
    | split

theorem keeps_State_reject {b s : State} (a1) (a2) (a3) (h : Keeps b s) : Keeps b (State.reject s a1 a2 a3) := by
  unfold State.reject
  try dsimp only
  repeat' first
    | with_reducible assumption
    | with_reducible refine keeps_State_advanceSq _ ?_
    | with_reducible refine keeps_State_report _ _ _ _ _ _ ?_

theorem keeps_State_takeIn {b s : State} (a1) (a2) (a3) (h : Keeps b s) : Keeps b (State.takeIn s a1 a2 a3) := by
  unfold State.takeIn
  try dsimp only
  repeat' first
    | with_reducible assumption
    | with_reducible refine keeps_State_evictFor _ _ _ _ ?_
    | with_reducible refine keeps_State_spillFor _ _ _ ?_
    | with_reducible refine keeps_State_reject _ _ _ ?_
    | with_reducible refine keeps_State_countRoute _ _ ?_
    | with_reducible refine keeps_State_admits _ _ _ ?_
    | split

theorem keeps_State_decideD {b s : State} (a1) (a2) (h : Keeps b s) : Keeps b (State.decideD s a1 a2) := by
  unfold State.decideD
  try dsimp only
  repeat' first
    | with_reducible assumption
    | with_reducible refine keeps_State_reject _ _ _ ?_
    | with_reducible refine keeps_State_countRoute _ _ ?_
    | with_reducible refine keeps_State_takeIn _ _ _ ?_
    | split

theorem keeps_State_decideLive {b s : State} (a1) (a2) (h : Keeps b s) : Keeps b (State.decideLive s a1 a2) := by
  unfold State.decideLive
  try dsimp only
  repeat' first
    | with_reducible assumption
    | with_reducible refine keeps_State_reject _ _ _ ?_
    | with_reducible refine keeps_State_countRoute _ _ ?_
    | with_reducible refine keeps_State_decideD _ _ ?_
    | split

theorem keeps_State_cancelSeq {b s : State} (a1) (h : Keeps b s) : Keeps b (State.cancelSeq s a1) := by
  unfold State.cancelSeq
  split
  · exact h
  · exact keeps_foldl h fun _ _ k => keeps_State_markEnd _ _ k

theorem keeps_State_decideAt {b s : State} (a1) (h : Keeps b s) : Keeps b (State.decideAt s a1) := by
  unfold State.decideAt
  try dsimp only
  repeat' first
    | with_reducible assumption
    | with_reducible refine keeps_State_reject _ _ _ ?_
    | with_reducible refine keeps_State_decideLive _ _ ?_
    | with_reducible refine keeps_State_cancelSeq _ ?_
    | split

theorem keeps_State_discardSq {b s : State} (a1) (h : Keeps b s) : Keeps b (State.discardSq s a1) := by
  unfold State.discardSq
  try dsimp only
  repeat' first
    | with_reducible assumption
    | simp only [↓keeps_mk]
    | with_reducible refine keeps_State_setQp _ _ ?_

theorem keeps_State_drained {b s : State} (a1) (h : Keeps b s) : Keeps b (State.drained s a1) := by
  unfold State.drained
  try dsimp only
  repeat' first
    | with_reducible assumption
    | with_reducible refine keeps_State_closePav _ ?_
    | split

theorem keeps_State_endRequests {b s : State} (a1) (h : Keeps b s) : Keeps b (State.endRequests s a1) := by
  unfold State.endRequests
  try dsimp only
  repeat' first
    | with_reducible assumption
    | with_reducible refine keeps_State_finish _ _ ?_
    | with_reducible refine keeps_foldl ?_ ?_
    | split
    | (intro _ _ _; try dsimp only)

theorem keeps_State_endRows {b s : State} (a1) (a2) (h : Keeps b s) : Keeps b (State.endRows s a1 a2) := by
  unfold State.endRows
  try dsimp only
  repeat' first
    | with_reducible assumption
    | with_reducible refine keeps_State_trim _ ?_
    | with_reducible refine keeps_State_indexPages _ ?_
    | with_reducible refine keeps_State_setReq _ _ ?_
    | split

theorem keeps_State_endStep {b s : State} (a1) (a2) (a3) (h : Keeps b s) : Keeps b (State.endStep s a1 a2 a3) := by
  unfold State.endStep
  try dsimp only
  repeat' first
    | with_reducible assumption
    | with_reducible refine keeps_State_setPav _ _ ?_
    | with_reducible refine keeps_State_endRows _ _ ?_
    | with_reducible refine keeps_State_setTerr _ _ ?_
    | with_reducible refine keeps_foldl ?_ ?_
    | split
    | (intro _ _ _; try dsimp only)

theorem keeps_State_moveOver {b s : State} (a1) (a2) (h : Keeps b s) : Keeps b (State.moveOver s a1 a2) := by
  unfold State.moveOver
  try dsimp only
  repeat' first
    | with_reducible assumption
    | with_reducible refine keeps_State_setReq _ _ ?_
    | with_reducible refine keeps_foldl ?_ ?_
    | split
    | (intro _ _ _; try dsimp only)

theorem keeps_State_fillTerr {b s : State} (a1) (a2) (a3) (a4) (h : Keeps b s) : Keeps b (State.fillTerr s a1 a2 a3 a4)
      := by
  unfold State.fillTerr
  try dsimp only
  repeat' first
    | with_reducible assumption
    | with_reducible refine keeps_State_tickFree ?_
    | with_reducible refine keeps_State_setTerr _ _ ?_
    | with_reducible refine keeps_State_moveOver _ _ ?_
    | with_reducible refine keeps_State_raise _ ?_
    | split

theorem keeps_State_fireCq {b s : State} (a1) (h : Keeps b s) : Keeps b (State.fireCq s a1) := by
  unfold State.fireCq
  try dsimp only
  repeat' first
    | with_reducible assumption
    | with_reducible refine keeps_State_fire _ _ ?_
    | with_reducible refine keeps_State_setQp _ _ ?_

theorem keeps_State_holdTerrs {b s : State} (a1) (h : Keeps b s) : Keeps b (State.holdTerrs s a1) := by
  unfold State.holdTerrs
  try dsimp only
  repeat' first
    | with_reducible assumption
    | with_reducible refine keeps_State_setTerr _ _ ?_
    | with_reducible refine keeps_foldl ?_ ?_
    | (intro _ _ _; try dsimp only)

theorem keeps_State_markRows {b s : State} (a1) (h : Keeps b s) : Keeps b (State.markRows s a1) := by
  unfold State.markRows
  try dsimp only
  repeat' first
    | with_reducible assumption
    | with_reducible refine keeps_State_setReq _ _ ?_
    | with_reducible refine keeps_foldl ?_ ?_
    | (intro _ _ _; try dsimp only)

theorem keeps_State_missDeadline {b s : State} (a1) (h : Keeps b s) : Keeps b (State.missDeadline s a1) := by
  unfold State.missDeadline
  try dsimp only
  repeat' first
    | with_reducible assumption
    | with_reducible refine keeps_State_setReq _ _ ?_
    | with_reducible refine keeps_State_failReq _ _ _ ?_
    | split

theorem keeps_State_objLost {b s : State} (a1) (h : Keeps b s) : Keeps b (State.objLost s a1) := by
  unfold State.objLost
  try dsimp only
  repeat' first
    | with_reducible assumption
    | with_reducible refine keeps_State_setObj _ _ ?_
    | with_reducible refine keeps_State_failReq _ _ _ ?_
    | with_reducible refine keeps_State_setReq _ _ ?_
    | with_reducible refine keeps_foldl ?_ ?_
    | split
    | (intro _ _ _; try dsimp only)

theorem keeps_State_pauseReq {b s : State} (a1) (h : Keeps b s) : Keeps b (State.pauseReq s a1) := by
  unfold State.pauseReq
  try dsimp only
  repeat' first
    | with_reducible assumption
    | with_reducible refine keeps_State_trim _ ?_
    | with_reducible refine keeps_State_setReq _ _ ?_
    | split

theorem keeps_State_pavOpen {b s : State} (a1) (a2) (a3) (h : Keeps b s) : Keeps b (State.pavOpen s a1 a2 a3) := by
  unfold State.pavOpen
  try dsimp only
  repeat' first
    | with_reducible assumption
    | simp only [↓keeps_mk]
    | with_reducible refine keeps_State_goPav _ _ ?_
    | with_reducible refine keeps_State_complete _ _ _ _ _ ?_
    | with_reducible refine keeps_State_closePav _ ?_
    | split

theorem keeps_State_prepRow {b s : State} (a1) (h : Keeps b s) : Keeps b (State.prepRow s a1).2 := by
  unfold State.prepRow
  try dsimp only
  repeat' first
    | with_reducible assumption
    | with_reducible refine keeps_State_setReq _ _ ?_
    | with_reducible refine keeps_State_inc _ _ _ ?_
    | with_reducible refine keeps_State_stepRoom _ _ ?_
    | with_reducible refine keeps_State_cover _ _ ?_
    | split

theorem keeps_State_prepRows {b s : State} (a1) (h : Keeps b s) : Keeps b (State.prepRows s a1).2 := by
  induction a1 generalizing s with
  | nil => exact h
  | cons _ _ ih =>
    unfold State.prepRows
    try dsimp only
    repeat' first
      | with_reducible assumption
      | with_reducible apply ih
      | with_reducible refine keeps_State_prepRow _ ?_

theorem keeps_State_qpError {b s : State} (a1) (a2) (h : Keeps b s) : Keeps b (State.qpError s a1 a2) := by
  unfold State.qpError
  try dsimp only
  repeat' first
    | with_reducible assumption
    | with_reducible refine keeps_State_discardSq _ ?_
    | with_reducible refine keeps_State_setQp _ _ ?_
    | with_reducible refine keeps_State_notify _ _ ?_
    | with_reducible refine keeps_State_cutReq _ _ _ ?_
    | with_reducible refine keeps_foldl ?_ ?_
    | (intro _ _ _; try dsimp only)

theorem keeps_State_resetQpRegs {b s : State} (a1) (h : Keeps b s) : Keeps b (State.resetQpRegs s a1) := by
  unfold State.resetQpRegs
  try dsimp only
  repeat' first
    | with_reducible assumption
    | with_reducible refine keeps_State_wr _ _ _ _ ?_
    | with_reducible refine keeps_foldl ?_ ?_
    | (intro _ _ _; try dsimp only)

theorem keeps_State_resetFn {b s : State} (a1) (h : Keeps b s) : Keeps b (State.resetFn s a1) := by
  unfold State.resetFn
  try dsimp only
  repeat' first
    | with_reducible assumption
    | simp only [↓keeps_mk]
    | with_reducible refine keeps_State_cutReq _ _ _ ?_
    | with_reducible refine keeps_State_deleteObj _ _ ?_
    | with_reducible refine keeps_State_wr _ _ _ _ ?_
    | with_reducible refine keeps_State_resetQpRegs _ ?_
    | with_reducible refine keeps_foldl ?_ ?_
    | (intro _ _ _; try dsimp only)

theorem keeps_State_runPlot {b s : State} (a1) (h : Keeps b s) : Keeps b (State.runPlot s a1) := by
  unfold State.runPlot
  try dsimp only
  repeat' first
    | with_reducible assumption
    | with_reducible refine keeps_State_tickFree ?_
    | with_reducible refine keeps_State_setPlot _ _ ?_
    | with_reducible refine keeps_State_trap _ _ _ ?_
    | split

theorem keeps_State_runPlots {b s : State} (h : Keeps b s) : Keeps b (State.runPlots s) := by
  unfold State.runPlots
  try dsimp only
  repeat' first
    | with_reducible assumption
    | with_reducible refine keeps_State_runPlot _ ?_
    | with_reducible refine keeps_foldl ?_ ?_
    | (intro _ _ _; try dsimp only)

theorem keeps_State_runReq {b s : State} (a1) (a2) (a3) (h : Keeps b s) : Keeps b (State.runReq s a1 a2 a3) := by
  unfold State.runReq
  try dsimp only
  repeat' first
    | with_reducible assumption
    | with_reducible refine keeps_State_markSwapMade _ ?_
    | with_reducible refine keeps_State_writePt _ ?_
    | with_reducible refine keeps_State_setReq _ _ ?_
    | split

theorem keeps_State_sendStart {b s : State} (a1) (h : Keeps b s) : Keeps b (State.sendStart s a1) := by
  unfold State.sendStart
  try dsimp only
  repeat' first
    | with_reducible assumption
    | simp only [↓keeps_mk]
    | with_reducible refine keeps_State_tickFree ?_

theorem keeps_State_setSvcRead {b s : State} (a1) (h : Keeps b s) : Keeps b (State.setSvcRead s a1) := by
  unfold State.setSvcRead
  try dsimp only
  repeat' first
    | with_reducible assumption
    | simp only [↓keeps_mk]

theorem keeps_State_ttlCheck {b s : State} (h : Keeps b s) : Keeps b (State.ttlCheck s) := by
  unfold State.ttlCheck
  try dsimp only
  repeat' first
    | with_reducible assumption
    | simp only [↓keeps_mk]
    | with_reducible refine keeps_State_drained _ ?_
    | with_reducible refine keeps_State_finish _ _ ?_
    | with_reducible refine keeps_foldl ?_ ?_
    | split
    | (intro _ _ _; try dsimp only)

theorem keeps_State_tileLayer {b s : State} (a1) (a2) (a3) (a4) (h : Keeps b s) : Keeps b (State.tileLayer s a1 a2 a3
      a4) := by
  unfold State.tileLayer
  try dsimp only
  repeat' first
    | with_reducible assumption
    | with_reducible refine keeps_State_setPlot _ _ ?_
    | with_reducible refine keeps_foldl ?_ ?_
    | split
    | (intro _ _ _; try dsimp only)

theorem keeps_State_tileAll {b s : State} (a1) (a2) (h : Keeps b s) : Keeps b (State.tileAll s a1 a2) := by
  unfold State.tileAll
  try dsimp only
  repeat' first
    | with_reducible assumption
    | with_reducible refine keeps_State_tileLayer _ _ _ _ ?_
    | with_reducible refine keeps_foldl ?_ ?_
    | split
    | (intro _ _ _; try dsimp only)

theorem keeps_State_startStep {b s : State} (a1) (a2) (a3) (h : Keeps b s) : Keeps b (State.startStep s a1 a2 a3) := by
  unfold State.startStep
  try dsimp only
  repeat' first
    | with_reducible assumption
    | with_reducible refine keeps_State_prepRows _ ?_
    | with_reducible refine keeps_State_fillTerr _ _ _ _ ?_
    | with_reducible refine keeps_State_runReq _ _ _ ?_
    | with_reducible refine keeps_State_wr _ _ _ _ ?_
    | with_reducible refine keeps_State_sendStart _ ?_
    | with_reducible refine keeps_State_tileAll _ _ ?_
    | with_reducible refine keeps_foldl ?_ ?_
    | (intro _ _ _; try dsimp only)

theorem keeps_State_swapHold {b s : State} (a1) (h : Keeps b s) : Keeps b (State.swapHold s a1) := by
  unfold State.swapHold
  try dsimp only
  repeat' first
    | with_reducible assumption
    | with_reducible refine keeps_State_setPav _ _ ?_
    | split

theorem keeps_State_tick {b s : State} (h : Keeps b s) : Keeps b (State.tick s) := by
  unfold State.tick
  try dsimp only
  repeat' first
    | with_reducible assumption
    | with_reducible refine keeps_State_idle ?_
    | with_reducible refine keeps_State_runPlots ?_
    | with_reducible refine keeps_State_bcastSend ?_
    | split

theorem keeps_State_tryRun {b s : State} (a1) (h : Keeps b s) : Keeps b (State.tryRun s a1) := by
  unfold State.tryRun
  try dsimp only
  repeat' first
    | with_reducible assumption
    | with_reducible refine keeps_State_setReq _ _ ?_
    | with_reducible refine keeps_State_stepRoom _ _ ?_
    | with_reducible refine keeps_State_prefixMatch _ ?_
    | with_reducible refine keeps_State_claim _ _ ?_
    | split

theorem keeps_State_visited {b s s2 : State} (a2) (a3) (h : Keeps b s) (h2 : Keeps b s2) : Keeps b (State.visited s s2
      a2 a3) := by
  unfold State.visited
  try dsimp only
  repeat' first
    | with_reducible assumption
    | with_reducible refine keeps_State_setQp _ _ ?_
    | with_reducible refine keeps_State_setPav _ _ ?_
    | split

theorem keeps_execSvcPrivateWrite {b s : State} (a0) (h : Keeps b s) : KeepsR b (execSvcPrivateWrite a0 s) := by
  unfold execSvcPrivateWrite
  try dsimp only
  repeat' first
    | with_reducible assumption
    | with_reducible refine keepsR_next ?_
    | with_reducible refine keeps_State_setSvcRead _ ?_
    | with_reducible refine keeps_State_busRead _ _ ?_
    | with_reducible refine keeps_State_regWrite _ _ _ _ ?_
    | split

theorem keeps_execSqTailDoorbell {b s : State} (a0) (a1) (a2) (h : Keeps b s) : KeepsR b (execSqTailDoorbell a0 a1 a2 s)
      := by
  unfold execSqTailDoorbell
  try dsimp only
  repeat' first
    | with_reducible assumption
    | with_reducible refine keepsR_next ?_
    | with_reducible refine keeps_State_qpError _ _ ?_
    | with_reducible refine keeps_State_setQp _ _ ?_
    | with_reducible refine keeps_State_pumpAdmin _ _ ?_
    | split

theorem keeps_execHoldLimitExpiry {b s : State} (a0) (a1) (h : Keeps b s) : KeepsR b (execHoldLimitExpiry a0 a1 s) := by
  unfold execHoldLimitExpiry
  try dsimp only
  repeat' first
    | with_reducible assumption
    | with_reducible refine keeps_State_reject _ _ _ ?_
    | with_reducible refine keeps_State_countRoute _ _ ?_
    | with_reducible refine keepsR_onlyIf ?_ ?_
    | split

theorem keeps_execAging {b s : State} (a0) (h : Keeps b s) : KeepsR b (execAging a0 s) := by
  unfold execAging
  try dsimp only
  repeat' first
    | with_reducible assumption
    | with_reducible refine keeps_State_setReq _ _ ?_
    | with_reducible refine keepsR_onlyIf ?_ ?_

theorem keeps_execStepBoundary {b s : State} (a0) (a1) (a2) (a3) (a4) (h : Keeps b s) : KeepsR b (execStepBoundary a0 a1
      a2 a3 a4 s) := by
  unfold execStepBoundary
  try dsimp only
  repeat' first
    | with_reducible assumption
    | with_reducible refine keepsR_next ?_
    | with_reducible refine keeps_State_endRequests _ ?_
    | with_reducible refine keeps_State_endStep _ _ _ ?_
    | with_reducible refine keeps_State_advanceReq _ ?_
    | with_reducible refine keeps_State_swapHold _ ?_
    | with_reducible refine keeps_State_holdTerrs _ ?_
    | with_reducible refine keeps_State_repairRows _ ?_
    | with_reducible refine keeps_State_withdrawals _ ?_
    | with_reducible refine keeps_State_pauseReq _ ?_
    | with_reducible refine keeps_State_drained _ ?_
    | with_reducible refine keeps_State_markRows _ ?_
    | with_reducible refine keeps_State_startStep _ _ _ ?_
    | with_reducible refine keeps_foldl ?_ ?_
    | split
    | (intro _ _ _; try dsimp only)

theorem keeps_execPavOpen {b s : State} (a0) (a1) (h : Keeps b s) : KeepsR b (execPavOpen a0 a1 s) := by
  unfold execPavOpen
  try dsimp only
  repeat' first
    | with_reducible assumption
    | with_reducible refine keepsR_next ?_
    | with_reducible refine keeps_State_runCmd _ _ _ _ ?_ ?_
    | with_reducible refine keeps_State_complete _ _ _ _ _ ?_
    | with_reducible refine keeps_State_pavOpen _ _ _ ?_
    | split
    | (intro _ _ _; try dsimp only)

theorem keeps_execPavDrain {b s : State} (a0) (a1) (h : Keeps b s) : KeepsR b (execPavDrain a0 a1 s) := by
  unfold execPavDrain
  try dsimp only
  repeat' first
    | with_reducible assumption
    | with_reducible refine keepsR_next ?_
    | with_reducible refine keeps_State_runCmd _ _ _ _ ?_ ?_
    | with_reducible refine keeps_State_complete _ _ _ _ _ ?_
    | with_reducible refine keeps_State_drained _ ?_
    | with_reducible refine keeps_State_goPav _ _ ?_
    | split
    | (intro _ _ _; try dsimp only)

theorem keeps_execDrainLimitExpiry {b s : State} (a0) (h : Keeps b s) : KeepsR b (execDrainLimitExpiry a0 s) := by
  unfold execDrainLimitExpiry
  try dsimp only
  repeat' first
    | with_reducible assumption
    | with_reducible refine keeps_State_closePav _ ?_
    | with_reducible refine keepsR_onlyIf ?_ ?_

theorem keeps_execCommitPoint {b s : State} (a0) (h : Keeps b s) : KeepsR b (execCommitPoint a0 s) := by
  unfold execCommitPoint
  try dsimp only
  repeat' first
    | with_reducible assumption
    | with_reducible refine keepsR_next ?_
    | with_reducible refine keeps_State_raise _ ?_
    | with_reducible refine keeps_State_setReq _ _ ?_
    | with_reducible refine keeps_State_commit _ _ ?_
    | split

theorem keeps_execPageInRead {b s : State} (a0) (h : Keeps b s) : KeepsR b (execPageInRead a0 s) := by
  unfold execPageInRead
  try dsimp only
  repeat' first
    | with_reducible assumption
    | with_reducible refine keepsR_next ?_
    | with_reducible refine keeps_State_tryRun _ ?_
    | with_reducible refine keeps_State_indexFrom _ _ ?_
    | with_reducible refine keeps_State_setReq _ _ ?_
    | with_reducible refine keeps_State_dropPages _ ?_
    | with_reducible refine keeps_State_failReq _ _ _ ?_
    | with_reducible refine keeps_State_evictFor _ _ _ _ ?_
    | with_reducible refine keeps_State_readBack _ _ ?_
    | split

theorem keeps_execSelection {b s : State} (a0) (a1) (a2) (h : Keeps b s) : KeepsR b (execSelection a0 a1 a2 s) := by
  unfold execSelection
  try dsimp only
  repeat' first
    | with_reducible assumption
    | with_reducible refine keepsR_next ?_
    | with_reducible refine keeps_State_objLost _ ?_
    | with_reducible refine keeps_State_setReq _ _ ?_
    | with_reducible refine keeps_State_failReq _ _ _ ?_
    | split

theorem keeps_execPerstAssert {b s : State} (h : Keeps b s) : KeepsR b (execPerstAssert s) := by
  unfold execPerstAssert
  try dsimp only
  repeat' first
    | with_reducible assumption
    | simp only [↓keeps_mk]
    | with_reducible refine keepsR_next ?_
    | with_reducible refine keeps_State_resetFn _ ?_
    | with_reducible refine keeps_foldl ?_ ?_
    | (intro _ _ _; try dsimp only)

theorem keeps_execPerstDeassert {b s : State} (h : Keeps b s) : KeepsR b (execPerstDeassert s) := by
  unfold execPerstDeassert
  try dsimp only
  repeat' first
    | with_reducible assumption
    | simp only [↓keeps_mk]
    | with_reducible refine keepsR_onlyIf ?_ ?_

theorem keeps_execConfigReady {b s : State} (h : Keeps b s) : KeepsR b (execConfigReady s) := by
  unfold execConfigReady
  try dsimp only
  repeat' first
    | with_reducible assumption
    | simp only [↓keeps_mk]
    | with_reducible refine keepsR_onlyIf ?_ ?_

theorem keeps_execFunctionLevelReset {b s : State} (a0) (h : Keeps b s) : KeepsR b (execFunctionLevelReset a0 s) := by
  unfold execFunctionLevelReset
  try dsimp only
  repeat' first
    | with_reducible assumption
    | with_reducible refine keeps_State_resetFn _ ?_
    | with_reducible refine keepsR_onlyIf ?_ ?_
    | with_reducible refine keeps_foldl ?_ ?_
    | split
    | (intro _ _ _; try dsimp only)

theorem keeps_execCqHeadDoorbell {b s : State} (a0) (a1) (a2) (h : Keeps b s) : KeepsR b (execCqHeadDoorbell a0 a1 a2 s)
      := by
  unfold execCqHeadDoorbell
  try dsimp only
  repeat' first
    | with_reducible assumption
    | with_reducible refine keepsR_next ?_
    | with_reducible refine keeps_State_qpError _ _ ?_
    | with_reducible refine keeps_State_setQp _ _ ?_
    | split

theorem keeps_execQpEnable {b s : State} (a0) (h : Keeps b s) : KeepsR b (execQpEnable a0 s) := by
  unfold execQpEnable
  try dsimp only
  repeat' first
    | with_reducible assumption
    | with_reducible refine keepsR_next ?_
    | with_reducible refine keeps_State_own _ _ _ _ _ ?_ ?_
    | with_reducible refine keeps_State_setQp _ _ ?_
    | split
    | (intro _ _ _; try dsimp only)

theorem keeps_execQpDisable {b s : State} (a0) (h : Keeps b s) : KeepsR b (execQpDisable a0 s) := by
  unfold execQpDisable
  try dsimp only
  repeat' first
    | with_reducible assumption
    | with_reducible refine keepsR_next ?_
    | with_reducible refine keeps_State_own _ _ _ _ _ ?_ ?_
    | with_reducible refine keeps_State_setQp _ _ ?_
    | with_reducible refine keeps_State_discardSq _ ?_
    | with_reducible refine keeps_State_cutReq _ _ _ ?_
    | with_reducible refine keeps_foldl ?_ ?_
    | split
    | (intro _ _ _; try dsimp only)

theorem keeps_execQpDisableComplete {b s : State} (a0) (a1) (h : Keeps b s) : KeepsR b (execQpDisableComplete a0 a1 s)
      := by
  unfold execQpDisableComplete
  try dsimp only
  repeat' first
    | with_reducible assumption
    | with_reducible refine keeps_State_setQp _ _ ?_
    | with_reducible refine keepsR_onlyIf ?_ ?_

theorem keeps_execPromptReadComplete {b s : State} (a0) (a1) (a2) (h : Keeps b s) : KeepsR b (execPromptReadComplete a0
      a1 a2 s) := by
  unfold execPromptReadComplete
  try dsimp only
  repeat' first
    | with_reducible assumption
    | with_reducible refine keepsR_next ?_
    | with_reducible refine keeps_State_failReq _ _ _ ?_
    | with_reducible refine keeps_State_setReq _ _ ?_
    | with_reducible refine keeps_State_markEnd _ _ ?_
    | with_reducible refine keeps_State_tryRun _ ?_
    | split

theorem keeps_execEventWrite {b s : State} (a0) (a1) (a2) (h : Keeps b s) : KeepsR b (execEventWrite a0 a1 a2 s) := by
  unfold execEventWrite
  try dsimp only
  repeat' first
    | with_reducible assumption
    | with_reducible refine keepsR_next ?_
    | with_reducible refine keeps_State_qpError _ _ ?_
    | with_reducible refine keeps_State_hostOut _ _ _ ?_
    | with_reducible refine keeps_State_setQp _ _ ?_
    | with_reducible refine keeps_State_fireCq _ ?_
    | split

theorem keeps_execCoalTimeExpiry {b s : State} (a0) (a1) (h : Keeps b s) : KeepsR b (execCoalTimeExpiry a0 a1 s) := by
  unfold execCoalTimeExpiry
  try dsimp only
  repeat' first
    | with_reducible assumption
    | with_reducible refine keepsR_next ?_
    | with_reducible refine keeps_State_fireCq _ ?_
    | with_reducible refine keepsR_onlyIf ?_ ?_
    | split

theorem keeps_execMsixUnmask {b s : State} (a0) (a1) (h : Keeps b s) : KeepsR b (execMsixUnmask a0 a1 s) := by
  unfold execMsixUnmask
  try dsimp only
  repeat' first
    | with_reducible assumption
    | with_reducible refine keeps_State_unmask _ _ ?_
    | with_reducible refine keepsR_onlyIf ?_ ?_

theorem keeps_execReqCancel {b s : State} (a0) (a1) (h : Keeps b s) : KeepsR b (execReqCancel a0 a1 s) := by
  unfold execReqCancel
  try dsimp only
  repeat' first
    | with_reducible assumption
    | simp only [↓keeps_mk]
    | with_reducible refine keepsR_next ?_
    | with_reducible refine keeps_State_runCmd _ _ _ _ ?_ ?_
    | with_reducible refine keeps_State_markEnd _ _ ?_
    | with_reducible refine keeps_State_complete _ _ _ _ _ ?_
    | with_reducible refine keeps_foldl ?_ ?_
    | split
    | (intro _ _ _; try dsimp only)

theorem keeps_execDevSvcCtlGo {b s : State} (a0) (h : Keeps b s) : KeepsR b (execDevSvcCtlGo a0 s) := by
  unfold execDevSvcCtlGo
  try dsimp only
  repeat' first
    | with_reducible assumption
    | simp only [↓keeps_mk]
    | with_reducible refine keepsR_next ?_
    | with_reducible refine keeps_State_own _ _ _ _ _ ?_ ?_
    | with_reducible refine keeps_State_wr _ _ _ _ ?_
    | with_reducible refine keeps_State_deliver _ _ _ _ _ ?_
    | split
    | (intro _ _ _; try dsimp only)

theorem keeps_execServicePortReady {b s : State} (h : Keeps b s) : KeepsR b (execServicePortReady s) := by
  unfold execServicePortReady
  try dsimp only
  repeat' first
    | with_reducible assumption
    | simp only [↓keeps_mk]
    | with_reducible refine keepsR_onlyIf ?_ ?_

theorem keeps_execPldmSpdmReady {b s : State} (h : Keeps b s) : KeepsR b (execPldmSpdmReady s) := by
  unfold execPldmSpdmReady
  try dsimp only
  repeat' first
    | with_reducible assumption
    | simp only [↓keeps_mk]
    | with_reducible refine keepsR_onlyIf ?_ ?_

end Sys2Proof.Laws
end

