-- ==== Sys2Proof/Laws/KeepsWeights.lean ====
section
/-! SUPPORT. Each operation on weights, keys and the Torvol fabric keeps what every command keeps. -/
namespace Sys2Proof.Laws
open Sys2Proof Sys2Proof.Machine

theorem keeps_State_sendNotReady {b s : State} (a1) (h : Keeps b s) : Keeps b (State.sendNotReady s a1) := by
  unfold State.sendNotReady
  try dsimp only
  repeat' first
    | with_reducible assumption
    | with_reducible refine keeps_State_sendSym _ _ _ ?_

theorem keeps_State_refuse {b s : State} (a1) (h : Keeps b s) : Keeps b (State.refuse s a1) := by
  unfold State.refuse
  try dsimp only
  repeat' first
    | with_reducible assumption
    | with_reducible refine keeps_State_sendNotReady _ ?_
    | with_reducible refine keeps_State_inc _ _ _ ?_

theorem keeps_State_tagFail {b s : State} (a1) (h : Keeps b s) : Keeps b (State.tagFail s a1) := by
  unfold State.tagFail
  try dsimp only
  repeat' first
    | with_reducible assumption
    | with_reducible refine keeps_State_raise _ ?_
    | with_reducible refine keeps_State_inc _ _ _ ?_
    | with_reducible refine keeps_State_setPort _ _ ?_
    | with_reducible refine keeps_State_portDown _ _ _ ?_
    | split

theorem keeps_State_rollKey {b s : State} (a1) (a2) (h : Keeps b s) : Keeps b (State.rollKey s a1 a2) := by
  unfold State.rollKey
  try dsimp only
  repeat' first
    | with_reducible assumption
    | with_reducible refine keeps_State_sendSym _ _ _ ?_
    | with_reducible refine keeps_State_setPort _ _ ?_

theorem keeps_State_afterNonce {b s : State} (a1) (h : Keeps b s) : Keeps b (State.afterNonce s a1) := by
  unfold State.afterNonce
  try dsimp only
  repeat' first
    | with_reducible assumption
    | with_reducible refine keeps_State_rollKey _ _ ?_
    | split

theorem keeps_State_sendPacket {b s : State} (a1) (a2) (a3) (a4) (a5) (h : Keeps b s) : Keeps b (State.sendPacket s a1
      a2 a3 a4 a5) := by
  unfold State.sendPacket
  try dsimp only
  repeat' first
    | with_reducible assumption
    | with_reducible refine keeps_State_raise _ ?_
    | with_reducible refine keeps_State_setPort _ _ ?_
    | with_reducible refine keeps_State_emit _ ?_
    | with_reducible refine keeps_State_afterNonce _ ?_
    | with_reducible refine keeps_State_sendSlots _ _ ?_
    | with_reducible refine keeps_foldl ?_ ?_
    | split
    | (intro _ _ _; try dsimp only)

theorem keeps_State_putWrite {b s : State} (a1) (a2) (h : Keeps b s) : Keeps b (State.putWrite s a1 a2) := by
  unfold State.putWrite
  try dsimp only
  repeat' first
    | with_reducible assumption
    | with_reducible refine keeps_State_homeWrite _ _ ?_

theorem keeps_State_multicast {b s : State} (a1) (a2) (h : Keeps b s) : KeepsO b (State.multicast s a1 a2) := by
  unfold State.multicast
  try dsimp only
  repeat' first
    | with_reducible assumption
    | with_reducible refine keepsO_some ?_
    | with_reducible exact keepsO_none
    | with_reducible refine keeps_State_inc _ _ _ ?_
    | with_reducible refine keeps_State_sendPacket _ _ _ _ _ ?_
    | with_reducible refine keeps_State_putWrite _ _ ?_
    | with_reducible refine keeps_foldl ?_ ?_
    | split
    | (intro _ _ _; try dsimp only)

theorem keeps_State_launch {b s : State} (a1) (a2) (a3) (h : Keeps b s) : Keeps b (State.launch s a1 a2 a3) := by
  unfold State.launch
  try dsimp only
  repeat' first
    | with_reducible assumption
    | simp only [↓keeps_mk]
    | with_reducible refine keeps_State_sendPacket _ _ _ _ _ ?_
    | with_reducible refine keeps_foldl ?_ ?_
    | split
    | (intro _ _ _; try dsimp only)

theorem keeps_State_takeAck {b s : State} (a1) (h : Keeps b s) : Keeps b (State.takeAck s a1) := by
  unfold State.takeAck
  try dsimp only
  repeat' first
    | with_reducible assumption
    | simp only [↓keeps_mk]
    | with_reducible refine keeps_State_emit _ ?_
    | with_reducible refine keeps_State_launch _ _ _ ?_
    | split

theorem keeps_State_deliverMsg {b s : State} (a1) (a2) (h : Keeps b s) : Keeps b (State.deliverMsg s a1 a2) := by
  unfold State.deliverMsg
  try dsimp only
  repeat' first
    | with_reducible assumption
    | simp only [↓keeps_mk]
    | with_reducible refine keeps_State_resend _ _ _ _ _ ?_
    | split

theorem keeps_State_tvlDeliver {b s : State} (a1) (a2) (a3) (h : Keeps b s) : Keeps b (State.tvlDeliver s a1 a2 a3).2 :=
      by
  unfold State.tvlDeliver
  try dsimp only
  repeat' first
    | with_reducible assumption
    | with_reducible refine keeps_State_deliverMsg _ _ ?_
    | with_reducible refine keeps_State_putWrite _ _ ?_
    | split

theorem keeps_State_ackPacket {b s : State} (a1) (a2) (h : Keeps b s) : Keeps b (State.ackPacket s a1 a2) := by
  unfold State.ackPacket
  try dsimp only
  repeat' first
    | with_reducible assumption
    | with_reducible refine keeps_State_launch _ _ _ ?_

theorem keeps_State_takeUnicast {b s : State} (a1) (h : Keeps b s) : Keeps b (State.takeUnicast s a1) := by
  unfold State.takeUnicast
  try dsimp only
  repeat' first
    | with_reducible assumption
    | with_reducible refine keeps_State_tvlDeliver _ _ _ ?_
    | with_reducible refine keeps_State_ackPacket _ _ ?_
    | split

theorem keeps_State_unicast {b s : State} (a1) (h : Keeps b s) : KeepsO b (State.unicast s a1) := by
  unfold State.unicast
  try dsimp only
  repeat' first
    | with_reducible assumption
    | with_reducible refine keepsO_some ?_
    | with_reducible exact keepsO_none
    | with_reducible refine keeps_State_takeAck _ ?_
    | with_reducible refine keeps_State_takeUnicast _ ?_
    | with_reducible refine keeps_State_sendPacket _ _ _ _ _ ?_
    | split

theorem keeps_State_takePkt {b s : State} (a1) (a2) (h : Keeps b s) : KeepsO b (State.takePkt s a1 a2) := by
  unfold State.takePkt
  try dsimp only
  repeat' first
    | with_reducible assumption
    | with_reducible refine keepsO_some ?_
    | with_reducible refine keeps_State_multicast _ _ ?_
    | with_reducible refine keeps_State_unicast _ ?_
    | split

theorem keeps_State_returnCredits {b s : State} (a1) (a2) (a3) (h : Keeps b s) : Keeps b (State.returnCredits s a1 a2
      a3) := by
  unfold State.returnCredits
  try dsimp only
  repeat' first
    | with_reducible assumption
    | with_reducible refine keeps_State_sendSym _ _ _ ?_

theorem keeps_State_drainGo {b s : State} (a1) (a2) (a3) (h : Keeps b s) : Keeps b (State.drainGo s a1 a2 a3) := by
  induction a2 generalizing s a3 with
  | nil => exact keeps_State_setPort _ _ h
  | cons x l ih =>
    unfold State.drainGo
    split
    · exact h
    split
    · exact ih _ h
    split
    · rename_i e
      exact ih _ (keeps_State_returnCredits _ _ _ (keepsO_of e (keeps_State_takePkt _ _ h)))
    · exact ih _ h

theorem keeps_State_drainRx {b s : State} (a1) (h : Keeps b s) : Keeps b (State.drainRx s a1) := by
  unfold State.drainRx
  try dsimp only
  repeat' first
    | with_reducible assumption
    | with_reducible refine keeps_State_drainGo _ _ _ ?_

theorem keeps_State_tvlArrive {b s : State} (a1) (a2) (a3) (a4) (a5) (a6) (h : Keeps b s) : Keeps b (State.tvlArrive s
      a1 a2 a3 a4 a5 a6) := by
  unfold State.tvlArrive
  try dsimp only
  repeat' first
    | with_reducible assumption
    | with_reducible refine keeps_State_refuse _ ?_
    | with_reducible refine keeps_State_tagFail _ ?_
    | with_reducible refine keeps_State_drainRx _ ?_
    | with_reducible refine keeps_State_setPort _ _ ?_
    | split

theorem keeps_nextOf {b s : State} (a0) (h0 : KeepsR b a0) (h : Keeps b s) : Keeps b (nextOf a0 s) := by
  cases h0; assumption

theorem keeps_State_flushDue {b s : State} (h : Keeps b s) : Keeps b (State.flushDue s) := by
  unfold State.flushDue
  try dsimp only
  repeat' first
    | with_reducible assumption
    | simp only [↓keeps_mk]
    | with_reducible refine keeps_State_launch _ _ _ ?_
    | with_reducible refine keeps_foldl ?_ ?_
    | (intro _ _ _; try dsimp only)

theorem keeps_State_linkGoOn {b s : State} (a1) (h : Keeps b s) : Keeps b (State.linkGoOn s a1) := by
  unfold State.linkGoOn
  try dsimp only
  repeat' first
    | with_reducible assumption
    | with_reducible refine keeps_State_drainRx _ ?_
    | with_reducible refine keeps_State_flushDue ?_
    | with_reducible refine keeps_State_sendHeld _ ?_
    | with_reducible refine keeps_foldl ?_ ?_
    | (intro _ _ _; try dsimp only)

theorem keeps_execCredit {b s : State} (a0) (a1) (a2) (a3) (h : Keeps b s) : KeepsR b (execCredit a0 a1 a2 a3 s) := by
  unfold execCredit
  try dsimp only
  repeat' first
    | with_reducible assumption
    | with_reducible refine keeps_State_linkGoOn _ ?_
    | with_reducible refine keeps_State_setPort _ _ ?_
    | with_reducible refine keepsR_onlyIf ?_ ?_

theorem keeps_execLinkAck {b s : State} (a0) (a1) (h : Keeps b s) : KeepsR b (execLinkAck a0 a1 s) := by
  unfold execLinkAck
  try dsimp only
  repeat' first
    | with_reducible assumption
    | with_reducible refine keepsR_next ?_
    | with_reducible refine keeps_State_linkGoOn _ ?_
    | with_reducible refine keeps_State_setPort _ _ ?_
    | split

theorem keeps_execLinkNak {b s : State} (a0) (a1) (h : Keeps b s) : KeepsR b (execLinkNak a0 a1 s) := by
  unfold execLinkNak
  try dsimp only
  repeat' first
    | with_reducible assumption
    | with_reducible refine keepsR_next ?_
    | with_reducible refine keeps_State_portDown _ _ _ ?_
    | with_reducible refine keeps_State_inc _ _ _ ?_
    | with_reducible refine keeps_State_setPort _ _ ?_
    | with_reducible refine keeps_State_putCw _ _ ?_
    | with_reducible refine keeps_foldl ?_ ?_
    | split
    | (intro _ _ _; try dsimp only)

theorem keeps_State_enterReady {b s : State} (a1) (a2) (h : Keeps b s) : Keeps b (State.enterReady s a1 a2) := by
  unfold State.enterReady
  try dsimp only
  repeat' first
    | with_reducible assumption
    | with_reducible refine keeps_State_setPort _ _ ?_

theorem keeps_State_tryReady {b s : State} (a1) (h : Keeps b s) : Keeps b (State.tryReady s a1) := by
  unfold State.tryReady
  try dsimp only
  repeat' first
    | with_reducible assumption
    | with_reducible refine keeps_State_raise _ ?_
    | with_reducible refine keeps_State_sendNotReady _ ?_
    | with_reducible refine keeps_State_enterReady _ _ ?_
    | split

theorem keeps_execReady {b s : State} (a0) (a1) (a2) (a3) (a4) (a5) (a6) (a7) (a8) (h : Keeps b s) : KeepsR b (execReady
      a0 a1 a2 a3 a4 a5 a6 a7 a8 s) := by
  unfold execReady
  try dsimp only
  repeat' first
    | with_reducible assumption
    | with_reducible refine keeps_State_tryReady _ ?_
    | with_reducible refine keeps_State_setPort _ _ ?_
    | with_reducible refine keepsR_onlyIf ?_ ?_

theorem keeps_execDelayReq {b s : State} (a0) (a1) (a2) (a3) (h : Keeps b s) : KeepsR b (execDelayReq a0 a1 a2 a3 s) :=
      by
  unfold execDelayReq
  try dsimp only
  repeat' first
    | with_reducible assumption
    | with_reducible refine keeps_State_sendSym _ _ _ ?_
    | with_reducible refine keepsR_onlyIf ?_ ?_

theorem keeps_execDelayRsp {b s : State} (a0) (a1) (a2) (a3) (a4) (h : Keeps b s) : KeepsR b (execDelayRsp a0 a1 a2 a3
      a4 s) := by
  unfold execDelayRsp
  try dsimp only
  repeat' first
    | with_reducible assumption
    | with_reducible refine keeps_State_wr _ _ _ _ ?_
    | with_reducible refine keeps_State_setPort _ _ ?_
    | with_reducible refine keepsR_onlyIf ?_ ?_

theorem keeps_State_narrow {b s : State} (a1) (a2) (a3) (h : Keeps b s) : Keeps b (State.narrow s a1 a2 a3) := by
  unfold State.narrow
  try dsimp only
  repeat' first
    | with_reducible assumption
    | simp only [↓keeps_mk]
    | with_reducible refine keeps_State_portDown _ _ _ ?_
    | with_reducible refine keeps_State_raise _ ?_
    | with_reducible refine keeps_State_setPort _ _ ?_

theorem keeps_execLaneSwapReq {b s : State} (a0) (a1) (h : Keeps b s) : KeepsR b (execLaneSwapReq a0 a1 s) := by
  unfold execLaneSwapReq
  try dsimp only
  repeat' first
    | with_reducible assumption
    | with_reducible refine keepsR_next ?_
    | with_reducible refine keeps_State_narrow _ _ _ ?_
    | with_reducible refine keeps_State_sendSym _ _ _ ?_
    | with_reducible refine keeps_State_raise _ ?_
    | with_reducible refine keeps_State_setPort _ _ ?_
    | split

theorem keeps_execLaneSwap {b s : State} (a0) (a1) (a2) (h : Keeps b s) : KeepsR b (execLaneSwap a0 a1 a2 s) := by
  unfold execLaneSwap
  try dsimp only
  repeat' first
    | with_reducible assumption
    | with_reducible refine keeps_State_setPort _ _ ?_
    | with_reducible refine keepsR_onlyIf ?_ ?_

theorem keeps_execKeyRoll {b s : State} (a0) (a1) (h : Keeps b s) : KeepsR b (execKeyRoll a0 a1 s) := by
  unfold execKeyRoll
  try dsimp only
  repeat' first
    | with_reducible assumption
    | with_reducible refine keepsR_next ?_
    | with_reducible refine keeps_State_setPort _ _ ?_
    | with_reducible refine keepsR_onlyIf ?_ ?_
    | split

theorem keeps_execDown {b s : State} (a0) (a1) (h : Keeps b s) : KeepsR b (execDown a0 a1 s) := by
  unfold execDown
  try dsimp only
  repeat' first
    | with_reducible assumption
    | with_reducible refine keeps_State_portDown _ _ _ ?_
    | with_reducible refine keepsR_onlyIf ?_ ?_

theorem keeps_execReservedControlSymbol {b s : State} (a0) (a1) (h : Keeps b s) : KeepsR b (execReservedControlSymbol a0
      a1 s) := by
  unfold execReservedControlSymbol
  try dsimp only
  repeat' first
    | with_reducible assumption
    | with_reducible refine keeps_State_inc _ _ _ ?_
    | with_reducible refine keepsR_onlyIf ?_ ?_

theorem keeps_State_takeSym {b s : State} (a1) (a2) (a3) (a4) (h : Keeps b s) : Keeps b (State.takeSym s a1 a2 a3 a4) :=
      by
  unfold State.takeSym
  try dsimp only
  repeat' first
    | with_reducible assumption
    | with_reducible refine keeps_State_setPort _ _ ?_
    | with_reducible refine keeps_State_tvlArrive _ _ _ _ _ _ ?_
    | with_reducible refine keeps_nextOf _ ?_ ?_
    | with_reducible refine keeps_execCredit _ _ _ _ ?_
    | with_reducible refine keeps_execLinkAck _ _ ?_
    | with_reducible refine keeps_execLinkNak _ _ ?_
    | with_reducible refine keeps_execReady _ _ _ _ _ _ _ _ _ ?_
    | with_reducible refine keeps_execTime _ _ _ _ _ ?_
    | with_reducible refine keeps_execDelayReq _ _ _ _ ?_
    | with_reducible refine keeps_State_tickFree ?_
    | with_reducible refine keeps_execDelayRsp _ _ _ _ _ ?_
    | with_reducible refine keeps_execLaneSwapReq _ _ ?_
    | with_reducible refine keeps_execLaneSwap _ _ _ ?_
    | with_reducible refine keeps_execKeyRoll _ _ ?_
    | with_reducible refine keeps_execDown _ _ ?_
    | with_reducible refine keeps_execReservedControlSymbol _ _ ?_
    | split

theorem keeps_State_takeSlot {b s : State} (a1) (a2) (a3) (a4) (h : Keeps b s) : Keeps b (State.takeSlot s a1 a2 a3 a4)
      := by
  unfold State.takeSlot
  try dsimp only
  repeat' first
    | with_reducible assumption
    | with_reducible refine keeps_State_takeSym _ _ _ _ ?_
    | with_reducible refine keeps_State_setPort _ _ ?_
    | split

theorem keeps_State_acceptCw {b s : State} (a1) (a2) (a3) (a4) (h : Keeps b s) : Keeps b (State.acceptCw s a1 a2 a3 a4)
      := by
  unfold State.acceptCw
  try dsimp only
  repeat' first
    | with_reducible assumption
    | with_reducible refine keeps_State_raise _ ?_
    | with_reducible refine keeps_State_switchLane _ _ _ ?_
    | with_reducible refine keeps_State_setPort _ _ ?_
    | with_reducible refine keeps_State_takeSlot _ _ _ _ ?_
    | with_reducible refine keeps_State_sendSym _ _ _ ?_
    | with_reducible refine keeps_foldl ?_ ?_
    | split
    | (intro _ _ _; try dsimp only)

theorem keeps_State_adapterBad {b s : State} (a1) (h : Keeps b s) : Keeps b (State.adapterBad s a1) := by
  unfold State.adapterBad
  try dsimp only
  repeat' first
    | with_reducible assumption
    | with_reducible refine keeps_State_setAdrec _ _ ?_
    | with_reducible refine keeps_State_complete _ _ _ _ _ ?_
    | with_reducible refine keeps_State_raise _ ?_
    | with_reducible refine keeps_State_failReq _ _ _ ?_
    | with_reducible refine keeps_State_maybeFree _ ?_
    | with_reducible refine keeps_foldl ?_ ?_
    | split
    | (intro _ _ _; try dsimp only)

theorem keeps_State_askRoot {b s : State} (a1) (h : Keeps b s) : Keeps b (State.askRoot s a1) := by
  unfold State.askRoot
  try dsimp only
  repeat' first
    | with_reducible assumption
    | with_reducible refine keeps_State_emit _ ?_
    | split

theorem keeps_State_bcastEnds {b s : State} (h : Keeps b s) : Keeps b (State.bcastEnds s) := by
  unfold State.bcastEnds
  try dsimp only
  repeat' first
    | with_reducible assumption
    | simp only [↓keeps_mk]
    | split

theorem keeps_State_bcastStart {b s : State} (h : Keeps b s) : Keeps b (State.bcastStart s) := by
  unfold State.bcastStart
  try dsimp only
  repeat' first
    | with_reducible assumption
    | simp only [↓keeps_mk]
    | with_reducible refine keeps_State_bcastRun ?_
    | split

theorem keeps_State_random128 {b s : State} (h : Keeps b s) : Keeps b (State.random128 s).2 := by
  unfold State.random128
  try dsimp only
  repeat' first
    | with_reducible assumption
    | with_reducible refine keeps_State_tickFree ?_

theorem keeps_State_random256 {b s : State} (h : Keeps b s) : Keeps b (State.random256 s).2 := by
  unfold State.random256
  try dsimp only
  repeat' first
    | with_reducible assumption
    | with_reducible refine keeps_State_random128 ?_

theorem keeps_State_setShard {b s : State} (a1) (a2) (a3) (a4) (h : Keeps b s) : Keeps b (State.setShard s a1 a2 a3 a4)
      := by
  unfold State.setShard
  try dsimp only
  repeat' first
    | with_reducible assumption
    | with_reducible refine keeps_State_setWgt _ _ ?_

theorem keeps_State_copyShard {b s : State} (a1) (a2) (a3) (a4) (h : Keeps b s) : Keeps b (State.copyShard s a1 a2 a3
      a4) := by
  unfold State.copyShard
  try dsimp only
  repeat' first
    | with_reducible assumption
    | with_reducible refine keeps_State_writeShard _ _ _ ?_
    | with_reducible refine keeps_State_setShard _ _ _ _ ?_
    | with_reducible refine keeps_State_writeTable _ _ ?_
    | with_reducible refine keeps_foldl ?_ ?_
    | split
    | (intro _ _ _; try dsimp only)

theorem keeps_State_countFixed {b s : State} (a1) (a2) (h : Keeps b s) : Keeps b (State.countFixed s a1 a2) := by
  unfold State.countFixed
  try dsimp only
  repeat' first
    | with_reducible assumption
    | with_reducible refine keeps_State_inc _ _ _ ?_
    | with_reducible refine keeps_State_setPort _ _ ?_

theorem keeps_State_digestFail {b s : State} (a1) (a2) (h : Keeps b s) : Keeps b (State.digestFail s a1 a2) := by
  unfold State.digestFail
  try dsimp only
  repeat' first
    | with_reducible assumption
    | with_reducible refine keeps_State_raise _ ?_
    | split

theorem keeps_State_dropRestore {b s : State} (a1) (h : Keeps b s) : Keeps b (State.dropRestore s a1) := by
  unfold State.dropRestore
  try dsimp only
  repeat' first
    | with_reducible assumption
    | simp only [↓keeps_mk]

theorem keeps_State_endSwap {b s : State} (a1) (a2) (a3) (a4) (h : Keeps b s) : Keeps b (State.endSwap s a1 a2 a3 a4) :=
      by
  unfold State.endSwap
  try dsimp only
  repeat' first
    | with_reducible assumption
    | with_reducible refine keeps_State_complete _ _ _ _ _ ?_
    | with_reducible refine keeps_State_setPav _ _ ?_

theorem keeps_State_restored {b s : State} (a1) (h : Keeps b s) : Keeps b (State.restored s a1) := by
  unfold State.restored
  try dsimp only
  repeat' first
    | with_reducible assumption
    | with_reducible refine keeps_State_raise _ ?_

theorem keeps_State_loseLeaves {b s : State} (a1) (a2) (a3) (a4) (h : Keeps b s) : Keeps b (State.loseLeaves s a1 a2 a3
      a4) := by
  unfold State.loseLeaves
  try dsimp only
  repeat' first
    | with_reducible assumption
    | with_reducible refine keeps_State_markPoison _ ?_
    | with_reducible refine keeps_State_setShard _ _ _ _ ?_
    | with_reducible refine keeps_State_raise _ ?_
    | with_reducible refine keeps_State_setPav _ _ ?_
    | with_reducible refine keeps_foldl ?_ ?_
    | (intro _ _ _; try dsimp only)

theorem keeps_State_keepRestore {b s : State} (a1) (a2) (h : Keeps b s) : Keeps b (State.keepRestore s a1 a2) := by
  unfold State.keepRestore
  try dsimp only
  repeat' first
    | with_reducible assumption
    | simp only [↓keeps_mk]

theorem keeps_State_nextAttempt {b s : State} (a1) (a2) (h : Keeps b s) : Keeps b (State.nextAttempt s a1 a2) := by
  unfold State.nextAttempt
  try dsimp only
  repeat' first
    | with_reducible assumption
    | with_reducible refine keeps_State_askRoot _ ?_
    | with_reducible refine keeps_State_keepRestore _ _ ?_

theorem keeps_State_judgeLeaf {b s : State} (a1) (a2) (a3) (h : Keeps b s) : Keeps b (State.judgeLeaf s a1 a2 a3) := by
  unfold State.judgeLeaf
  try dsimp only
  repeat' first
    | with_reducible assumption
    | with_reducible refine keeps_State_restored _ ?_
    | with_reducible refine keeps_State_dropRestore _ ?_
    | with_reducible refine keeps_State_writeShard _ _ _ ?_
    | with_reducible refine keeps_State_loseLeaves _ _ _ _ ?_
    | with_reducible refine keeps_State_nextAttempt _ _ ?_
    | split

theorem keeps_State_rebuildTable {b s : State} (a1) (a2) (a3) (h : Keeps b s) : Keeps b (State.rebuildTable s a1 a2 a3)
      := by
  unfold State.rebuildTable
  try dsimp only
  repeat' first
    | with_reducible assumption
    | with_reducible refine keeps_State_restored _ ?_
    | with_reducible refine keeps_State_writeTable _ _ ?_

theorem keeps_State_judgeShard {b s : State} (a1) (a2) (a3) (h : Keeps b s) : Keeps b (State.judgeShard s a1 a2 a3) :=
      by
  unfold State.judgeShard
  try dsimp only
  repeat' first
    | with_reducible assumption
    | with_reducible refine keeps_State_writeShard _ _ _ ?_
    | with_reducible refine keeps_State_keepRestore _ _ ?_
    | with_reducible refine keeps_State_rebuildTable _ _ _ ?_
    | with_reducible refine keeps_State_dropRestore _ ?_
    | with_reducible refine keeps_State_loseLeaves _ _ _ _ ?_
    | with_reducible refine keeps_State_nextAttempt _ _ ?_
    | split

theorem keeps_State_startRestore {b s : State} (a1) (h : Keeps b s) : Keeps b (State.startRestore s a1) := by
  unfold State.startRestore
  try dsimp only
  repeat' first
    | with_reducible assumption
    | simp only [↓keeps_mk]
    | with_reducible refine keeps_State_askRoot _ ?_
    | split

theorem keeps_State_leafBad {b s : State} (a1) (a2) (a3) (a4) (h : Keeps b s) : Keeps b (State.leafBad s a1 a2 a3 a4) :=
      by
  unfold State.leafBad
  try dsimp only
  repeat' first
    | with_reducible assumption
    | with_reducible refine keeps_State_startRestore _ ?_

theorem keeps_State_leafTableBad {b s : State} (a1) (a2) (a3) (h : Keeps b s) : Keeps b (State.leafTableBad s a1 a2 a3)
      := by
  unfold State.leafTableBad
  try dsimp only
  repeat' first
    | with_reducible assumption
    | with_reducible refine keeps_State_rebuildTable _ _ _ ?_
    | with_reducible refine keeps_State_loseLeaves _ _ _ _ ?_
    | with_reducible refine keeps_State_startRestore _ ?_
    | split

theorem keeps_State_leaveSwap {b s : State} (a1) (h : Keeps b s) : Keeps b (State.leaveSwap s a1) := by
  unfold State.leaveSwap
  try dsimp only
  repeat' first
    | with_reducible assumption
    | with_reducible refine keeps_State_setPav _ _ ?_
    | with_reducible refine keeps_State_goPav _ _ ?_
    | split

theorem keeps_State_sendReady {b s : State} (a1) (h : Keeps b s) : Keeps b (State.sendReady s a1) := by
  unfold State.sendReady
  try dsimp only
  repeat' first
    | with_reducible assumption
    | with_reducible refine keeps_State_random128 ?_
    | with_reducible refine keeps_State_setPort _ _ ?_
    | with_reducible refine keeps_State_tryReady _ ?_
    | with_reducible refine keeps_State_sendSym _ _ _ ?_
    | split

theorem keeps_State_linkUp {b s : State} (a1) (h : Keeps b s) : Keeps b (State.linkUp s a1) := by
  unfold State.linkUp
  try dsimp only
  repeat' first
    | with_reducible assumption
    | with_reducible refine keeps_State_sendReady _ ?_
    | with_reducible refine keeps_State_wr _ _ _ _ ?_
    | with_reducible refine keeps_State_setPort _ _ ?_

theorem keeps_State_startLoad {b s : State} (a1) (a2) (a3) (h : Keeps b s) : Keeps b (State.startLoad s a1 a2 a3).2 :=
      by
  unfold State.startLoad
  try dsimp only
  repeat' first
    | with_reducible assumption
    | with_reducible refine keeps_State_setWgt _ _ ?_
    | with_reducible refine keeps_State_raise _ ?_
    | split

theorem keeps_State_swapManifest {b s : State} (a1) (a2) (a3) (a4) (h : Keeps b s) : Keeps b (State.swapManifest s a1 a2
      a3 a4) := by
  unfold State.swapManifest
  try dsimp only
  repeat' first
    | with_reducible assumption
    | with_reducible refine keeps_State_endSwap _ _ _ _ ?_
    | with_reducible refine keeps_State_startLoad _ _ _ ?_
    | with_reducible refine keeps_State_setPav _ _ ?_
    | split

theorem keeps_State_manifestRead {b s : State} (a1) (a2) (a3) (h : Keeps b s) : Keeps b (State.manifestRead s a1 a2 a3)
      := by
  unfold State.manifestRead
  try dsimp only
  repeat' first
    | with_reducible assumption
    | with_reducible refine keeps_State_startLoad _ _ _ ?_
    | with_reducible refine keeps_State_setWgt _ _ ?_
    | with_reducible refine keeps_State_raise _ ?_
    | with_reducible refine keeps_State_swapManifest _ _ _ _ ?_
    | split

theorem keeps_State_nextUnit {b s : State} (a1) (a2) (a3) (h : Keeps b s) : Keeps b (State.nextUnit s a1 a2 a3) := by
  unfold State.nextUnit
  try dsimp only
  repeat' first
    | with_reducible assumption
    | with_reducible refine keeps_State_setPav _ _ ?_

theorem keeps_State_pageBad {b s : State} (a1) (h : Keeps b s) : Keeps b (State.pageBad s a1) := by
  unfold State.pageBad
  try dsimp only
  repeat' first
    | with_reducible assumption
    | simp only [↓keeps_mk]
    | with_reducible refine keeps_State_raise _ ?_
    | with_reducible refine keeps_State_inc _ _ _ ?_
    | with_reducible refine keeps_State_leafBad _ _ _ _ ?_
    | split

theorem keeps_State_rollBack {b s : State} (a1) (a2) (h : Keeps b s) : Keeps b (State.rollBack s a1 a2) := by
  unfold State.rollBack
  try dsimp only
  repeat' first
    | with_reducible assumption
    | with_reducible refine keeps_State_endSwap _ _ _ _ ?_
    | with_reducible refine keeps_State_leaveSwap _ ?_
    | with_reducible refine keeps_State_nextUnit _ _ _ ?_
    | split

theorem keeps_State_scrubEnds {b s : State} (h : Keeps b s) : Keeps b (State.scrubEnds s) := by
  unfold State.scrubEnds
  try dsimp only
  repeat' first
    | with_reducible assumption
    | simp only [↓keeps_mk]
    | split

theorem keeps_State_scrubOne {b s : State} (a1) (h : Keeps b s) : Keeps b (State.scrubOne s a1) := by
  unfold State.scrubOne
  try dsimp only
  repeat' first
    | with_reducible assumption
    | with_reducible refine keeps_State_leafTableBad _ _ _ ?_
    | with_reducible refine keeps_State_leafBad _ _ _ _ ?_
    | with_reducible refine keeps_State_adapterBad _ ?_
    | split

theorem keeps_State_scrubStart {b s : State} (h : Keeps b s) : Keeps b (State.scrubStart s) := by
  unfold State.scrubStart
  try dsimp only
  repeat' first
    | with_reducible assumption
    | simp only [↓keeps_mk]
    | with_reducible refine keeps_State_inc _ _ _ ?_
    | with_reducible refine keeps_State_scrubEnds ?_
    | split

theorem keeps_State_setStaged {b s : State} (a1) (a2) (a3) (a4) (h : Keeps b s) : Keeps b (State.setStaged s a1 a2 a3
      a4) := by
  unfold State.setStaged
  try dsimp only
  repeat' first
    | with_reducible assumption
    | with_reducible refine keeps_State_setPav _ _ ?_

theorem keeps_State_setTaken {b s : State} (a1) (a2) (a3) (a4) (a5) (h : Keeps b s) : Keeps b (State.setTaken s a1 a2 a3
      a4 a5) := by
  unfold State.setTaken
  try dsimp only
  repeat' first
    | with_reducible assumption
    | with_reducible refine keeps_State_setStaged _ _ _ _ ?_
    | with_reducible refine keeps_State_setShard _ _ _ _ ?_
    | split

theorem keeps_State_swapDone {b s : State} (a1) (a2) (h : Keeps b s) : Keeps b (State.swapDone s a1 a2) := by
  unfold State.swapDone
  try dsimp only
  repeat' first
    | with_reducible assumption
    | simp only [↓keeps_mk]
    | with_reducible refine keeps_State_wr _ _ _ _ ?_
    | with_reducible refine keeps_State_setWgt _ _ ?_
    | with_reducible refine keeps_State_setPav _ _ ?_
    | with_reducible refine keeps_State_endSwap _ _ _ _ ?_
    | with_reducible refine keeps_State_leaveSwap _ ?_

theorem keeps_State_takeTable {b s : State} (a1) (a2) (a3) (a4) (h : Keeps b s) : Keeps b (State.takeTable s a1 a2 a3
      a4) := by
  unfold State.takeTable
  try dsimp only
  repeat' first
    | with_reducible assumption
    | with_reducible refine keeps_State_setTaken _ _ _ _ _ ?_
    | split

theorem keeps_State_takeLeaf {b s : State} (a1) (a2) (a3) (a4) (a5) (h : Keeps b s) : Keeps b (State.takeLeaf s a1 a2 a3
      a4 a5) := by
  unfold State.takeLeaf
  try dsimp only
  repeat' first
    | with_reducible assumption
    | with_reducible refine keeps_State_homeWrite _ _ ?_
    | with_reducible refine keeps_State_writeShard _ _ _ ?_
    | with_reducible refine keeps_State_setTaken _ _ _ _ _ ?_
    | split

theorem keeps_State_takeItem {b s : State} (a1) (h : Keeps b s) : Keeps b (State.takeItem s a1) := by
  unfold State.takeItem
  try dsimp only
  repeat' first
    | with_reducible assumption
    | with_reducible refine keeps_State_manifestRead _ _ _ ?_
    | with_reducible refine keeps_State_takeTable _ _ _ _ ?_
    | with_reducible refine keeps_State_takeLeaf _ _ _ _ _ ?_
    | with_reducible refine keeps_State_dropUnverified ?_
    | split

theorem keeps_State_unitVerified {b s : State} (a1) (a2) (h : Keeps b s) : Keeps b (State.unitVerified s a1 a2) := by
  unfold State.unitVerified
  try dsimp only
  repeat' first
    | with_reducible assumption
    | with_reducible refine keeps_State_setPav _ _ ?_

theorem keeps_execScrubCheck {b s : State} (a0) (h : Keeps b s) : KeepsR b (execScrubCheck a0 s) := by
  unfold execScrubCheck
  try dsimp only
  repeat' first
    | with_reducible assumption
    | simp only [↓keeps_mk]
    | with_reducible refine keepsR_next ?_
    | with_reducible refine keeps_State_hbmEvents _ ?_
    | with_reducible refine keeps_State_scrubEnds ?_
    | with_reducible refine keeps_State_scrubOne _ ?_
    | split

theorem keeps_execCfmPageRead {b s : State} (a0) (a1) (h : Keeps b s) : KeepsR b (execCfmPageRead a0 a1 s) := by
  unfold execCfmPageRead
  try dsimp only
  repeat' first
    | with_reducible assumption
    | simp only [↓keeps_mk]
    | with_reducible refine keepsR_next ?_
    | with_reducible refine keeps_State_pageBad _ ?_
    | split

theorem keeps_execWeightSwap {b s : State} (a0) (a1) (h : Keeps b s) : KeepsR b (execWeightSwap a0 a1 s) := by
  unfold execWeightSwap
  try dsimp only
  repeat' first
    | with_reducible assumption
    | with_reducible refine keepsR_next ?_
    | with_reducible refine keeps_State_runCmd _ _ _ _ ?_ ?_
    | with_reducible refine keeps_State_complete _ _ _ _ _ ?_
    | with_reducible refine keeps_State_setPav _ _ ?_
    | split
    | (intro _ _ _; try dsimp only)

theorem keeps_execWeightQuery {b s : State} (a0) (a1) (h : Keeps b s) : KeepsR b (execWeightQuery a0 a1 s) := by
  unfold execWeightQuery
  try dsimp only
  repeat' first
    | with_reducible assumption
    | with_reducible refine keepsR_next ?_
    | with_reducible refine keeps_State_runCmd _ _ _ _ ?_ ?_
    | with_reducible refine keeps_State_complete _ _ _ _ _ ?_
    | split
    | (intro _ _ _; try dsimp only)

theorem keeps_execManifestVerify {b s : State} (a0) (a1) (a2) (h : Keeps b s) : KeepsR b (execManifestVerify a0 a1 a2 s)
      := by
  unfold execManifestVerify
  try dsimp only
  repeat' first
    | with_reducible assumption
    | with_reducible refine keeps_State_manifestRead _ _ _ ?_
    | with_reducible refine keepsR_onlyIf ?_ ?_

theorem keeps_execShardVerify {b s : State} (a0) (a1) (a2) (a3) (h : Keeps b s) : KeepsR b (execShardVerify a0 a1 a2 a3
      s) := by
  unfold execShardVerify
  try dsimp only
  repeat' first
    | with_reducible assumption
    | with_reducible refine keepsR_next ?_
    | with_reducible refine keeps_State_homeWrite _ _ ?_
    | with_reducible refine keeps_State_digestFail _ _ ?_
    | with_reducible refine keeps_State_setStaged _ _ _ _ ?_
    | with_reducible refine keeps_State_setShard _ _ _ _ ?_
    | split

theorem keeps_execShardInPlace {b s : State} (a0) (a1) (a2) (h : Keeps b s) : KeepsR b (execShardInPlace a0 a1 a2 s) :=
      by
  unfold execShardInPlace
  try dsimp only
  repeat' first
    | with_reducible assumption
    | with_reducible refine keepsR_next ?_
    | with_reducible refine keeps_State_writeTable _ _ ?_
    | with_reducible refine keeps_State_writeShard _ _ _ ?_
    | with_reducible refine keeps_State_setShard _ _ _ _ ?_
    | with_reducible refine keeps_State_wr _ _ _ _ ?_
    | split

theorem keeps_execLeafRestored {b s : State} (a0) (a1) (a2) (a3) (a4) (h : Keeps b s) : KeepsR b (execLeafRestored a0 a1
      a2 a3 a4 s) := by
  unfold execLeafRestored
  try dsimp only
  repeat' first
    | with_reducible assumption
    | with_reducible refine keepsR_next ?_
    | with_reducible refine keeps_State_judgeLeaf _ _ _ ?_
    | with_reducible refine keeps_State_judgeShard _ _ _ ?_
    | split

theorem keeps_execBroadcastAnnounce {b s : State} (a0) (h : Keeps b s) : KeepsR b (execBroadcastAnnounce a0 s) := by
  unfold execBroadcastAnnounce
  try dsimp only
  repeat' first
    | with_reducible assumption
    | simp only [↓keeps_mk]
    | with_reducible refine keepsR_next ?_
    | with_reducible refine keeps_State_emit _ ?_
    | split

theorem keeps_execBroadcastLeaf {b s : State} (a0) (h : Keeps b s) : KeepsR b (execBroadcastLeaf a0 s) := by
  unfold execBroadcastLeaf
  try dsimp only
  repeat' first
    | with_reducible assumption
    | with_reducible refine keeps_State_bcastEnds ?_
    | with_reducible refine keeps_State_takeItem _ ?_
    | with_reducible refine keepsR_onlyIf ?_ ?_

theorem keeps_execShardEndMarker {b s : State} (a0) (a1) (a2) (h : Keeps b s) : KeepsR b (execShardEndMarker a0 a1 a2 s)
      := by
  unfold execShardEndMarker
  try dsimp only
  repeat' first
    | with_reducible assumption
    | with_reducible refine keepsR_next ?_
    | with_reducible refine keeps_State_emit _ ?_
    | with_reducible refine keeps_State_setTaken _ _ _ _ _ ?_
    | with_reducible refine keeps_State_bcastEnds ?_
    | with_reducible refine keeps_State_digestFail _ _ ?_
    | split

theorem keeps_execSwapUnitVerified {b s : State} (a0) (h : Keeps b s) : KeepsR b (execSwapUnitVerified a0 s) := by
  unfold execSwapUnitVerified
  try dsimp only
  repeat' first
    | with_reducible assumption
    | with_reducible refine keepsR_next ?_
    | with_reducible refine keeps_State_unitVerified _ _ ?_
    | with_reducible refine keeps_State_loseLeaves _ _ _ _ ?_
    | with_reducible refine keeps_State_rollBack _ _ ?_
    | with_reducible refine keeps_foldl ?_ ?_
    | split
    | (intro _ _ _; try dsimp only)

theorem keeps_execSwapUnitCopied {b s : State} (a0) (a1) (h : Keeps b s) : KeepsR b (execSwapUnitCopied a0 a1 s) := by
  unfold execSwapUnitCopied
  try dsimp only
  repeat' first
    | with_reducible assumption
    | with_reducible refine keepsR_next ?_
    | with_reducible refine keeps_State_hbmEvents _ ?_
    | with_reducible refine keeps_State_copyShard _ _ _ _ ?_
    | with_reducible refine keeps_State_rollBack _ _ ?_
    | with_reducible refine keeps_State_nextUnit _ _ _ ?_
    | with_reducible refine keeps_State_swapDone _ _ ?_
    | with_reducible refine keeps_foldl ?_ ?_
    | split
    | (intro _ _ _; try dsimp only)

theorem keeps_execNumberedCodeword {b s : State} (a0) (a1) (a2) (a3) (a4) (a5) (h : Keeps b s) : KeepsR b
      (execNumberedCodeword a0 a1 a2 a3 a4 a5 s) := by
  unfold execNumberedCodeword
  try dsimp only
  repeat' first
    | with_reducible assumption
    | with_reducible refine keepsR_next ?_
    | with_reducible refine keeps_State_countFixed _ _ ?_
    | with_reducible refine keeps_State_acceptCw _ _ _ _ ?_
    | with_reducible refine keeps_State_sendSym _ _ _ ?_
    | with_reducible refine keeps_State_setPort _ _ ?_
    | split

theorem keeps_execDelayReqTimer {b s : State} (a0) (a1) (h : Keeps b s) : KeepsR b (execDelayReqTimer a0 a1 s) := by
  unfold execDelayReqTimer
  try dsimp only
  repeat' first
    | with_reducible assumption
    | with_reducible refine keeps_State_sendSym _ _ _ ?_
    | with_reducible refine keepsR_onlyIf ?_ ?_

theorem keeps_execLaneWindowEnd {b s : State} (a0) (a1) (a2) (h : Keeps b s) : KeepsR b (execLaneWindowEnd a0 a1 a2 s)
      := by
  unfold execLaneWindowEnd
  try dsimp only
  repeat' first
    | with_reducible assumption
    | with_reducible refine keepsR_next ?_
    | with_reducible refine keeps_State_inc _ _ _ ?_
    | with_reducible refine keeps_State_setPort _ _ ?_
    | with_reducible refine keeps_State_narrow _ _ _ ?_
    | with_reducible refine keeps_State_sendSym _ _ _ ?_
    | split

theorem keeps_execPacketSend {b s : State} (a0) (a1) (h : Keeps b s) : KeepsR b (execPacketSend a0 a1 s) := by
  unfold execPacketSend
  try dsimp only
  repeat' first
    | with_reducible assumption
    | simp only [↓keeps_mk]
    | with_reducible refine keepsR_next ?_
    | with_reducible refine keeps_State_launch _ _ _ ?_
    | with_reducible refine keeps_State_tvlDeliver _ _ _ ?_
    | with_reducible refine keeps_State_emit _ ?_
    | with_reducible refine keepsR_onlyIf ?_ ?_
    | split

theorem keeps_execPut {b s : State} (a0) (a1) (a2) (a3) (a4) (a5) (h : Keeps b s) : KeepsR b (execPut a0 a1 a2 a3 a4 a5
      s) := by
  unfold execPut
  try dsimp only
  repeat' first
    | with_reducible assumption
    | with_reducible refine keeps_State_tvlArrive _ _ _ _ _ _ ?_
    | with_reducible refine keepsR_onlyIf ?_ ?_

theorem keeps_execMsg {b s : State} (a0) (a1) (a2) (a3) (a4) (a5) (h : Keeps b s) : KeepsR b (execMsg a0 a1 a2 a3 a4 a5
      s) := by
  unfold execMsg
  try dsimp only
  repeat' first
    | with_reducible assumption
    | with_reducible refine keeps_State_tvlArrive _ _ _ _ _ _ ?_
    | with_reducible refine keepsR_onlyIf ?_ ?_

theorem keeps_execAck {b s : State} (a0) (a1) (a2) (a3) (a4) (a5) (h : Keeps b s) : KeepsR b (execAck a0 a1 a2 a3 a4 a5
      s) := by
  unfold execAck
  try dsimp only
  repeat' first
    | with_reducible assumption
    | with_reducible refine keeps_State_tvlArrive _ _ _ _ _ _ ?_
    | with_reducible refine keepsR_onlyIf ?_ ?_

theorem keeps_execMulticastPacket {b s : State} (a0) (a1) (a2) (a3) (a4) (a5) (h : Keeps b s) : KeepsR b
      (execMulticastPacket a0 a1 a2 a3 a4 a5 s) := by
  unfold execMulticastPacket
  try dsimp only
  repeat' first
    | with_reducible assumption
    | with_reducible refine keeps_State_tvlArrive _ _ _ _ _ _ ?_
    | with_reducible refine keepsR_onlyIf ?_ ?_

theorem keeps_execE2eTimeout {b s : State} (a0) (h : Keeps b s) : KeepsR b (execE2eTimeout a0 s) := by
  unfold execE2eTimeout
  try dsimp only
  repeat' first
    | with_reducible assumption
    | simp only [↓keeps_mk]
    | with_reducible refine keepsR_next ?_
    | with_reducible refine keeps_State_launch _ _ _ ?_
    | with_reducible refine keeps_State_emit _ ?_
    | split

theorem keeps_execTrainingStart {b s : State} (h : Keeps b s) : KeepsR b (execTrainingStart s) := by
  unfold execTrainingStart
  try dsimp only
  repeat' first
    | with_reducible assumption
    | with_reducible refine keepsR_next ?_
    | with_reducible refine keeps_State_setPort _ _ ?_
    | with_reducible refine keeps_foldl ?_ ?_
    | split
    | (intro _ _ _; try dsimp only)

theorem keeps_execTrainingComplete {b s : State} (a0) (h : Keeps b s) : KeepsR b (execTrainingComplete a0 s) := by
  unfold execTrainingComplete
  try dsimp only
  repeat' first
    | with_reducible assumption
    | with_reducible refine keeps_State_linkUp _ ?_
    | with_reducible refine keepsR_onlyIf ?_ ?_

theorem keeps_execLossOfCodewordLock {b s : State} (a0) (h : Keeps b s) : KeepsR b (execLossOfCodewordLock a0 s) := by
  unfold execLossOfCodewordLock
  try dsimp only
  repeat' first
    | with_reducible assumption
    | with_reducible refine keeps_State_portDown _ _ _ ?_
    | with_reducible refine keepsR_onlyIf ?_ ?_

theorem keeps_execRetrainAttempt {b s : State} (a0) (a1) (h : Keeps b s) : KeepsR b (execRetrainAttempt a0 a1 s) := by
  unfold execRetrainAttempt
  try dsimp only
  repeat' first
    | with_reducible assumption
    | with_reducible refine keeps_State_linkUp _ ?_
    | with_reducible refine keeps_State_wr _ _ _ _ ?_
    | with_reducible refine keepsR_onlyIf ?_ ?_
    | split

theorem keeps_execTvlPortRetrain {b s : State} (a0) (h : Keeps b s) : KeepsR b (execTvlPortRetrain a0 s) := by
  unfold execTvlPortRetrain
  try dsimp only
  repeat' first
    | with_reducible assumption
    | with_reducible refine keepsR_next ?_
    | with_reducible refine keeps_State_own _ _ _ _ _ ?_ ?_
    | with_reducible refine keeps_State_wr _ _ _ _ ?_
    | with_reducible refine keeps_State_portDown _ _ _ ?_
    | with_reducible refine keeps_State_setPort _ _ ?_
    | split
    | (intro _ _ _; try dsimp only)

end Sys2Proof.Laws
end

