-- ==== Sys2Proof/Laws/KeepsBoot.lean ====
section
/-! SUPPORT. Each operation on images, boot, the Gatehouse, update, repair, power and flash keeps what every command keeps. -/
namespace Sys2Proof.Laws
open Sys2Proof Sys2Proof.Machine

theorem keeps_State_writeRec {b s : State} (a1) (h : Keeps b s) : Keeps b (State.writeRec s a1) := by
  unfold State.writeRec
  try dsimp only
  repeat' first
    | with_reducible assumption
    | simp only [↓keeps_mk]
    | split

theorem keeps_State_setBank {b s : State} (a1) (a2) (h : Keeps b s) : Keeps b (State.setBank s a1 a2) := by
  unfold State.setBank
  try dsimp only
  repeat' first
    | with_reducible assumption
    | simp only [↓keeps_mk]

theorem keeps_State_abortUpdate {b s : State} (h : Keeps b s) : Keeps b (State.abortUpdate s) := by
  unfold State.abortUpdate
  try dsimp only
  repeat' first
    | with_reducible assumption
    | with_reducible refine keeps_State_writeRec _ ?_
    | with_reducible refine keeps_State_setBank _ _ ?_
    | split

theorem keeps_State_ackIrq {b s : State} (a1) (h : Keeps b s) : Keeps b (State.ackIrq s a1) := by
  unfold State.ackIrq
  try dsimp only
  repeat' first
    | with_reducible assumption
    | simp only [↓keeps_mk]

theorem keeps_State_answer {b s : State} (a1) (a2) (h : Keeps b s) : Keeps b (State.answer s a1 a2) := by
  unfold State.answer
  try dsimp only
  repeat' first
    | with_reducible assumption
    | with_reducible refine keeps_State_emit _ ?_

theorem keeps_State_answerErr {b s : State} (a1) (a2) (h : Keeps b s) : Keeps b (State.answerErr s a1 a2) := by
  unfold State.answerErr
  try dsimp only
  repeat' first
    | with_reducible assumption
    | with_reducible refine keeps_State_emit _ ?_

theorem keeps_State_answerFree {b s : State} (a1) (h : Keeps b s) : Keeps b (State.answerFree s a1) := by
  unfold State.answerFree
  try dsimp only
  repeat' first
    | with_reducible assumption
    | with_reducible refine keeps_State_tickFree ?_
    | with_reducible refine keeps_State_answer _ _ ?_

theorem keeps_State_initField {b s : State} (a1) (a2) (a3) (a4) (a5) (h : Keeps b s) : Keeps b (State.initField s a1 a2
      a3 a4 a5) := by
  unfold State.initField
  try dsimp only
  repeat' first
    | with_reducible assumption
    | with_reducible refine keeps_State_wr _ _ _ _ ?_
    | split

theorem keeps_State_initEntry {b s : State} (a1) (h : Keeps b s) : Keeps b (State.initEntry s a1) := by
  unfold State.initEntry
  try dsimp only
  repeat' first
    | with_reducible assumption
    | with_reducible refine keeps_State_initField _ _ _ _ _ ?_
    | with_reducible refine keeps_foldl ?_ ?_
    | (intro _ _ _; try dsimp only)

theorem keeps_State_gradeDefault {b s : State} (h : Keeps b s) : Keeps b (State.gradeDefault s) := by
  unfold State.gradeDefault
  try dsimp only
  repeat' first
    | with_reducible assumption
    | with_reducible refine keeps_State_wr _ _ _ _ ?_
    | split

theorem keeps_State_initTenants {b s : State} (a1) (h : Keeps b s) : Keeps b (State.initTenants s a1) := by
  unfold State.initTenants
  try dsimp only
  repeat' first
    | with_reducible assumption
    | with_reducible refine keeps_State_wr _ _ _ _ ?_
    | with_reducible refine keeps_foldl ?_ ?_
    | split
    | (intro _ _ _; try dsimp only)

theorem keeps_State_applyValues {b s : State} (l) (h : Keeps b s) : Keeps b (State.applyValues s l) := by
  unfold State.applyValues
  simp only [↓keeps_mk]
  refine keeps_State_initTenants _ (keeps_foldl (keeps_State_gradeDefault ?_) fun t x k => keeps_State_initEntry _ k)
  exact ⟨{ h.all with regs := Tab.rises_filter _ h.all.regs }⟩

theorem keeps_State_send5 {b s : State} (a1) (h : Keeps b s) : Keeps b (State.send5 s a1) := by
  unfold State.send5
  try dsimp only
  repeat' first
    | with_reducible assumption
    | with_reducible refine keeps_State_emit _ ?_

theorem keeps_State_askData {b s : State} (h : Keeps b s) : Keeps b (State.askData s) := by
  unfold State.askData
  try dsimp only
  repeat' first
    | with_reducible assumption
    | with_reducible refine keeps_State_send5 _ ?_

theorem keeps_State_bankFailed {b s : State} (a1) (h : Keeps b s) : Keeps b (State.bankFailed s a1) := by
  unfold State.bankFailed
  try dsimp only
  repeat' first
    | with_reducible assumption
    | simp only [↓keeps_mk]
    | with_reducible refine keeps_State_raise _ ?_
    | split

theorem keeps_State_loseSpare {b s : State} (a1) (h : Keeps b s) : Keeps b (State.loseSpare s a1) := by
  unfold State.loseSpare
  try dsimp only
  repeat' first
    | with_reducible assumption
    | simp only [↓keeps_mk]

theorem keeps_State_moveToSpare {b s : State} (a1) (h : Keeps b s) : Keeps b (State.moveToSpare s a1) := by
  unfold State.moveToSpare
  try dsimp only
  repeat' first
    | with_reducible assumption
    | simp only [↓keeps_mk]
    | with_reducible refine keeps_State_loseSpare _ ?_

theorem keeps_State_bistSite {b s : State} (a1) (h : Keeps b s) : Keeps b (State.bistSite s a1) := by
  unfold State.bistSite
  try dsimp only
  repeat' first
    | with_reducible assumption
    | with_reducible refine keeps_State_raise _ ?_
    | with_reducible refine keeps_State_moveToSpare _ ?_
    | with_reducible refine keeps_State_withdrawTerr _ ?_
    | with_reducible refine keeps_State_loseSpare _ ?_
    | split

theorem keeps_State_blow {b s : State} (v) (h : Keeps b s) : Keeps b (State.blow s v) :=
  ⟨{ h.all with sv := Nat.le_trans h.all.sv (Nat.le_max_left _ _) }⟩

theorem keeps_State_makeAk {b s : State} (h : Keeps b s) : Keeps b (State.makeAk s) := by
  unfold State.makeAk
  try dsimp only
  repeat' first
    | with_reducible assumption
    | simp only [↓keeps_mk]
    | with_reducible refine keeps_State_random256 ?_
    | split

theorem keeps_State_portsOff {b s : State} (h : Keeps b s) : Keeps b (State.portsOff s) := by
  unfold State.portsOff
  try dsimp only
  repeat' first
    | with_reducible assumption
    | with_reducible refine keeps_State_portDown _ _ _ ?_
    | with_reducible refine keeps_foldl ?_ ?_
    | split
    | (intro _ _ _; try dsimp only)

theorem keeps_State_newSource {b s : State} (h : Keeps b s) : Keeps b (State.newSource s) := by
  unfold State.newSource
  try dsimp only
  repeat' first
    | with_reducible assumption
    | simp only [↓keeps_mk]
    | split

theorem keeps_State_bootImage {b s : State} (a1) (h : Keeps b s) : Keeps b (State.bootImage s a1) := by
  unfold State.bootImage
  try dsimp only
  repeat' first
    | with_reducible assumption
    | simp only [↓keeps_mk]
    | with_reducible refine keeps_State_applyValues _ ?_
    | with_reducible refine keeps_State_raise _ ?_
    | with_reducible refine keeps_State_makeAk ?_
    | with_reducible refine keeps_State_portsOff ?_
    | with_reducible refine keeps_State_newSource ?_
    | split

theorem keeps_State_chooseBank {b s : State} (h : Keeps b s) : Keeps b (State.chooseBank s) := by
  unfold State.chooseBank
  try dsimp only
  repeat' first
    | with_reducible assumption
    | simp only [↓keeps_mk]
    | with_reducible refine keeps_State_writeRec _ ?_
    | with_reducible refine keeps_State_raise _ ?_
    | split

theorem keeps_State_endTending {b s : State} (h : Keeps b s) : Keeps b (State.endTending s) := by
  unfold State.endTending
  try dsimp only
  repeat' first
    | with_reducible assumption
    | with_reducible refine keeps_State_goDev _ ?_
    | split

theorem keeps_State_endTrial {b s : State} (h : Keeps b s) : Keeps b (State.endTrial s) := by
  unfold State.endTrial
  try dsimp only
  repeat' first
    | with_reducible assumption
    | simp only [↓keeps_mk]
    | with_reducible refine keeps_State_endTending ?_

theorem keeps_State_confirm {b s : State} (a1) (h : Keeps b s) : Keeps b (State.confirm s a1) := by
  unfold State.confirm
  try dsimp only
  repeat' first
    | with_reducible assumption
    | with_reducible refine keeps_State_writeRec _ ?_
    | with_reducible refine keeps_State_endTrial ?_
    | with_reducible refine keeps_State_blow _ ?_
    | with_reducible refine keeps_State_raise _ ?_
    | split

theorem keeps_State_derate {b s : State} (a1) (h : Keeps b s) : Keeps b (State.derate s a1) := by
  unfold State.derate
  try dsimp only
  repeat' first
    | with_reducible assumption
    | simp only [↓keeps_mk]
    | with_reducible refine keeps_State_noSpare _ ?_
    | with_reducible refine keeps_State_raise _ ?_
    | with_reducible refine keeps_foldl ?_ ?_
    | split
    | (intro _ _ _; try dsimp only)

theorem keeps_State_dropTransfer {b s : State} (h : Keeps b s) : Keeps b (State.dropTransfer s) := by
  unfold State.dropTransfer
  try dsimp only
  repeat' first
    | with_reducible assumption
    | with_reducible refine keeps_State_setBank _ _ ?_
    | split

theorem keeps_State_endFallback {b s : State} (h : Keeps b s) : Keeps b (State.endFallback s) := by
  unfold State.endFallback
  try dsimp only
  repeat' first
    | with_reducible assumption
    | with_reducible refine keeps_State_endTrial ?_
    | with_reducible refine keeps_State_writeRec _ ?_
    | with_reducible refine keeps_State_raise _ ?_

theorem keeps_State_enumerate {b s : State} (a1) (a2) (a3) (a4) (h : Keeps b s) : Keeps b (State.enumerate s a1 a2 a3
      a4) := by
  unfold State.enumerate
  try dsimp only
  repeat' first
    | with_reducible assumption
    | simp only [↓keeps_mk]
    | with_reducible refine keeps_State_wr _ _ _ _ ?_
    | with_reducible refine keeps_State_raise _ ?_
    | split

theorem keeps_State_eraseBlock {b s : State} (a n) (h : Keeps b s) : Keeps b (State.eraseBlock s a n) :=
  ⟨{ h.all with flash := Tab.wf_filter _ h.all.flash }⟩

theorem keeps_State_failComponent {b s : State} (a1) (h : Keeps b s) : Keeps b (State.failComponent s a1) := by
  unfold State.failComponent
  try dsimp only
  repeat' first
    | with_reducible assumption
    | simp only [↓keeps_mk]
    | with_reducible refine keeps_State_send5 _ ?_

theorem keeps_State_flushEarly {b s : State} (h : Keeps b s) : Keeps b (State.flushEarly s) := by
  unfold State.flushEarly
  try dsimp only
  repeat' first
    | with_reducible assumption
    | simp only [↓keeps_mk]
    | with_reducible refine keeps_State_enter _ _ ?_
    | with_reducible refine keeps_foldl ?_ ?_
    | (intro _ _ _; try dsimp only)

theorem keeps_State_gateFails {b s : State} (h : Keeps b s) : Keeps b (State.gateFails s) := by
  unfold State.gateFails
  try dsimp only
  repeat' first
    | with_reducible assumption
    | simp only [↓keeps_mk]
    | with_reducible refine keeps_State_allPortsDown _ _ ?_
    | with_reducible refine keeps_State_raise _ ?_

theorem keeps_State_handoverDone {b s : State} (h : Keeps b s) : Keeps b (State.handoverDone s) := by
  unfold State.handoverDone
  try dsimp only
  repeat' first
    | with_reducible assumption
    | simp only [↓keeps_mk]
    | with_reducible refine keeps_State_endFallback ?_
    | split

theorem keeps_State_spdm {b s s2 : State} (a1) (h : Keeps b s) (h2 : Keeps b s2) : KeepsR b (State.spdm s a1 s2) := by
  unfold State.spdm
  try dsimp only
  repeat' first
    | with_reducible assumption
    | with_reducible refine keepsR_next ?_
    | with_reducible refine keeps_State_answerErr _ _ ?_
    | split

theorem keeps_State_inSession {b s s2 : State} (a1) (a2) (h : Keeps b s) (h2 : Keeps b s2) : KeepsR b (State.inSession s
      a1 a2 s2) := by
  unfold State.inSession
  try dsimp only
  repeat' first
    | with_reducible assumption
    | with_reducible refine keeps_State_spdm _ ?_ ?_
    | with_reducible refine keeps_State_answerErr _ _ ?_
    | split

theorem keeps_State_pldm5 {b s : State} (a1) (a2) (h2 : ∀ t, Keeps b t → Keeps b (a2 t)) (h : Keeps b s) : KeepsR b
      (State.pldm5 s a1 a2) := by
  unfold State.pldm5
  try dsimp only
  repeat' first
    | with_reducible assumption
    | simp only [↓keeps_mk]
    | with_reducible refine keepsR_next ?_
    | with_reducible refine h2 _ ?_
    | with_reducible refine keeps_State_answerErr _ _ ?_
    | split

theorem keeps_State_inUpdate {b s : State} (a1) (a2) (a3) (h3 : ∀ t, Keeps b t → Keeps b (a3 t)) (h : Keeps b s) :
      KeepsR b (State.inUpdate s a1 a2 a3) := by
  unfold State.inUpdate
  try dsimp only
  repeat' first
    | with_reducible assumption
    | with_reducible refine h3 _ ?_
    | with_reducible refine keeps_State_pldm5 _ _ ?_ ?_
    | with_reducible refine keeps_State_answerErr _ _ ?_
    | split
    | (intro _ _; try dsimp only)

theorem keeps_State_leaveUpdate {b s : State} (h : Keeps b s) : Keeps b (State.leaveUpdate s) := by
  unfold State.leaveUpdate
  try dsimp only
  repeat' first
    | with_reducible assumption
    | simp only [↓keeps_mk]
    | with_reducible refine keeps_State_setBank _ _ ?_

theorem keeps_State_loadPavs {b s : State} (h : Keeps b s) : Keeps b (State.loadPavs s) := by
  unfold State.loadPavs
  try dsimp only
  repeat' first
    | with_reducible assumption
    | with_reducible refine keeps_State_noTerrace _ ?_
    | with_reducible refine keeps_State_goPav _ _ ?_
    | with_reducible refine keeps_foldl ?_ ?_
    | split
    | (intro _ _ _; try dsimp only)

theorem keeps_State_mctp {b s s2 : State} (h : Keeps b s) (h2 : Keeps b s2) : KeepsR b (State.mctp s s2) := by
  unfold State.mctp
  try dsimp only
  repeat' first
    | with_reducible assumption
    | with_reducible refine keepsR_onlyIf ?_ ?_

theorem keeps_State_modBank {b s : State} (a1) (a2) (h : Keeps b s) : Keeps b (State.modBank s a1 a2) := by
  unfold State.modBank
  try dsimp only
  repeat' first
    | with_reducible assumption
    | simp only [↓keeps_mk]
    | split

theorem keeps_State_nandStart {b s : State} (a1) (a2) (a3) (a4) (h : Keeps b s) : Keeps b (State.nandStart s a1 a2 a3
      a4) := by
  unfold State.nandStart
  try dsimp only
  repeat' first
    | with_reducible assumption
    | with_reducible refine keeps_State_own _ _ _ _ _ ?_ ?_
    | with_reducible refine keeps_State_wr _ _ _ _ ?_
    | split
    | (intro _ _ _; try dsimp only)

theorem keeps_State_officer {b s s2 : State} (a1) (a2) (h : Keeps b s) (h2 : Keeps b s2) : KeepsR b (State.officer s a1
      a2 s2) := by
  unfold State.officer
  try dsimp only
  repeat' first
    | with_reducible assumption
    | with_reducible refine keeps_State_spdm _ ?_ ?_
    | with_reducible refine keeps_State_answerErr _ _ ?_
    | split

theorem keeps_State_openFmk {b s : State} (h : Keeps b s) : Keeps b (State.openFmk s) := by
  unfold State.openFmk
  try dsimp only
  repeat' first
    | with_reducible assumption
    | simp only [↓keeps_mk]
    | with_reducible refine keeps_State_raise _ ?_
    | split

theorem keeps_State_pauseSteward {b s : State} (a1) (h : Keeps b s) : Keeps b (State.pauseSteward s a1) := by
  unfold State.pauseSteward
  try dsimp only
  repeat' first
    | with_reducible assumption
    | simp only [↓keeps_mk]

theorem keeps_State_pauseIdle {b s : State} (h : Keeps b s) : Keeps b (State.pauseIdle s) := by
  unfold State.pauseIdle
  try dsimp only
  repeat' first
    | with_reducible assumption
    | with_reducible refine keeps_State_pauseSteward _ ?_
    | with_reducible refine keeps_foldl ?_ ?_
    | split
    | (intro _ _ _; try dsimp only)

theorem keeps_State_pldm {b s s2 : State} (a1) (h : Keeps b s) (h2 : Keeps b s2) : KeepsR b (State.pldm s a1 s2) := by
  unfold State.pldm
  try dsimp only
  repeat' first
    | with_reducible assumption
    | with_reducible refine keepsR_next ?_
    | with_reducible refine keeps_State_answerErr _ _ ?_
    | split

theorem keeps_State_plogPut {b s : State} (a1) (h : Keeps b s) : Keeps b (State.plogPut s a1) := by
  unfold State.plogPut
  try dsimp only
  repeat' first
    | with_reducible assumption
    | simp only [↓keeps_mk]

theorem keeps_State_plogFlush {b s : State} (h : Keeps b s) : Keeps b (State.plogFlush s) := by
  unfold State.plogFlush
  try dsimp only
  repeat' first
    | with_reducible assumption
    | simp only [↓keeps_mk]
    | with_reducible refine keeps_State_plogPut _ ?_
    | with_reducible refine keeps_foldl ?_ ?_
    | (intro _ _ _; try dsimp only)

theorem keeps_State_programBlock {b s : State} (a1) (h : Keeps b s) : Keeps b (State.programBlock s a1) := by
  unfold State.programBlock
  try dsimp only
  repeat' first
    | with_reducible assumption
    | with_reducible refine keeps_State_setBank _ _ ?_

theorem keeps_setFlash {b s : State} (m) (hm : Flash.wf m = true) (h : Keeps b s) :
    Keeps b { s with flash := m } := ⟨{ h.all with flash := hm }⟩

theorem keeps_State_programPage {b s : State} (a) (h : Keeps b s) : Keeps b (State.programPage s a) := by
  unfold State.programPage
  dsimp only
  exact keeps_setFlash _ (by with_reducible exact Flash.wf_put _ _ h.all.flash) h

theorem keeps_State_restartPlot {b s : State} (a1) (h : Keeps b s) : Keeps b (State.restartPlot s a1) := by
  unfold State.restartPlot
  try dsimp only
  repeat' first
    | with_reducible assumption
    | with_reducible refine keeps_State_setPlot _ _ ?_
    | with_reducible refine keeps_State_raise _ ?_
    | with_reducible refine keeps_State_startPlot _ ?_
    | with_reducible refine keeps_State_loadProgram _ ?_

theorem keeps_State_sampleMargin {b s : State} (a1) (a2) (h : Keeps b s) : Keeps b (State.sampleMargin s a1 a2) := by
  unfold State.sampleMargin
  try dsimp only
  repeat' first
    | with_reducible assumption
    | with_reducible refine keeps_State_wr _ _ _ _ ?_
    | with_reducible refine keeps_State_raise _ ?_
    | with_reducible refine keeps_State_setPlot _ _ ?_
    | with_reducible refine keeps_State_trigger _ ?_
    | split

theorem keeps_State_toDormant {b s : State} (r) (h : Keeps b s) : Keeps b (State.toDormant s r) := by
  have k := (keeps_State_installKeys (keeps_State_dropTransfer h)).all
  exact ⟨{ k with regs := List.Pairwise.nil, mem := rfl }⟩

theorem keeps_State_toReset {b s : State} (a1) (h : Keeps b s) : Keeps b (State.toReset s a1) := by
  unfold State.toReset
  try dsimp only
  repeat' first
    | with_reducible assumption
    | with_reducible refine keeps_State_toDormant _ ?_
    | with_reducible refine keeps_State_sendDown _ _ ?_
    | with_reducible refine keeps_foldl ?_ ?_
    | (intro _ _ _; try dsimp only)

theorem keeps_State_selfReset {b s : State} (h : Keeps b s) : Keeps b (State.selfReset s) := by
  unfold State.selfReset
  try dsimp only
  repeat' first
    | with_reducible assumption
    | simp only [↓keeps_mk]
    | with_reducible refine keeps_State_toReset _ ?_

theorem keeps_State_setCause {b s : State} (a1) (h : Keeps b s) : Keeps b (State.setCause s a1) := by
  unfold State.setCause
  try dsimp only
  repeat' first
    | with_reducible assumption
    | simp only [↓keeps_mk]
    | split

theorem keeps_State_windowEnds {b s : State} (h : Keeps b s) : Keeps b (State.windowEnds s) := by
  unfold State.windowEnds
  try dsimp only
  repeat' first
    | with_reducible assumption
    | simp only [↓keeps_mk]
    | with_reducible refine keeps_State_setCause _ ?_

theorem keeps_State_takeDue {b s : State} (a1) (h : Keeps b s) : Keeps b (State.takeDue s a1) := by
  unfold State.takeDue
  try dsimp only
  repeat' first
    | with_reducible assumption
    | with_reducible refine keeps_State_bcastStart ?_
    | with_reducible refine keeps_State_boundary ?_
    | with_reducible refine keeps_State_missDeadline _ ?_
    | with_reducible refine keeps_State_ttlCheck ?_
    | with_reducible refine keeps_State_scrubStart ?_
    | with_reducible refine keeps_State_windowEnds ?_
    | split

theorem keeps_State_settle {b s : State} (a1) (h : Keeps b s) : Keeps b (State.settle s a1) := by
  unfold State.settle
  try dsimp only
  repeat' first
    | with_reducible assumption
    | with_reducible refine keeps_State_takeDue _ ?_
    | with_reducible refine keeps_foldl ?_ ?_
    | (intro _ _ _; try dsimp only)

theorem keeps_State_spoilFlash {b s : State} (a n) (h : Keeps b s) : Keeps b (State.spoilFlash s a n) :=
  keeps_State_tickFree ⟨{ h.all with flash := Flash.wf_put _ _ h.all.flash }⟩

theorem keeps_State_startTrial {b s : State} (h : Keeps b s) : Keeps b (State.startTrial s) := by
  unfold State.startTrial
  try dsimp only
  repeat' first
    | with_reducible assumption
    | simp only [↓keeps_mk]
    | split

theorem keeps_State_storeFmk {b s : State} (a1) (a2) (h : Keeps b s) : Keeps b (State.storeFmk s a1 a2) := by
  unfold State.storeFmk
  try dsimp only
  repeat' first
    | with_reducible assumption
    | simp only [↓keeps_mk]
    | with_reducible refine keeps_State_sendReady _ ?_
    | with_reducible refine keeps_foldl ?_ ?_
    | (intro _ _ _; try dsimp only)

theorem keeps_State_takeBlock {b s : State} (a1) (a2) (h : Keeps b s) : Keeps b (State.takeBlock s a1 a2) := by
  unfold State.takeBlock
  try dsimp only
  repeat' first
    | with_reducible assumption
    | simp only [↓keeps_mk]
    | with_reducible refine keeps_State_askData ?_
    | with_reducible refine keeps_State_failComponent _ ?_
    | with_reducible refine keeps_State_raise _ ?_
    | with_reducible refine keeps_State_setBank _ _ ?_
    | with_reducible refine keeps_State_programBlock _ ?_
    | with_reducible refine keeps_State_send5 _ ?_
    | split

theorem keeps_State_takeManifest {b s : State} (a1) (h : Keeps b s) : Keeps b (State.takeManifest s a1) := by
  unfold State.takeManifest
  try dsimp only
  repeat' first
    | with_reducible assumption
    | simp only [↓keeps_mk]
    | with_reducible refine keeps_State_failComponent _ ?_
    | with_reducible refine keeps_State_askData ?_
    | split

theorem keeps_State_trainLane {b s : State} (a1) (h : Keeps b s) : Keeps b (State.trainLane s a1) := by
  unfold State.trainLane
  try dsimp only
  repeat' first
    | with_reducible assumption
    | simp only [↓keeps_mk]
    | with_reducible refine keeps_State_raise _ ?_
    | split

theorem keeps_State_useImage {b s : State} (a1) (a2) (h : Keeps b s) : Keeps b (State.useImage s a1 a2) := by
  unfold State.useImage
  try dsimp only
  repeat' first
    | with_reducible assumption
    | simp only [↓keeps_mk]
    | with_reducible refine keeps_State_applyValues _ ?_

theorem keeps_State_zeroise {b s : State} (h : Keeps b s) : Keeps b (State.zeroise s) := by
  unfold State.zeroise
  try dsimp only
  repeat' first
    | with_reducible assumption
    | simp only [↓keeps_mk]
    | with_reducible refine keeps_State_abortUpdate ?_
    | with_reducible refine keeps_State_allPortsDown _ _ ?_
    | with_reducible refine keeps_State_selfReset ?_
    | with_reducible refine keeps_State_tickFree ?_
    | with_reducible refine keeps_State_plogPut _ ?_

theorem keeps_execCadenceBoundary {b s : State} (h : Keeps b s) : KeepsR b (execCadenceBoundary s) := by
  unfold execCadenceBoundary
  try dsimp only
  repeat' first
    | with_reducible assumption
    | with_reducible refine keeps_State_takeDue _ ?_
    | with_reducible refine keeps_State_settle _ ?_
    | with_reducible refine keepsR_onlyIf ?_ ?_

theorem keeps_execDeadlineExpiry {b s : State} (a0) (h : Keeps b s) : KeepsR b (execDeadlineExpiry a0 s) := by
  unfold execDeadlineExpiry
  try dsimp only
  repeat' first
    | with_reducible assumption
    | with_reducible refine keeps_State_takeDue _ ?_
    | with_reducible refine keeps_State_settle _ ?_
    | with_reducible refine keepsR_onlyIf ?_ ?_

theorem keeps_execKvTtlCheck {b s : State} (h : Keeps b s) : KeepsR b (execKvTtlCheck s) := by
  unfold execKvTtlCheck
  try dsimp only
  repeat' first
    | with_reducible assumption
    | with_reducible refine keeps_State_takeDue _ ?_
    | with_reducible refine keeps_State_settle _ ?_
    | with_reducible refine keepsR_onlyIf ?_ ?_

theorem keeps_execScrubPassStart {b s : State} (h : Keeps b s) : KeepsR b (execScrubPassStart s) := by
  unfold execScrubPassStart
  try dsimp only
  repeat' first
    | with_reducible assumption
    | with_reducible refine keeps_State_takeDue _ ?_
    | with_reducible refine keeps_State_settle _ ?_
    | with_reducible refine keepsR_onlyIf ?_ ?_

theorem keeps_execFabricBroadcastStart {b s : State} (h : Keeps b s) : KeepsR b (execFabricBroadcastStart s) := by
  unfold execFabricBroadcastStart
  try dsimp only
  repeat' first
    | with_reducible assumption
    | with_reducible refine keeps_State_takeDue _ ?_
    | with_reducible refine keeps_State_settle _ ?_
    | with_reducible refine keepsR_onlyIf ?_ ?_

theorem keeps_State_takeTerr {b s : State} (a1) (h : Keeps b s) : Keeps b (State.takeTerr s a1) := by
  unfold State.takeTerr
  exact keeps_State_setTerr _ _ h

theorem keeps_execPlotRetire {b s : State} (a0) (h : Keeps b s) : KeepsR b (execPlotRetire a0 s) := by
  unfold execPlotRetire
  try dsimp only
  repeat' first
    | with_reducible assumption
    | with_reducible refine keeps_State_takeTerr _ ?_
    | with_reducible refine keepsR_next ?_
    | with_reducible refine keeps_State_noSpare _ ?_
    | with_reducible refine keeps_State_setPlot _ _ ?_
    | with_reducible refine keeps_State_moveToSpare _ ?_
    | with_reducible refine keeps_State_raise _ ?_
    | with_reducible refine keeps_State_restartPlot _ ?_
    | split

theorem keeps_execAdmissionDecision {b s : State} (a0) (a1) (h : Keeps b s) : KeepsR b (execAdmissionDecision a0 a1 s)
      := by
  unfold execAdmissionDecision
  try dsimp only
  repeat' first
    | with_reducible assumption
    | with_reducible refine keepsR_next ?_
    | with_reducible refine keeps_State_settle _ ?_
    | with_reducible refine keeps_State_visited _ _ ?_ ?_
    | with_reducible refine keeps_State_decideAt _ ?_
    | with_reducible refine keepsR_onlyIf ?_ ?_
    | split

theorem keeps_execRstNAssert {b s : State} (h : Keeps b s) : KeepsR b (execRstNAssert s) := by
  unfold execRstNAssert
  try dsimp only
  repeat' first
    | with_reducible assumption
    | with_reducible refine keepsR_next ?_
    | with_reducible refine keeps_State_toReset _ ?_

theorem keeps_execRstNRelease {b s : State} (a0) (h : Keeps b s) : KeepsR b (execRstNRelease a0 s) := by
  unfold execRstNRelease
  try dsimp only
  repeat' first
    | with_reducible assumption
    | simp only [↓keeps_mk]
    | with_reducible refine keepsR_onlyIf ?_ ?_
    | split

theorem keeps_execFuseReadComplete {b s : State} (a0) (h : Keeps b s) : KeepsR b (execFuseReadComplete a0 s) := by
  unfold execFuseReadComplete
  try dsimp only
  repeat' first
    | with_reducible assumption
    | simp only [↓keeps_mk]
    | with_reducible refine keeps_State_gradeDefault ?_
    | with_reducible refine keeps_State_writeRec _ ?_
    | with_reducible refine keeps_State_blow _ ?_
    | with_reducible refine keepsR_onlyIf ?_ ?_
    | split

theorem keeps_execSelfTestComplete {b s : State} (a0) (h : Keeps b s) : KeepsR b (execSelfTestComplete a0 s) := by
  unfold execSelfTestComplete
  try dsimp only
  repeat' first
    | with_reducible assumption
    | simp only [↓keeps_mk]
    | with_reducible refine keeps_State_random256 ?_
    | with_reducible refine keepsR_onlyIf ?_ ?_
    | split

theorem keeps_execImageHeaderRead {b s : State} (h : Keeps b s) : KeepsR b (execImageHeaderRead s) := by
  unfold execImageHeaderRead
  try dsimp only
  repeat' first
    | with_reducible assumption
    | simp only [↓keeps_mk]
    | with_reducible refine keepsR_next ?_
    | with_reducible refine keeps_State_chooseBank ?_
    | with_reducible refine keeps_State_bankFailed _ ?_
    | split

theorem keeps_execImageVerify {b s : State} (a0) (h : Keeps b s) : KeepsR b (execImageVerify a0 s) := by
  unfold execImageVerify
  try dsimp only
  repeat' first
    | with_reducible assumption
    | with_reducible refine keepsR_next ?_
    | with_reducible refine keeps_State_bootImage _ ?_
    | with_reducible refine keeps_State_bankFailed _ ?_
    | split

theorem keeps_execEnterLoading {b s : State} (a0) (a1) (a2) (a3) (a4) (a5) (h : Keeps b s) : KeepsR b (execEnterLoading
      a0 a1 a2 a3 a4 a5 s) := by
  unfold execEnterLoading
  try dsimp only
  repeat' first
    | with_reducible assumption
    | simp only [↓keeps_mk]
    | with_reducible refine keepsR_next ?_
    | with_reducible refine keeps_State_bistSite _ ?_
    | with_reducible refine keeps_State_trainLane _ ?_
    | with_reducible refine keeps_State_openFmk ?_
    | with_reducible refine keeps_State_enumerate _ _ _ _ ?_
    | with_reducible refine keeps_State_flushEarly ?_
    | with_reducible refine keeps_State_goDev _ ?_
    | with_reducible refine keeps_State_sendReady _ ?_
    | with_reducible refine keeps_State_loadPavs ?_
    | with_reducible refine keeps_State_startTrial ?_
    | with_reducible refine keeps_foldl ?_ ?_
    | split
    | (intro _ _ _; try dsimp only)

theorem keeps_execGetVersion {b s : State} (h : Keeps b s) : KeepsR b (execGetVersion s) := by
  unfold execGetVersion
  try dsimp only
  repeat' first
    | with_reducible assumption
    | with_reducible refine keeps_State_spdm _ ?_ ?_
    | with_reducible refine keeps_State_answerFree _ ?_

theorem keeps_execGetCapabilities {b s : State} (h : Keeps b s) : KeepsR b (execGetCapabilities s) := by
  unfold execGetCapabilities
  try dsimp only
  repeat' first
    | with_reducible assumption
    | with_reducible refine keeps_State_spdm _ ?_ ?_
    | with_reducible refine keeps_State_answerFree _ ?_

theorem keeps_execNegotiateAlgorithms {b s : State} (h : Keeps b s) : KeepsR b (execNegotiateAlgorithms s) := by
  unfold execNegotiateAlgorithms
  try dsimp only
  repeat' first
    | with_reducible assumption
    | with_reducible refine keeps_State_spdm _ ?_ ?_
    | with_reducible refine keeps_State_answerFree _ ?_

theorem keeps_execGetDigests {b s : State} (h : Keeps b s) : KeepsR b (execGetDigests s) := by
  unfold execGetDigests
  try dsimp only
  repeat' first
    | with_reducible assumption
    | with_reducible refine keeps_State_spdm _ ?_ ?_
    | with_reducible refine keeps_State_answerFree _ ?_

theorem keeps_execGetCertificate {b s : State} (a0) (h : Keeps b s) : KeepsR b (execGetCertificate a0 s) := by
  unfold execGetCertificate
  try dsimp only
  repeat' first
    | with_reducible assumption
    | with_reducible refine keeps_State_spdm _ ?_ ?_
    | with_reducible refine keeps_State_answerFree _ ?_
    | with_reducible refine keeps_State_answerErr _ _ ?_
    | split

theorem keeps_execChallenge {b s : State} (a0) (h : Keeps b s) : KeepsR b (execChallenge a0 s) := by
  unfold execChallenge
  try dsimp only
  repeat' first
    | with_reducible assumption
    | with_reducible refine keeps_State_spdm _ ?_ ?_
    | with_reducible refine keeps_State_answerFree _ ?_

theorem keeps_execGetMeasurements {b s : State} (a0) (h : Keeps b s) : KeepsR b (execGetMeasurements a0 s) := by
  unfold execGetMeasurements
  try dsimp only
  repeat' first
    | with_reducible assumption
    | with_reducible refine keeps_State_spdm _ ?_ ?_
    | with_reducible refine keeps_State_answer _ _ ?_
    | with_reducible refine keeps_State_answerErr _ _ ?_
    | split

theorem keeps_execKeyExchange {b s : State} (a0) (h : Keeps b s) : KeepsR b (execKeyExchange a0 s) := by
  unfold execKeyExchange
  try dsimp only
  repeat' first
    | with_reducible assumption
    | simp only [↓keeps_mk]
    | with_reducible refine keeps_State_spdm _ ?_ ?_
    | with_reducible refine keeps_State_answerFree _ ?_
    | with_reducible refine keeps_State_answerErr _ _ ?_
    | split

theorem keeps_execFinish {b s : State} (a0) (a1) (h : Keeps b s) : KeepsR b (execFinish a0 a1 s) := by
  unfold execFinish
  try dsimp only
  repeat' first
    | with_reducible assumption
    | simp only [↓keeps_mk]
    | with_reducible refine keeps_State_spdm _ ?_ ?_
    | with_reducible refine keeps_State_answerFree _ ?_
    | with_reducible refine keeps_State_answerErr _ _ ?_
    | split

theorem keeps_execHeartbeat {b s : State} (a0) (h : Keeps b s) : KeepsR b (execHeartbeat a0 s) := by
  unfold execHeartbeat
  try dsimp only
  repeat' first
    | with_reducible assumption
    | with_reducible refine keeps_State_inSession _ _ ?_ ?_
    | with_reducible refine keeps_State_answerFree _ ?_

theorem keeps_execKeyUpdate {b s : State} (a0) (h : Keeps b s) : KeepsR b (execKeyUpdate a0 s) := by
  unfold execKeyUpdate
  try dsimp only
  repeat' first
    | with_reducible assumption
    | with_reducible refine keeps_State_inSession _ _ ?_ ?_
    | with_reducible refine keeps_State_answerFree _ ?_

theorem keeps_execEndSession {b s : State} (a0) (h : Keeps b s) : KeepsR b (execEndSession a0 s) := by
  unfold execEndSession
  try dsimp only
  repeat' first
    | with_reducible assumption
    | simp only [↓keeps_mk]
    | with_reducible refine keeps_State_inSession _ _ ?_ ?_
    | with_reducible refine keeps_State_answerFree _ ?_

theorem keeps_execSetFabricMasterKey {b s : State} (a0) (a1) (h : Keeps b s) : KeepsR b (execSetFabricMasterKey a0 a1 s)
      := by
  unfold execSetFabricMasterKey
  try dsimp only
  repeat' first
    | with_reducible assumption
    | with_reducible refine keeps_State_officer _ _ ?_ ?_
    | with_reducible refine keeps_State_storeFmk _ _ ?_
    | with_reducible refine keeps_State_answerFree _ ?_
    | with_reducible refine keeps_State_answerErr _ _ ?_
    | split

theorem keeps_execZeroise {b s : State} (a0) (h : Keeps b s) : KeepsR b (execZeroise a0 s) := by
  unfold execZeroise
  try dsimp only
  repeat' first
    | with_reducible assumption
    | with_reducible refine keeps_State_officer _ _ ?_ ?_
    | with_reducible refine keeps_State_zeroise ?_
    | with_reducible refine keeps_State_answerFree _ ?_

theorem keeps_execDebugUnlock {b s : State} (a0) (h : Keeps b s) : KeepsR b (execDebugUnlock a0 s) := by
  unfold execDebugUnlock
  try dsimp only
  repeat' first
    | with_reducible assumption
    | simp only [↓keeps_mk]
    | with_reducible refine keeps_State_zeroise ?_
    | with_reducible refine keeps_State_answerFree _ ?_
    | with_reducible refine keeps_State_officer _ _ ?_ ?_

theorem keeps_execSpdmUnsupportedRequest {b s : State} (a0) (h : Keeps b s) : KeepsR b (execSpdmUnsupportedRequest a0 s)
      := by
  unfold execSpdmUnsupportedRequest
  try dsimp only
  repeat' first
    | with_reducible assumption
    | with_reducible refine keeps_State_spdm _ ?_ ?_
    | with_reducible refine keeps_State_answerErr _ _ ?_

theorem keeps_execSelfTestOnDemand {b s : State} (a0) (h : Keeps b s) : KeepsR b (execSelfTestOnDemand a0 s) := by
  unfold execSelfTestOnDemand
  try dsimp only
  repeat' first
    | with_reducible assumption
    | with_reducible refine keeps_State_spdm _ ?_ ?_
    | with_reducible refine keeps_State_answerFree _ ?_
    | with_reducible refine keeps_State_gateFails ?_
    | split

theorem keeps_execEntropyHealthFail {b s : State} (a0) (h : Keeps b s) : KeepsR b (execEntropyHealthFail a0 s) := by
  unfold execEntropyHealthFail
  try dsimp only
  repeat' first
    | with_reducible assumption
    | with_reducible refine keeps_State_raise _ ?_
    | with_reducible refine keeps_State_gateFails ?_
    | with_reducible refine keepsR_onlyIf ?_ ?_
    | split

theorem keeps_execEntdaa {b s : State} (a0) (h : Keeps b s) : KeepsR b (execEntdaa a0 s) := by
  unfold execEntdaa
  try dsimp only
  repeat' first
    | with_reducible assumption
    | simp only [↓keeps_mk]
    | with_reducible refine keepsR_onlyIf ?_ ?_

theorem keeps_execSetEndpointId {b s : State} (a0) (h : Keeps b s) : KeepsR b (execSetEndpointId a0 s) := by
  unfold execSetEndpointId
  try dsimp only
  repeat' first
    | with_reducible assumption
    | simp only [↓keeps_mk]
    | with_reducible refine keeps_State_mctp ?_ ?_
    | with_reducible refine keeps_State_answerFree _ ?_

theorem keeps_execGetEndpointId {b s : State} (h : Keeps b s) : KeepsR b (execGetEndpointId s) := by
  unfold execGetEndpointId
  try dsimp only
  repeat' first
    | with_reducible assumption
    | with_reducible refine keeps_State_mctp ?_ ?_
    | with_reducible refine keeps_State_answer _ _ ?_

theorem keeps_execGetEndpointUuid {b s : State} (h : Keeps b s) : KeepsR b (execGetEndpointUuid s) := by
  unfold execGetEndpointUuid
  try dsimp only
  repeat' first
    | with_reducible assumption
    | with_reducible refine keeps_State_mctp ?_ ?_
    | with_reducible refine keeps_State_answerFree _ ?_

theorem keeps_execGetMctpVersionSupport {b s : State} (h : Keeps b s) : KeepsR b (execGetMctpVersionSupport s) := by
  unfold execGetMctpVersionSupport
  try dsimp only
  repeat' first
    | with_reducible assumption
    | with_reducible refine keeps_State_mctp ?_ ?_
    | with_reducible refine keeps_State_answerFree _ ?_

theorem keeps_execGetMessageTypeSupport {b s : State} (h : Keeps b s) : KeepsR b (execGetMessageTypeSupport s) := by
  unfold execGetMessageTypeSupport
  try dsimp only
  repeat' first
    | with_reducible assumption
    | with_reducible refine keeps_State_mctp ?_ ?_
    | with_reducible refine keeps_State_answer _ _ ?_

theorem keeps_execGetTid {b s : State} (h : Keeps b s) : KeepsR b (execGetTid s) := by
  unfold execGetTid
  try dsimp only
  repeat' first
    | with_reducible assumption
    | with_reducible refine keeps_State_pldm _ ?_ ?_
    | with_reducible refine keeps_State_answerFree _ ?_

theorem keeps_execGetPldmVersion {b s : State} (h : Keeps b s) : KeepsR b (execGetPldmVersion s) := by
  unfold execGetPldmVersion
  try dsimp only
  repeat' first
    | with_reducible assumption
    | with_reducible refine keeps_State_pldm _ ?_ ?_
    | with_reducible refine keeps_State_answerFree _ ?_

theorem keeps_execGetPldmTypes {b s : State} (h : Keeps b s) : KeepsR b (execGetPldmTypes s) := by
  unfold execGetPldmTypes
  try dsimp only
  repeat' first
    | with_reducible assumption
    | with_reducible refine keeps_State_pldm _ ?_ ?_
    | with_reducible refine keeps_State_answer _ _ ?_

theorem keeps_execGetPldmCommands {b s : State} (a0) (h : Keeps b s) : KeepsR b (execGetPldmCommands a0 s) := by
  unfold execGetPldmCommands
  try dsimp only
  repeat' first
    | with_reducible assumption
    | with_reducible refine keeps_State_pldm _ ?_ ?_
    | with_reducible refine keeps_State_answerFree _ ?_
    | with_reducible refine keeps_State_answerErr _ _ ?_
    | split

theorem keeps_execGetPdrRepositoryInfo {b s : State} (h : Keeps b s) : KeepsR b (execGetPdrRepositoryInfo s) := by
  unfold execGetPdrRepositoryInfo
  try dsimp only
  repeat' first
    | with_reducible assumption
    | with_reducible refine keeps_State_pldm _ ?_ ?_
    | with_reducible refine keeps_State_answerFree _ ?_

theorem keeps_execGetPdr {b s : State} (a0) (h : Keeps b s) : KeepsR b (execGetPdr a0 s) := by
  unfold execGetPdr
  try dsimp only
  repeat' first
    | with_reducible assumption
    | with_reducible refine keeps_State_pldm _ ?_ ?_
    | with_reducible refine keeps_State_answerFree _ ?_

theorem keeps_execGetSensorReading {b s : State} (a0) (a1) (h : Keeps b s) : KeepsR b (execGetSensorReading a0 a1 s) :=
      by
  unfold execGetSensorReading
  try dsimp only
  repeat' first
    | with_reducible assumption
    | with_reducible refine keeps_State_pldm _ ?_ ?_
    | with_reducible refine keeps_State_answer _ _ ?_

theorem keeps_execGetStateSensorReadings {b s : State} (a0) (h : Keeps b s) : KeepsR b (execGetStateSensorReadings a0 s)
      := by
  unfold execGetStateSensorReadings
  try dsimp only
  repeat' first
    | with_reducible assumption
    | with_reducible refine keeps_State_pldm _ ?_ ?_
    | with_reducible refine keeps_State_answer _ _ ?_
    | with_reducible refine keeps_State_answerErr _ _ ?_
    | split

theorem keeps_execQueryDeviceIdentifiers {b s : State} (h : Keeps b s) : KeepsR b (execQueryDeviceIdentifiers s) := by
  unfold execQueryDeviceIdentifiers
  try dsimp only
  repeat' first
    | with_reducible assumption
    | with_reducible refine keeps_State_pldm5 _ _ ?_ ?_
    | with_reducible refine keeps_State_answerFree _ ?_
    | (intro _ _; try dsimp only)

theorem keeps_execGetFirmwareParameters {b s : State} (h : Keeps b s) : KeepsR b (execGetFirmwareParameters s) := by
  unfold execGetFirmwareParameters
  try dsimp only
  repeat' first
    | with_reducible assumption
    | with_reducible refine keeps_State_pldm5 _ _ ?_ ?_
    | with_reducible refine keeps_State_answerFree _ ?_
    | (intro _ _; try dsimp only)

theorem keeps_execRequestUpdate {b s : State} (h : Keeps b s) : KeepsR b (execRequestUpdate s) := by
  unfold execRequestUpdate
  try dsimp only
  repeat' first
    | with_reducible assumption
    | simp only [↓keeps_mk]
    | with_reducible refine keepsR_next ?_
    | with_reducible refine keeps_State_answerErr _ _ ?_
    | with_reducible refine keeps_State_pldm5 _ _ ?_ ?_
    | with_reducible refine keeps_State_answerFree _ ?_
    | split
    | (intro _ _; try dsimp only)

theorem keeps_execPassComponentTable {b s : State} (h : Keeps b s) : KeepsR b (execPassComponentTable s) := by
  unfold execPassComponentTable
  try dsimp only
  repeat' first
    | with_reducible assumption
    | with_reducible refine keeps_State_inUpdate _ _ _ ?_ ?_
    | with_reducible refine keeps_State_answerFree _ ?_
    | (intro _ _; try dsimp only)

theorem keeps_execUpdateComponent {b s : State} (a0) (h : Keeps b s) : KeepsR b (execUpdateComponent a0 s) := by
  unfold execUpdateComponent
  try dsimp only
  repeat' first
    | with_reducible assumption
    | simp only [↓keeps_mk]
    | with_reducible refine keeps_State_inUpdate _ _ _ ?_ ?_
    | with_reducible refine keeps_State_send5 _ ?_
    | with_reducible refine keeps_State_answerFree _ ?_
    | (intro _ _; try dsimp only)

theorem keeps_execRequestFirmwareData {b s : State} (a0) (a1) (h : Keeps b s) : KeepsR b (execRequestFirmwareData a0 a1
      s) := by
  unfold execRequestFirmwareData
  try dsimp only
  repeat' first
    | with_reducible assumption
    | simp only [↓keeps_mk]
    | with_reducible refine keepsR_next ?_
    | with_reducible refine keeps_State_takeManifest _ ?_
    | with_reducible refine keeps_State_askData ?_
    | with_reducible refine keeps_State_takeBlock _ _ ?_
    | split

theorem keeps_execVerifyComplete {b s : State} (h : Keeps b s) : KeepsR b (execVerifyComplete s) := by
  unfold execVerifyComplete
  try dsimp only
  repeat' first
    | with_reducible assumption
    | simp only [↓keeps_mk]
    | with_reducible refine keepsR_next ?_
    | with_reducible refine keeps_State_send5 _ ?_
    | with_reducible refine keeps_State_failComponent _ ?_
    | with_reducible refine keeps_State_setBank _ _ ?_
    | split

theorem keeps_execApplyComplete {b s : State} (h : Keeps b s) : KeepsR b (execApplyComplete s) := by
  unfold execApplyComplete
  try dsimp only
  repeat' first
    | with_reducible assumption
    | simp only [↓keeps_mk]
    | with_reducible refine keepsR_next ?_
    | with_reducible refine keeps_State_writeRec _ ?_
    | with_reducible refine keeps_State_send5 _ ?_
    | split

theorem keeps_execActivateFirmware {b s : State} (a0) (a1) (h : Keeps b s) : KeepsR b (execActivateFirmware a0 a1 s) :=
      by
  unfold execActivateFirmware
  try dsimp only
  repeat' first
    | with_reducible assumption
    | simp only [↓keeps_mk]
    | with_reducible refine keeps_State_pldm5 _ _ ?_ ?_
    | with_reducible refine keeps_State_answerFree _ ?_
    | with_reducible refine keeps_State_answerErr _ _ ?_
    | with_reducible refine keeps_State_confirm _ ?_
    | split
    | (intro _ _; try dsimp only)

theorem keeps_execGetStatus {b s : State} (h : Keeps b s) : KeepsR b (execGetStatus s) := by
  unfold execGetStatus
  try dsimp only
  repeat' first
    | with_reducible assumption
    | with_reducible refine keeps_State_pldm5 _ _ ?_ ?_
    | with_reducible refine keeps_State_answerFree _ ?_
    | (intro _ _; try dsimp only)

theorem keeps_execCancelUpdateComponent {b s : State} (h : Keeps b s) : KeepsR b (execCancelUpdateComponent s) := by
  unfold execCancelUpdateComponent
  try dsimp only
  repeat' first
    | with_reducible assumption
    | simp only [↓keeps_mk]
    | with_reducible refine keeps_State_inUpdate _ _ _ ?_ ?_
    | with_reducible refine keeps_State_answerFree _ ?_
    | (intro _ _; try dsimp only)

theorem keeps_execCancelUpdate {b s : State} (h : Keeps b s) : KeepsR b (execCancelUpdate s) := by
  unfold execCancelUpdate
  try dsimp only
  repeat' first
    | with_reducible assumption
    | with_reducible refine keeps_State_pldm5 _ _ ?_ ?_
    | with_reducible refine keeps_State_setCause _ ?_
    | with_reducible refine keeps_State_answerFree _ ?_
    | with_reducible refine keeps_State_leaveUpdate ?_
    | with_reducible refine keeps_State_answerErr _ _ ?_
    | split
    | (intro _ _; try dsimp only)

theorem keeps_execPldmUnsupportedCommand {b s : State} (a0) (h : Keeps b s) : KeepsR b (execPldmUnsupportedCommand a0 s)
      := by
  unfold execPldmUnsupportedCommand
  try dsimp only
  repeat' first
    | with_reducible assumption
    | with_reducible refine keeps_State_pldm5 _ _ ?_ ?_
    | with_reducible refine keeps_State_answerErr _ _ ?_
    | (intro _ _; try dsimp only)

theorem keeps_execUpdateTimeout {b s : State} (h : Keeps b s) : KeepsR b (execUpdateTimeout s) := by
  unfold execUpdateTimeout
  try dsimp only
  repeat' first
    | with_reducible assumption
    | with_reducible refine keeps_State_leaveUpdate ?_
    | with_reducible refine keepsR_onlyIf ?_ ?_

theorem keeps_execHitlessActivationStart {b s : State} (h : Keeps b s) : KeepsR b (execHitlessActivationStart s) := by
  unfold execHitlessActivationStart
  try dsimp only
  repeat' first
    | with_reducible assumption
    | simp only [↓keeps_mk]
    | with_reducible refine keepsR_next ?_
    | with_reducible refine keeps_State_pauseIdle ?_
    | with_reducible refine keeps_State_goDev _ ?_
    | with_reducible refine keeps_State_useImage _ _ ?_
    | split

theorem keeps_execGatehouseServicesResume {b s : State} (h : Keeps b s) : KeepsR b (execGatehouseServicesResume s) := by
  unfold execGatehouseServicesResume
  try dsimp only
  repeat' first
    | with_reducible assumption
    | simp only [↓keeps_mk]
    | with_reducible refine keepsR_onlyIf ?_ ?_

theorem keeps_execStewardHandover {b s : State} (a0) (h : Keeps b s) : KeepsR b (execStewardHandover a0 s) := by
  unfold execStewardHandover
  try dsimp only
  repeat' first
    | with_reducible assumption
    | with_reducible refine keeps_State_pauseSteward _ ?_
    | with_reducible refine keepsR_onlyIf ?_ ?_

theorem keeps_execStewardResume {b s : State} (a0) (h : Keeps b s) : KeepsR b (execStewardResume a0 s) := by
  unfold execStewardResume
  try dsimp only
  repeat' first
    | with_reducible assumption
    | simp only [↓keeps_mk]
    | with_reducible refine keepsR_next ?_
    | with_reducible refine keeps_State_payDir ?_
    | with_reducible refine keeps_State_handoverDone ?_
    | split

theorem keeps_execResumeTimeout {b s : State} (a0) (h : Keeps b s) : KeepsR b (execResumeTimeout a0 s) := by
  unfold execResumeTimeout
  try dsimp only
  repeat' first
    | with_reducible assumption
    | with_reducible refine keeps_State_setCause _ ?_
    | with_reducible refine keepsR_onlyIf ?_ ?_

theorem keeps_execConfirmWindowExpiry {b s : State} (h : Keeps b s) : KeepsR b (execConfirmWindowExpiry s) := by
  unfold execConfirmWindowExpiry
  try dsimp only
  repeat' first
    | with_reducible assumption
    | with_reducible refine keeps_State_takeDue _ ?_
    | with_reducible refine keeps_State_settle _ ?_
    | with_reducible refine keepsR_onlyIf ?_ ?_

theorem keeps_execHitlessFallbackStart {b s : State} (h : Keeps b s) : KeepsR b (execHitlessFallbackStart s) := by
  unfold execHitlessFallbackStart
  try dsimp only
  repeat' first
    | with_reducible assumption
    | simp only [↓keeps_mk]
    | with_reducible refine keepsR_next ?_
    | with_reducible refine keeps_State_handoverDone ?_
    | with_reducible refine keeps_State_pauseIdle ?_
    | with_reducible refine keeps_State_useImage _ _ ?_
    | split

theorem keeps_execUpdateAbandoned {b s : State} (h : Keeps b s) : KeepsR b (execUpdateAbandoned s) := by
  unfold execUpdateAbandoned
  try dsimp only
  repeat' first
    | with_reducible assumption
    | with_reducible refine keeps_State_selfReset ?_
    | with_reducible refine keeps_State_plogFlush ?_
    | with_reducible refine keeps_State_raise _ ?_
    | with_reducible refine keepsR_onlyIf ?_ ?_

theorem keeps_execErrCtlHipClr {b s : State} (a0) (h : Keeps b s) : KeepsR b (execErrCtlHipClr a0 s) := by
  unfold execErrCtlHipClr
  try dsimp only
  repeat' first
    | with_reducible assumption
    | with_reducible refine keepsR_next ?_
    | with_reducible refine keeps_State_own _ _ _ _ _ ?_ ?_
    | with_reducible refine keeps_State_ackIrq _ ?_
    | with_reducible refine keeps_State_modBank _ _ ?_
    | split
    | (intro _ _ _; try dsimp only)

theorem keeps_execErrCtlOvfClr {b s : State} (a0) (h : Keeps b s) : KeepsR b (execErrCtlOvfClr a0 s) := by
  unfold execErrCtlOvfClr
  try dsimp only
  repeat' first
    | with_reducible assumption
    | with_reducible refine keepsR_next ?_
    | with_reducible refine keeps_State_own _ _ _ _ _ ?_ ?_
    | with_reducible refine keeps_State_modBank _ _ ?_
    | (intro _ _ _; try dsimp only)

theorem keeps_execErrRingRd {b s : State} (a0) (a1) (h : Keeps b s) : KeepsR b (execErrRingRd a0 a1 s) := by
  unfold execErrRingRd
  try dsimp only
  repeat' first
    | with_reducible assumption
    | with_reducible refine keepsR_next ?_
    | with_reducible refine keeps_State_own _ _ _ _ _ ?_ ?_
    | with_reducible refine keeps_State_modBank _ _ ?_
    | split
    | (intro _ _ _; try dsimp only)

theorem keeps_execErrHandlerTimeout {b s : State} (a0) (h : Keeps b s) : KeepsR b (execErrHandlerTimeout a0 s) := by
  unfold execErrHandlerTimeout
  try dsimp only
  repeat' first
    | with_reducible assumption
    | with_reducible refine keepsR_next ?_
    | with_reducible refine keeps_State_modBank _ _ ?_
    | with_reducible refine keeps_State_raise _ ?_
    | with_reducible refine keepsR_onlyIf ?_ ?_
    | split

theorem keeps_execPersistentLogWrite {b s : State} (a0) (h : Keeps b s) : KeepsR b (execPersistentLogWrite a0 s) := by
  unfold execPersistentLogWrite
  try dsimp only
  repeat' first
    | with_reducible assumption
    | simp only [↓keeps_mk]
    | with_reducible refine keepsR_next ?_
    | with_reducible refine keeps_State_plogPut _ ?_
    | with_reducible refine keeps_State_raise _ ?_
    | with_reducible refine keepsR_onlyIf ?_ ?_
    | split

theorem keeps_execRepairRecordWrite {b s : State} (a0) (h : Keeps b s) : KeepsR b (execRepairRecordWrite a0 s) := by
  unfold execRepairRecordWrite
  try dsimp only
  repeat' first
    | with_reducible assumption
    | simp only [↓keeps_mk]
    | with_reducible refine keeps_State_raise _ ?_
    | with_reducible refine keepsR_onlyIf ?_ ?_
    | split

theorem keeps_execMacResidueFail {b s : State} (a0) (h : Keeps b s) : KeepsR b (execMacResidueFail a0 s) := by
  unfold execMacResidueFail
  try dsimp only
  repeat' first
    | with_reducible assumption
    | with_reducible refine keeps_State_setPlot _ _ ?_
    | with_reducible refine keeps_State_trigger _ ?_
    | with_reducible refine keepsR_onlyIf ?_ ?_
    | split

theorem keeps_execRepairCtlRetire {b s : State} (a0) (a1) (h : Keeps b s) : KeepsR b (execRepairCtlRetire a0 a1 s) := by
  unfold execRepairCtlRetire
  try dsimp only
  repeat' first
    | with_reducible assumption
    | with_reducible refine keepsR_next ?_
    | with_reducible refine keeps_State_own _ _ _ _ _ ?_ ?_
    | with_reducible refine keeps_State_trigger _ ?_
    | split
    | (intro _ _ _; try dsimp only)

theorem keeps_execRepairCtlLaneClr {b s : State} (a0) (a1) (h : Keeps b s) : KeepsR b (execRepairCtlLaneClr a0 a1 s) :=
      by
  unfold execRepairCtlLaneClr
  try dsimp only
  repeat' first
    | with_reducible assumption
    | simp only [↓keeps_mk]
    | with_reducible refine keepsR_next ?_
    | with_reducible refine keeps_State_own _ _ _ _ _ ?_ ?_
    | split
    | (intro _ _ _; try dsimp only)

theorem keeps_execAgingSample {b s : State} (a0) (h : Keeps b s) : KeepsR b (execAgingSample a0 s) := by
  unfold execAgingSample
  try dsimp only
  repeat' first
    | with_reducible assumption
    | simp only [↓keeps_mk]
    | with_reducible refine keepsR_next ?_
    | with_reducible refine keeps_State_derate _ ?_
    | with_reducible refine keeps_State_sampleMargin _ _ ?_
    | with_reducible refine keeps_foldl ?_ ?_
    | split
    | (intro _ _ _; try dsimp only)

theorem keeps_execPowerSample {b s : State} (a0) (h : Keeps b s) : KeepsR b (execPowerSample a0 s) := by
  unfold execPowerSample
  try dsimp only
  repeat' first
    | with_reducible assumption
    | simp only [↓keeps_mk]
    | with_reducible refine keeps_State_wr _ _ _ _ ?_
    | with_reducible refine keepsR_onlyIf ?_ ?_

theorem keeps_execAvsSetpointReached {b s : State} (h : Keeps b s) : KeepsR b (execAvsSetpointReached s) := by
  unfold execAvsSetpointReached
  try dsimp only
  repeat' first
    | with_reducible assumption
    | simp only [↓keeps_mk]
    | with_reducible refine keepsR_onlyIf ?_ ?_

theorem keeps_execAvsFault {b s : State} (h : Keeps b s) : KeepsR b (execAvsFault s) := by
  unfold execAvsFault
  try dsimp only
  repeat' first
    | with_reducible assumption
    | simp only [↓keeps_mk]
    | with_reducible refine keeps_State_emit _ ?_
    | with_reducible refine keeps_State_wr _ _ _ _ ?_
    | with_reducible refine keepsR_onlyIf ?_ ?_

theorem keeps_execDevPwrAvsRetry {b s : State} (a0) (h : Keeps b s) : KeepsR b (execDevPwrAvsRetry a0 s) := by
  unfold execDevPwrAvsRetry
  try dsimp only
  repeat' first
    | with_reducible assumption
    | with_reducible refine keepsR_next ?_
    | with_reducible refine keeps_State_own _ _ _ _ _ ?_ ?_
    | with_reducible refine keeps_State_wr _ _ _ _ ?_
    | (intro _ _ _; try dsimp only)

theorem keeps_execFastCap {b s : State} (h : Keeps b s) : KeepsR b (execFastCap s) := by
  unfold execFastCap
  try dsimp only
  repeat' first
    | with_reducible assumption
    | simp only [↓keeps_mk]
    | with_reducible refine keeps_State_inc _ _ _ ?_
    | with_reducible refine keeps_State_wr _ _ _ _ ?_
    | with_reducible refine keepsR_onlyIf ?_ ?_

theorem keeps_execThermalSample {b s : State} (a0) (h : Keeps b s) : KeepsR b (execThermalSample a0 s) := by
  unfold execThermalSample
  try dsimp only
  repeat' first
    | with_reducible assumption
    | simp only [↓keeps_mk]
    | with_reducible refine keeps_State_wr _ _ _ _ ?_
    | with_reducible refine keepsR_onlyIf ?_ ?_
    | split

theorem keeps_execThermalTrip {b s : State} (h : Keeps b s) : KeepsR b (execThermalTrip s) := by
  unfold execThermalTrip
  try dsimp only
  repeat' first
    | with_reducible assumption
    | simp only [↓keeps_mk]
    | with_reducible refine keeps_State_toDormant _ ?_
    | with_reducible refine keepsR_onlyIf ?_ ?_

theorem keeps_execRailUndervoltage {b s : State} (h : Keeps b s) : KeepsR b (execRailUndervoltage s) := by
  unfold execRailUndervoltage
  try dsimp only
  repeat' first
    | with_reducible assumption
    | with_reducible refine keeps_State_selfReset ?_
    | with_reducible refine keepsR_onlyIf ?_ ?_

theorem keeps_execAonOscillatorStop {b s : State} (h : Keeps b s) : KeepsR b (execAonOscillatorStop s) := by
  unfold execAonOscillatorStop
  try dsimp only
  repeat' first
    | with_reducible assumption
    | with_reducible refine keeps_State_selfReset ?_
    | with_reducible refine keepsR_onlyIf ?_ ?_

theorem keeps_execTvlRefclkLoss {b s : State} (h : Keeps b s) : KeepsR b (execTvlRefclkLoss s) := by
  unfold execTvlRefclkLoss
  try dsimp only
  repeat' first
    | with_reducible assumption
    | with_reducible refine keepsR_next ?_
    | with_reducible refine keeps_State_allPortsDown _ _ ?_

theorem keeps_execPcieRefclkLoss {b s : State} (h : Keeps b s) : KeepsR b (execPcieRefclkLoss s) := by
  unfold execPcieRefclkLoss
  try dsimp only
  repeat' first
    | with_reducible assumption
    | simp only [↓keeps_mk]
    | with_reducible refine keepsR_next ?_

theorem keeps_execNandPageProgram {b s : State} (a0) (a1) (a2) (h : Keeps b s) : KeepsR b (execNandPageProgram a0 a1 a2
      s) := by
  unfold execNandPageProgram
  try dsimp only
  repeat' first
    | with_reducible assumption
    | with_reducible refine keepsR_next ?_
    | with_reducible refine keeps_State_nandStart _ _ _ _ ?_

theorem keeps_execNandBlockErase {b s : State} (a0) (a1) (a2) (h : Keeps b s) : KeepsR b (execNandBlockErase a0 a1 a2 s)
      := by
  unfold execNandBlockErase
  try dsimp only
  repeat' first
    | with_reducible assumption
    | with_reducible refine keepsR_next ?_
    | with_reducible refine keeps_State_nandStart _ _ _ _ ?_

theorem keeps_execNandMaintComplete {b s : State} (a0) (h : Keeps b s) : KeepsR b (execNandMaintComplete a0 s) := by
  unfold execNandMaintComplete
  try dsimp only
  repeat' first
    | with_reducible assumption
    | with_reducible refine keeps_State_programPage _ ?_
    | with_reducible refine keeps_State_spoilFlash _ _ ?_
    | with_reducible refine keeps_State_eraseBlock _ _ ?_
    | with_reducible refine keeps_State_wr _ _ _ _ ?_
    | with_reducible refine keepsR_onlyIf ?_ ?_
    | split

theorem keeps_execThermNReleaseAfterTrip {b s : State} (a0) (h : Keeps b s) : KeepsR b (execThermNReleaseAfterTrip a0 s)
      := by
  unfold execThermNReleaseAfterTrip
  try dsimp only
  repeat' first
    | with_reducible assumption
    | simp only [↓keeps_mk]
    | with_reducible refine keepsR_onlyIf ?_ ?_

end Sys2Proof.Laws
end

