-- ==== Sys2Proof/Laws/KeepsExec.lean ====
section
/-! SUPPORT. Every command answers a next state that keeps what every command keeps. -/
namespace Sys2Proof.Laws
open Sys2Proof Sys2Proof.Machine

/-- Every command answers a next state, and keeps. -/
theorem keeps_exec {b s : State} (c : Instr) (h : Keeps b s) : KeepsR b (exec c s) :=
  match c with
  | .registerWrite _ _ _ _ => keeps_execRegisterWrite _ _ _ _ h
  | .chselWrite _ _ _ => keeps_execChselWrite _ _ _ h
  | .svcPrivateWrite _ => keeps_execSvcPrivateWrite _ h
  | .adapterLoad _ _ _ _ => keeps_execAdapterLoad _ _ _ _ h
  | .adapterDigestCheck _ => keeps_execAdapterDigestCheck _ h
  | .adapterDelete _ _ => keeps_execAdapterDelete _ _ h
  | .adapterQuery _ _ => keeps_execAdapterQuery _ _ h
  | .adapterPlace _ _ => keeps_execAdapterPlace _ _ h
  | .adapterSetPrio _ _ => keeps_execAdapterSetPrio _ _ h
  | .sundialReceiverEnable => keeps_execSundialReceiverEnable h
  | .sundialFrameEnd => keeps_execSundialFrameEnd h
  | .slewComplete => keeps_execSlewComplete h
  | .holdover => keeps_execHoldover h
  | .sundialLost => keeps_execSundialLost h
  | .cadenceBoundary => keeps_execCadenceBoundary h
  | .deadlineExpiry _ => keeps_execDeadlineExpiry _ h
  | .kvTtlCheck => keeps_execKvTtlCheck h
  | .scrubPassStart => keeps_execScrubPassStart h
  | .scrubCheck _ => keeps_execScrubCheck _ h
  | .fabricBroadcastStart => keeps_execFabricBroadcastStart h
  | .timeForward => keeps_execTimeForward h
  | .time _ _ _ _ _ => keeps_execTime _ _ _ _ _ h
  | .timeFrameMissing _ => keeps_execTimeFrameMissing _ h
  | .msgSend _ _ => keeps_execMsgSend _ _ h
  | .msgRecv _ _ => keeps_execMsgRecv _ _ h
  | .messageDelivery _ _ => keeps_execMessageDelivery _ _ h
  | .trlMsgStall _ _ => keeps_execTrlMsgStall _ _ h
  | .tcntNext _ _ => keeps_execTcntNext _ _ h
  | .tcntArm _ _ => keeps_execTcntArm _ _ h
  | .seqPush _ _ => keeps_execSeqPush _ _ h
  | .seqWait _ _ => keeps_execSeqWait _ _ h
  | .haloXch _ _ => keeps_execHaloXch _ _ h
  | .haloTimeout _ => keeps_execHaloTimeout _ h
  | .genSeed _ _ => keeps_execGenSeed _ _ h
  | .genRead _ _ => keeps_execGenRead _ _ h
  | .mret _ => keeps_execMret _ h
  | .fence _ _ => keeps_execFence _ _ h
  | .fenceI _ => keeps_execFenceI _ h
  | .dwinWrite _ _ _ => keeps_execDwinWrite _ _ _ h
  | .controllerLoad _ _ _ _ _ _ => keeps_execControllerLoad _ _ _ _ _ _ h
  | .controllerStore _ _ _ _ => keeps_execControllerStore _ _ _ _ h
  | .storePerform _ _ => keeps_execStorePerform _ _ h
  | .atomicAdd _ _ _ _ _ => keeps_execAtomicAdd _ _ _ _ _ h
  | .atomicSwap _ _ _ _ _ => keeps_execAtomicSwap _ _ _ _ _ h
  | .atomicCas _ _ _ _ _ => keeps_execAtomicCas _ _ _ _ _ h
  | .atomicAnd _ _ _ _ _ => keeps_execAtomicAnd _ _ _ _ _ h
  | .atomicOr _ _ _ _ _ => keeps_execAtomicOr _ _ _ _ _ h
  | .atomicXor _ _ _ _ _ => keeps_execAtomicXor _ _ _ _ _ h
  | .atomicMaxu _ _ _ _ _ => keeps_execAtomicMaxu _ _ _ _ _ h
  | .atomicMinu _ _ _ _ _ => keeps_execAtomicMinu _ _ _ _ _ h
  | .plotStart _ => keeps_execPlotStart _ h
  | .plotStop _ => keeps_execPlotStop _ h
  | .plotCtlStatClr _ => keeps_execPlotCtlStatClr _ h
  | .plotLoadGo _ => keeps_execPlotLoadGo _ h
  | .plotLoadComplete _ _ => keeps_execPlotLoadComplete _ _ h
  | .plotInj _ _ => keeps_execPlotInj _ _ h
  | .plotMemData _ _ _ => keeps_execPlotMemData _ _ _ h
  | .plotRetire _ => keeps_execPlotRetire _ h
  | .matmul _ _ _ => keeps_execMatmul _ _ _ h
  | .adaptShrink _ _ _ => keeps_execAdaptShrink _ _ _ h
  | .adaptExpand _ _ _ => keeps_execAdaptExpand _ _ _ h
  | .eltwise _ _ _ => keeps_execEltwise _ _ _ h
  | .table _ _ _ => keeps_execTable _ _ _ h
  | .reduce _ _ _ => keeps_execReduce _ _ _ h
  | .softmaxRows _ _ _ => keeps_execSoftmaxRows _ _ _ h
  | .normRows _ _ _ => keeps_execNormRows _ _ _ h
  | .gather _ _ _ => keeps_execGather _ _ _ h
  | .scatter _ _ _ => keeps_execScatter _ _ _ h
  | .conv1d _ _ _ => keeps_execConv1d _ _ _ h
  | .copy _ _ _ => keeps_execCopy _ _ _ h
  | .pad _ _ _ => keeps_execPad _ _ _ h
  | .barrier _ => keeps_execBarrier _ h
  | .barrierTimeout _ => keeps_execBarrierTimeout _ h
  | .macroOpComplete _ => keeps_execMacroOpComplete _ h
  | .executionFault _ => keeps_execExecutionFault _ h
  | .injectedMacroOp _ _ => keeps_execInjectedMacroOp _ _ h
  | .hbmHome _ _ => keeps_execHbmHome _ _ h
  | .homeChangeComplete _ => keeps_execHomeChangeComplete _ h
  | .cfmPageRead _ _ => keeps_execCfmPageRead _ _ h
  | .cfmLinkDown _ => keeps_execCfmLinkDown _ h
  | .coldFrameHotEnumeration _ _ => keeps_execColdFrameHotEnumeration _ _ h
  | .sqTailDoorbell _ _ _ => keeps_execSqTailDoorbell _ _ _ h
  | .admissionDecision _ _ => keeps_execAdmissionDecision _ _ h
  | .holdLimitExpiry _ _ => keeps_execHoldLimitExpiry _ _ h
  | .aging _ => keeps_execAging _ h
  | .stepBoundary _ _ _ _ _ => keeps_execStepBoundary _ _ _ _ _ h
  | .pavOpen _ _ => keeps_execPavOpen _ _ h
  | .pavDrain _ _ => keeps_execPavDrain _ _ h
  | .drainLimitExpiry _ => keeps_execDrainLimitExpiry _ h
  | .commitPoint _ => keeps_execCommitPoint _ h
  | .spillPageWrite _ _ _ => keeps_execSpillPageWrite _ _ _ h
  | .pageInRead _ => keeps_execPageInRead _ h
  | .selection _ _ _ => keeps_execSelection _ _ _ h
  | .listLoad _ _ _ _ => keeps_execListLoad _ _ _ _ h
  | .grammarLoad _ _ _ _ => keeps_execGrammarLoad _ _ _ _ h
  | .selObjDelete _ _ => keeps_execSelObjDelete _ _ h
  | .selCtlClear _ => keeps_execSelCtlClear _ h
  | .weightSwap _ _ => keeps_execWeightSwap _ _ h
  | .weightQuery _ _ => keeps_execWeightQuery _ _ h
  | .manifestVerify _ _ _ => keeps_execManifestVerify _ _ _ h
  | .shardVerify _ _ _ _ => keeps_execShardVerify _ _ _ _ h
  | .shardInPlace _ _ _ => keeps_execShardInPlace _ _ _ h
  | .leafRestored _ _ _ _ _ => keeps_execLeafRestored _ _ _ _ _ h
  | .broadcastAnnounce _ => keeps_execBroadcastAnnounce _ h
  | .broadcastLeaf _ => keeps_execBroadcastLeaf _ h
  | .shardEndMarker _ _ _ => keeps_execShardEndMarker _ _ _ h
  | .swapUnitVerified _ => keeps_execSwapUnitVerified _ h
  | .swapUnitCopied _ _ => keeps_execSwapUnitCopied _ _ h
  | .numberedCodeword _ _ _ _ _ _ => keeps_execNumberedCodeword _ _ _ _ _ _ h
  | .linkAck _ _ => keeps_execLinkAck _ _ h
  | .linkNak _ _ => keeps_execLinkNak _ _ h
  | .credit _ _ _ _ => keeps_execCredit _ _ _ _ h
  | .ready _ _ _ _ _ _ _ _ _ => keeps_execReady _ _ _ _ _ _ _ _ _ h
  | .delayReq _ _ _ _ => keeps_execDelayReq _ _ _ _ h
  | .delayRsp _ _ _ _ _ => keeps_execDelayRsp _ _ _ _ _ h
  | .delayReqTimer _ _ => keeps_execDelayReqTimer _ _ h
  | .laneWindowEnd _ _ _ => keeps_execLaneWindowEnd _ _ _ h
  | .laneSwapReq _ _ => keeps_execLaneSwapReq _ _ h
  | .laneSwap _ _ _ => keeps_execLaneSwap _ _ _ h
  | .keyRoll _ _ => keeps_execKeyRoll _ _ h
  | .down _ _ => keeps_execDown _ _ h
  | .reservedControlSymbol _ _ => keeps_execReservedControlSymbol _ _ h
  | .packetSend _ _ => keeps_execPacketSend _ _ h
  | .put _ _ _ _ _ _ => keeps_execPut _ _ _ _ _ _ h
  | .msg _ _ _ _ _ _ => keeps_execMsg _ _ _ _ _ _ h
  | .ack _ _ _ _ _ _ => keeps_execAck _ _ _ _ _ _ h
  | .multicastPacket _ _ _ _ _ _ => keeps_execMulticastPacket _ _ _ _ _ _ h
  | .e2eTimeout _ => keeps_execE2eTimeout _ h
  | .trainingStart => keeps_execTrainingStart h
  | .trainingComplete _ => keeps_execTrainingComplete _ h
  | .lossOfCodewordLock _ => keeps_execLossOfCodewordLock _ h
  | .retrainAttempt _ _ => keeps_execRetrainAttempt _ _ h
  | .tvlPortRetrain _ => keeps_execTvlPortRetrain _ h
  | .perstAssert => keeps_execPerstAssert h
  | .perstDeassert => keeps_execPerstDeassert h
  | .configReady => keeps_execConfigReady h
  | .functionLevelReset _ => keeps_execFunctionLevelReset _ h
  | .cqHeadDoorbell _ _ _ => keeps_execCqHeadDoorbell _ _ _ h
  | .qpEnable _ => keeps_execQpEnable _ h
  | .qpDisable _ => keeps_execQpDisable _ h
  | .qpDisableComplete _ _ => keeps_execQpDisableComplete _ _ h
  | .promptReadComplete _ _ _ => keeps_execPromptReadComplete _ _ _ h
  | .eventWrite _ _ _ => keeps_execEventWrite _ _ _ h
  | .coalTimeExpiry _ _ => keeps_execCoalTimeExpiry _ _ h
  | .msixUnmask _ _ => keeps_execMsixUnmask _ _ h
  | .reqCancel _ _ => keeps_execReqCancel _ _ h
  | .devSvcCtlGo _ => keeps_execDevSvcCtlGo _ h
  | .rstNAssert => keeps_execRstNAssert h
  | .rstNRelease _ => keeps_execRstNRelease _ h
  | .fuseReadComplete _ => keeps_execFuseReadComplete _ h
  | .selfTestComplete _ => keeps_execSelfTestComplete _ h
  | .imageHeaderRead => keeps_execImageHeaderRead h
  | .imageVerify _ => keeps_execImageVerify _ h
  | .enterLoading _ _ _ _ _ _ => keeps_execEnterLoading _ _ _ _ _ _ h
  | .getVersion => keeps_execGetVersion h
  | .getCapabilities => keeps_execGetCapabilities h
  | .negotiateAlgorithms => keeps_execNegotiateAlgorithms h
  | .getDigests => keeps_execGetDigests h
  | .getCertificate _ => keeps_execGetCertificate _ h
  | .challenge _ => keeps_execChallenge _ h
  | .getMeasurements _ => keeps_execGetMeasurements _ h
  | .keyExchange _ => keeps_execKeyExchange _ h
  | .finish _ _ => keeps_execFinish _ _ h
  | .heartbeat _ => keeps_execHeartbeat _ h
  | .keyUpdate _ => keeps_execKeyUpdate _ h
  | .endSession _ => keeps_execEndSession _ h
  | .setFabricMasterKey _ _ => keeps_execSetFabricMasterKey _ _ h
  | .zeroise _ => keeps_execZeroise _ h
  | .debugUnlock _ => keeps_execDebugUnlock _ h
  | .spdmUnsupportedRequest _ => keeps_execSpdmUnsupportedRequest _ h
  | .selfTestOnDemand _ => keeps_execSelfTestOnDemand _ h
  | .entropyHealthFail _ => keeps_execEntropyHealthFail _ h
  | .entdaa _ => keeps_execEntdaa _ h
  | .setEndpointId _ => keeps_execSetEndpointId _ h
  | .getEndpointId => keeps_execGetEndpointId h
  | .getEndpointUuid => keeps_execGetEndpointUuid h
  | .getMctpVersionSupport => keeps_execGetMctpVersionSupport h
  | .getMessageTypeSupport => keeps_execGetMessageTypeSupport h
  | .getTid => keeps_execGetTid h
  | .getPldmVersion => keeps_execGetPldmVersion h
  | .getPldmTypes => keeps_execGetPldmTypes h
  | .getPldmCommands _ => keeps_execGetPldmCommands _ h
  | .getPdrRepositoryInfo => keeps_execGetPdrRepositoryInfo h
  | .getPdr _ => keeps_execGetPdr _ h
  | .getSensorReading _ _ => keeps_execGetSensorReading _ _ h
  | .getStateSensorReadings _ => keeps_execGetStateSensorReadings _ h
  | .queryDeviceIdentifiers => keeps_execQueryDeviceIdentifiers h
  | .getFirmwareParameters => keeps_execGetFirmwareParameters h
  | .requestUpdate => keeps_execRequestUpdate h
  | .passComponentTable => keeps_execPassComponentTable h
  | .updateComponent _ => keeps_execUpdateComponent _ h
  | .requestFirmwareData _ _ => keeps_execRequestFirmwareData _ _ h
  | .verifyComplete => keeps_execVerifyComplete h
  | .applyComplete => keeps_execApplyComplete h
  | .activateFirmware _ _ => keeps_execActivateFirmware _ _ h
  | .getStatus => keeps_execGetStatus h
  | .cancelUpdateComponent => keeps_execCancelUpdateComponent h
  | .cancelUpdate => keeps_execCancelUpdate h
  | .pldmUnsupportedCommand _ => keeps_execPldmUnsupportedCommand _ h
  | .updateTimeout => keeps_execUpdateTimeout h
  | .hitlessActivationStart => keeps_execHitlessActivationStart h
  | .gatehouseServicesResume => keeps_execGatehouseServicesResume h
  | .stewardHandover _ => keeps_execStewardHandover _ h
  | .stewardResume _ => keeps_execStewardResume _ h
  | .resumeTimeout _ => keeps_execResumeTimeout _ h
  | .confirmWindowExpiry => keeps_execConfirmWindowExpiry h
  | .hitlessFallbackStart => keeps_execHitlessFallbackStart h
  | .updateAbandoned => keeps_execUpdateAbandoned h
  | .errCtlHipClr _ => keeps_execErrCtlHipClr _ h
  | .errCtlOvfClr _ => keeps_execErrCtlOvfClr _ h
  | .errRingRd _ _ => keeps_execErrRingRd _ _ h
  | .errHandlerTimeout _ => keeps_execErrHandlerTimeout _ h
  | .persistentLogWrite _ => keeps_execPersistentLogWrite _ h
  | .repairRecordWrite _ => keeps_execRepairRecordWrite _ h
  | .macResidueFail _ => keeps_execMacResidueFail _ h
  | .repairCtlRetire _ _ => keeps_execRepairCtlRetire _ _ h
  | .repairCtlLaneClr _ _ => keeps_execRepairCtlLaneClr _ _ h
  | .agingSample _ => keeps_execAgingSample _ h
  | .devCtlRouteTieClr _ => keeps_execDevCtlRouteTieClr _ h
  | .dirCtlClearTieCount _ => keeps_execDirCtlClearTieCount _ h
  | .dirCtlClearColdReads _ => keeps_execDirCtlClearColdReads _ h
  | .dirCtlClearSatCount _ => keeps_execDirCtlClearSatCount _ h
  | .powerSample _ => keeps_execPowerSample _ h
  | .avsSetpointReached => keeps_execAvsSetpointReached h
  | .avsFault => keeps_execAvsFault h
  | .devPwrAvsRetry _ => keeps_execDevPwrAvsRetry _ h
  | .fastCap => keeps_execFastCap h
  | .thermalSample _ => keeps_execThermalSample _ h
  | .thermalTrip => keeps_execThermalTrip h
  | .railUndervoltage => keeps_execRailUndervoltage h
  | .aonOscillatorStop => keeps_execAonOscillatorStop h
  | .tvlRefclkLoss => keeps_execTvlRefclkLoss h
  | .pcieRefclkLoss => keeps_execPcieRefclkLoss h
  | .nandPageProgram _ _ _ => keeps_execNandPageProgram _ _ _ h
  | .nandBlockErase _ _ _ => keeps_execNandBlockErase _ _ _ h
  | .nandMaintComplete _ => keeps_execNandMaintComplete _ h
  | .sundialEdge _ _ _ => keeps_execSundialEdge _ _ _ h
  | .hbmLaneWindowStart => keeps_execHbmLaneWindowStart h
  | .servicePortReady => keeps_execServicePortReady h
  | .pldmSpdmReady => keeps_execPldmSpdmReady h
  | .thermNReleaseAfterTrip _ => keeps_execThermNReleaseAfterTrip _ h
  | .lowHalfRead _ _ => keeps_execLowHalfRead _ _ h

end Sys2Proof.Laws
end

