-- ==== Sys2Proof/Laws/Link.lean ====
section
/-! SUPPORT. What sending on a Torvol port can change. -/
namespace Sys2Proof.Laws
open Sys2Proof Sys2Proof.Machine

/-- Nothing changed but what is sent, the ports, the lane maps and their repair record; no port changed its state. -/
def OnlyPorts (s t : State) : Prop :=
  t = { s with
    out := t.out, freeCtr := t.freeCtr, ports := t.ports
    nvm := { s.nvm with repair := t.nvm.repair }
    errs := { s.errs with repairPending := t.errs.repairPending } } ∧ s.out <+: t.out
    ∧ (s.errs.repairPending = true → t.errs.repairPending = true) ∧ ∀ i, (t.port i).st = (s.port i).st

theorem OnlyPorts.refl (s : State) : OnlyPorts s s := ⟨rfl, List.prefix_rfl, id, fun _ => rfl⟩

theorem OnlyPorts.trans {a b c : State} (h : OnlyPorts a b) (k : OnlyPorts b c) : OnlyPorts a c := by
  obtain ⟨h, h', h2, h3⟩ := h
  obtain ⟨k, k', k2, k3⟩ := k
  refine ⟨?_, h'.trans k', fun x => k2 (h2 x), fun i => (k3 i).trans (h3 i)⟩
  rw [k, h]

theorem putCw_ports (s : State) (i c) : OnlyPorts s (s.putCw i c) := ⟨rfl, List.prefix_append _ _, id, fun _ => rfl⟩

theorem setPort_ports (s : State) (i : Nat) (p : Port) (h : p.st = (s.port i).st) : OnlyPorts s (s.setPort i p) := by
  refine ⟨rfl, List.prefix_rfl, id, fun j => ?_⟩
  by_cases q : j = i
  · subst q; rw [State.port_setPort]; exact h
  · rw [State.port_setPort_other _ _ q]

theorem OnlyPorts.putCw {s t : State} (h : OnlyPorts s t) (i : Nat) (c : Cw) : OnlyPorts s (t.putCw i c) := h.trans (putCw_ports t i c)

theorem OnlyPorts.switch {s t : State} (h : OnlyPorts s t) (i d l : Nat) : OnlyPorts s (t.switchLane i d l) :=
  h.trans ⟨rfl, List.prefix_rfl, fun _ => rfl, fun _ => rfl⟩

theorem number_ports (s : State) (i : Nat) (l : List Slot) : OnlyPorts s (s.number i l) := by
  unfold State.number
  dsimp only
  split
  · split
    · refine OnlyPorts.putCw (OnlyPorts.switch (setPort_ports s i _ ?_) _ _ _) _ _; rfl
    · refine OnlyPorts.putCw (setPort_ports s i _ ?_) _ _; rfl
  · refine OnlyPorts.putCw (setPort_ports s i _ ?_) _ _; rfl

theorem sendSlots_ports (s : State) (i : Nat) (l : List Slot) : OnlyPorts s (s.sendSlots i l) := by
  unfold State.sendSlots; dsimp only; split
  · exact number_ports s i l
  · refine setPort_ports s i _ ?_; rfl

/-- What sending a control symbol can change. -/
theorem sendSym_ports (s : State) (i k : Nat) (l : List Byte) : OnlyPorts s (s.sendSym i k l) ∧ .symbol i k l ∈ (s.sendSym i k l).out := by
  have h := sendSlots_ports (s.emit (.symbol i k l)) i [symSlot k l]
  refine ⟨OnlyPorts.trans (b := s.emit (.symbol i k l)) ⟨rfl, List.prefix_append _ _, id, fun _ => rfl⟩ h, ?_⟩
  exact h.2.1.subset (by simp [State.emit])

theorem sendDown_ports (s : State) (i r : Nat) : OnlyPorts s (s.sendDown i r) := by
  unfold State.sendDown; split
  · exact (sendSym_ports _ _ _ _).1
  · exact OnlyPorts.refl s

theorem OnlyPorts.foldl {α : Type} (l : List α) (f : State → α → State) (h : ∀ s x, OnlyPorts s (f s x)) (s : State) : OnlyPorts s (l.foldl f s) := by
  induction l generalizing s with
  | nil => exact OnlyPorts.refl s
  | cons x l ih => exact OnlyPorts.trans (h s x) (ih _)

end Sys2Proof.Laws
end

