-- ==== Sys2Proof/Laws/Raise.lean ====
section
/-! SUPPORT. What raising an error and notifying can change. -/
namespace Sys2Proof.Laws
open Sys2Proof Sys2Proof.Machine

/-- Nothing changed but the error records, the registers, MSI-X and what is sent out. -/
def OnlyNotes (s t : State) : Prop := t = { s with errs := t.errs, regs := t.regs, msixPend := t.msixPend, out := t.out }

theorem OnlyNotes.refl (s : State) : OnlyNotes s s := rfl

theorem OnlyNotes.trans {a b c : State} (h : OnlyNotes a b) (k : OnlyNotes b c) : OnlyNotes a c := by
  unfold OnlyNotes at *; rw [k, h]

theorem OnlyNotes.foldl {α : Type} (l : List α) (f : State → α → State) (h : ∀ s x, OnlyNotes s (f s x)) (s : State) : OnlyNotes s (l.foldl f s) := by
  induction l generalizing s with
  | nil => exact OnlyNotes.refl s
  | cons x l ih => exact OnlyNotes.trans (h s x) (ih _)

theorem fire_notes (s : State) (a b : Nat) : OnlyNotes s (s.fire a b) := by
  unfold State.fire; split
  · rfl
  · split <;> rfl

theorem notify_notes (s : State) (a b : Nat) : OnlyNotes s (s.notify a b) := by
  unfold State.notify; split
  · rfl
  · refine OnlyNotes.trans ?_ (fire_notes _ _ _); rfl

theorem notifyAll_notes (s : State) (b : Nat) : OnlyNotes s (s.notifyAll b) := by
  unfold State.notifyAll; split
  · exact OnlyNotes.foldl _ _ (fun s x => notify_notes s x b) s
  · rfl

theorem putPrimary_notes (s : State) (c : Cls) (r) : OnlyNotes s (s.putPrimary c r) := by
  unfold State.putPrimary; dsimp only; split
  · refine OnlyNotes.trans ?_ (notify_notes _ _ _); rfl
  · rfl

theorem preempt_notes (s : State) : OnlyNotes s s.preempt := by unfold State.preempt; split <;> rfl

theorem ringOnly_notes (s : State) (e b c r) : OnlyNotes s (s.ringOnly e b c r) := by unfold State.ringOnly; dsimp only; split <;> rfl

theorem primaryIn_notes (s : State) (e c r) : OnlyNotes s (s.primaryIn e c r) := by
  unfold State.primaryIn; dsimp only; split
  · exact OnlyNotes.trans (OnlyNotes.trans (preempt_notes s) (putPrimary_notes _ c r)) rfl
  · exact OnlyNotes.trans (preempt_notes s) (putPrimary_notes _ c r)

theorem enter_notes (s : State) (e : Err) (h : e.cls ≠ .device) (hi : e.inHandler = false) : OnlyNotes s (s.enter e) := by
  unfold State.enter
  simp only [hi, Bool.false_and]
  have hc : (if false = true then e.cls.up else e.cls) = e.cls := rfl
  simp only [hc]
  split
  · refine OnlyNotes.trans ?_ (ringOnly_notes _ _ _ _ _); rfl
  · split
    · rename_i h2; exact absurd h2.1 h
    · split
      · refine OnlyNotes.trans ?_ (ringOnly_notes _ _ _ _ _); rfl
      · have : ∀ t : State, t.trialCause e.cls = t := fun t => by unfold State.trialCause; rw [if_neg (fun q => h q.1)]
        rw [this]
        refine OnlyNotes.trans ?_ (primaryIn_notes _ _ _ _); rfl

theorem serving_not {s : State} (h : s.serving = true) : s.dev.st ≠ .dormant ∧ s.dev.st ≠ .waking ∧ s.dev.st ≠ .rooting ∧ s.dev.st ≠ .shuttered := by
  unfold State.serving at h; split at h <;> simp_all

/-- While the device serves, an error is entered at once. -/
theorem raise_enter {s : State} (h : s.serving = true) (e : Err) : s.raise e = s.enter e := by
  obtain ⟨a, b, c, d⟩ := serving_not h
  unfold State.raise; split <;> simp_all

/-- While the device serves, raising an error of a class under DEVICE outside a handler changes no more than this. -/
theorem raise_notes {s : State} (h : s.serving = true) (e : Err) (hc : e.cls ≠ .device) (hi : e.inHandler = false) : OnlyNotes s (s.raise e) := by
  rw [raise_enter h]; exact enter_notes s e hc hi

theorem notify_errs (s : State) (a b) : (s.notify a b).errs = s.errs := by
  unfold State.notify State.fire; split
  · rfl
  · split
    · rfl
    · split <;> rfl

theorem preempt_cnt (s : State) : s.preempt.errs.corrected.cnt = s.errs.corrected.cnt := by
  unfold State.preempt; split
  · rfl
  · rename_i h _; cases h <;> rfl

theorem putPrimary_cnt (s : State) (c r) : (s.putPrimary c r).errs.corrected.cnt = s.errs.corrected.cnt := by
  unfold State.putPrimary; dsimp only; split
  · rw [notify_errs]; cases c <;> rfl
  · cases c <;> rfl

theorem ringOnly_cnt (s : State) (e b c r) : (s.ringOnly e b c r).errs.corrected.cnt = s.errs.corrected.cnt := by
  unfold State.ringOnly State.ringPut ErrBank.put; dsimp only; split <;> cases c <;> rfl

theorem primaryIn_cnt (s : State) (e c r) : (s.primaryIn e c r).errs.corrected.cnt = s.errs.corrected.cnt := by
  unfold State.primaryIn; dsimp only
  split
  · exact (putPrimary_cnt _ c r).trans (preempt_cnt s)
  · exact (putPrimary_cnt _ c r).trans (preempt_cnt s)

/-- A corrected error counts once in its class. -/
theorem enter_cnt (s : State) (e : Err) (h : e.cls = .corrected) (hi : e.inHandler = false) :
    (s.enter e).errs.corrected.cnt = satInc32 s.errs.corrected.cnt := by
  have key : ((s.countErr e.cls).nextSeq).errs.corrected.cnt = satInc32 s.errs.corrected.cnt := by rw [h]; rfl
  unfold State.enter
  simp only [hi, Bool.false_and]
  have hc : (if false = true then e.cls.up else e.cls) = .corrected := h
  simp only [hc]
  split
  · rw [ringOnly_cnt]; exact key
  · split
    · rename_i q; exact absurd q.1 (by decide)
    · split
      · rw [ringOnly_cnt]; exact key
      · have : ∀ t : State, t.trialCause .corrected = t := fun t => by unfold State.trialCause; rw [if_neg (fun q => absurd q.1 (by decide))]
        rw [this, primaryIn_cnt]; exact key

theorem rd_wr_field (s : State) (f g : Field) (v i k j l : Nat) (h : g.key j l ≠ f.key i k) : (s.wr f v i k).rd g j l = s.rd g j l := State.rd_wr_other _ h

theorem notify_rd (s : State) (a b : Nat) (g : Field) (j l : Nat) (h : g.key j l ≠ R.fnNotify.key a 0) : (s.notify a b).rd g j l = s.rd g j l := by
  unfold State.notify State.fire; split
  · rfl
  · split
    · exact rd_wr_field _ _ _ _ _ _ _ _ h
    · split <;> exact rd_wr_field _ _ _ _ _ _ _ _ h

theorem putPrimary_rd (s : State) (c r) (g : Field) (j l : Nat) (h : g.key j l ≠ R.fnNotify.key 0 0) : (s.putPrimary c r).rd g j l = s.rd g j l := by
  unfold State.putPrimary; dsimp only; split
  · rw [notify_rd _ _ _ _ _ _ h]; rfl
  · rfl

theorem rd_of_regs {s t : State} (h : t.regs = s.regs) (f : Field) (j l : Nat) : t.rd f j l = s.rd f j l := by unfold State.rd; rw [h]

theorem ringOnly_regs (s : State) (e b c r) : (s.ringOnly e b c r).regs = s.regs := by
  unfold State.ringOnly State.ringPut; dsimp only; split <;> rfl

theorem preempt_regs (s : State) : s.preempt.regs = s.regs := by unfold State.preempt; split <;> rfl

theorem primaryIn_rd (s : State) (e c r) (g : Field) (j l : Nat) (h : g.key j l ≠ R.fnNotify.key 0 0) : (s.primaryIn e c r).rd g j l = s.rd g j l := by
  have : (s.primaryIn e c r).rd g j l = (s.preempt.putPrimary c r).rd g j l := by
    apply rd_of_regs; unfold State.primaryIn; dsimp only; split <;> rfl
  rw [this, putPrimary_rd _ _ _ _ _ _ h]
  exact rd_of_regs (preempt_regs s) _ _ _

theorem base_regs (s : State) (c : Cls) : ((s.countErr c).nextSeq).regs = s.regs := rfl

theorem enter_rd (s : State) (e : Err) (hc : e.cls ≠ .device) (hi : e.inHandler = false) (g : Field) (j l : Nat)
    (h : g.key j l ≠ R.fnNotify.key 0 0) : (s.enter e).rd g j l = s.rd g j l := by
  unfold State.enter
  simp only [hi, Bool.false_and]
  have hcc : (if false = true then e.cls.up else e.cls) = e.cls := rfl
  simp only [hcc]
  split
  · exact rd_of_regs (ringOnly_regs _ _ _ _ _) _ _ _
  · split
    · rename_i h2; exact absurd h2.1 hc
    · split
      · exact rd_of_regs (ringOnly_regs _ _ _ _ _) _ _ _
      · have : ∀ t : State, t.trialCause e.cls = t := fun t => by unfold State.trialCause; rw [if_neg (fun q => hc q.1)]
        rw [this, primaryIn_rd _ _ _ _ _ _ _ h]
        exact rd_of_regs (base_regs s _) _ _ _

/-- It changes no register but FN_NOTIFY of the PF. -/
theorem raise_rd {s : State} (hs : s.serving = true) (e : Err) (hc : e.cls ≠ .device) (hi : e.inHandler = false) (g : Field) (j l : Nat)
    (h : g.key j l ≠ R.fnNotify.key 0 0) : (s.raise e).rd g j l = s.rd g j l := by
  rw [raise_enter hs]; exact enter_rd s e hc hi g j l h

theorem OnlyNotes.pav {s t : State} (h : OnlyNotes s t) (j : Nat) : t.pav j = s.pav j := by rw [h]; rfl

theorem OnlyNotes.mem {s t : State} (h : OnlyNotes s t) : t.mem = s.mem := by rw [h]

theorem OnlyNotes.reqs {s t : State} (h : OnlyNotes s t) : t.reqs = s.reqs := by rw [h]

theorem OnlyNotes.terrs {s t : State} (h : OnlyNotes s t) : t.terrs = s.terrs := by rw [h]

end Sys2Proof.Laws
end

