-- ==== Sys2Proof/Laws/Pavilion.lean ====
section
/-! SUPPORT. What a state change, a close or a marked end can change; reads after writes of pavilions, requests and weights. -/
namespace Sys2Proof.Laws
open Sys2Proof Sys2Proof.Machine

theorem req_setReq (s : State) (k : Nat) (v : Req) (j : Nat) : (s.setReq k v).req j = if j = k then v else s.req j := by
  split
  · subst j; exact Tab.get_put _ _
  · rename_i h; exact Tab.get_put_other _ h

theorem pav_setPav (s : State) (k : Nat) (v : Pav) (j : Nat) : (s.setPav k v).pav j = if j = k then v else s.pav j := by
  split
  · subst j; exact Tab.get_put _ _
  · rename_i h; exact Tab.get_put_other _ h

/-- A pavilion takes its new state and the tick since when. -/
theorem goPav_pav (s : State) (p : Nat) (st : PavState) (j : Nat) :
    (s.goPav p st).pav j = if j = p ∧ (s.pav p).st ≠ st then { s.pav p with st := st, since := s.time } else s.pav j := by
  unfold State.goPav; split
  · rename_i h; simp [h]
  · rename_i h; rw [OnlyNotes.pav (notifyAll_notes _ _), pav_setPav]; simp [h]

theorem goPav_keeps (s : State) (p : Nat) (st : PavState) : (s.goPav p st).mem = s.mem ∧ (s.goPav p st).reqs = s.reqs ∧ (s.goPav p st).terrs = s.terrs := by
  unfold State.goPav; split
  · exact ⟨rfl, rfl, rfl⟩
  · have h := notifyAll_notes (s.setPav p { s.pav p with st := st, since := s.time }) 2
    exact ⟨h.mem, h.reqs, h.terrs⟩

theorem goDev_keeps (s : State) (d : DevState) : (s.goDev d).pavs = s.pavs ∧ (s.goDev d).mem = s.mem ∧ (s.goDev d).reqs = s.reqs ∧ (s.goDev d).terrs = s.terrs := by
  unfold State.goDev; split
  · exact ⟨rfl, rfl, rfl, rfl⟩
  · rw [notifyAll_notes]; exact ⟨rfl, rfl, rfl, rfl⟩

theorem settleDev_keeps (s : State) : s.settleDev.pavs = s.pavs ∧ s.settleDev.mem = s.mem ∧ s.settleDev.reqs = s.reqs ∧ s.settleDev.terrs = s.terrs := by
  unfold State.settleDev; dsimp only
  split <;> (try split) <;> first | exact goDev_keeps _ _ | exact ⟨rfl, rfl, rfl, rfl⟩

/-- Marking an end changes that request only. -/
theorem markEnd_keeps (s : State) (i c : Nat) : (s.markEnd i c).pavs = s.pavs ∧ (s.markEnd i c).mem = s.mem ∧ (s.markEnd i c).terrs = s.terrs
    ∧ ∀ j, j ≠ i → (s.markEnd i c).req j = s.req j := by
  unfold State.markEnd; split
  · refine ⟨rfl, rfl, rfl, fun j hj => ?_⟩; rw [req_setReq, if_neg hj]
  · exact ⟨rfl, rfl, rfl, fun _ _ => rfl⟩

/-- Nothing changed but requests of a list, of pavilions, memory, terraces and requests. -/
def OnlyReqs (l : List Nat) (s t : State) : Prop := t.pavs = s.pavs ∧ t.mem = s.mem ∧ t.terrs = s.terrs ∧ ∀ j, j ∉ l → t.req j = s.req j

theorem closePav_marks (l : List Nat) (u : State) : OnlyReqs l u (l.foldl
    (fun (u : State) i => State.markEnd (u.setReq i { (u.req i).discard with dropped := true }) i Code.pavilionClosed) u) := by
  induction l generalizing u with
  | nil => exact ⟨rfl, rfl, rfl, fun _ _ => rfl⟩
  | cons x l ih =>
    simp only [List.foldl]
    obtain ⟨a, b, c, d⟩ := ih (State.markEnd (u.setReq x { (u.req x).discard with dropped := true }) x Code.pavilionClosed)
    obtain ⟨a', b', c', d'⟩ := markEnd_keeps (u.setReq x { (u.req x).discard with dropped := true }) x Code.pavilionClosed
    refine ⟨a.trans a', b.trans b', c.trans c', fun j hj => ?_⟩
    simp only [List.mem_cons, not_or] at hj
    rw [d j hj.2, d' j hj.1, req_setReq, if_neg hj.1]

theorem pav_of_pavs {s t : State} (h : t.pavs = s.pavs) (j : Nat) : t.pav j = s.pav j := by unfold State.pav; rw [h]

/-- Closing a pavilion leaves the others, memory, the terraces and other requests as they are. -/
theorem closePav_keeps (s : State) (p : Nat) : ((s.closePav p).pav p).st = .closed ∧ (∀ j, j ≠ p → (s.closePav p).pav j = s.pav j)
    ∧ (s.closePav p).mem = s.mem ∧ (s.closePav p).terrs = s.terrs ∧ (∀ j, j ∉ s.residents p → (s.closePav p).req j = s.req j)
    ∧ (s.residents p = [] → (s.closePav p).reqs = s.reqs) := by
  unfold State.closePav; dsimp only
  obtain ⟨a, b, c, d⟩ := closePav_marks (s.residents p) (s.goPav p .closed)
  obtain ⟨e, f, g, h⟩ := settleDev_keeps ((s.residents p).foldl (fun (u : State) i => State.markEnd (u.setReq i { (u.req i).discard with dropped := true }) i Code.pavilionClosed) (s.goPav p .closed))
  obtain ⟨k, l, m⟩ := goPav_keeps s p .closed
  have P : ∀ j, (State.settleDev ((s.residents p).foldl (fun (u : State) i => State.markEnd (u.setReq i { (u.req i).discard with dropped := true }) i Code.pavilionClosed) (s.goPav p .closed))).pav j = (s.goPav p .closed).pav j := fun j => pav_of_pavs (e.trans a) j
  refine ⟨?_, fun j hj => ?_, f.trans (b.trans k), h.trans (c.trans m), fun j hj => ?_, fun hr => ?_⟩
  · rw [P, goPav_pav]; split
    · rfl
    · rename_i h; simp at h; exact h
  · rw [P, goPav_pav, if_neg (fun q => hj q.1)]
  · have : ∀ j, (State.settleDev ((s.residents p).foldl (fun (u : State) i => State.markEnd (u.setReq i { (u.req i).discard with dropped := true }) i Code.pavilionClosed) (s.goPav p .closed))).req j = (s.goPav p .closed).req j ∨ j ∈ s.residents p := fun j => by
      by_cases q : j ∈ s.residents p
      · exact Or.inr q
      · left; rw [← d j q]; exact congrArg (fun x => Tab.get {} x j) g
    rcases this j with q | q
    · rw [q]; unfold State.req; rw [l]
    · exact absurd q hj
  · rw [g, hr]; exact l

theorem wgt_setWgt (s : State) (k : Nat) (v : Wgt) (j : Nat) : (s.setWgt k v).wgt j = if j = k then v else s.wgt j := by
  split
  · subst j; exact Tab.get_put _ _
  · rename_i h; exact Tab.get_put_other _ h

theorem shard_setShard (s : State) (p m i : Nat) (h : Shard) : (s.setShard p m i h).shard p m i = h := by
  unfold State.setShard State.shard; rw [wgt_setWgt, if_pos rfl]; exact Tab.get_put _ _

end Sys2Proof.Laws
end

