-- ==== Sys2Proof/Machine/Pcie.lean ====
section
/-! DEFINITION. What the device presents in PCIe configuration space (R430, R431). No row of the table reads or writes it, so the
registers that the PCI Express standard gives these capabilities are not state here (log 20). -/
namespace Sys2Proof.Machine
open Sys2Proof

/-- The PCIe capabilities that the manual lists, present or not (R430). -/
inductive PcieCap where
  | gen6Flit | physicalLayer16 | physicalLayer32 | physicalLayer64 | laneMargining | dataLinkFeature | powerManagement | msix
  | aer | sriov | ari | ats | tphRequester | serialNumber | functionReset
  | pasid | pri | msi | intx | aspm | l1Substates | ltr | resizableBar | expansionRom | acs | ide | doe
  deriving DecidableEq, Repr

/-- A function presents a capability; function 0 is the PF (R430). -/
def presents (fn : Nat) : PcieCap → Bool
  | .sriov => fn == 0
  | .pasid => false
  | .pri => false
  | .msi => false
  | .intx => false
  | .aspm => false
  | .l1Substates => false
  | .ltr => false
  | .resizableBar => false
  | .expansionRom => false
  | .acs => false
  | .ide => false
  | .doe => false
  | _ => true

/-- TotalVFs, First VF Offset and VF Stride of the PF's SR-IOV capability (R430). -/
def sriovShape : Nat × Nat × Nat := (63, 1, 1)

/-- MSI-X vectors of a function, the depth of its ATS invalidation queue, its Interrupt Pin (R430). -/
def fnShape : Nat × Nat × Nat := (32, 32, 0)

/-- The Device Serial Number capability reads the fused serial number (R430, R618). -/
def State.pcieSerial (s : State) : Word64 := s.fuses.serial

/-- Configuration requests are answered, not told to retry (R431). -/
def State.cfgAnswered (s : State) : Bool := !s.dev.perst && s.dev.cfgReady

end Sys2Proof.Machine
end

