-- ==== Sys2Proof/WellFormed.lean ====
section
/-! DEFINITION. Which commands are well formed: every operand lies in the range the manual gives what it names. -/
namespace Sys2Proof

/-- The widths of an access that the manual names: 1, 2 and 4 bytes for a plot controller (R226), 4 and 8 for a register (R611). -/
def wfPlotWidth (w : Nat) : Bool := w == 1 || w == 2 || w == 4

/-- What a broadcast item names exists (R366, R377). -/
def BcastItem.wf : BcastItem → Bool
  | .manifest p m _ => decide (p < 8) && decide (m < 16)
  | .entry p m _ _ => decide (p < 8) && decide (m < 16)
  | .leafTable p m _ _ => decide (p < 8) && decide (m < 16)
  | .leaf p m _ l _ => decide (p < 8) && decide (m < 16) && decide (l < 4096)
  | .aborted => true

/-- A memory event names one of an HBM stack's data lanes: stack, pseudo-channel and lane (R572). -/
def MemEvent.wf : MemEvent → Bool
  | .corrected l => decide (l < 16384)
  | _ => true

/-- What the protection reports on the lines a macro-op accesses: device addresses and events (R209, R216). -/
def wfEvents (l : List (Nat × MemEvent)) : Bool := l.all fun e => decide (e.1 < 2 ^ 48) && e.2.wf

/-- A steward-tiled layer names a terrace, a layer type and a model (R276, R475). -/
def wfTiling (l : List (Nat × Nat × Nat × BitVec 256)) : Bool :=
  l.all fun e => decide (e.1 < 32) && decide (e.2.1 < 4) && decide (e.2.2.1 < 16)

/-- A well-formed command. -/
def Instr.wf : Instr → Bool
  | .registerWrite r off size _ => decide (r < 73) && decide (off < 67108864) && (size == 4 || size == 8)
  | .chselWrite r blk _ => decide (r < 73) && decide (blk < 18)
  | .svcPrivateWrite _ => true
  | .adapterLoad src _ _ _ => decide (src < 65)
  | .adapterDigestCheck rec => decide (rec < 131072)
  | .adapterDelete src _ => decide (src < 65)
  | .adapterQuery src _ => decide (src < 65)
  | .adapterPlace src _ => decide (src < 65)
  | .adapterSetPrio src _ => decide (src < 65)
  | .sundialReceiverEnable => true
  | .sundialFrameEnd => true
  | .slewComplete => true
  | .holdover => true
  | .sundialLost => true
  | .cadenceBoundary => true
  | .deadlineExpiry req => decide (req < 262144)
  | .kvTtlCheck => true
  | .scrubPassStart => true
  | .scrubCheck evs => wfEvents evs
  | .fabricBroadcastStart => true
  | .timeForward => true
  | .time port _ _ _ _ => decide (port < 12)
  | .timeFrameMissing port => decide (port < 12)
  | .msgSend plot _ => decide (plot < 2048)
  | .msgRecv plot _ => decide (plot < 2048)
  | .messageDelivery src dst => decide (src < 2056) && decide (dst < 2056)
  | .trlMsgStall src dst => decide (src < 2056) && decide (dst < 2056)
  | .tcntNext plot _ => decide (plot < 2048)
  | .tcntArm plot _ => decide (plot < 2048)
  | .seqPush plot _ => decide (plot < 2048)
  | .seqWait plot _ => decide (plot < 2048)
  | .haloXch plot _ => decide (plot < 2048)
  | .haloTimeout plot => decide (plot < 2048)
  | .genSeed plot _ => decide (plot < 2048)
  | .genRead plot _ => decide (plot < 2048)
  | .mret plot => decide (plot < 2048)
  | .fence plot _ => decide (plot < 2048)
  | .fenceI plot => decide (plot < 2048)
  | .dwinWrite plot _ _ => decide (plot < 2048)
  | .controllerLoad plot rd _ width _ ev => decide (plot < 2048) && decide (rd < 32) && wfPlotWidth width && ev.wf
  | .controllerStore plot _ width _ => decide (plot < 2048) && wfPlotWidth width
  | .storePerform plot ev => decide (plot < 2048) && ev.wf
  | .atomicAdd plot rd _ width ev => decide (plot < 2048) && decide (rd < 32) && wfPlotWidth width && ev.wf
  | .atomicSwap plot rd _ width ev => decide (plot < 2048) && decide (rd < 32) && wfPlotWidth width && ev.wf
  | .atomicCas plot rd _ width ev => decide (plot < 2048) && decide (rd < 32) && wfPlotWidth width && ev.wf
  | .atomicAnd plot rd _ width ev => decide (plot < 2048) && decide (rd < 32) && wfPlotWidth width && ev.wf
  | .atomicOr plot rd _ width ev => decide (plot < 2048) && decide (rd < 32) && wfPlotWidth width && ev.wf
  | .atomicXor plot rd _ width ev => decide (plot < 2048) && decide (rd < 32) && wfPlotWidth width && ev.wf
  | .atomicMaxu plot rd _ width ev => decide (plot < 2048) && decide (rd < 32) && wfPlotWidth width && ev.wf
  | .atomicMinu plot rd _ width ev => decide (plot < 2048) && decide (rd < 32) && wfPlotWidth width && ev.wf
  | .plotStart r => decide (r < 73)
  | .plotStop r => decide (r < 73)
  | .plotCtlStatClr r => decide (r < 73)
  | .plotLoadGo r => decide (r < 73)
  | .plotLoadComplete plot evs => decide (plot < 2048) && wfEvents evs
  | .plotInj r _ => decide (r < 73)
  | .plotMemData r _ _ => decide (r < 73)
  | .plotRetire plot => decide (plot < 2048)
  | .matmul plot _ evs => decide (plot < 2048) && wfEvents evs
  | .adaptShrink plot _ evs => decide (plot < 2048) && wfEvents evs
  | .adaptExpand plot _ evs => decide (plot < 2048) && wfEvents evs
  | .eltwise plot _ evs => decide (plot < 2048) && wfEvents evs
  | .table plot _ evs => decide (plot < 2048) && wfEvents evs
  | .reduce plot _ evs => decide (plot < 2048) && wfEvents evs
  | .softmaxRows plot _ evs => decide (plot < 2048) && wfEvents evs
  | .normRows plot _ evs => decide (plot < 2048) && wfEvents evs
  | .gather plot _ evs => decide (plot < 2048) && wfEvents evs
  | .scatter plot _ evs => decide (plot < 2048) && wfEvents evs
  | .conv1d plot _ evs => decide (plot < 2048) && wfEvents evs
  | .copy plot _ evs => decide (plot < 2048) && wfEvents evs
  | .pad plot _ evs => decide (plot < 2048) && wfEvents evs
  | .barrier plot => decide (plot < 2048)
  | .barrierTimeout plot => decide (plot < 2048)
  | .macroOpComplete plot => decide (plot < 2048)
  | .executionFault plot => decide (plot < 2048)
  | .injectedMacroOp plot evs => decide (plot < 2048) && wfEvents evs
  | .hbmHome r _ => decide (r < 73)
  | .homeChangeComplete granule => decide (granule < 147456)
  | .cfmPageRead page _ => decide (page < 1073741824)
  | .cfmLinkDown port => decide (port < 2)
  | .coldFrameHotEnumeration port _ => decide (port < 2)
  | .sqTailDoorbell fn q _ => decide (fn < 64) && decide (q < 16)
  | .admissionDecision fn q => decide (fn < 64) && decide (q < 16)
  | .holdLimitExpiry fn q => decide (fn < 64) && decide (q < 16)
  | .aging req => decide (req < 262144)
  | .stepBoundary pav _ _ _ tiling => decide (pav < 8) && wfTiling tiling
  | .pavOpen src _ => decide (src < 65)
  | .pavDrain src _ => decide (src < 65)
  | .drainLimitExpiry pav => decide (pav < 8)
  | .commitPoint req => decide (req < 262144)
  | .spillPageWrite req _ evs => decide (req < 262144) && wfEvents evs
  | .pageInRead req => decide (req < 262144)
  | .selection req _ _ => decide (req < 262144)
  | .listLoad src _ _ _ => decide (src < 65)
  | .grammarLoad src _ _ _ => decide (src < 65)
  | .selObjDelete src _ => decide (src < 65)
  | .selCtlClear r => decide (r < 73)
  | .weightSwap src _ => decide (src < 65)
  | .weightQuery src _ => decide (src < 65)
  | .manifestVerify pav model _ => decide (pav < 8) && decide (model < 16)
  | .shardVerify pav model idx _ => decide (pav < 8) && decide (model < 16) && decide (idx < 16384)
  | .shardInPlace pav model idx => decide (pav < 8) && decide (model < 16) && decide (idx < 16384)
  | .leafRestored pav model idx leaf _ => decide (pav < 8) && decide (model < 16) && decide (idx < 16384) && decide (leaf < 4096)
  | .broadcastAnnounce _ => true
  | .broadcastLeaf item => item.wf
  | .shardEndMarker pav model idx => decide (pav < 8) && decide (model < 16) && decide (idx < 16384)
  | .swapUnitVerified pav => decide (pav < 8)
  | .swapUnitCopied pav evs => decide (pav < 8) && wfEvents evs
  | .numberedCodeword port _ _ _ _ _ => decide (port < 12)
  | .linkAck port _ => decide (port < 12)
  | .linkNak port _ => decide (port < 12)
  | .credit port _ _ _ => decide (port < 12)
  | .ready port _ _ _ _ _ _ _ _ => decide (port < 12)
  | .delayReq port _ _ _ => decide (port < 12)
  | .delayRsp port _ _ _ _ => decide (port < 12)
  | .delayReqTimer port _ => decide (port < 12)
  | .laneWindowEnd port lane _ => decide (port < 12) && decide (lane < 8)
  | .laneSwapReq port _ => decide (port < 12)
  | .laneSwap port _ _ => decide (port < 12)
  | .keyRoll port _ => decide (port < 12)
  | .down port _ => decide (port < 12)
  | .reservedControlSymbol port _ => decide (port < 12)
  | .packetSend _ _ => true
  | .put port _ _ _ _ _ => decide (port < 12)
  | .msg port _ _ _ _ _ => decide (port < 12)
  | .ack port _ _ _ _ _ => decide (port < 12)
  | .multicastPacket port _ _ _ _ _ => decide (port < 12)
  | .e2eTimeout _ => true
  | .trainingStart => true
  | .trainingComplete port => decide (port < 12)
  | .lossOfCodewordLock port => decide (port < 12)
  | .retrainAttempt port _ => decide (port < 12)
  | .tvlPortRetrain r => decide (r < 73)
  | .perstAssert => true
  | .perstDeassert => true
  | .configReady => true
  | .functionLevelReset fn => decide (fn < 64)
  | .cqHeadDoorbell fn q _ => decide (fn < 64) && decide (q < 16)
  | .qpEnable r => decide (r < 73)
  | .qpDisable r => decide (r < 73)
  | .qpDisableComplete fn q => decide (fn < 64) && decide (q < 16)
  | .promptReadComplete req _ _ => decide (req < 262144)
  | .eventWrite fn q _ => decide (fn < 64) && decide (q < 16)
  | .coalTimeExpiry fn q => decide (fn < 64) && decide (q < 16)
  | .msixUnmask fn vec => decide (fn < 64) && decide (vec < 32)
  | .reqCancel src _ => decide (src < 65)
  | .devSvcCtlGo r => decide (r < 73)
  | .rstNAssert => true
  | .rstNRelease _ => true
  | .fuseReadComplete _ => true
  | .selfTestComplete _ => true
  | .imageHeaderRead => true
  | .imageVerify _ => true
  | .enterLoading _ _ _ _ _ _ => true
  | .getVersion => true
  | .getCapabilities => true
  | .negotiateAlgorithms => true
  | .getDigests => true
  | .getCertificate slot => decide (slot < 8)
  | .challenge _ => true
  | .getMeasurements block => decide (block < 256)
  | .keyExchange _ => true
  | .finish _ _ => true
  | .heartbeat _ => true
  | .keyUpdate _ => true
  | .endSession _ => true
  | .setFabricMasterKey _ _ => true
  | .zeroise _ => true
  | .debugUnlock _ => true
  | .spdmUnsupportedRequest _ => true
  | .selfTestOnDemand _ => true
  | .entropyHealthFail _ => true
  | .entdaa _ => true
  | .setEndpointId _ => true
  | .getEndpointId => true
  | .getEndpointUuid => true
  | .getMctpVersionSupport => true
  | .getMessageTypeSupport => true
  | .getTid => true
  | .getPldmVersion => true
  | .getPldmTypes => true
  | .getPldmCommands typ => decide (typ < 64)
  | .getPdrRepositoryInfo => true
  | .getPdr _ => true
  | .getSensorReading _ _ => true
  | .getStateSensorReadings _ => true
  | .queryDeviceIdentifiers => true
  | .getFirmwareParameters => true
  | .requestUpdate => true
  | .passComponentTable => true
  | .updateComponent kind => decide (kind < 256)
  | .requestFirmwareData _ _ => true
  | .verifyComplete => true
  | .applyComplete => true
  | .activateFirmware _ _ => true
  | .getStatus => true
  | .cancelUpdateComponent => true
  | .cancelUpdate => true
  | .pldmUnsupportedCommand _ => true
  | .updateTimeout => true
  | .hitlessActivationStart => true
  | .gatehouseServicesResume => true
  | .stewardHandover stw => decide (stw < 8)
  | .stewardResume stw => decide (stw < 8)
  | .resumeTimeout stw => decide (stw < 8)
  | .confirmWindowExpiry => true
  | .hitlessFallbackStart => true
  | .updateAbandoned => true
  | .errCtlHipClr r => decide (r < 73)
  | .errCtlOvfClr r => decide (r < 73)
  | .errRingRd r _ => decide (r < 73)
  | .errHandlerTimeout cls => decide (cls < 5)
  | .persistentLogWrite _ => true
  | .repairRecordWrite _ => true
  | .macResidueFail plot => decide (plot < 2048)
  | .repairCtlRetire r _ => decide (r < 73)
  | .repairCtlLaneClr r _ => decide (r < 73)
  | .agingSample _ => true
  | .devCtlRouteTieClr r => decide (r < 73)
  | .dirCtlClearTieCount r => decide (r < 73)
  | .dirCtlClearColdReads r => decide (r < 73)
  | .dirCtlClearSatCount r => decide (r < 73)
  | .powerSample watts => decide (watts < 1024)
  | .avsSetpointReached => true
  | .avsFault => true
  | .devPwrAvsRetry r => decide (r < 73)
  | .fastCap => true
  | .thermalSample tj => decide (tj < 256)
  | .thermalTrip => true
  | .railUndervoltage => true
  | .aonOscillatorStop => true
  | .tvlRefclkLoss => true
  | .pcieRefclkLoss => true
  | .nandPageProgram r _ _ => decide (r < 73)
  | .nandBlockErase r _ _ => decide (r < 73)
  | .nandMaintComplete _ => true
  | .sundialEdge _ _ _ => true
  | .hbmLaneWindowStart => true
  | .servicePortReady => true
  | .pldmSpdmReady => true
  | .thermNReleaseAfterTrip tj => decide (tj < 256)
  | .lowHalfRead r off => decide (r < 73) && decide (off < 67108864)

end Sys2Proof
end

