-- ==== Sys2Proof/Tests/Slice0.lean ====
section
/-! SUPPORT. Tests: what the well-formedness check refuses, small runs of single commands whose results come from the manual, and
for every statement with hypotheses a state and operands that meet them (`wit_<name>`, one conjunct per clause; a clause whose
hypotheses are among another's is covered by that one). -/
namespace Sys2Proof.Tests
set_option Elab.async false
open Sys2Proof Sys2Proof.Machine

/-- A device in OPEN with its host link up and its service port answering. -/
def lit : State :=
  { State.reset with
    dev :=
      { st := .opened, everOpen := true, fabricReady := true, svcReady := true, cfgReady := true, pldmReady := true,
        perst := false, pcieUp := true, rstLow := false } }

/-- The same with plot 0 in a given state. -/
def onPlot (q : Plot) : State := { lit with plots := [(0, q)] }

/-- A custom instruction's word: opcode, funct3, FLAG, rd, rs1, rs2. -/
def insn (op f3 flag rd rs1 rs2 : Nat) : Word32 :=
  BitVec.ofNat 32 (op + rd * 2 ^ 7 + f3 * 2 ^ 12 + rs1 * 2 ^ 15 + rs2 * 2 ^ 20 + flag * 2 ^ 25)

/-- A plot that runs, with values in x1 and x2. -/
def live (a d : Word32) : Plot := { run := true, cpu := { x := [(1, a), (2, d)] } }

/-- A message of one flit from plot 0 to plot 0 with tag 5. -/
def note : Message := { src := 0, dst := 0, flits := 1, tag := 5, rel := false, payload := List.replicate 64 7, stores := 0, ops := 0 }

/-- A tensor descriptor of one LNS8 element at an address, as plot store from byte 0. -/
def desc (base : Nat) : List Host.Cell :=
  Mem.write [] 0 (leBytes 8 base ++ leBytes 8 base ++ (List.replicate 7 (leBytes 4 1)).flatten)

/-- A PAD macro-op of tiles of 4 by 4 with its descriptor at byte 0 and a given walk. -/
def padImg (walk : Nat) : BitVec 256 := BitVec.ofNat 256 (13 + walk * 2 ^ 20 + 2 ^ 48 + 2 ^ 56)

/-- That macro-op in the queue, with a local walk. -/
def padOp : QOp := { ticket := 0, img := padImg 1 }

/-- A windowed REDUCE with a halo in the queue: a window of 2, both descriptors at byte 0. -/
def winOp : QOp := { ticket := 0, img := BitVec.ofNat 256 (6 + 2 ^ 20 + 2 ^ 48 + 2 ^ 56 + 2 ^ 192 + 2 * 2 ^ 200) }

/-- The PAD macro-op in execution, its descriptor sampled. -/
def padRun (walk : Nat) : RunOp :=
  { op := { ticket := 0, img := padImg walk }
    descs := ((onPlot { store := desc 0x300000001000 }).plot 0).descs (padImg walk)
    lens := List.replicate 16 0 }

/-- An accepted administrative command with CID 3: source, opcode, the rest of its image. -/
def cmd (src op rest : Nat) : AdminCmd := { src := src, img := BitVec.ofNat 1024 (op + 3 * 2 ^ 32 + rest) }

/-- The device with pavilion 0 OPEN on terrace 0, serving model 0 to every function. -/
def open0 : State :=
  { lit.wr R.terraces 1 0 with
    pavs := [(0, { st := .opened })]
    boot := { models := [{ }], rules := [{ functions := 2 ^ 64 - 1, modelMask := 1, anyTenant := true, admits := true }] } }

/-- A request descriptor: pavilion 0, model 0, tenant 7, one prompt token, one output token, greedy. -/
def ask : BitVec 1024 := BitVec.ofNat 1024 (7 * 2 ^ 96 + 2 ^ 160 + 2 ^ 352)

/-- A digest's stored bytes give it back. -/
theorem leNat_leBytes (n v : Nat) : leNat (leBytes n v) = v % 256 ^ n := by
  induction n generalizing v with
  | zero => simp [leBytes, leNat, Nat.mod_one]
  | succ n ih =>
    simp only [leBytes, leNat, ih, BitVec.toNat_ofNat]
    rw [show (256 : Nat) ^ (n + 1) = 256 * 256 ^ n by rw [Nat.pow_succ, Nat.mul_comm], Nat.mod_mul]

theorem digest_stored (v : BitVec 384) : BitVec.ofNat 384 (leNat (digestBytes v).reverse) = v := by
  unfold digestBytes bvBytes
  rw [List.reverse_reverse, leNat_leBytes]
  apply BitVec.eq_of_toNat_eq
  rw [BitVec.toNat_ofNat, show (256 : Nat) ^ 48 = 2 ^ 384 by decide +kernel, Nat.mod_mod, Nat.mod_eq_of_lt v.isLt]

/-- A manifest of two layers with one shard of one byte, of layer `l`, with a given root. -/
def man (l : Byte) (root : BitVec 384) : List Byte :=
  List.replicate 12 0 ++ leBytes 4 1 ++ [2, 0] ++ List.replicate 110 0
    ++ ([0, 0, 0, 0, l, l, 0, 0] ++ leBytes 8 1 ++ List.replicate 16 0 ++ digestBytes root ++ List.replicate 16 0)

theorem man_root (l : Byte) (v : BitVec 384) : Man.root (man l v) 0 = v := by
  have e : sub (Man.entry (man l v) 0) 32 48 = digestBytes v := rfl
  unfold Man.root digestOf
  rw [e, digest_stored]

/-- The one leaf's hash of that shard with byte 0. -/
def leaf0 : BitVec 384 := leafHash 0 0 [0]

/-- Pavilion 0 with that manifest accepted, in a state, its shard as given. -/
def weighted (st : PavState) (l : Byte) (h : Shard) : State :=
  { open0 with pavs := [(0, { st := st })], wgts := [(0, { good := true, manifest := man l leaf0, shards := [(0, h)] })] }

/-- A Torvol port 11 in a given state. -/
def onPort (p : Port) : State := { lit with ports := [(11, p)] }

theorem leaf_root : rootOf (shardLeaves (Man.id (man 0 leaf0) 0) (Man.leaves (man 0 leaf0) 0) [0]) = Man.root (man 0 leaf0) 0 := by
  have h1 : Man.id (man 0 leaf0) 0 = 0 := by decide +kernel
  have h2 : Man.leaves (man 0 leaf0) 0 = 1 := by decide +kernel
  rw [man_root, h1, h2]; simp [shardLeaves, rootOf, merkle, leaf0]

/-- A component's manifest with a given PAYLOAD_SIZE, the other fields zero. -/
def umanB (n : Nat) : List Byte := List.replicate 8 0 ++ leBytes 4 n


theorem leBytes_mod (n v : Nat) : leBytes n (v % 256 ^ n) = leBytes n v := by
  induction n generalizing v with
  | zero => rfl
  | succ n ih =>
    have h : v % 256 ^ (n + 1) = v % 256 + 256 * (v / 256 % 256 ^ n) := by
      rw [show (256 : Nat) ^ (n + 1) = 256 * 256 ^ n by rw [Nat.pow_succ, Nat.mul_comm], Nat.mod_mul]
    simp only [leBytes, h]
    congr 1
    · apply BitVec.eq_of_toNat_eq
      simp only [BitVec.toNat_ofNat]
      omega
    · rw [show (v % 256 + 256 * (v / 256 % 256 ^ n)) / 256 = v / 256 % 256 ^ n by omega, ih]

/-- A HEAD with the fields of a value below its CRC, and its CRC in place. -/
def crced (b : Nat) : BitVec 512 := BitVec.ofNat 512 (b % 2 ^ 480 + (Config.crc32c (leBytes 60 b)).toNat * 2 ^ 480)

theorem toNat_crced (b : Nat) : (crced b).toNat = b % 2 ^ 480 + (Config.crc32c (leBytes 60 b)).toNat * 2 ^ 480 := by
  have h1 := Nat.mod_lt b (show 0 < 2 ^ 480 by decide +kernel)
  have h2 := (Config.crc32c (leBytes 60 b)).isLt
  rw [crced, BitVec.toNat_ofNat, Nat.mod_eq_of_lt]
  rw [show (2 : Nat) ^ 512 = 2 ^ 32 * 2 ^ 480 by decide +kernel]
  generalize (2 : Nat) ^ 480 = m at *
  generalize (2 : Nat) ^ 32 = n at *
  calc _ < m + (Config.crc32c (leBytes 60 b)).toNat * m := by omega
    _ = ((Config.crc32c (leBytes 60 b)).toNat + 1) * m := by rw [Nat.succ_mul, Nat.add_comm]
    _ ≤ n * m := Nat.mul_le_mul_right _ h2

theorem bits_crced (b lo w : Nat) (h : lo + w ≤ 480) : bits (crced b) lo w = b / 2 ^ lo % 2 ^ w := by
  rw [bits, toNat_crced]
  apply Nat.eq_of_testBit_eq
  intro i
  simp only [Nat.testBit_mod_two_pow, Nat.testBit_div_two_pow]
  by_cases hi : i < w
  · rw [Nat.add_comm, Nat.mul_comm, Nat.testBit_two_pow_mul_add _ (Nat.mod_lt _ (Nat.two_pow_pos _)), if_pos (by omega),
      Nat.testBit_mod_two_pow]
    rw [decide_eq_true (show i + lo < 480 by omega), Bool.true_and]
  · simp [hi]

theorem typ_crced (b : Nat) : Hd.typ (crced b) = b / 2 ^ 0 % 2 ^ 8 := bits_crced _ _ _ (by decide)
theorem vc_crced (b : Nat) : Hd.vc (crced b) = b / 2 ^ 8 % 2 ^ 2 := bits_crced _ _ _ (by decide)
theorem dest_crced (b : Nat) : Hd.dest (crced b) = b / 2 ^ 16 % 2 ^ 6 := bits_crced _ _ _ (by decide)
theorem tree_crced (b : Nat) : Hd.tree (crced b) = b / 2 ^ 32 % 2 ^ 4 := bits_crced _ _ _ (by decide)
theorem op_crced (b : Nat) : Hd.op (crced b) = b / 2 ^ 40 % 2 ^ 8 := bits_crced _ _ _ (by decide)
theorem len_crced (b : Nat) : Hd.len (crced b) = b / 2 ^ 48 % 2 ^ 16 := bits_crced _ _ _ (by decide)
theorem addr_crced (b : Nat) : Hd.addr (crced b) = b / 2 ^ 64 % 2 ^ 48 := bits_crced _ _ _ (by decide)
theorem status_crced (b : Nat) : Hd.status (crced b) = b / 2 ^ 224 % 2 ^ 8 := bits_crced _ _ _ (by decide)

theorem mcast_crced (b : Nat) : Hd.mcast (crced b) = (b / 2 ^ 22 % 2 == 1) := by
  have h := bits_crced b 22 1 (by decide)
  rw [Hd.mcast, BitVec.getLsbD, Nat.testBit_eq_decide_div_mod_eq]
  simp only [bits, Nat.pow_one] at h
  rw [h]
  rfl

theorem crced_good (b : Nat) : headCrcGood (crced b) = true := by
  have h : byteAt (crced b) 60 4 = (Config.crc32c (leBytes 60 b)).toNat := by
    have h2 := (Config.crc32c (leBytes 60 b)).isLt
    rw [byteAt, bits, toNat_crced, show 8 * 60 = 480 from rfl,
      Nat.add_mul_div_right _ _ (show 0 < 2 ^ 480 by decide +kernel), Nat.div_eq_of_lt (Nat.mod_lt _ (by decide +kernel)), Nat.zero_add,
      Nat.mod_eq_of_lt h2]
  have e : bvBytes 60 (crced b) = leBytes 60 b := by
    rw [bvBytes, ← leBytes_mod 60, ← leBytes_mod 60 b, toNat_crced, show (256 : Nat) ^ 60 = 2 ^ 480 by decide +kernel,
      Nat.add_mul_mod_self_right, Nat.mod_mod]
  rw [headCrcGood, e, h, BitVec.ofNat_toNat, BitVec.setWidth_eq]
  exact beq_self_eq_true _

/-- What a port opens with its key under the tag of that key. -/
theorem opened_own (s : State) (i : Nat) (h : BitVec 512) (data : List Byte) (key : BitVec 256) (hk : (s.port i).rxKey = some key) :
    s.opened i h data
        (Config.gcmTag key (linkNonce (s.port i).peerId.toNat (s.port i).peerPort.toNat (Hd.nonce h)) (bvBytes 60 h) data) =
      (true, Config.gcmSeal key (linkNonce (s.port i).peerId.toNat (s.port i).peerPort.toNat (Hd.nonce h)) data) := by
  simp [State.opened, hk]

/-- The same with the CRC field of block 0. -/
def umanC (n v : Nat) : List Byte := umanB n ++ List.replicate 244 0 ++ leBytes 4 v

theorem umanC_crc (n v : Nat) : UMan.crc (umanC n v) 0 = v % 2 ^ 32 := leNat_leBytes 4 v

theorem umanC_good (n : Nat) (c : Word32) : c.toNat = UMan.crc (umanC n c.toNat) 0 := by
  rw [umanC_crc, Nat.mod_eq_of_lt c.isLt]

theorem umanC_bad (n : Nat) (c : Word32) : c.toNat ≠ UMan.crc (umanC n (c.toNat + 1)) 0 := by
  have := c.isLt
  rw [umanC_crc]
  omega
/-- Memory events of a macro-op: the highest address and lane, an address too high, a lane too high. -/
def evTop : List (Nat × MemEvent) := [(2 ^ 48 - 1, .corrected 16383)]
def evFar : List (Nat × MemEvent) := [(2 ^ 48, .clean)]
def evLane : List (Nat × MemEvent) := [(0, .corrected 16384)]

/-! ### Ill-formed commands, one for each check: all are refused -/

theorem test_refuses_1 : (
    [.registerWrite 73 67108863 8 0, .registerWrite 72 67108864 8 0, .registerWrite 72 67108863 3 0, .chselWrite 73 17 0,
     .chselWrite 72 18 0, .adapterLoad 65 0 [] true, .adapterDigestCheck 131072, .adapterDelete 65 0, .adapterQuery 65 0,
     .adapterPlace 65 0, .adapterSetPrio 65 0, .deadlineExpiry 262144, .scrubCheck evFar, .scrubCheck evLane,
     .time 12 0 0 0 true, .timeFrameMissing 12, .msgSend 2048 0, .msgRecv 2048 0, .messageDelivery 2056 2055,
     .messageDelivery 2055 2056, .trlMsgStall 2056 2055, .trlMsgStall 2055 2056, .tcntNext 2048 0, .tcntArm 2048 0,
     .seqPush 2048 0, .seqWait 2048 0, .haloXch 2048 0, .haloTimeout 2048, .genSeed 2048 0, .genRead 2048 0] : List Instr).all (fun c => !c.wf) = true := by decide +kernel

theorem test_refuses_2 : (
    [.mret 2048, .fence 2048 0, .fenceI 2048, .dwinWrite 2048 true 0, .controllerLoad 2048 31 0 4 true (.corrected 16383),
     .controllerLoad 2047 32 0 4 true (.corrected 16383), .controllerLoad 2047 31 0 3 true (.corrected 16383),
     .controllerLoad 2047 31 0 4 true (.corrected 16384), .controllerStore 2048 0 4 0, .controllerStore 2047 0 3 0,
     .storePerform 2048 (.corrected 16383), .storePerform 2047 (.corrected 16384),
     .atomicAdd 2048 31 0 4 (.corrected 16383), .atomicAdd 2047 32 0 4 (.corrected 16383),
     .atomicAdd 2047 31 0 3 (.corrected 16383), .atomicAdd 2047 31 0 4 (.corrected 16384),
     .atomicSwap 2048 31 0 4 (.corrected 16383), .atomicSwap 2047 32 0 4 (.corrected 16383),
     .atomicSwap 2047 31 0 3 (.corrected 16383), .atomicSwap 2047 31 0 4 (.corrected 16384),
     .atomicCas 2048 31 0 4 (.corrected 16383), .atomicCas 2047 32 0 4 (.corrected 16383),
     .atomicCas 2047 31 0 3 (.corrected 16383), .atomicCas 2047 31 0 4 (.corrected 16384),
     .atomicAnd 2048 31 0 4 (.corrected 16383), .atomicAnd 2047 32 0 4 (.corrected 16383),
     .atomicAnd 2047 31 0 3 (.corrected 16383), .atomicAnd 2047 31 0 4 (.corrected 16384),
     .atomicOr 2048 31 0 4 (.corrected 16383), .atomicOr 2047 32 0 4 (.corrected 16383)] : List Instr).all (fun c => !c.wf) = true := by decide +kernel

theorem test_refuses_3 : (
    [.atomicOr 2047 31 0 3 (.corrected 16383), .atomicOr 2047 31 0 4 (.corrected 16384),
     .atomicXor 2048 31 0 4 (.corrected 16383), .atomicXor 2047 32 0 4 (.corrected 16383),
     .atomicXor 2047 31 0 3 (.corrected 16383), .atomicXor 2047 31 0 4 (.corrected 16384),
     .atomicMaxu 2048 31 0 4 (.corrected 16383), .atomicMaxu 2047 32 0 4 (.corrected 16383),
     .atomicMaxu 2047 31 0 3 (.corrected 16383), .atomicMaxu 2047 31 0 4 (.corrected 16384),
     .atomicMinu 2048 31 0 4 (.corrected 16383), .atomicMinu 2047 32 0 4 (.corrected 16383),
     .atomicMinu 2047 31 0 3 (.corrected 16383), .atomicMinu 2047 31 0 4 (.corrected 16384), .plotStart 73, .plotStop 73,
     .plotCtlStatClr 73, .plotLoadGo 73, .plotLoadComplete 2048 evTop, .plotLoadComplete 2047 evFar,
     .plotLoadComplete 2047 evLane, .plotInj 73 0, .plotMemData 73 true 0, .plotRetire 2048, .matmul 2048 0 evTop,
     .matmul 2047 0 evFar, .matmul 2047 0 evLane, .adaptShrink 2048 0 evTop, .adaptShrink 2047 0 evFar,
     .adaptShrink 2047 0 evLane] : List Instr).all (fun c => !c.wf) = true := by decide +kernel

theorem test_refuses_4 : (
    [.adaptExpand 2048 0 evTop, .adaptExpand 2047 0 evFar, .adaptExpand 2047 0 evLane, .eltwise 2048 0 evTop,
     .eltwise 2047 0 evFar, .eltwise 2047 0 evLane, .table 2048 0 evTop, .table 2047 0 evFar, .table 2047 0 evLane,
     .reduce 2048 0 evTop, .reduce 2047 0 evFar, .reduce 2047 0 evLane, .softmaxRows 2048 0 evTop,
     .softmaxRows 2047 0 evFar, .softmaxRows 2047 0 evLane, .normRows 2048 0 evTop, .normRows 2047 0 evFar,
     .normRows 2047 0 evLane, .gather 2048 0 evTop, .gather 2047 0 evFar, .gather 2047 0 evLane, .scatter 2048 0 evTop,
     .scatter 2047 0 evFar, .scatter 2047 0 evLane, .conv1d 2048 0 evTop, .conv1d 2047 0 evFar, .conv1d 2047 0 evLane,
     .copy 2048 0 evTop, .copy 2047 0 evFar, .copy 2047 0 evLane] : List Instr).all (fun c => !c.wf) = true := by decide +kernel

theorem test_refuses_5 : (
    [.pad 2048 0 evTop, .pad 2047 0 evFar, .pad 2047 0 evLane, .barrier 2048, .barrierTimeout 2048, .macroOpComplete 2048,
     .executionFault 2048, .injectedMacroOp 2048 evTop, .injectedMacroOp 2047 evFar, .injectedMacroOp 2047 evLane,
     .hbmHome 73 0, .homeChangeComplete 147456, .cfmPageRead 1073741824 true, .cfmLinkDown 2, .coldFrameHotEnumeration 2 0,
     .sqTailDoorbell 64 15 0, .sqTailDoorbell 63 16 0, .admissionDecision 64 15, .admissionDecision 63 16,
     .holdLimitExpiry 64 15, .holdLimitExpiry 63 16, .aging 262144, .stepBoundary 8 0 0 [] [(31, 3, 15, 0)],
     .stepBoundary 7 0 0 [] [(32, 0, 0, 0)], .stepBoundary 7 0 0 [] [(0, 4, 0, 0)], .stepBoundary 7 0 0 [] [(0, 0, 16, 0)],
     .pavOpen 65 0, .pavDrain 65 0, .drainLimitExpiry 8, .commitPoint 262144] : List Instr).all (fun c => !c.wf) = true := by decide +kernel

theorem test_refuses_6 : (
    [.spillPageWrite 262144 true evTop, .spillPageWrite 262143 true evFar, .spillPageWrite 262143 true evLane,
     .pageInRead 262144, .selection 262144 true [], .listLoad 65 0 [] true, .grammarLoad 65 0 [] true, .selObjDelete 65 0,
     .selCtlClear 73, .weightSwap 65 0, .weightQuery 65 0, .manifestVerify 8 15 [], .manifestVerify 7 16 [],
     .shardVerify 8 15 16383 [], .shardVerify 7 16 16383 [], .shardVerify 7 15 16384 [], .shardInPlace 8 15 16383,
     .shardInPlace 7 16 16383, .shardInPlace 7 15 16384, .leafRestored 8 15 16383 4095 [], .leafRestored 7 16 16383 4095 [],
     .leafRestored 7 15 16384 4095 [], .leafRestored 7 15 16383 4096 [], .broadcastLeaf (.manifest 8 0 []),
     .broadcastLeaf (.manifest 0 16 []), .broadcastLeaf (.entry 8 0 0 []), .broadcastLeaf (.entry 0 16 0 []),
     .broadcastLeaf (.leafTable 8 0 0 []), .broadcastLeaf (.leafTable 0 16 0 []), .broadcastLeaf (.leaf 8 0 0 0 [])] : List Instr).all (fun c => !c.wf) = true := by decide +kernel

theorem test_refuses_7 : (
    [.broadcastLeaf (.leaf 0 16 0 0 []), .broadcastLeaf (.leaf 0 0 0 4096 []), .shardEndMarker 8 15 16383,
     .shardEndMarker 7 16 16383, .shardEndMarker 7 15 16384, .swapUnitVerified 8, .swapUnitCopied 8 evTop,
     .swapUnitCopied 7 evFar, .swapUnitCopied 7 evLane, .numberedCodeword 12 0 0 [] 0 true, .linkAck 12 0, .linkNak 12 0,
     .credit 12 0 0 0, .ready 12 0 0 0 0 0 0 0 0, .delayReq 12 0 0 0, .delayRsp 12 0 0 0 0, .delayReqTimer 12 0,
     .laneWindowEnd 12 7 0, .laneWindowEnd 11 8 0, .laneSwapReq 12 0, .laneSwap 12 0 0, .keyRoll 12 0, .down 12 0,
     .reservedControlSymbol 12 0, .put 12 0 [] 0 true 0, .msg 12 0 [] 0 true 0, .ack 12 0 [] 0 true 0,
     .multicastPacket 12 0 [] 0 true 0, .trainingComplete 12, .lossOfCodewordLock 12] : List Instr).all (fun c => !c.wf) = true := by decide +kernel

theorem test_refuses_8 : (
    [.retrainAttempt 12 true, .tvlPortRetrain 73, .functionLevelReset 64, .cqHeadDoorbell 64 15 0, .cqHeadDoorbell 63 16 0,
     .qpEnable 73, .qpDisable 73, .qpDisableComplete 64 15, .qpDisableComplete 63 16, .promptReadComplete 262144 [] true,
     .eventWrite 64 15 true, .eventWrite 63 16 true, .coalTimeExpiry 64 15, .coalTimeExpiry 63 16, .msixUnmask 64 31,
     .msixUnmask 63 32, .reqCancel 65 0, .devSvcCtlGo 73, .getCertificate 8, .getMeasurements 256, .getPldmCommands 64,
     .updateComponent 256, .stewardHandover 8, .stewardResume 8, .resumeTimeout 8, .errCtlHipClr 73, .errCtlOvfClr 73,
     .errRingRd 73 0, .errHandlerTimeout 5, .macResidueFail 2048] : List Instr).all (fun c => !c.wf) = true := by decide +kernel

theorem test_refuses_9 : (
    [.repairCtlRetire 73 0, .repairCtlLaneClr 73 0, .devCtlRouteTieClr 73, .dirCtlClearTieCount 73,
     .dirCtlClearColdReads 73, .dirCtlClearSatCount 73, .powerSample 1024, .devPwrAvsRetry 73,
     .thermalSample 256, .nandPageProgram 73 0 0, .nandBlockErase 73 0 0, .thermNReleaseAfterTrip 256,
     .lowHalfRead 73 67108863, .lowHalfRead 72 67108864] : List Instr).all (fun c => !c.wf) = true := by decide +kernel

/-! ### The same commands at the largest operands: all are well formed -/

theorem test_accepts_1 : (
    [.registerWrite 72 67108863 8 0, .chselWrite 72 17 0, .adapterLoad 64 0 [] true, .adapterDigestCheck 131071,
     .adapterDelete 64 0, .adapterQuery 64 0, .adapterPlace 64 0, .adapterSetPrio 64 0, .deadlineExpiry 262143,
     .scrubCheck evTop, .time 11 0 0 0 true, .timeFrameMissing 11, .msgSend 2047 0, .msgRecv 2047 0,
     .messageDelivery 2055 2055, .trlMsgStall 2055 2055, .tcntNext 2047 0, .tcntArm 2047 0, .seqPush 2047 0,
     .seqWait 2047 0, .haloXch 2047 0, .haloTimeout 2047, .genSeed 2047 0, .genRead 2047 0, .mret 2047, .fence 2047 0,
     .fenceI 2047, .dwinWrite 2047 true 0, .controllerLoad 2047 31 0 4 true (.corrected 16383), .controllerStore 2047 0 4 0] : List Instr).all Instr.wf = true := by decide +kernel

theorem test_accepts_2 : (
    [.storePerform 2047 (.corrected 16383), .atomicAdd 2047 31 0 4 (.corrected 16383),
     .atomicSwap 2047 31 0 4 (.corrected 16383), .atomicCas 2047 31 0 4 (.corrected 16383),
     .atomicAnd 2047 31 0 4 (.corrected 16383), .atomicOr 2047 31 0 4 (.corrected 16383),
     .atomicXor 2047 31 0 4 (.corrected 16383), .atomicMaxu 2047 31 0 4 (.corrected 16383),
     .atomicMinu 2047 31 0 4 (.corrected 16383), .plotStart 72, .plotStop 72, .plotCtlStatClr 72, .plotLoadGo 72,
     .plotLoadComplete 2047 evTop, .plotInj 72 0, .plotMemData 72 true 0, .plotRetire 2047, .matmul 2047 0 evTop,
     .adaptShrink 2047 0 evTop, .adaptExpand 2047 0 evTop, .eltwise 2047 0 evTop, .table 2047 0 evTop, .reduce 2047 0 evTop,
     .softmaxRows 2047 0 evTop, .normRows 2047 0 evTop, .gather 2047 0 evTop, .scatter 2047 0 evTop, .conv1d 2047 0 evTop,
     .copy 2047 0 evTop, .pad 2047 0 evTop] : List Instr).all Instr.wf = true := by decide +kernel

theorem test_accepts_3 : (
    [.barrier 2047, .barrierTimeout 2047, .macroOpComplete 2047, .executionFault 2047, .injectedMacroOp 2047 evTop,
     .hbmHome 72 0, .homeChangeComplete 147455, .cfmPageRead 1073741823 true, .cfmLinkDown 1, .coldFrameHotEnumeration 1 0,
     .sqTailDoorbell 63 15 0, .admissionDecision 63 15, .holdLimitExpiry 63 15, .aging 262143,
     .stepBoundary 7 0 0 [] [(31, 3, 15, 0)], .pavOpen 64 0, .pavDrain 64 0, .drainLimitExpiry 7, .commitPoint 262143,
     .spillPageWrite 262143 true evTop, .pageInRead 262143, .selection 262143 true [], .listLoad 64 0 [] true,
     .grammarLoad 64 0 [] true, .selObjDelete 64 0, .selCtlClear 72, .weightSwap 64 0, .weightQuery 64 0,
     .manifestVerify 7 15 [], .shardVerify 7 15 16383 []] : List Instr).all Instr.wf = true := by decide +kernel

theorem test_accepts_4 : (
    [.shardInPlace 7 15 16383, .leafRestored 7 15 16383 4095 [], .broadcastLeaf (.leaf 7 15 0 4095 []),
     .shardEndMarker 7 15 16383, .swapUnitVerified 7, .swapUnitCopied 7 evTop, .numberedCodeword 11 0 0 [] 0 true,
     .linkAck 11 0, .linkNak 11 0, .credit 11 0 0 0, .ready 11 0 0 0 0 0 0 0 0, .delayReq 11 0 0 0, .delayRsp 11 0 0 0 0,
     .delayReqTimer 11 0, .laneWindowEnd 11 7 0, .laneSwapReq 11 0, .laneSwap 11 0 0, .keyRoll 11 0, .down 11 0,
     .reservedControlSymbol 11 0, .put 11 0 [] 0 true 0, .msg 11 0 [] 0 true 0, .ack 11 0 [] 0 true 0,
     .multicastPacket 11 0 [] 0 true 0, .trainingComplete 11, .lossOfCodewordLock 11, .retrainAttempt 11 true,
     .tvlPortRetrain 72, .functionLevelReset 63, .cqHeadDoorbell 63 15 0] : List Instr).all Instr.wf = true := by decide +kernel

theorem test_accepts_5 : (
    [.qpEnable 72, .qpDisable 72, .qpDisableComplete 63 15, .promptReadComplete 262143 [] true, .eventWrite 63 15 true,
     .coalTimeExpiry 63 15, .msixUnmask 63 31, .reqCancel 64 0, .devSvcCtlGo 72, .getCertificate 7, .getMeasurements 255,
     .getPldmCommands 63, .updateComponent 255, .stewardHandover 7, .stewardResume 7, .resumeTimeout 7, .errCtlHipClr 72,
     .errCtlOvfClr 72, .errRingRd 72 0, .errHandlerTimeout 4, .macResidueFail 2047, .repairCtlRetire 72 0,
     .repairCtlLaneClr 72 0, .devCtlRouteTieClr 72, .dirCtlClearTieCount 72, .dirCtlClearColdReads 72,
     .dirCtlClearSatCount 72, .powerSample 1023, .devPwrAvsRetry 72, .thermalSample 255] : List Instr).all Instr.wf = true := by decide +kernel

theorem test_accepts_6 : (
    [.nandPageProgram 72 0 0, .nandBlockErase 72 0 0, .thermNReleaseAfterTrip 255, .lowHalfRead 72 67108863] : List Instr).all Instr.wf = true := by decide +kernel



/-! ### The manual's worked examples and single commands -/

/-- The state after a command. -/
def after (c : Instr) (s : State) : State := match exec c s with | .next t => t | _ => s

/-- A device in OPEN on whose steward 2 and PF selections of the TVL block stand as in the example of chapter 0. -/
def selected : State := after (.chselWrite 67 7 7) (after (.chselWrite 0 7 3) lit)

/-- Chapter 0: each requester's window reaches the port of its own selection. -/
theorem test_chsel_own_copy : selected.instOf 0 7 0x100 = some 3 ∧ selected.instOf 67 7 0x100 = some 7 := by decide +kernel

/-- Chapter 0: 12 is beyond the ports; steward 2 is unaffected. -/
theorem test_chsel_beyond :
    (after (.chselWrite 0 7 12) selected).instOf 0 7 0x100 = none
      ∧ (after (.chselWrite 0 7 12) selected).instOf 67 7 0x100 = some 7 := by decide +kernel

/-- Chapter 1: the matrices of a rank-8 LNS8 adapter on Q. -/
theorem test_adapter_matrices : matBytes 0 8 8192 = 65536 + 2048 ∧ matBytes 0 8192 8 = 65536 + 8192 := by decide +kernel

/-- An adapter record of the example of chapter 1. -/
def exRec (slot ver : Nat) : AdRec := { slot := slot, version := BitVec.ofNat 32 ver, layerLast := 79, vst := .current }

/-- The directory of chapter 1's example. -/
def exDir : State :=
  { lit with
    dir :=
      [ (12, { tenant := 0xA17, hash := 0x51A00003, modelMask := 1, layerLast := 79, prio := 5, st := .live, cur := 300 }),
        (40, { tenant := 0x1C02, hash := 0x77D20001, modelMask := 1, layerLast := 39, prio := 4, st := .live, cur := 301 }),
        (41, { tenant := 0x1C02, hash := 0x77D20001, modelMask := 1, layerFirst := 40, layerLast := 79, prio := 4, st := .live,
               cur := 302 }),
        (90, { tenant := 0x2F90, modelMask := 1, layerLast := 79, prio := 2, st := .live, anyHash := true, cur := 303 }),
        (91, { tenant := 0x2F90, hash := 0x0C3E0010, modelMask := 1, layerLast := 79, prio := 2, st := .live, cur := 304 }) ]
    recs := [(300, exRec 12 3), (301, exRec 40 1), (302, exRec 41 1), (303, exRec 90 1), (304, exRec 91 2)] }

/-- Chapter 1: S1 matches slots 90 and 91 at one PRIO; 90 wins and the tie counts. S2 matches slot 90 alone. -/
theorem test_directory_tie :
    exDir.dirMatch 0x2F90 0x0C3E0010 0 0 = (some 90, true) ∧ exDir.dirMatch 0x2F90 0x44000001 0 0 = (some 90, false) := by
  decide +kernel

/-- Chapter 1: B1 resolves to 301 up to layer 39 and to 302 from layer 40. -/
theorem test_directory_layers :
    exDir.dirMatch 0x1C02 0x77D20001 0 39 = (some 40, false) ∧ exDir.dirMatch 0x1C02 0x77D20001 0 40 = (some 41, false)
      ∧ recsIn (exDir.resolve 0x1C02 0x77D20001 0 80) = [301, 302] := by decide +kernel

/-- Chapter 3: plot 652 is at (12, 10) on terrace 9; region 9's site j = 20 is at (20, 11), site 592. -/
theorem test_plot_places : plotAt 9 20 = 652 ∧ terrOf 652 = 9 ∧ siteAt 9 20 = 592 := by decide +kernel

/-- Chapter 4: the values of operand A and B. -/
theorem test_log_values :
    (decElem 0 120 0 0).1 = .lns { zero := false, neg := false, lam := -7 }
      ∧ (decElem 0 (116 + 128) 1 0).1 = .lns { zero := false, neg := true, lam := 5 }
      ∧ (decElem 0 87 1 0).1 = .lns { zero := false, neg := false, lam := -24 } := by decide +kernel

/-- The products of chapter 4's LOG group. -/
def exParts : List Part :=
  [ { zero := false, neg := true, lam := -2 : Term }, { zero := false, neg := false, lam := 16 }, {},
    { zero := false, neg := false, lam := -40 } ].map Term.part

/-- Chapter 4: the group from the empty accumulator. -/
theorem test_log_group : accGroup {} exParts = { S := 10567742, X := 1 } := by decide +kernel

/-- Chapter 4: the LNS8 output of the group is 0x74 with E = 1. -/
theorem test_log_output : (lnsBlock 0 [lnsRound 0 {} (accGroup {} exParts).val]).codes = [0x74]
    ∧ (lnsBlock 0 [lnsRound 0 {} (accGroup {} exParts).val]).scale = 1 := by decide +kernel

/-- Chapter 4: the two terms of 1,229/4,096. -/
theorem test_term_split : (termSplit { m := 1229, e := -12 } 2).map (fun t => t.lam) = [-28, -136] := by decide +kernel

/-- Chapter 4: the two streams of a HEDGE pair, and the 3 ones they share. -/
theorem test_hedge_streams :
    hedgeStream 10 0x3A91C07F 0x5E28B4D6 = 0xB5B6 ∧ hedgeStream 6 0x1C6F08A3 0x9D42E75B = 0x3289
      ∧ hedgeEst (false, 10) (false, 6) (0x3A91C07F, 0x5E28B4D6) (0x1C6F08A3, 0x9D42E75B) = 3 := by decide +kernel

/-- Chapter 4: without substitution, B's stream is a subset of A's. -/
theorem test_hedge_shared_bank : hedgeStream 6 0x3A91C07F 0x5E28B4D6 = 0xA494 := by decide +kernel

/-- Chapter 5: the footprints of the TERM(4) and TERM(3) expansions. -/
theorem test_footprints :
    footMac 16896 16896 4 256 64 64 2 0 = 264192 ∧ footMac 16896 16896 3 256 64 64 2 0 = 231424 := by decide +kernel

/-- Chapter 6: the data window, the atomic windows and the hash home of the example. -/
theorem test_windows :
    Cpu.window { dwin0 := 0x48 } 0xB4567890 = 0x1234567890 ∧ Cpu.atomicAddr { dwin1 := 0x246 } 0xC4567890 = 0x1234567890
      ∧ Cpu.atomicAddr { dwin1 := 0x246 } 0xF4567890 = 0x1234567890
      ∧ hashHome 0x1234567890 = 17 := by decide +kernel

/-- Chapter 7: the slack of the Kestwick request. -/
theorem test_slack :
    let s : State := { (lit.wr R.chunk 512 0) with time := 2000000, pavs := [(0, { epf := 9000, edec := 7200, a16 := 24 })] }
    s.slack { desc := BitVec.ofNat 1024 (40 * 2 ^ 160), todo := 1024, deadline := some 2400000 } = 187600 := by decide +kernel

/-- Chapter 7: n* of the example, and the streak that moves a terrace at the third boundary and again at the fourth. -/
theorem test_rebalance :
    nStar 16 4 13 9 1 1 = 9
      ∧ ((Pav.rebalance { np := 4, streak := 2, streakSign := 1 } 9 3).np = 5)
      ∧ ((Pav.rebalance { np := 5, streak := 3, streakSign := 1 } 9 3).np = 6)
      ∧ ((Pav.rebalance { np := 6, streak := 4, streakSign := 1 } 6 3).streak = 0) := by decide +kernel

/-- Chapter 8: the draws commit up to the first that differs from its draft. -/
theorem test_commit_of : commitOf [] [4411, 902, 3310] 200 = [4411, 902, 3310] ∧ commitOf [902] [4411, 902, 3310] 200 = [4411, 902]
    ∧ commitOf [] [4411, 902, 3310] 2 = [4411, 902] := by decide +kernel

/-- Chapter 9: the page of Quincewood-62B. -/
theorem test_page_bytes : Model.pageBytes { layers := 80, kvDim := 1024 } = 2703360 := by decide +kernel

/-- Chapter 9: a spill that completes at 5,000,676 tk with TTL_U 30 expires at a multiple of 65,536 tk. -/
theorem test_expiry : ({ (lit.wr R.ttlU 30 0) with time := 5000676 } : State).expiryTick 0 = some 7012352 := by decide +kernel

/-- Chapter 10: the weights of the example and the count TOP_P keeps. -/
theorem test_weights :
    [0, 23, 23, 58].map weightOf = [524288, 193570, 193570, 42494]
      ∧ prefixSums ([0, 23, 23, 58].map weightOf) = [524288, 717858, 911428, 953922]
      ∧ keptCount 58982 [524288, 717858, 911428, 953922] = 3 := by decide +kernel

/-- Chapter 10: the distances of the example in steps. -/
theorem test_steps_below :
    stepsBelow { m := 3 } { m := 2 } = 23 ∧ stepsBelow { m := 3 } { m := 1, e := -1 } = 58 := by decide +kernel

/-- Chapter 13: the three events of a commit point; bytes 8 to 15, PHASE in bit 63 of them. -/
theorem test_token_events :
    bits (tokenEvent 0x317A02 4411 200 false) 64 64 = 0x000000C80000113B
      ∧ bits (tokenEvent 0x317A02 902 201 false) 64 64 = 0x000000C900000386
      ∧ bits (tokenEvent 0x317A02 3310 202 true) 64 64 = 0x001000CA00000CEE := by decide +kernel

/-- Queue pair 3 of VF 5 as chapter 13's example has it, its three events buffered. -/
def exQp : State :=
  { ((lit.wr R.cqSize 1024 83).wr R.coalCount 4 83) with
    qps := [(83, { st := .enabled, cqHead := 1022, cqTail := 1022, phase := true
                   evbuf := [ { w := tokenEvent 0x317A02 4411 200 false }, { w := tokenEvent 0x317A02 902 201 false },
                              { w := tokenEvent 0x317A02 3310 202 true } ] })] }

/-- Chapter 13: the first event goes to slot 1,022 with PHASE 1; after the second the tail wraps and the phase is 0. -/
theorem test_event_write :
    ((after (.eventWrite 5 3 true) exQp).out.map fun o => match o with
        | .hostWrite fn a d => (fn, a, (sub d 8 8)) | _ => (0, 0, []))
      = [(5, 16 * 1022, leBytes 4 0x113B ++ leBytes 4 0x800000C8)]
      ∧ ((after (.eventWrite 5 3 true) (after (.eventWrite 5 3 true) exQp)).qp 83).cqTail = 0
      ∧ ((after (.eventWrite 5 3 true) (after (.eventWrite 5 3 true) exQp)).qp 83).phase = false := by decide +kernel

/-- Chapter 15: the nonce of a packet with NONCE_CTR 0x1F from port 3 of device 5. -/
theorem test_link_nonce : bvBytes 12 (linkNonce 5 3 0x1F) = [0x53, 0, 0, 0, 0x1F, 0, 0, 0, 0, 0, 0, 0] := by decide +kernel

/-- The REQUEST class of chapter 19's example: WR 70, RD 6. -/
def exRing : State :=
  after (.chselWrite 0 12 2) { lit with errs := { lit.errs with request := { wr := 70, rd := 6, ovf := 2 } } }

/-- Chapter 19: RD may move up to WR and not beyond. -/
theorem test_ring_rd :
    ((after (.errRingRd 0 70) exRing).errs.bank .request).rd = 70 ∧ ((after (.errRingRd 0 71) exRing).errs.bank .request).rd = 6 := by
  decide +kernel

/-- R628: the PF clears OVF; the service port does not. -/
theorem test_ring_ovf_clr : ((after (.errCtlOvfClr 0) exRing).errs.bank .request).ovf = 0
    ∧ ((after (.errCtlOvfClr 64) exRing).errs.bank .request).ovf = 2 := by decide +kernel

/-- The table gives no bits to any command. -/
theorem test_no_words : decodeTableWord 32 0 = none ∧ lit.withFetchWord 32 0 = lit := by decide +kernel

/-- An empty queue ticks and takes no command. -/
theorem test_idle : (match step lit with | .next t => t.pending | _ => [Instr.mret 0]) = [] := by decide +kernel

/-- The command at the front runs first, and the queue's rest stays. -/
theorem test_front_first :
    (match step { lit with pending := [.chselWrite 0 7 3, .chselWrite 0 7 4] } with
      | .next t => (t.instOf 0 7 0x100, t.pending) | _ => (none, [])) = (some 3, [.chselWrite 0 7 4]) := by decide +kernel

/-- R611: a misaligned write and one of 2 bytes are ignored. -/
theorem test_register_write_sizes :
    after (.registerWrite 0 0x10106 4 1) lit = lit ∧ after (.registerWrite 0 0x10100 2 1) lit = lit := by decide +kernel

/-- Plot 0 with `aarg` and `acmp` set and a word of HBM at 0x40. -/
def exAtomic (old arg cmp : Word32) : State :=
  { onPlot { run := true, cpu := { aarg := arg, acmp := cmp } } with mem := Mem.write [] 0x40 (leBytes 4 old.toNat) }

/-- The value in x5 and the word at 0x40 after a command. -/
def seen (c : Instr) (s : State) : Word32 × Nat := (((after c s).plot 0).cpu.reg 5, leNat (Mem.read (after c s).mem 0x40 4))

/-- R231: ADD returns the old word and stores the sum, which wraps. -/
theorem test_atomic_add : seen (.atomicAdd 0 5 0xC0000040 4 .clean) (exAtomic 0xFFFFFFFF 2 0) = (0xFFFFFFFF, 1) := by decide +kernel

/-- R231: CAS stores only where the old value is `acmp`. -/
theorem test_atomic_cas :
    seen (.atomicCas 0 5 0xD0000040 4 .clean) (exAtomic 7 9 7) = (7, 9) ∧ seen (.atomicCas 0 5 0xD0000040 4 .clean) (exAtomic 7 9 8) = (7, 7) := by
  decide +kernel

/-- R231: MAXU and MINU compare as unsigned numbers. -/
theorem test_atomic_unsigned :
    seen (.atomicMaxu 0 5 0xF0000040 4 .clean) (exAtomic 0x80000000 1 0) = (0x80000000, 0x80000000)
      ∧ seen (.atomicMinu 0 5 0xF8000040 4 .clean) (exAtomic 0x80000000 1 0) = (0x80000000, 1) := by decide +kernel

/-- R236: a stored word is not yet in memory, but its own plot reads it back. -/
theorem test_store_forwards :
    let s := after (.controllerStore 0 0x80000040 4 0x11223344) (exAtomic 7 0 0)
    leNat (Mem.read s.mem 0x40 4) = 7
      ∧ ((after (.controllerLoad 0 5 0x80000040 4 false .clean) s).plot 0).cpu.reg 5 = 0x11223344 := by decide +kernel

/-- R236: the store is performed later; a byte load extends its sign. -/
theorem test_store_performs :
    let s := after (.storePerform 0 .clean) (after (.controllerStore 0 0x80000040 4 0x112233F4) (exAtomic 7 0 0))
    leNat (Mem.read s.mem 0x40 4) = 0x112233F4
      ∧ ((after (.controllerLoad 0 5 0x80000040 1 true .clean) s).plot 0).cpu.reg 5 = 0xFFFFFFF4 := by decide +kernel

/-- R213: FENCE.I traps with cause 2 and the word it was. -/
theorem test_fence_i :
    let c := ((after (.fenceI 0) (exAtomic 0 0 0)).plot 0).cpu
    c.mcause = 2 ∧ c.mtval = 0x100F := by decide +kernel

/-- R212: a reserved bit of dwin1 traps with cause 26. -/
theorem test_dwin_reserved :
    (((after (.dwinWrite 0 true 0x200000) (exAtomic 0 0 0)).plot 0).cpu.mcause = 26)
      ∧ (((after (.dwinWrite 0 true 0x1FFFFF) (exAtomic 0 0 0)).plot 0).cpu.dwin1 = 0x1FFFFF) := by decide +kernel

/-- R181, R201, R202: a plot that waits at a BARRIER executes its injected macro-op; a reserved one is reported and leaves. -/
theorem test_injected_at_barrier :
    let s := after (.injectedMacroOp 0 []) (onPlot
      { run := true, barrier := some (0, 1), running := some { op := { ticket := 0, img := 0xE } }, inj := [0] })
    (s.plot 0).inj = [] ∧ (s.plot 0).barrier = some (0, 1) ∧ s.out = [.faultReport 0 0 Code.badMacroOp []] := by decide +kernel

/-- RV32IMC from its encodings: addi x3, x1, -1; c.mv x4, x1; mul x5, x1, x2 (R98). -/
def exCode : Plot :=
  { live 7 6 with
    store := Mem.write (Mem.write (Mem.write [] 0 (leBytes 4 0xFFF08193)) 4 (leBytes 2 0x8206)) 6 (leBytes 4 0x022082B3) }

/-- R98: a tick each runs the instructions that plot store holds. -/
theorem test_runs_plot_store :
    let s := ((onPlot exCode).runPlot 0 |>.runPlot 0 |>.runPlot 0).plot 0
    (s.cpu.reg 3, s.cpu.reg 4, s.cpu.reg 5, s.cpu.pc) = (6, 7, 42, 10) := by decide +kernel

/-- R398: what is scrambled descrambles to the codeword that was sent. -/
theorem test_codeword :
    let c : Cw := { seq := 7, slots := List.replicate 10 (dataSlot (List.replicate 64 0xA5)) }
    Cw.ofMessage (descrambled 5 (scrambled 5 c.message)) = c := by decide +kernel

/-! ### Witnesses -/

theorem wit_StepRunsTheFront :
    ∃ (c : Instr) (cs : List Instr) (s : State), s.pending = c :: cs :=
  ⟨.getTid, [], { lit with pending := [.getTid] }, by decide +kernel⟩

theorem wit_EmptyQueueTicks :
    (∃ (s : State), Sound s ∧ s.pending = [] ∧ s.dev.st = .dormant)
    ∧ (∃ (s : State), Sound s ∧ s.pending = [] ∧ s.serving = false) :=
  ⟨⟨State.reset, ⟨by decide +kernel, by decide +kernel, by unfold Tab.Rises; decide +kernel⟩, by decide +kernel⟩,
    ⟨{ lit with dev := { lit.dev with st := .shuttered } }, ⟨by decide +kernel, by decide +kernel, by unfold Tab.Rises; decide +kernel⟩, by decide +kernel⟩⟩

theorem wit_EveryStepKeepsSound :
    ∃ (s : State), Sound s :=
  ⟨lit, ⟨by decide +kernel, by decide +kernel, by unfold Tab.Rises; decide +kernel⟩⟩

theorem wit_NoRunLowersTheSecurityVersion :
    ∃ (s : State), Sound s :=
  ⟨lit, ⟨by decide +kernel, by decide +kernel, by unfold Tab.Rises; decide +kernel⟩⟩

theorem wit_OutputsAndQueueOverAStep :
    ∃ (s : State) (t : State), Sound s ∧ step s = .next t :=
  ⟨lit, _, ⟨by decide +kernel, by decide +kernel, by unfold Tab.Rises; decide +kernel⟩, rfl⟩

theorem wit_RegisterWrites :
    (∃ (s : State) (r : Nat) (blk : Nat) (inst : Nat) (f : Field), blk < 18 ∧ blk ≠ 3 ∧ f ∈ fieldsOf blk ∧ f.acc = .rw ∧ f.own = false ∧ f.wid ≤ 32 ∧ f.n ≤ 1 ∧ ((f.lock = false ∨ s.locked = false)) ∧ f.who.admits r = true ∧ (f.blk, f.off) ≠ (5, 0x1004) ∧ (f.blk, f.off) ≠ (12, 0x1010) ∧ ((blk = 16 → (s.qp inst).st = .disabled)) ∧ ((blk = 15 → f.off ≠ 0 ∧ s.rd R.nandBusy = 0)) ∧ s.writable r blk f.off = true ∧ s.instOf r blk f.off = some inst)
    ∧ (∃ (off : Nat) (size : Nat), (¬(size = 4 ∨ size = 8) ∨ off % size ≠ 0))
    ∧ (∃ (s : State) (r : Nat) (blk : Nat) (o : Nat), blk < 18 ∧ blk ≠ 3 ∧ o < 65536 ∧ o % 4 = 0 ∧ s.writable r blk o = true)
    ∧ (∃ (s : State) (r : Nat) (blk : Nat) (o : Nat), blk < 18 ∧ o < 65536 ∧ o % 4 = 0 ∧ s.writable r blk o = false) :=
  ⟨⟨lit, 0, 15, 0, R.nandRow, by decide +kernel⟩,
    ⟨0, 3, by decide +kernel⟩,
    ⟨lit, 0, 17, 65532, by decide +kernel⟩,
    ⟨State.reset, 0, 17, 65532, by decide +kernel⟩⟩

theorem wit_RegisterViews :
    (∃ (s : State) (r : Nat) (blk : Nat), r < 73 ∧ (instances blk).isSome = true ∧ s.writable r blk 0 = true)
    ∧ (∃ (s : State) (r : Nat) (off : Nat), r < 73 ∧ off % 4 = 0 ∧ lowHalf off = true ∧ (off + 4) / 65536 = off / 65536 ∧ (Tab.get (0, 0) s.acc.latch (off / 65536 * 73 + r)).1 ≠ off) :=
  ⟨⟨lit, 72, 2, by decide +kernel⟩,
    ⟨lit, 72, 0x10010, by decide +kernel⟩⟩

theorem wit_ClearCommands :
    (∃ (s : State) (r : Nat) (i : Nat), s.target r 3 0x100 .steward = some i)
    ∧ (∃ (s : State) (r : Nat) (i : Nat), s.target r 10 0x104 .pf = some i)
    ∧ (∃ (s : State) (r : Nat) (i : Nat), s.target r 0 0x34 .pf = some i)
    ∧ (∃ (s : State) (r : Nat) (i : Nat), s.target r 9 0x30 .pf = some i)
    ∧ (∃ (s : State) (r : Nat) (i : Nat), s.target r 12 0x130 .pf = some i)
    ∧ (∃ (s : State) (r : Nat), s.target r 3 0x100 .steward = none)
    ∧ (∃ (s : State) (r : Nat), s.target r 10 0x104 .pf = none) :=
  ⟨⟨lit, 72, 0, by decide +kernel⟩,
    ⟨lit, 0, 0, by decide +kernel⟩,
    ⟨lit, 0, 0, by decide +kernel⟩,
    ⟨lit, 0, 0, by decide +kernel⟩,
    ⟨lit, 0, 0, by decide +kernel⟩,
    ⟨lit, 0, by decide +kernel⟩,
    ⟨lit, 1, by decide +kernel⟩⟩

theorem wit_SundialEdges :
    (∃ (s : State) (period : Nat) (high : Nat), s.sdl.rxEn = true ∧ s.rd R.sdlSrc = 0 ∧ s.sdl.st = .locked ∧ s.sdl.slew = 0 ∧ s.sdl.slewOwed = false ∧ s.sdl.refMoved = false ∧ tickSym period high ≠ .invalid)
    ∧ (∃ (s : State) (missing : Bool) (period : Nat) (high : Nat) (ns : Nat) (n : Nat), ns = (if missing then 1020 else min period 1020) ∧ n = (s.sdl.accNs + ns + 500) / 1000 - s.sdl.accTk ∧ s.sdl.rxEn = true ∧ ((missing = true ∨ s.rd R.sdlSrc = 0)) ∧ s.sdl.st = .locked ∧ s.sdl.slew = 0 ∧ s.sdl.slewOwed = false ∧ ((missing = true ∨ s.sdl.refMoved = true ∨ tickSym period high = .invalid)) ∧ s.time < 2 ^ 64)
    ∧ (∃ (s : State) (missing : Bool), s.sdl.rxEn = true ∧ ((missing = true ∨ s.rd R.sdlSrc = 0)) ∧ s.sdl.st ≠ .locked)
    ∧ (∃ (s : State), s.dev.st ≠ .dormant) :=
  ⟨⟨{ lit with sdl := { rxEn := true, st := .locked } }, 1000, 250, by decide +kernel⟩,
    ⟨{ lit with sdl := { rxEn := true, st := .locked } }, true, 0, 0, _, _, rfl, rfl, by decide +kernel⟩,
    ⟨{ lit with sdl := { rxEn := true, st := .search } }, true, by decide +kernel⟩,
    ⟨lit, by decide +kernel⟩⟩

theorem wit_TwoGoodFramesLock :
    (∃ (s : State) (f : Frame), s.sdl.rxEn = true ∧ s.sdl.st = .search ∧ s.sdl.prevEpoch = none ∧ goodFrame s.sdl.ticks = some f)
    ∧ (∃ (s : State) (f : Frame), s.sdl.rxEn = true ∧ s.sdl.st = .acquiring ∧ s.sdl.everLocked = false ∧ 128 ≤ s.sdl.pos ∧ f.epoch < 2 ^ 64 ∧ goodFrame s.sdl.ticks = some f ∧ s.sdl.prevEpoch = some ((f.epoch + 2 ^ 64 - 128) % 2 ^ 64)) :=
  ⟨⟨{ lit with sdl := { rxEn := true, ticks := (frameTicks 128 0x8000).reverse } }, { epoch := 128, flags := 0x8000 }, by decide +kernel⟩,
    ⟨{ lit with sdl := { rxEn := true, st := .acquiring, pos := 128, prevEpoch := some 128, ticks := (frameTicks 256 0x8000).reverse } }, { epoch := 256, flags := 0x8000 }, by decide +kernel⟩⟩

theorem wit_TimeLosses :
    (∃ (s : State), s.sdl.st = .locked ∧ 3 ≤ s.sdl.bad)
    ∧ (∃ (s : State), s.sdl.st = .holdover ∧ (10000000 : Int) ≤ tkFrom s.sdl.holdAt s.time)
    ∧ (∃ (s : State), s.sdl.slew = 0)
    ∧ (∃ (s : State) (port : Nat) (e : Nat) (f : BitVec 16), s.timePort port = true ∧ s.sdl.tvlLast = some (e, f) ∧ s.sdl.tvlMiss = 0)
    ∧ (∃ (s : State) (port : Nat), s.timePort port = true ∧ s.sdl.tvlMiss ≠ 0 ∧ s.sdl.tvlLast ≠ none)
    ∧ (∃ (s : State) (e : Nat), e = (s.time / 128 + 1) * 128 ∧ s.sdl.st.valid = true ∧ s.rd R.sdlHops ≠ 15 ∧ 32 ≤ e - s.time ∧ e - s.time ≤ 96 ∧ s.sdl.fwdDone ≠ some e) :=
  ⟨⟨{ lit with sdl := { rxEn := true, st := .locked, bad := 3 } }, by decide +kernel⟩,
    ⟨{ lit with time := 10000000, sdl := { st := .holdover } }, by decide +kernel⟩,
    ⟨lit, by decide +kernel⟩,
    ⟨{ (lit.wr R.sdlSrc 27) with ports := [(11, { st := .ready })], sdl := { tvlLast := some (128, 0x8000) } }, 11, 128, 0x8000, by decide +kernel⟩,
    ⟨{ (lit.wr R.sdlSrc 27) with ports := [(11, { st := .ready })], sdl := { tvlLast := some (128, 0x8000), tvlMiss := 1 } }, 11, by decide +kernel⟩,
    ⟨{ lit with time := 40, sdl := { st := .locked } }, _, rfl, by decide +kernel⟩⟩

theorem wit_MessageInstructions :
    (∃ (s : State) (p : Nat) (w : Word32) (a : Word32) (d : Word32), a = (s.plot p).cpu.reg (In.rs1 w) ∧ d = (s.plot p).cpu.reg (In.rs2 w) ∧ (s.plot p).active = true ∧ In.legal w 0x0B 0 true false = true ∧ bits d 24 8 = 0 ∧ bits d 0 12 ≤ 0x807 ∧ inStore a.toNat (64 * (bits d 12 4 + 1)) 64 = true ∧ s.destOk p (bits d 0 12) = true ∧ flitsOf (s.plot p).outq + (bits d 12 4 + 1) ≤ 64)
    ∧ (∃ (s : State) (p : Nat) (w : Word32) (a : Word32) (d : Word32) (m : Message), a = (s.plot p).cpu.reg (In.rs1 w) ∧ d = (s.plot p).cpu.reg (In.rs2 w) ∧ (s.plot p).active = true ∧ In.legal w 0x0B 1 true false = true ∧ bits d 9 23 = 0 ∧ inStore a.toNat 64 64 = true ∧ inStore a.toNat (64 * m.flits) 64 = true ∧ (s.plot p).inq.find? (Message.matches d) = some m)
    ∧ (∃ (s : State) (p : Nat) (w : Word32) (a : Word32) (d : Word32), a = (s.plot p).cpu.reg (In.rs1 w) ∧ d = (s.plot p).cpu.reg (In.rs2 w) ∧ (s.plot p).active = true ∧ In.legal w 0x0B 1 true false = true ∧ bits d 9 23 = 0 ∧ inStore a.toNat 64 64 = true ∧ In.flag w = true ∧ (s.plot p).inq.find? (Message.matches d) = none) :=
  ⟨⟨{ lit with plots := [(0, { live 0 0xF000 with outq := List.replicate 48 note })] }, 0, insn 0x0B 0 0 0 1 2, _, _, rfl, rfl, by decide +kernel⟩,
    ⟨{ lit with plots := [(0, { live 64 0x100 with inq := [note] })] }, 0, insn 0x0B 1 0 3 1 2, _, _, note, rfl, rfl, by decide +kernel⟩,
    ⟨{ lit with plots := [(0, { live 64 4 with inq := [note] })] }, 0, insn 0x0B 1 1 3 1 2, _, _, rfl, rfl, by decide +kernel⟩⟩

theorem wit_MessageDelivery :
    (∃ (s : State) (src : Nat) (dst : Nat) (m : Message), ((src < 2048 → (s.plot src).outq = [])) ∧ dst < 2048 ∧ s.trellis.find? (Message.between src dst) = some m ∧ flitsOf (s.plot dst).inq + m.flits ≤ 64)
    ∧ (∃ (s : State) (src : Nat) (dst : Nat) (m : Message), ((src < 2048 → (s.plot src).outq = [])) ∧ dst < 2048 ∧ s.serving = true ∧ s.trellis.find? (Message.between src dst) = some m ∧ 64 < flitsOf (s.plot dst).inq + m.flits)
    ∧ (∃ (s : State) (src : Nat) (dst : Nat) (m : Message), ((src < 2048 → (s.plot src).outq = [])) ∧ 2048 ≤ dst ∧ s.trellis.find? (Message.between src dst) = some m) :=
  ⟨⟨{ lit with plots := [(0, { inq := List.replicate 63 note })], trellis := [note] }, 0, 0, note, by decide +kernel⟩,
    ⟨{ lit with plots := [(0, { inq := List.replicate 64 note })], trellis := [note] }, 0, 0, note, by decide +kernel⟩,
    ⟨{ lit with trellis := [{ note with dst := 2055 }] }, 0, 2055, { note with dst := 2055 }, by decide +kernel⟩⟩

theorem wit_TileCounters :
    (∃ (s : State) (p : Nat) (w : Word32) (a : Word32) (v : Nat) (l : Nat), a = (s.plot p).cpu.reg (In.rs1 w) ∧ (s.plot p).active = true ∧ In.legal w 0x0B 2 false true = true ∧ bits a 4 28 = 0 ∧ s.tc (terrOf p) (bits a 0 4) = (v, l) ∧ v ≠ l)
    ∧ (∃ (s : State) (p : Nat) (w : Word32) (a : Word32) (v : Nat), a = (s.plot p).cpu.reg (In.rs1 w) ∧ (s.plot p).active = true ∧ In.legal w 0x0B 2 false true = true ∧ bits a 4 28 = 0 ∧ s.tc (terrOf p) (bits a 0 4) = (v, v))
    ∧ (∃ (s : State) (p : Nat) (v : Word32), (s.plot p).active = true ∧ bits v 28 4 = 0)
    ∧ (∃ (s : State) (p : Nat) (v : Word32), (s.plot p).active = true ∧ (s.plot p).inTrap = false ∧ bits v 28 4 ≠ 0)
    ∧ (∃ (s : State) (p : Nat) (w : Word32) (a : Word32), a = (s.plot p).cpu.reg (In.rs1 w) ∧ (s.plot p).active = true ∧ In.legal w 0x0B 2 false true = true ∧ bits a 4 28 = 0 ∧ s.tc (terrOf p) (bits a 0 4) = State.reset.tc (terrOf p) (bits a 0 4)) :=
  ⟨⟨{ onPlot (live 15 0) with tcnt := [(15, (3, 5))] }, 0, insn 0x0B 2 0 3 1 0, _, 3, 5, rfl, by decide +kernel⟩,
    ⟨{ onPlot (live 15 0) with tcnt := [(15, (5, 5))] }, 0, insn 0x0B 2 0 3 1 0, _, 5, rfl, by decide +kernel⟩,
    ⟨onPlot (live 0 0), 0, 0x0FFFFFFF, by decide +kernel⟩,
    ⟨onPlot (live 0 0), 0, 0x10000000, by decide +kernel⟩,
    ⟨onPlot (live 15 0), 0, insn 0x0B 2 0 3 1 0, _, rfl, by decide +kernel⟩⟩

theorem wit_SequencerTickets :
    (∃ (s : State) (p : Nat) (w : Word32) (a : Word32), a = (s.plot p).cpu.reg (In.rs1 w) ∧ (s.plot p).active = true ∧ In.legal w 0x0B 3 false true = true ∧ inStore a.toNat 32 32 = true ∧ (s.plot p).queue.length < 256)
    ∧ (∃ (s : State) (p : Nat) (w : Word32) (a : Word32), a = (s.plot p).cpu.reg (In.rs1 w) ∧ (s.plot p).active = true ∧ In.legal w 0x0B 3 false true = true ∧ inStore a.toNat 32 32 = true ∧ 256 ≤ (s.plot p).queue.length)
    ∧ (∃ (s : State) (p : Nat) (w : Word32) (a : Word32), a = (s.plot p).cpu.reg (In.rs1 w) ∧ (s.plot p).active = true ∧ In.legal w 0x0B 4 false true = true ∧ a ≠ (s.plot p).nextTicket ∧ ((s.plot p).nextTicket - a).toNat ≤ 2 ^ 31 ∧ (s.plot p).finished a = true) :=
  ⟨⟨{ lit with plots := [(0, { live 32 0 with queue := (List.replicate 255 ({ ticket := 0, img := 0 } : QOp)) })] }, 0, insn 0x0B 3 0 3 1 0, _, rfl, by decide +kernel⟩,
    ⟨{ lit with plots := [(0, { live 32 0 with queue := (List.replicate 256 ({ ticket := 0, img := 0 } : QOp)) })] }, 0, insn 0x0B 3 0 3 1 0, _, rfl, by decide +kernel⟩,
    ⟨{ lit with plots := [(0, { live 0 0 with nextTicket := 0x80000000 })] }, 0, insn 0x0B 4 0 3 1 0, _, rfl, by decide +kernel⟩⟩

theorem wit_HaloExchange :
    (∃ (s : State) (p : Nat) (n : Nat) (len : Nat) (w : Word32) (a : Word32) (d : Word32) (g : Halo), a = (s.plot p).cpu.reg (In.rs1 w) ∧ d = (s.plot p).cpu.reg (In.rs2 w) ∧ len = (if bits d 2 8 = 0 then 4096 else 16 * bits d 2 8) ∧ (s.plot p).active = true ∧ In.legal w 0x2B 0 false false = true ∧ bits d 10 2 = 0 ∧ inStore a.toNat len 16 = true ∧ inStore (16 * bits d 12 20) len 16 = true ∧ neighbour p (bits d 0 2) = some n ∧ s.haloOf n ((bits d 0 2 + 2) % 4) = some g ∧ g.len = len ∧ n ≠ p)
    ∧ (∃ (s : State) (p : Nat) (len : Nat) (w : Word32) (a : Word32) (d : Word32), a = (s.plot p).cpu.reg (In.rs1 w) ∧ d = (s.plot p).cpu.reg (In.rs2 w) ∧ len = (if bits d 2 8 = 0 then 4096 else 16 * bits d 2 8) ∧ (s.plot p).active = true ∧ In.legal w 0x2B 0 false false = true ∧ bits d 10 2 = 0 ∧ inStore a.toNat len 16 = true ∧ inStore (16 * bits d 12 20) len 16 = true ∧ neighbour p (bits d 0 2) = none)
    ∧ (∃ (s : State) (p : Nat) (n : Nat) (len : Nat) (w : Word32) (a : Word32) (d : Word32) (g : Halo), a = (s.plot p).cpu.reg (In.rs1 w) ∧ d = (s.plot p).cpu.reg (In.rs2 w) ∧ len = (if bits d 2 8 = 0 then 4096 else 16 * bits d 2 8) ∧ (s.plot p).active = true ∧ In.legal w 0x2B 0 false false = true ∧ bits d 10 2 = 0 ∧ inStore a.toNat len 16 = true ∧ inStore (16 * bits d 12 20) len 16 = true ∧ neighbour p (bits d 0 2) = some n ∧ s.haloOf n ((bits d 0 2 + 2) % 4) = some g ∧ g.len ≠ len ∧ n ≠ p ∧ (s.plot p).inTrap = false ∧ (s.plot n).inTrap = false)
    ∧ (∃ (s : State) (p : Nat) (h : Halo), (s.plot p).halo = some h ∧ (s.plot p).inTrap = false) :=
  ⟨⟨{ lit with plots := [(0, { live 16 0x1005 with run := true }), (1, { run := true, halo := some { dir := 3, len := 16, send := 0, recv := 64, rd := 3 } })] }, 0, 1, _, insn 0x2B 0 0 3 1 2, _, _, { dir := 3, len := 16, send := 0, recv := 64, rd := 3 }, rfl, rfl, rfl, by decide +kernel⟩,
    ⟨{ lit with plots := [(0, { live 4096 0x1000000 with run := true })] }, 0, _, insn 0x2B 0 0 3 1 2, _, _, rfl, rfl, rfl, by decide +kernel⟩,
    ⟨{ lit with plots := [(0, { live 16 0x1005 with run := true }), (1, { run := true, halo := some { dir := 3, len := 32, send := 0, recv := 64, rd := 3 } })] }, 0, 1, _, insn 0x2B 0 0 3 1 2, _, _, { dir := 3, len := 32, send := 0, recv := 64, rd := 3 }, rfl, rfl, rfl, by decide +kernel⟩,
    ⟨onPlot { halo := some { dir := 3, len := 16, send := 0, recv := 64, rd := 3 } }, 0, { dir := 3, len := 16, send := 0, recv := 64, rd := 3 }, by decide +kernel⟩⟩

theorem wit_Generators :
    (∃ (s : State) (p : Nat) (w : Word32) (a : Word32) (d : Word32), a = (s.plot p).cpu.reg (In.rs1 w) ∧ d = (s.plot p).cpu.reg (In.rs2 w) ∧ (s.plot p).active = true ∧ In.legal w 0x2B 1 false false = true ∧ bits d 2 30 = 0 ∧ inStore a.toNat 16 16 = true ∧ (s.plot p).drawing (bits d 0 2) = false)
    ∧ (∃ (s : State) (p : Nat) (w : Word32) (a : Word32), a = (s.plot p).cpu.reg (In.rs1 w) ∧ (s.plot p).active = true ∧ In.legal w 0x2B 2 false true = true ∧ bits a 6 26 = 0 ∧ (s.plot p).drawing (bits a 0 2) = false) :=
  ⟨⟨{ lit with plots := [(0, { live 16 3 with run := true })] }, 0, insn 0x2B 1 0 0 1 2, _, _, rfl, rfl, by decide +kernel⟩,
    ⟨{ lit with plots := [(0, { live 63 0 with run := true })] }, 0, insn 0x2B 2 0 3 1 0, _, rfl, by decide +kernel⟩⟩

theorem wit_SystemInstructions :
    (∃ (s : State) (p : Nat) (w : Word32), (s.plot p).active = true ∧ In.opcode w = 0x0F ∧ In.funct3 w = 0)
    ∧ (∃ (s : State) (p : Nat) (v : Word32), (s.plot p).active = true ∧ bits v 18 14 = 0)
    ∧ (∃ (s : State) (p : Nat) (v : Word32), (s.plot p).active = true ∧ bits v 21 11 = 0)
    ∧ (∃ (s : State) (p : Nat) (which : Bool) (v : Word32), (s.plot p).active = true ∧ (s.plot p).inTrap = false ∧ (if which then bits v 21 11 else bits v 18 14) ≠ 0) :=
  ⟨⟨onPlot (live 0 0), 0, 0x0000000F, by decide +kernel⟩,
    ⟨onPlot (live 0 0), 0, 0x3FFFF, by decide +kernel⟩,
    ⟨onPlot (live 0 0), 0, 0x1FFFFF, by decide +kernel⟩,
    ⟨onPlot (live 0 0), 0, false, 0x40000, by decide +kernel⟩⟩

theorem wit_LoadsAndStores :
    (∃ (s : State) (p : Nat) (addr : Word32) (width : Nat), (s.plot p).active = true ∧ addr.toNat + width ≤ storeSize ∧ (s.plot p).badIn addr.toNat width = false ∧ (s.plot p).inUse addr.toNat width = false ∧ (s.plot p).fence = 0)
    ∧ (∃ (s : State) (p : Nat) (addr : Word32) (width : Nat), (s.plot p).active = true ∧ 0x80000000 ≤ addr.toNat ∧ addr.toNat < 0xC0000000 ∧ addr.toNat % width = 0 ∧ s.region ((s.plot p).cpu.window addr.toNat) = .hbm ∧ (s.plot p).sb.length < 8)
    ∧ (∃ (s : State) (p : Nat) (b : Store) (rest : List Store), (s.plot p).sb = b :: rest ∧ s.homeWaits b.addr = false)
    ∧ (∃ (s : State) (p : Nat) (addr : Word32) (width : Nat) (a : Nat), a = (s.plot p).cpu.window addr.toNat ∧ (s.plot p).active = true ∧ 0x80000000 ≤ addr.toNat ∧ addr.toNat < 0xC0000000 ∧ addr.toNat % width = 0 ∧ s.region a = .hbm ∧ s.homeWaits a = false ∧ (s.plot p).sb = [] ∧ s.poisoned a width = false ∧ (s.plot p).fence = 0 ∧ width ≠ 0)
    ∧ (∃ (s : State) (p : Nat) (addr : Word32) (width : Nat) (a : Nat) (w : Store), a = (s.plot p).cpu.window addr.toNat ∧ (s.plot p).active = true ∧ 0x80000000 ≤ addr.toNat ∧ addr.toNat < 0xC0000000 ∧ addr.toNat % width = 0 ∧ s.region a = .hbm ∧ s.homeWaits a = false ∧ (s.plot p).sb = [w] ∧ (s.plot p).fence = 0 ∧ w.addr = a ∧ w.bytes.length = width)
    ∧ (∃ (s : State) (p : Nat) (addr : Word32) (width : Nat) (a : Nat), a = (s.plot p).cpu.window addr.toNat ∧ (s.plot p).active = true ∧ (s.plot p).inTrap = false ∧ 0x80000000 ≤ addr.toNat ∧ addr.toNat < 0xC0000000 ∧ addr.toNat % width ≠ 0)
    ∧ (∃ (s : State) (p : Nat) (addr : Word32) (width : Nat) (a : Nat), a = (s.plot p).cpu.window addr.toNat ∧ (s.plot p).active = true ∧ (s.plot p).inTrap = false ∧ 0x80000000 ≤ addr.toNat ∧ addr.toNat < 0xC0000000 ∧ addr.toNat % width = 0 ∧ ((s.region a = .priv ∨ s.region a = .none))) :=
  ⟨⟨onPlot (live 0 0), 0, 393212, 4, by decide +kernel⟩,
    ⟨onPlot { live 0 0 with sb := List.replicate 7 { addr := 0, bytes := [1] } }, 0, 0xBFFFFFFC, 4, by decide +kernel⟩,
    ⟨onPlot { live 0 0 with sb := [{ addr := 0, bytes := [1] }] }, 0, { addr := 0, bytes := [1] }, [], by decide +kernel⟩,
    ⟨onPlot (live 0 0), 0, 0xBFFFFFFC, 4, _, rfl, by decide +kernel⟩,
    ⟨onPlot { live 0 0 with sb := [{ addr := 0, bytes := [1, 2, 3, 4] }] }, 0, 0x80000000, 4, _, { addr := 0, bytes := [1, 2, 3, 4] }, rfl, by decide +kernel⟩,
    ⟨onPlot (live 0 0), 0, 0x80000001, 4, _, rfl, by decide +kernel⟩,
    ⟨onPlot { live 0 0 with cpu := { dwin0 := 0x11F } }, 0, 0x80000000, 4, _, rfl, by decide +kernel⟩⟩

theorem wit_Atomics :
    ∃ (s : State) (p : Nat) (rd : Nat) (code : Nat) (a : Nat) (addr : Word32) (old : Word32) (arg : Word32) (cmp : Word32) (c : Instr) (new : Word32), code = atomicCode addr ∧ a = (s.plot p).cpu.atomicAddr addr.toNat ∧ old = BitVec.ofNat 32 (leNat (Mem.read s.mem a 4)) ∧ arg = (s.plot p).cpu.aarg ∧ cmp = (s.plot p).cpu.acmp ∧ (s.plot p).active = true ∧ bits addr 30 2 = 3 ∧ addr.toNat % 4 = 0 ∧ s.region a = .hbm ∧ (s.plot p).sb = [] ∧ s.homeWaits a = false ∧ s.poisoned a 4 = false ∧ (c, code, new) ∈ ([(.atomicAdd p rd addr 4 .clean, 0, old + arg), (.atomicSwap p rd addr 4 .clean, 1, arg), (.atomicCas p rd addr 4 .clean, 2, if old = cmp then arg else old), (.atomicAnd p rd addr 4 .clean, 3, old &&& arg), (.atomicOr p rd addr 4 .clean, 4, old ||| arg), (.atomicXor p rd addr 4 .clean, 5, old ^^^ arg), (.atomicMaxu p rd addr 4 .clean, 6, if arg ≤ old then old else arg), (.atomicMinu p rd addr 4 .clean, 7, if old ≤ arg then old else arg)] : List (Instr × Nat × Word32)) :=
  ⟨onPlot { run := true, cpu := { aarg := 5 } }, 0, 3, _, _, 0xC0000000, _, _, _, .atomicAdd 0 3 0xC0000000 4 .clean, 5, rfl, rfl, rfl, rfl, rfl, by decide +kernel⟩

theorem wit_PlotWindow :
    (∃ (s : State) (r : Nat) (i : Nat) (v : Nat), s.target r 3 0x100 .steward = some i ∧ (s.plot i).run = false ∧ (s.plot i).stopping = false ∧ s.plotPav i = some v)
    ∧ (∃ (s : State) (r : Nat) (i : Nat), s.target r 3 0x100 .steward = some i ∧ (s.plot i).run = true ∧ (s.plot i).running = none)
    ∧ (∃ (s : State) (r : Nat) (i : Nat), s.target r 3 0x118 .steward = some i ∧ (s.plot i).run = false)
    ∧ (∃ (s : State) (r : Nat) (i : Nat), s.target r 3 0x118 .steward = some i ∧ (s.plot i).run = true)
    ∧ (∃ (s : State) (p : Nat), s.rd R.loadGo p = 1 ∧ s.homeBusy = [])
    ∧ (∃ (s : State) (r : Nat) (i : Nat), s.target r 3 0x15C .steward = some i ∧ (s.plot i).inj.length < 16)
    ∧ (∃ (s : State) (r : Nat) (i : Nat), s.target r 3 0x15C .steward = some i ∧ 16 ≤ (s.plot i).inj.length)
    ∧ (∃ (s : State) (r : Nat) (i : Nat), s.target r 3 0x164 .steward = some i ∧ 4 * s.rd R.memAddr i < storeSize) :=
  ⟨⟨{ lit.wr R.terraces 1 0 with plots := [(0, {})] }, 72, 0, 0, by decide +kernel⟩,
    ⟨{ lit.wr R.terraces 1 0 with plots := [(0, { run := true })] }, 72, 0, by decide +kernel⟩,
    ⟨lit, 72, 0, by decide +kernel⟩,
    ⟨{ lit.wr R.terraces 1 0 with plots := [(0, { run := true })] }, 72, 0, by decide +kernel⟩,
    ⟨lit.wr R.loadGo 1 2047, 2047, by decide +kernel⟩,
    ⟨{ lit.wr R.terraces 1 0 with plots := [(0, { inj := List.replicate 15 0 })] }, 72, 0, by decide +kernel⟩,
    ⟨{ lit.wr R.terraces 1 0 with plots := [(0, { inj := List.replicate 16 0 })] }, 72, 0, by decide +kernel⟩,
    ⟨lit.wr R.memAddr 98303 0, 72, 0, by decide +kernel⟩⟩

theorem wit_CustomInstructionsTrap :
    (∃ (s : State) (p : Nat) (w : Word32), (s.plot p).active = true ∧ (s.plot p).inTrap = false ∧ In.legal w 0x0B 2 false true = false)
    ∧ (∃ (s : State) (p : Nat) (w : Word32), (s.plot p).active = true ∧ (s.plot p).inTrap = false ∧ In.legal w 0x0B 2 false true = true ∧ bits ((s.plot p).cpu.reg (In.rs1 w)) 4 28 ≠ 0)
    ∧ (∃ (s : State) (p : Nat) (w : Word32), (s.plot p).active = true ∧ (s.plot p).inTrap = false ∧ In.legal w 0x0B 3 false true = true ∧ inStore ((s.plot p).cpu.reg (In.rs1 w)).toNat 32 32 = false)
    ∧ (∃ (s : State) (p : Nat) (j : _), (s.plot p).inTrap = true ∧ s.serving = true ∧ j ≠ p) :=
  ⟨⟨onPlot (live 0 0), 0, 0, by decide +kernel⟩,
    ⟨onPlot (live 16 0), 0, insn 0x0B 2 0 3 1 0, by decide +kernel⟩,
    ⟨onPlot (live 393216 0), 0, insn 0x0B 3 0 3 1 0, by decide +kernel⟩,
    ⟨onPlot { inTrap := true }, 0, 1, by decide +kernel⟩⟩

theorem wit_LogNumbers :
    (∃ (raw : Nat), raw < 256 ∧ raw % 128 ≠ 0)
    ∧ (∃ (raw : Nat), raw < 64 ∧ raw % 32 ≠ 0)
    ∧ (∃ (a : Term) (b : Term), a.zero = false ∧ b.zero = false)
    ∧ (∃ (a : Term) (b : Term), (a.zero = true ∨ b.zero = true)) :=
  ⟨⟨255, by decide +kernel⟩,
    ⟨63, by decide +kernel⟩,
    ⟨{ zero := false, lam := 4095 }, { zero := false, lam := -4096 }, by decide +kernel⟩,
    ⟨{}, { zero := false }, by decide +kernel⟩⟩

theorem wit_ConversionBracketsItsValue :
    ∃ (v : Dy), v.m ≠ 0 :=
  ⟨{ m := -1 }, by decide +kernel⟩

theorem wit_MacroOpsIssue :
    (∃ (mk : Nat → Nat → List (Nat × MemEvent) → Instr) (code : Nat) (s : State) (p : Nat) (o : QOp) (rest : List QOp) (c : Ctx), ((mk, code) ∈ ([(.matmul, 1), (.adaptShrink, 2), (.adaptExpand, 3), (.eltwise, 4), (.table, 5), (.reduce, 6), (.softmaxRows, 7), (.normRows, 8), (.gather, 9), (.scatter, 10), (.conv1d, 11), (.copy, 12), (.pad, 13)] : List ((Nat → Nat → List (Nat × MemEvent) → Instr) × Nat))) ∧ c = Ctx.mk' s p o.img ((s.plot p).descs o.img) (s.lens p) none ∧ (s.plot p).sequencing = true ∧ (s.plot p).running = none ∧ (s.plot p).inj = [] ∧ (s.plot p).queue = o :: rest ∧ Mo.opcode o.img = code ∧ (s.plot p).discarding = false ∧ o.stores = 0 ∧ c.issueFault false = none ∧ (s.plot p).descUe o.img = false ∧ c.halos = false)
    ∧ (∃ (mk : Nat → Nat → List (Nat × MemEvent) → Instr) (code : Nat) (s : State) (p : Nat) (o : QOp) (rest : List QOp) (c : Ctx), ((mk, code) ∈ ([(.matmul, 1), (.adaptShrink, 2), (.adaptExpand, 3), (.eltwise, 4), (.table, 5), (.reduce, 6), (.softmaxRows, 7), (.normRows, 8), (.gather, 9), (.scatter, 10), (.conv1d, 11), (.copy, 12), (.pad, 13)] : List ((Nat → Nat → List (Nat × MemEvent) → Instr) × Nat))) ∧ c = Ctx.mk' s p o.img ((s.plot p).descs o.img) (s.lens p) none ∧ (s.plot p).sequencing = true ∧ (s.plot p).running = none ∧ (s.plot p).inj = [] ∧ (s.plot p).queue = o :: rest ∧ Mo.opcode o.img = code ∧ (s.plot p).discarding = false ∧ o.stores = 0 ∧ c.issueFault false = none ∧ (s.plot p).descUe o.img = false ∧ c.halos = true ∧ s.homeBusy = [] ∧ s.spansFault p c.haloReads = none)
    ∧ (∃ (mk : Nat → Nat → List (Nat × MemEvent) → Instr) (code : Nat) (s : State) (p : Nat) (o : QOp) (rest : List QOp) (c : Ctx) (code' : _), ((mk, code) ∈ ([(.matmul, 1), (.adaptShrink, 2), (.adaptExpand, 3), (.eltwise, 4), (.table, 5), (.reduce, 6), (.softmaxRows, 7), (.normRows, 8), (.gather, 9), (.scatter, 10), (.conv1d, 11), (.copy, 12), (.pad, 13)] : List ((Nat → Nat → List (Nat × MemEvent) → Instr) × Nat))) ∧ c = Ctx.mk' s p o.img ((s.plot p).descs o.img) (s.lens p) none ∧ (s.plot p).sequencing = true ∧ (s.plot p).running = none ∧ (s.plot p).inj = [] ∧ (s.plot p).queue = o :: rest ∧ Mo.opcode o.img = code ∧ (s.plot p).discarding = false ∧ o.stores = 0 ∧ c.issueFault false = some code' ∧ code' ≠ Code.tileOverflow ∧ (s.plot p).stopping = false) :=
  ⟨⟨.pad, 13, onPlot { run := true, store := desc 0x300000001000, queue := [padOp] }, 0, padOp, [], _, by simp, rfl, by decide +kernel⟩,
    ⟨.reduce, 6, onPlot { run := true, store := desc 0x300000001000, queue := [winOp] }, 0, winOp, [], _, by simp, rfl, by decide +kernel⟩,
    ⟨.pad, 13, onPlot { run := true, queue := [padOp] }, 0, padOp, [], _, Code.badDescriptor, by simp, rfl, by decide +kernel⟩⟩

theorem wit_MacroOpTiles :
    (∃ (mk : Nat → Nat → List (Nat × MemEvent) → Instr) (code : Nat) (s : State) (p : Nat) (r : RunOp), ((mk, code) ∈ ([(.matmul, 1), (.adaptShrink, 2), (.adaptExpand, 3), (.eltwise, 4), (.table, 5), (.reduce, 6), (.softmaxRows, 7), (.normRows, 8), (.gather, 9), (.scatter, 10), (.conv1d, 11), (.copy, 12), (.pad, 13)] : List ((Nat → Nat → List (Nat × MemEvent) → Instr) × Nat))) ∧ (s.plot p).sequencing = true ∧ (s.plot p).running = some r ∧ Mo.opcode r.op.img = code ∧ r.done = false ∧ r.fault = none ∧ (s.ctx p r).waits = false ∧ (((s.ctx p r).halos = false ∨ (r.eOk = true ∧ r.wOk = true))) ∧ Mo.walk r.op.img = 1 ∧ r.next < (s.ctx p r).total % 2 ^ 24)
    ∧ (∃ (mk : Nat → Nat → List (Nat × MemEvent) → Instr) (code : Nat) (s : State) (p : Nat) (r : RunOp), ((mk, code) ∈ ([(.matmul, 1), (.adaptShrink, 2), (.adaptExpand, 3), (.eltwise, 4), (.table, 5), (.reduce, 6), (.softmaxRows, 7), (.normRows, 8), (.gather, 9), (.scatter, 10), (.conv1d, 11), (.copy, 12), (.pad, 13)] : List ((Nat → Nat → List (Nat × MemEvent) → Instr) × Nat))) ∧ (s.plot p).sequencing = true ∧ (s.plot p).running = some r ∧ Mo.opcode r.op.img = code ∧ r.done = false ∧ r.fault = none ∧ (s.ctx p r).waits = false ∧ (((s.ctx p r).halos = false ∨ (r.eOk = true ∧ r.wOk = true))) ∧ Mo.walk r.op.img = 1 ∧ ¬ r.next < (s.ctx p r).total % 2 ^ 24)
    ∧ (∃ (mk : Nat → Nat → List (Nat × MemEvent) → Instr) (code : Nat) (s : State) (p : Nat) (r : RunOp) (i : _), ((mk, code) ∈ ([(.matmul, 1), (.adaptShrink, 2), (.adaptExpand, 3), (.eltwise, 4), (.table, 5), (.reduce, 6), (.softmaxRows, 7), (.normRows, 8), (.gather, 9), (.scatter, 10), (.conv1d, 11), (.copy, 12), (.pad, 13)] : List ((Nat → Nat → List (Nat × MemEvent) → Instr) × Nat))) ∧ (s.plot p).sequencing = true ∧ (s.plot p).running = some r ∧ Mo.opcode r.op.img = code ∧ r.done = false ∧ r.fault = none ∧ (s.ctx p r).waits = false ∧ (((s.ctx p r).halos = false ∨ (r.eOk = true ∧ r.wOk = true))) ∧ Mo.walk r.op.img = 0 ∧ r.ahead = some (some i))
    ∧ (∃ (mk : Nat → Nat → List (Nat × MemEvent) → Instr) (code : Nat) (s : State) (p : Nat) (r : RunOp) (v : _) (l : _), ((mk, code) ∈ ([(.matmul, 1), (.adaptShrink, 2), (.adaptExpand, 3), (.eltwise, 4), (.table, 5), (.reduce, 6), (.softmaxRows, 7), (.normRows, 8), (.gather, 9), (.scatter, 10), (.conv1d, 11), (.copy, 12), (.pad, 13)] : List ((Nat → Nat → List (Nat × MemEvent) → Instr) × Nat))) ∧ (s.plot p).sequencing = true ∧ (s.plot p).running = some r ∧ Mo.opcode r.op.img = code ∧ r.done = false ∧ r.fault = none ∧ (s.ctx p r).waits = false ∧ (((s.ctx p r).halos = false ∨ (r.eOk = true ∧ r.wOk = true))) ∧ Mo.walk r.op.img = 0 ∧ r.ahead = none ∧ s.tc (terrOf p) (Mo.tcnt r.op.img) = (v, l) ∧ v ≠ l)
    ∧ (∃ (mk : Nat → Nat → List (Nat × MemEvent) → Instr) (code : Nat) (s : State) (p : Nat) (r : RunOp) (v : _), ((mk, code) ∈ ([(.matmul, 1), (.adaptShrink, 2), (.adaptExpand, 3), (.eltwise, 4), (.table, 5), (.reduce, 6), (.softmaxRows, 7), (.normRows, 8), (.gather, 9), (.scatter, 10), (.conv1d, 11), (.copy, 12), (.pad, 13)] : List ((Nat → Nat → List (Nat × MemEvent) → Instr) × Nat))) ∧ (s.plot p).sequencing = true ∧ (s.plot p).running = some r ∧ Mo.opcode r.op.img = code ∧ r.done = false ∧ r.fault = none ∧ (s.ctx p r).waits = false ∧ (((s.ctx p r).halos = false ∨ (r.eOk = true ∧ r.wOk = true))) ∧ Mo.walk r.op.img = 0 ∧ ((r.ahead = some none ∨ r.ahead = none ∧ s.tc (terrOf p) (Mo.tcnt r.op.img) = (v, v))))
    ∧ (∃ (mk : Nat → Nat → List (Nat × MemEvent) → Instr) (code : Nat) (s : State) (p : Nat) (r : RunOp) (u : _), ((mk, code) ∈ ([(.matmul, 1), (.adaptShrink, 2), (.adaptExpand, 3), (.eltwise, 4), (.table, 5), (.reduce, 6), (.softmaxRows, 7), (.normRows, 8), (.gather, 9), (.scatter, 10), (.conv1d, 11), (.copy, 12), (.pad, 13)] : List ((Nat → Nat → List (Nat × MemEvent) → Instr) × Nat))) ∧ ((s.runTile p r (Mo.tile r.op.img)).plot p).running = some u ∧ (s.plot p).sequencing = true ∧ (s.plot p).running = some r ∧ Mo.opcode r.op.img = code ∧ r.done = false ∧ r.fault = none ∧ (s.ctx p r).waits = false ∧ (((s.ctx p r).halos = false ∨ (r.eOk = true ∧ r.wOk = true))) ∧ Mo.walk r.op.img = 2 ∧ u.fault = none) :=
  ⟨⟨.pad, 13, { onPlot { run := true, running := some ({ padRun 1 with next := 0 }), queue := [padOp] } with tcnt := [(0, (0, 0))] }, 0, { padRun 1 with next := 0 }, by simp, by decide +kernel⟩,
    ⟨.pad, 13, { onPlot { run := true, running := some ({ padRun 1 with next := 1 }), queue := [padOp] } with tcnt := [(0, (0, 0))] }, 0, { padRun 1 with next := 1 }, by simp, by decide +kernel⟩,
    ⟨.pad, 13, { onPlot { run := true, running := some ({ padRun 0 with ahead := some (some 0) }), queue := [padOp] } with tcnt := [(0, (0, 0))] }, 0, { padRun 0 with ahead := some (some 0) }, 0, by simp, by decide +kernel⟩,
    ⟨.pad, 13, { onPlot { run := true, running := some ({ padRun 0 with ahead := none }), queue := [padOp] } with tcnt := [(0, (0, 1))] }, 0, { padRun 0 with ahead := none }, 0, 1, by simp, by decide +kernel⟩,
    ⟨.pad, 13, { onPlot { run := true, running := some ({ padRun 0 with ahead := none }), queue := [padOp] } with tcnt := [(0, (1, 1))] }, 0, { padRun 0 with ahead := none }, 1, by simp, by decide +kernel⟩,
    ⟨.pad, 13, { onPlot { run := true, running := some ({ padRun 2 with next := 0 }), queue := [padOp] } with tcnt := [(0, (0, 0))] }, 0, { padRun 2 with next := 0 }, _, by simp, rfl, by decide +kernel⟩⟩

theorem wit_MacroOpsEnd :
    (∃ (s : State) (p : Nat) (r : RunOp) (o : QOp) (rest : List QOp), (s.plot p).running = some r ∧ r.done = true ∧ r.fault = none ∧ (s.plot p).queue = o :: rest ∧ (s.plot p).stopping = false)
    ∧ (∃ (s : State) (p : Nat) (code : Nat) (r : RunOp) (o : QOp) (rest : List QOp), (s.plot p).running = some r ∧ r.fault = some code ∧ r.incomplete = [] ∧ (s.plot p).queue = o :: rest ∧ (s.plot p).stopping = false)
    ∧ (∃ (s : State) (p : Nat) (scope : Nat) (id : Nat) (r : RunOp), (s.plot p).sequencing = true ∧ (s.plot p).running = some r ∧ (s.plot p).barrier = some (scope, id) ∧ s.scopePlots p scope = [p] ∧ s.atBarrier p scope id = true ∧ s.scopeReissues p scope = false)
    ∧ (∃ (s : State) (p : Nat) (scope : Nat) (id : Nat) (q : Nat) (r : RunOp), q ∈ s.scopePlots p scope ∧ (s.plot p).sequencing = true ∧ (s.plot p).running = some r ∧ (s.plot p).barrier = some (scope, id) ∧ s.atBarrier q scope id = false)
    ∧ (∃ (s : State) (p : Nat) (b : Nat × Nat) (r : RunOp), (s.plot p).barrier = some b ∧ (s.plot p).running = some r)
    ∧ (∃ (s : State) (p : Nat) (img : BitVec 256) (rest : List (BitVec 256)) (t : State) (c : Ctx) (o : TileOut), t = s.setPlot p (Plot.feed { s.plot p with inj := rest }) ∧ c = Ctx.mk' t p img ((s.plot p).descs img) (s.lens p) none ∧ o = Ctx.run { c with s := t.issueStats c } (Mo.tile img) ∧ (s.plot p).inj = img :: rest ∧ (s.plot p).atBoundary = true ∧ (s.plot p).sequencing = true ∧ c.waits = false ∧ c.issueFault true = none ∧ (s.plot p).descUe img = false ∧ o.fault = none ∧ ((o.padS = false ∨ c.padStats.1 = true)))
    ∧ (∃ (s : State) (p : Nat) (code : Nat) (img : BitVec 256) (rest : List (BitVec 256)) (t : State) (c : Ctx), t = s.setPlot p (Plot.feed { s.plot p with inj := rest }) ∧ c = Ctx.mk' t p img ((s.plot p).descs img) (s.lens p) none ∧ (s.plot p).inj = img :: rest ∧ (s.plot p).atBoundary = true ∧ (s.plot p).sequencing = true ∧ c.waits = false ∧ c.issueFault true = some code ∧ code ≠ Code.tileOverflow ∧ t.reissueOf p img = none) :=
  ⟨⟨onPlot { running := some ({ padRun 1 with done := true }), queue := [padOp] }, 0, { padRun 1 with done := true }, padOp, [], by decide +kernel⟩,
    ⟨onPlot { running := some ({ padRun 1 with fault := some Code.sramUe }), queue := [padOp] }, 0, Code.sramUe, { padRun 1 with fault := some Code.sramUe }, padOp, [], by decide +kernel⟩,
    ⟨onPlot { run := true, running := some (padRun 1), queue := [padOp], barrier := some (0, 7) }, 0, 0, 7, padRun 1, by decide +kernel⟩,
    ⟨{ lit with plots := [(0, { run := true, running := some (padRun 1), queue := [padOp], barrier := some (0, 7) }), (1, { run := true })] }, 0, 0, 7, 1, padRun 1, by simp [State.scopePlots, State.plot, Tab.get, terrOf], by decide +kernel⟩,
    ⟨onPlot { run := true, running := some (padRun 1), queue := [padOp], barrier := some (1, 0) }, 0, (1, 0), padRun 1, by decide +kernel⟩,
    ⟨onPlot { run := true, store := desc 0x300000001000, inj := [padImg 2] }, 0, padImg 2, [], _, _, _, rfl, rfl, rfl, by decide +kernel⟩,
    ⟨onPlot { run := true, inj := [padImg 2] }, 0, Code.badDescriptor, padImg 2, [], _, _, rfl, rfl, by decide +kernel⟩⟩

theorem wit_HomesAndColdFrame :
    (∃ (s : State) (r : Nat) (i : Nat), s.target r 5 0x1008 .steward = some i ∧ Tab.get 0 s.acc.homeIdx r < 147456)
    ∧ (∃ (s : State) (g : Nat) (b : Byte), s.homeChange g = some b)
    ∧ (∃ (s : State) (p : Nat) (b : Store) (rest : List Store), (s.plot p).sb = b :: rest ∧ s.homeWaits b.addr = true)
    ∧ (∃ (s : State) (a : Nat), a < 0x4800000000 ∧ (Tab.get 0x80 s.homes (a / 2097152)).getLsbD 7 = false)
    ∧ (∃ (s : State) (a : Nat), (Tab.get 0x80 s.homes (a / 2097152)).getLsbD 7 = true)
    ∧ (∃ (a : Nat), coldBase ≤ a)
    ∧ (∃ (s : State) (page : Nat), s.serving = true ∧ page * 4096 < s.capacity ∧ s.gate.errorState = false ∧ (s.cfm.port (s.coldPort (page * 4096))).lost = false)
    ∧ (∃ (s : State) (port : Nat), (port = 0 ∨ port = 1) ∧ (s.cfm.port port).linked = true ∧ (s.cfm.port port).lost = false ∧ s.serving = true)
    ∧ (∃ (s : State) (port : Nat), (port = 0 ∨ port = 1) ∧ (s.cfm.port port).linked = false ∧ s.serving = true ∧ s.dev.everOpen = false) :=
  ⟨⟨{ lit with acc := { homeIdx := [(72, 147455)] } }, 72, 0, by decide +kernel⟩,
    ⟨{ lit with homeBusy := [(3, 0x85)] }, 3, 0x85, by decide +kernel⟩,
    ⟨{ onPlot { sb := [{ addr := 6291456, bytes := [1] }] } with homeBusy := [(3, 0x85)] }, 0, { addr := 6291456, bytes := [1] }, [], by decide +kernel⟩,
    ⟨{ lit with homes := [(3, 0x05)] }, 6291456, by decide +kernel⟩,
    ⟨lit, 6291456, by decide +kernel⟩,
    ⟨coldBase, by decide +kernel⟩,
    ⟨lit.wr R.cfmCapacity 8192, 1, by decide +kernel⟩,
    ⟨{ lit with cfm := { port1 := { linked := true, raw := 4096 } } }, 1, by decide +kernel⟩,
    ⟨{ lit with dev := { lit.dev with everOpen := false } }, 1, by decide +kernel⟩⟩

theorem wit_AdapterLoads :
    ∃ (s : State) (src : Nat) (cid : Word32) (data : List Byte) (a : AdminCmd) (t : State) (e : DirEnt) (r : AdRec), t = { s with accepted := markStarted src cid 0x10 s.accepted } ∧ e = DirEnt.ofImage (BitVec.ofNat 128 (byteAt a.img 24 16)) ∧ r = AdRec.ofImage (data.take 128) e.anyHash ∧ t.freeSlots ≠ [] ∧ t.freeRecs ≠ [] ∧ t.poolFits r.size ≠ [] ∧ s.findCmd src cid 0x10 = some a ∧ byteAt a.img 40 1 = Loc.hbm.num ∧ byteAt a.img 48 8 = 0 ∧ t.tenantOk src e.tenant.toNat = true ∧ imageFault e (entReserved a.img) (data.take 128) = none ∧ t.sameKey e = none :=
  ⟨{ (lit.wr R.fnTenants 7 0 0).wr R.dirPoolUnits 1 with accepted := [cmd 0 0x10 (7 * 2 ^ 192 + 2 ^ 224)] }, 0, 3, List.replicate 4 0 ++ [1] ++ List.replicate 7 0 ++ [64] ++ List.replicate 115 0, cmd 0 0x10 (7 * 2 ^ 192 + 2 ^ 224), _, _, _, rfl, rfl, rfl, List.ne_nil_of_mem (a := 0) (by simp [State.freeSlots, State.slotUsed, State.ent, State.recsOf, Tab.get, lit, State.reset, State.wr]), List.ne_nil_of_mem (a := 0) (by simp [State.freeRecs, lit, State.reset, State.wr]), by decide +kernel, by decide +kernel⟩

theorem wit_AdapterCommands :
    (∃ (s : State) (i : Nat), s.blobGood (s.adrec i) = true ∧ (s.adrec i).vst = .loading)
    ∧ (∃ (s : State) (t : State) (src : Nat) (slot : Nat) (cid : Word32) (a : AdminCmd), t = { s with accepted := markStarted src cid 0x11 s.accepted } ∧ s.findCmd src cid 0x11 = some a ∧ t.named src a.img = some slot ∧ (t.ent slot).dead = false)
    ∧ (∃ (s : State) (t : State) (src : Nat) (slot : Nat) (cid : Word32) (a : AdminCmd), t = { s with accepted := markStarted src cid 0x14 s.accepted } ∧ s.findCmd src cid 0x14 = some a ∧ t.named src a.img = some slot ∧ (t.ent slot).dead = false)
    ∧ (∃ (s : State) (t : State) (src : Nat) (slot : Nat) (cid : Word32) (a : AdminCmd), t = { s with accepted := markStarted src cid 0x12 s.accepted } ∧ s.findCmd src cid 0x12 = some a ∧ t.named src a.img = some slot)
    ∧ (∃ (s : State) (t : State) (u : State) (src : Nat) (slot : Nat) (i : Nat) (cid : Word32) (a : AdminCmd) (want : Loc), t = { s with accepted := markStarted src cid 0x13 s.accepted } ∧ t.placeRec i want = some u ∧ s.findCmd src cid 0x13 = some a ∧ t.named src a.img = some slot ∧ Loc.ofNum (byteAt a.img 36 1) = some want ∧ ((t.recsOf slot).find? fun i => (t.adrec i).version.toNat == byteAt a.img 32 4 && (t.adrec i).vst != .loading) = some i)
    ∧ (∃ (s : State) (src : Nat) (cid : Word32), s.findCmd src cid 0x11 = none ∧ s.findCmd src cid 0x40 = none) :=
  ⟨⟨{ lit with recs := [(9, { vst := .loading, digest := Config.sha384 [] })] }, 9, by simp [State.blobGood, State.adrec, State.blob, Tab.get, Mem.read, State.poisoned, linesOf, lit], by decide +kernel⟩,
    ⟨{ lit.wr R.fnTenants 7 0 0 with accepted := [cmd 0 0x11 (5 * 2 ^ 192 + 7 * 2 ^ 224)], dir := [(5, { tenant := 7, st := .live })] }, _, 0, 5, 3, cmd 0 0x11 (5 * 2 ^ 192 + 7 * 2 ^ 224), rfl, by decide +kernel⟩,
    ⟨{ lit.wr R.fnTenants 7 0 0 with accepted := [cmd 0 0x14 (5 * 2 ^ 192 + 7 * 2 ^ 224 + 15 * 2 ^ 256)], dir := [(5, { tenant := 7, st := .live })] }, _, 0, 5, 3, cmd 0 0x14 (5 * 2 ^ 192 + 7 * 2 ^ 224 + 15 * 2 ^ 256), rfl, by decide +kernel⟩,
    ⟨{ lit.wr R.fnTenants 7 0 0 with accepted := [cmd 0 0x12 (5 * 2 ^ 192 + 7 * 2 ^ 224)], dir := [(5, { tenant := 7, st := .live })] }, _, 0, 5, 3, cmd 0 0x12 (5 * 2 ^ 192 + 7 * 2 ^ 224), rfl, by decide +kernel⟩,
    ⟨{ lit.wr R.fnTenants 7 0 0 with accepted := [cmd 0 0x13 (5 * 2 ^ 192 + 7 * 2 ^ 224 + 2 ^ 256)], dir := [(5, { tenant := 7, st := .live })], recs := [(9, { tenant := 7, slot := 5, version := 1, vst := .current })] }, _, _, 0, 5, 9, 3, cmd 0 0x13 (5 * 2 ^ 192 + 7 * 2 ^ 224 + 2 ^ 256), .hbm, rfl, rfl, by decide +kernel⟩,
    ⟨lit, 0, 3, by decide +kernel⟩⟩

theorem wit_FlipMakesCurrent :
    ∃ (s : State) (due : List Nat) (i : Nat), (s.adrec i).vst = .staged ∧ (s.ent (s.adrec i).slot).dead = false ∧ s.overtaken due i = false ∧ (s.ent (s.adrec i).slot).st = .live ∧ (s.ent (s.adrec i).slot).cur ≠ i ∧ (s.adrec (s.ent (s.adrec i).slot).cur).vst = .current ∧ (s.adrec (s.ent (s.adrec i).slot).cur).version < (s.adrec i).version ∧ (s.adrec (s.ent (s.adrec i).slot).cur).pins ≠ 0 ∧ (s.adrec i).load = none :=
  ⟨{ lit with dir := [(5, { st := .live, cur := 8 })], recs := [(8, { slot := 5, version := 1, vst := .current, pins := 1 }), (9, { slot := 5, version := 2, vst := .staged })] }, [9], 9, by decide +kernel⟩

theorem wit_DirectoryMatchOrder :
    ∃ (s : State) (tenant : Nat) (hash : Nat) (model : Nat) (layer : Nat) (k : Nat), Tab.Rises s.dir ∧ (s.dirMatch tenant hash model layer).1 = some k :=
  ⟨{ lit with dir := [(5, { tenant := 7, hash := 1, modelMask := 1, st := .live })] }, 7, 1, 0, 0, 5, by unfold Tab.Rises; decide +kernel, by decide +kernel⟩

theorem wit_SelectionObjects :
    (∃ (c : Instr) (op : Nat) (g : Bool) (s : State) (t : State) (src : Nat) (cid : Word32) (data : List Byte) (a : AdminCmd) (e : Model), t = { s with accepted := markStarted src cid op s.accepted } ∧ (c, op, g) ∈ ([(.listLoad src cid data true, 0x20, false), (.grammarLoad src cid data true, 0x21, true)] : List (Instr × Nat × Bool)) ∧ s.findCmd src cid op = some a ∧ byteAt a.img 25 1 < 8 ∧ t.defined (byteAt a.img 25 1) = true ∧ t.model (byteAt a.img 25 1) (byteAt a.img 24 1) = some e ∧ Ad.dataLen a.img ≤ data.length ∧ (if g then grammarGood e.vocab (data.take (Ad.dataLen a.img)) else listGood e.vocab (data.take (Ad.dataLen a.img))) = true ∧ t.objs.length < 4096 ∧ t.nextHandle < 2 ^ 32 ∧ Ad.dataLen a.img ≤ 67108864 ∧ t.objFits (Ad.dataLen a.img) ≠ [])
    ∧ (∃ (s : State) (t : State) (src : Nat) (cid : Word32) (a : AdminCmd), t = { s with accepted := markStarted src cid 0x22 s.accepted } ∧ s.findCmd src cid 0x22 = some a ∧ t.hasObj (byteAt a.img 24 4) = true ∧ (t.obj (byteAt a.img 24 4)).fn = src ∧ (t.obj (byteAt a.img 24 4)).retiring = false ∧ (t.obj (byteAt a.img 24 4)).pins = 0)
    ∧ (∃ (s : State) (t : State) (src : Nat) (cid : Word32) (a : AdminCmd), t = { s with accepted := markStarted src cid 0x22 s.accepted } ∧ s.findCmd src cid 0x22 = some a ∧ t.hasObj (byteAt a.img 24 4) = true ∧ (t.obj (byteAt a.img 24 4)).fn = src ∧ (t.obj (byteAt a.img 24 4)).retiring = false ∧ (t.obj (byteAt a.img 24 4)).pins ≠ 0) :=
  ⟨⟨.listLoad 0 3 (List.replicate 64 0) true, 0x20, false, { (lit.wr R.terraces 1).wr R.objSize 64 with accepted := [cmd 0 0x20 (64 * 2 ^ 128)], boot := { models := [{ }] } }, _, 0, 3, List.replicate 64 0, cmd 0 0x20 (64 * 2 ^ 128), { }, rfl, by decide +kernel⟩,
    ⟨{ lit with accepted := [cmd 0 0x22 (9 * 2 ^ 192)], objs := [(9, { })] }, _, 0, 3, cmd 0 0x22 (9 * 2 ^ 192), rfl, by decide +kernel⟩,
    ⟨{ lit with accepted := [cmd 0 0x22 (9 * 2 ^ 192)], objs := [(9, { pins := 1 })] }, _, 0, 3, cmd 0 0x22 (9 * 2 ^ 192), rfl, by decide +kernel⟩⟩

theorem wit_Doorbells :
    (∃ (s : State) (fn : Nat) (q : Nat) (v : Word32), q ≠ 0 ∧ s.hostUp = true ∧ (s.qp (fn * 16 + q)).live = true ∧ v.toNat ≠ (s.qp (fn * 16 + q)).sqTail ∧ v.toNat < s.rd R.sqSize (fn * 16 + q))
    ∧ (∃ (s : State) (fn : Nat) (v : Word32), fn < 64 ∧ s.hostUp = true ∧ (s.qp (fn * 16)).live = true ∧ v.toNat ≠ (s.qp (fn * 16)).sqTail ∧ v.toNat < s.rd R.sqSize (fn * 16))
    ∧ (∃ (s : State) (fn : Nat) (q : Nat) (v : Word32), s.hostUp = true ∧ (s.qp (fn * 16 + q)).live = true ∧ v.toNat ≠ (s.qp (fn * 16 + q)).sqTail ∧ s.rd R.sqSize (fn * 16 + q) ≤ v.toNat)
    ∧ (∃ (s : State) (fn : Nat) (q : Nat) (n : Nat) (h : Nat) (d : Nat) (x : Qp) (v : Word32), x = s.qp (fn * 16 + q) ∧ n = s.rd R.cqSize (fn * 16 + q) ∧ h = v.toNat ∧ d = (h + n - x.cqHead) % n ∧ s.hostUp = true ∧ x.st = .enabled ∧ h < n ∧ d ≤ (x.cqTail + n - x.cqHead) % n)
    ∧ (∃ (s : State) (fn : Nat) (q : Nat) (n : Nat) (h : Nat) (x : Qp) (v : Word32), x = s.qp (fn * 16 + q) ∧ n = s.rd R.cqSize (fn * 16 + q) ∧ h = v.toNat ∧ s.hostUp = true ∧ x.st = .enabled ∧ (n ≤ h ∨ 0 < n ∧ (x.cqTail + n - x.cqHead) % n < (h + n - x.cqHead) % n)) :=
  ⟨⟨{ lit.wr R.sqSize 64 17 with qps := [(17, { st := .enabled })] }, 1, 1, 63, by decide +kernel⟩,
    ⟨{ lit.wr R.sqSize 64 1008 with qps := [(1008, { st := .enabled })] }, 63, 63, by decide +kernel⟩,
    ⟨{ lit.wr R.sqSize 64 17 with qps := [(17, { st := .enabled })] }, 1, 1, 64, by decide +kernel⟩,
    ⟨{ lit.wr R.cqSize 64 17 with qps := [(17, { st := .enabled, cqTail := 63 })] }, 1, 1, _, _, _, _, 63, rfl, rfl, rfl, rfl, by decide +kernel⟩,
    ⟨{ lit.wr R.cqSize 64 17 with qps := [(17, { st := .enabled })] }, 1, 1, _, _, _, 64, rfl, rfl, rfl, by decide +kernel⟩⟩

theorem wit_QueuePairs :
    (∃ (s : State) (r : Nat) (k : Nat), s.target r 16 0x100 .any = some k ∧ (s.qp k).st = .disabled)
    ∧ (∃ (s : State) (r : Nat) (k : Nat), s.target r 16 0x100 .any = some k ∧ (s.qp k).st = .enabled ∧ (s.qp k).draining = false ∧ s.reqsOfQueue k = [])
    ∧ (∃ (s : State) (r : Nat) (k : Nat), s.target r 16 0x100 .any = some k ∧ (s.qp k).st = .error)
    ∧ (∃ (s : State) (fn : Nat) (q : Nat), (s.qp (fn * 16 + q)).draining = true ∧ (s.qp (fn * 16 + q)).evbuf = [])
    ∧ (∃ (s : State) (fn : Nat) (q : Nat) (k : Nat) (n : Nat) (nx : Nat) (e : Ev) (rest : List Ev), n = s.rd R.cqSize k ∧ nx = (if n ≤ (s.qp k).cqTail + 1 then 0 else (s.qp k).cqTail + 1) ∧ q < 16 ∧ k = fn * 16 + q ∧ (s.qp k).evbuf = e :: rest ∧ (s.qp k).st = .enabled ∧ s.serving = true ∧ s.barsUp = true ∧ nx ≠ (s.qp k).cqHead)
    ∧ (∃ (s : State) (fn : Nat) (q : Nat) (k : Nat) (x : Nat), q < 16 ∧ k = fn * 16 + q ∧ (s.qp k).written.head? = some x ∧ (s.qp k).st = .enabled ∧ (s.qp k).fired = false ∧ (s.rd R.coalTime k : Int) ≤ tkFrom x s.time ∧ s.dev.st ≠ .shuttered)
    ∧ (∃ (s : State) (fn : Nat) (vec : Nat), s.hostUp = true ∧ s.masked fn vec = true ∧ Tab.get false s.msixPend (fn * 32 + vec) = true ∧ s.dev.st ≠ .shuttered) :=
  ⟨⟨lit, 1, 16, by decide +kernel⟩,
    ⟨{ lit with qps := [(16, { st := .enabled })] }, 1, 16, by decide +kernel⟩,
    ⟨{ lit with qps := [(16, { st := .error })] }, 1, 16, by decide +kernel⟩,
    ⟨{ lit with qps := [(17, { draining := true })] }, 1, 1, by decide +kernel⟩,
    ⟨{ (lit.wr R.cqSize 64 17).wr R.coalCount 2 17 with qps := [(17, { st := .enabled, evbuf := [{ }] })] }, 1, 1, 17, _, _, { }, [], rfl, rfl, by decide +kernel⟩,
    ⟨{ lit.wr R.coalTime 5 17 with time := 8, qps := [(17, { st := .enabled, written := [3, 5] })] }, 1, 1, 17, 3, by decide +kernel⟩,
    ⟨{ lit with msixPend := [(35, true)] }, 1, 3, by decide +kernel⟩⟩

theorem wit_Admission :
    (∃ (s : State) (fn : Nat) (q : Nat) (k : Nat) (p : Nat) (d : BitVec 1024), p = s.rd R.qpPavilion k ∧ d = Tab.get 0 (s.qp k).ring (s.qp k).sqHead ∧ q < 16 ∧ k = fn * 16 + q ∧ s.deciding k = true ∧ s.before (turnAt s.time 5 0) = [] ∧ (s.pav p).st ≠ .loading ∧ s.upd.gateDown = false ∧ s.cancels.contains (k * 256 + (s.qp k).sqHead) = false ∧ 1 < s.rd R.sqSize k ∧ s.badRequest k d = true)
    ∧ (∃ (s : State) (fn : Nat) (q : Nat) (k : Nat) (p : Nat) (d : BitVec 1024), p = s.rd R.qpPavilion k ∧ d = Tab.get 0 (s.qp k).ring (s.qp k).sqHead ∧ q < 16 ∧ k = fn * 16 + q ∧ s.deciding k = true ∧ s.before (turnAt s.time 5 0) = [] ∧ (s.pav p).st ≠ .loading ∧ s.upd.gateDown = false ∧ s.cancels.contains (k * 256 + (s.qp k).sqHead) = false ∧ 1 < s.rd R.sqSize k ∧ s.badRequest k d = false ∧ Rd.pavilion d = p ∧ s.tenantOk fn (Rd.tenant d) = true ∧ s.route fn (Rd.tenant d) (Rd.model d) p = some (true, false) ∧ s.laterReject fn p d = none ∧ s.fullPav p = false ∧ s.evictFor p (8 * 32768) (cdiv (Rd.promptLen d) 16) (s.evictable p) = s ∧ s.roomFor p (8 * 32768) (cdiv (Rd.promptLen d) 16) (if s.drafting p then cdiv (Rd.promptLen d) 16 else 0) = true ∧ s.rd R.admitStrict p = 0 ∧ s.freeSlotsOf p ≠ [] ∧ Rd.seed d ≠ 0)
    ∧ (∃ (s : State) (fn : Nat) (q : Nat) (k : Nat) (p : Nat) (d : BitVec 1024), p = s.rd R.qpPavilion k ∧ d = Tab.get 0 (s.qp k).ring (s.qp k).sqHead ∧ q < 16 ∧ k = fn * 16 + q ∧ q ≠ 0 ∧ (s.qp k).live = true ∧ (s.qp k).sqHead ≠ (s.qp k).sqTail ∧ (s.pav p).st = .loading ∧ (s.rd R.holdLimit p : Int) ≤ tkFrom (Tab.get 0 (s.qp k).posted (s.qp k).sqHead) s.time ∧ s.cancels.contains (k * 256 + (s.qp k).sqHead) = false ∧ s.earlyReject k d = none ∧ s.dev.st ≠ .shuttered)
    ∧ (∃ (s : State) (fn : Nat) (q : Nat) (k : Nat) (d : BitVec 1024), d = Tab.get 0 (s.qp k).ring (s.qp k).sqHead ∧ k = fn * 16 + q ∧ s.deciding k = true ∧ s.before (turnAt s.time 5 0) = [] ∧ (s.pav (s.rd R.qpPavilion k)).st = .loading ∧ s.cancels.contains (k * 256 + (s.qp k).sqHead) = false ∧ s.earlyReject k d = none)
    ∧ (∃ (s : State) (w : State) (fn : Nat) (q : Nat) (k : Nat) (c : Nat) (d : BitVec 1024), c = k * 256 + (s.qp k).sqHead ∧ d = Tab.get 0 (s.qp k).ring (s.qp k).sqHead ∧ w = s.decideLive k d ∧ q < 16 ∧ k = fn * 16 + q ∧ s.deciding k = true ∧ s.before (turnAt s.time 5 0) = [] ∧ s.cancels.contains c = true ∧ 1 < s.rd R.sqSize k ∧ s.sdl.cancelled.contains c = false)
    ∧ (∃ (s : State) (w : State) (fn : Nat) (q : Nat) (k : Nat) (c : Nat) (d : BitVec 1024), c = k * 256 + (s.qp k).sqHead ∧ d = Tab.get 0 (s.qp k).ring (s.qp k).sqHead ∧ w = s.decideLive k d ∧ Tab.Rises w.reqs ∧ q < 16 ∧ k = fn * 16 + q ∧ s.deciding k = true ∧ s.before (turnAt s.time 5 0) = [] ∧ s.cancels.contains c = true ∧ 1 < s.rd R.sqSize k ∧ s.sdl.cancelled.contains c = true ∧ w.admitSeq ≠ s.admitSeq)
    ∧ (∃ (s : State) (fn : Nat) (q : Nat) (p : Nat) (g : Nat), p = s.rd R.qpPavilion (fn * 16 + q) ∧ fn < 64 ∧ g < 64 ∧ g ≠ fn ∧ q < 16 ∧ (s.pav p).turnFn = fn ∧ (s.pav p).turnN = 8 ∧ s.fnWaits p g = true) :=
  ⟨⟨{ open0.wr R.sqSize 64 17 with time := 1, qps := [(17, { st := .enabled, sqTail := 1, ring := [(0, 0)] })] }, 1, 1, 17, _, _, rfl, rfl, by decide +kernel⟩,
    ⟨{ ((((open0.wr R.maxCtx 2).wr R.poolPages 1).wr R.maxResident 1).wr R.fnTenants 7 1).wr R.sqSize 64 17 with time := 1, qps := [(17, { st := .enabled, sqTail := 1, ring := [(0, (ask ||| BitVec.ofNat 1024 (5 * 2 ^ 256)))] })] }, 1, 1, 17, _, _, rfl, rfl, by decide +kernel⟩,
    ⟨{ (((((open0.wr R.maxCtx 2).wr R.poolPages 1).wr R.maxResident 1).wr R.fnTenants 7 1).wr R.sqSize 64 17).wr R.holdLimit 5 with time := 5, pavs := [(0, { st := .loading })], qps := [(17, { st := .enabled, sqTail := 1, ring := [(0, ask)] })] }, 1, 1, 17, _, _, rfl, rfl, by decide +kernel⟩,
    ⟨{ ((((open0.wr R.maxCtx 2).wr R.poolPages 1).wr R.maxResident 1).wr R.fnTenants 7 1).wr R.sqSize 64 17 with time := 1, pavs := [(0, { st := .loading })], qps := [(17, { st := .enabled, sqTail := 1, ring := [(0, ask)] })] }, 1, 1, 17, _, rfl, by decide +kernel⟩,
    ⟨{ ((((open0.wr R.maxCtx 2).wr R.poolPages 1).wr R.maxResident 1).wr R.fnTenants 7 1).wr R.sqSize 64 17 with time := 1, cancels := [4352], pavs := [(0, { st := .loading })], qps := [(17, { st := .enabled, sqTail := 1, ring := [(0, ask)] })] }, _, 1, 1, 17, _, _, rfl, rfl, rfl, by decide +kernel⟩,
    ⟨{ ((((open0.wr R.maxCtx 2).wr R.poolPages 1).wr R.maxResident 1).wr R.fnTenants 7 1).wr R.sqSize 64 17 with time := 1, cancels := [4352], sdl := { cancelled := [4352] }, qps := [(17, { st := .enabled, sqTail := 1, ring := [(0, (ask ||| BitVec.ofNat 1024 (5 * 2 ^ 256)))] })] }, _, 1, 1, 17, _, _, rfl, rfl, rfl, by unfold Tab.Rises; decide +kernel, by decide +kernel⟩,
    ⟨{ open0 with qps := [(33, { st := .enabled, sqTail := 1 })], pavs := [(0, { st := .opened, turnFn := 1, turnN := 8 })] }, 1, 1, _, 2, rfl, by decide +kernel⟩⟩

theorem wit_RequestEvents :
    (∃ (s : State) (i : Nat) (tokens : List Word32), (∀ x ∈ tokens, x.toNat < ((s.model (s.req i).pav (s.req i).model).map (·.vocab)).getD 0) ∧ s.hasReq i = true ∧ (s.req i).phase = .fetching ∧ (s.model (s.req i).pav (s.req i).model).isSome = true ∧ tokens.length = Rd.promptLen (s.req i).desc)
    ∧ (∃ (s : State) (i : Nat) (tokens : List Word32), ((tokens.length < Rd.promptLen (s.req i).desc ∨ (∃ x ∈ tokens.take (Rd.promptLen (s.req i).desc), ((s.model (s.req i).pav (s.req i).model).map (·.vocab)).getD 0 ≤ x.toNat))) ∧ s.hasReq i = true ∧ (s.req i).phase = .fetching ∧ (s.req i).ending = none)
    ∧ (∃ (s : State) (i : Nat), s.hasReq i = true ∧ s.rd R.ageLimit (s.req i).pav ≠ 0 ∧ 2 ≤ Rd.cls (s.req i).desc ∧ (s.stepReqs (s.req i).pav).contains i = false ∧ (s.rd R.ageLimit (s.req i).pav : Int) ≤ tkFrom (s.req i).sched.noRow s.time)
    ∧ (∃ (s : State) (i : Nat) (d : Nat), s.hasReq i = true ∧ (s.req i).deadline = some d ∧ d ≤ s.time ∧ (s.req i).ending = none ∧ (s.req i).report.deadlineMissed = false ∧ s.before (turnAt d 6 i) = [])
    ∧ (∃ (s : State) (t : State) (src : Nat) (id : Nat) (cid : Word32) (a : AdminCmd) (rs : List Nat) (us : List Nat), Tab.Rises s.reqs ∧ t = { s with accepted := markStarted src cid 0x50 s.accepted } ∧ id = byteAt a.img 24 8 ∧ rs = (t.reqs.filter fun e => e.2.fn == src && e.2.id == id && e.2.ending.isNone).map (·.1) ∧ us = (t.undecided src id).filter (fun x => !t.cancels.contains x) ∧ s.findCmd src cid 0x50 = some a) :=
  ⟨⟨{ open0 with reqs := [(5, { fn := 1, desc := ask, phase := .fetching })] }, 5, [1], by intro x hx; simp at hx; subst hx; decide +kernel, by decide +kernel⟩,
    ⟨{ open0 with reqs := [(5, { fn := 1, desc := ask, phase := .fetching })] }, 5, [], .inl (by decide +kernel), by decide +kernel⟩,
    ⟨{ open0.wr R.ageLimit 10 with time := 10, reqs := [(5, { desc := BitVec.ofNat 1024 (2 * 2 ^ 80), phase := .ready })] }, 5, by decide +kernel⟩,
    ⟨{ open0 with reqs := [(5, { fn := 1, desc := ask, deadline := some 9 })], time := 9 }, 5, 9, by decide +kernel⟩,
    ⟨{ lit with accepted := [cmd 1 0x50 (9 * 2 ^ 192)], reqs := [(5, { fn := 1, desc := 9 })] }, _, 1, _, 3, cmd 1 0x50 (9 * 2 ^ 192), _, _, by unfold Tab.Rises; decide +kernel, rfl, rfl, rfl, rfl, by decide +kernel⟩⟩

theorem wit_KvPages :
    (∃ (s0 : State) (s : State) (evs : List (Nat × MemEvent)) (i : Nat) (j : Nat) (g : Nat) (n : Nat) (d : Bool), s = s0.hbmEvents evs ∧ n = s.poolPageBytes (s.req i).pav d ∧ (s.req i).phase = .spilling ∧ (s.req i).nextSpill = some (j, d, g) ∧ s.poisoned (s.pageAddr g) n = false ∧ s.spanWaits (s.pageAddr g) n = false ∧ s.gate.errorState = false ∧ s.coldFits n ≠ [] ∧ s.cfm.port0.lost = false ∧ s.cfm.port1.lost = false)
    ∧ (∃ (s : State) (i : Nat), s.hasReq i = true ∧ (s.req i).phase = .pagingIn ∧ (s.req i).spill = [])
    ∧ (∃ (s : State) (i : Nat) (e : SpPage) (rest : List SpPage), ((e.draft = false → 1 + s.reservedBut (s.req i).pav i ≤ (s.freePages (s.req i).pav false).length)) ∧ s.hasReq i = true ∧ (s.req i).phase = .pagingIn ∧ (s.req i).spill = e :: rest ∧ rest ≠ [] ∧ e ∉ rest ∧ s.poisoned e.coldAt e.size = false ∧ (s.freePages (s.req i).pav e.draft) ≠ [])
    ∧ (∃ (s : State), Tab.Rises s.reqs ∧ s.ttlDue = true ∧ s.before (turnAt s.time 7 0) = []) :=
  ⟨⟨{ open0.wr R.cfmCapacity 4096 with reqs := [(5, { fn := 1, desc := ask, phase := .spilling, pages := [some 0] })] }, _, [], 5, 0, 0, _, false, rfl, rfl, by decide +kernel⟩,
    ⟨{ open0 with reqs := [(5, { fn := 1, desc := ask, phase := .pagingIn })] }, 5, by decide +kernel⟩,
    ⟨{ open0.wr R.draftPoolPages 1 with reqs := [(5, { fn := 1, desc := ask, phase := .pagingIn, spill := [{ j := 0, draft := true }, { j := 1 }] })] }, 5, { j := 0, draft := true }, [{ j := 1 }], fun h => Bool.noConfusion h, by decide +kernel⟩,
    ⟨{ lit with time := 65536, reqs := [(5, { phase := .spilled, expiry := some 65536 })] }, by unfold Tab.Rises; decide +kernel, by decide +kernel⟩⟩

theorem wit_SelectionRows :
    (∃ (s : State) (i : Nat) (t : Nat) (logits : List Word32), ((Rd.handle (s.req i).desc = 0 ∨ s.poisoned (s.obj (Rd.handle (s.req i).desc)).addr (s.obj (Rd.handle (s.req i).desc)).size = false)) ∧ s.hasReq i = true ∧ s.ends (s.req i) = true ∧ (s.req i).maskEmpty = false ∧ (s.req i).decided (s.stopsOf (s.req i)) = false ∧ s.choose (s.req i) (s.req i).draws 1 logits = some t)
    ∧ (∃ (s : State) (i : Nat) (t : Nat) (logits : List Word32), ((Rd.handle (s.req i).desc = 0 ∨ s.poisoned (s.obj (Rd.handle (s.req i).desc)).addr (s.obj (Rd.handle (s.req i).desc)).size = false)) ∧ s.hasReq i = true ∧ s.ends (s.req i) = true ∧ (s.req i).draws = [] ∧ (s.req i).draftStopped = false ∧ (s.req i).drafts.length < (s.req i).sched.depth ∧ s.choose (s.req i) (s.req i).drafts 2 logits = some t)
    ∧ (∃ (s : State) (i : Nat) (logits : List Word32), ((Rd.handle (s.req i).desc = 0 ∨ s.poisoned (s.obj (Rd.handle (s.req i).desc)).addr (s.obj (Rd.handle (s.req i).desc)).size = false)) ∧ s.hasReq i = true ∧ s.ends (s.req i) = true ∧ (s.req i).maskEmpty = false ∧ (s.req i).decided (s.stopsOf (s.req i)) = false ∧ s.choose (s.req i) (s.req i).draws 1 logits = none ∧ (s.req i).ending = none)
    ∧ (∃ (s : State) (i : Nat) (h : Nat), Tab.Rises s.reqs ∧ h = Rd.handle (s.req i).desc ∧ s.hasReq i = true ∧ s.ends (s.req i) = true ∧ (s.req i).maskEmpty = false ∧ (s.req i).decided (s.stopsOf (s.req i)) = false ∧ h ≠ 0 ∧ s.poisoned (s.obj h).addr (s.obj h).size = true) :=
  ⟨⟨{ open0 with reqs := [(5, { fn := 1, desc := ask, phase := .running })] }, 5, 1, [0, 0x3F800000], .inl (by decide +kernel), by decide +kernel⟩,
    ⟨{ open0 with reqs := [(5, { fn := 1, desc := ask, phase := .running, sched := { depth := 1 } })] }, 5, 1, [0, 0x3F800000], .inl (by decide +kernel), by decide +kernel⟩,
    ⟨{ open0 with objs := [(9, { vocab := 2 })], reqs := [(5, { fn := 1, desc := ask ||| BitVec.ofNat 1024 (9 * 2 ^ 320), phase := .running })] }, 5, [0, 0x3F800000], .inr (by decide +kernel), by decide +kernel⟩,
    ⟨{ open0 with poison := [0], objs := [(9, { vocab := 2, size := 64 })], reqs := [(5, { fn := 1, desc := ask ||| BitVec.ofNat 1024 (9 * 2 ^ 320), phase := .running })] }, 5, _, by unfold Tab.Rises; decide +kernel, rfl, by decide +kernel⟩⟩

theorem wit_CommitPoints :
    (∃ (s : State) (i : Nat), s.hasReq i = true ∧ s.ends (s.req i) = true ∧ (s.pav (s.req i).pav).st ≠ .closed ∧ (s.req i).poisoned = true)
    ∧ (∃ (s : State) (i : Nat) (r : Req) (toks : List Nat), r = s.req i ∧ ((r.sched.depth ≤ r.drafts.length ∨ r.prefill = true)) ∧ toks = commitOf (s.stopsOf r) r.draws (Rd.maxTokens r.desc - r.out.length) ∧ s.hasReq i = true ∧ s.ends r = true ∧ (s.pav r.pav).st ≠ .closed ∧ r.poisoned = false ∧ r.decided (s.stopsOf r) = true) :=
  ⟨⟨{ open0 with reqs := [(5, { fn := 1, desc := ask, phase := .running, poisoned := true })] }, 5, by decide +kernel⟩,
    ⟨{ open0 with reqs := [(5, { fn := 1, desc := ask, phase := .running, draws := [1] })] }, 5, _, _, rfl, .inl (by decide +kernel), rfl, by decide +kernel⟩⟩

theorem wit_PavilionStates :
    (∃ (s : State) (t : State) (src : Nat) (p : Nat) (cid : Word32) (a : AdminCmd), t = { s with accepted := markStarted src cid 0x40 s.accepted } ∧ p = byteAt a.img 24 1 ∧ s.findCmd src cid 0x40 = some a ∧ pfRights src = true ∧ 8 ≤ p)
    ∧ (∃ (s : State) (t : State) (src : Nat) (p : Nat) (cid : Word32) (a : AdminCmd), t = { s with accepted := markStarted src cid 0x40 s.accepted } ∧ p = byteAt a.img 24 1 ∧ s.findCmd src cid 0x40 = some a ∧ pfRights src = true ∧ p < 8 ∧ (t.pav p).st = .closed ∧ t.defined p = false)
    ∧ (∃ (s : State) (t : State) (src : Nat) (p : Nat) (cid : Word32) (a : AdminCmd), t = { s with accepted := markStarted src cid 0x40 s.accepted } ∧ p = byteAt a.img 24 1 ∧ s.findCmd src cid 0x40 = some a ∧ pfRights src = true ∧ p < 8 ∧ (t.pav p).st = .closed ∧ t.defined p = true ∧ (t.servTerrs p).isEmpty = false)
    ∧ (∃ (s : State) (t : State) (src : Nat) (p : Nat) (cid : Word32) (a : AdminCmd), t = { s with accepted := markStarted src cid 0x40 s.accepted } ∧ p = byteAt a.img 24 1 ∧ s.findCmd src cid 0x40 = some a ∧ pfRights src = true ∧ p < 8 ∧ (t.pav p).st = .draining)
    ∧ (∃ (s : State) (t : State) (src : Nat) (p : Nat) (cid : Word32) (a : AdminCmd), t = { s with accepted := markStarted src cid 0x40 s.accepted } ∧ p = byteAt a.img 24 1 ∧ ((t.pav p).st = .opened ∨ (t.pav p).st = .loading ∨ (t.pav p).st = .swapping) ∧ s.findCmd src cid 0x40 = some a ∧ pfRights src = true ∧ p < 8)
    ∧ (∃ (s : State) (t : State) (src : Nat) (p : Nat) (cid : Word32) (a : AdminCmd), t = { s with accepted := markStarted src cid 0x41 s.accepted } ∧ p = byteAt a.img 24 1 ∧ s.findCmd src cid 0x41 = some a ∧ pfRights src = true ∧ p < 8 ∧ (t.pav p).st = .opened ∧ t.residents p ≠ [])
    ∧ (∃ (s : State) (t : State) (src : Nat) (p : Nat) (cid : Word32) (a : AdminCmd), t = { s with accepted := markStarted src cid 0x41 s.accepted } ∧ p = byteAt a.img 24 1 ∧ s.findCmd src cid 0x41 = some a ∧ pfRights src = true ∧ p < 8 ∧ (t.pav p).st = .opened ∧ t.residents p = [])
    ∧ (∃ (s : State) (t : State) (src : Nat) (p : Nat) (cid : Word32) (a : AdminCmd), t = { s with accepted := markStarted src cid 0x41 s.accepted } ∧ p = byteAt a.img 24 1 ∧ s.findCmd src cid 0x41 = some a ∧ pfRights src = true ∧ p < 8 ∧ (t.pav p).st ≠ .opened)
    ∧ (∃ (s : State) (c : Instr) (src : Nat) (op : Nat) (cid : Word32) (a : AdminCmd), (c, op) ∈ ([(.pavOpen src cid, 0x40), (.pavDrain src cid, 0x41)] : List (Instr × Nat)) ∧ s.findCmd src cid op = some a ∧ pfRights src = false)
    ∧ (∃ (s : State) (p : Nat), (s.pav p).st = .draining ∧ (s.rd R.drainLimit p : Int) ≤ tkFrom (s.pav p).since s.time)
    ∧ (∃ (p : Nat) (j : _), j ≠ p) :=
  ⟨⟨{ open0 with accepted := [cmd 0 0x40 (8 * 2 ^ 192)], pavs := [(0, { st := .closed })] }, _, 0, _, 3, cmd 0 0x40 (8 * 2 ^ 192), rfl, rfl, by decide +kernel⟩,
    ⟨{ open0 with accepted := [cmd 0 0x40 (7 * 2 ^ 192)], pavs := [(0, { st := .closed })] }, _, 0, _, 3, cmd 0 0x40 (7 * 2 ^ 192), rfl, rfl, by decide +kernel⟩,
    ⟨{ open0 with accepted := [cmd 0 0x40 (0 * 2 ^ 192)], pavs := [(0, { st := .closed })] }, _, 0, _, 3, cmd 0 0x40 (0 * 2 ^ 192), rfl, rfl, by decide +kernel⟩,
    ⟨{ open0 with accepted := [cmd 64 0x40 (0 * 2 ^ 192)], pavs := [(0, { st := .draining })] }, _, 64, _, 3, cmd 64 0x40 (0 * 2 ^ 192), rfl, rfl, by decide +kernel⟩,
    ⟨{ open0 with accepted := [cmd 0 0x40 (0 * 2 ^ 192)], pavs := [(0, { st := .swapping })] }, _, 0, _, 3, cmd 0 0x40 (0 * 2 ^ 192), rfl, rfl, by decide +kernel, by decide +kernel⟩,
    ⟨{ open0 with accepted := [cmd 0 0x41 (0 * 2 ^ 192)], pavs := [(0, { st := .opened })], reqs := [(5, {})] }, _, 0, _, 3, cmd 0 0x41 (0 * 2 ^ 192), rfl, rfl, by decide +kernel⟩,
    ⟨{ open0 with accepted := [cmd 0 0x41 (0 * 2 ^ 192)], pavs := [(0, { st := .opened })] }, _, 0, _, 3, cmd 0 0x41 (0 * 2 ^ 192), rfl, rfl, by decide +kernel⟩,
    ⟨{ open0 with accepted := [cmd 0 0x41 (0 * 2 ^ 192)], pavs := [(0, { st := .draining })] }, _, 0, _, 3, cmd 0 0x41 (0 * 2 ^ 192), rfl, rfl, by decide +kernel⟩,
    ⟨{ open0 with accepted := [cmd 1 0x41 (0 * 2 ^ 192)], pavs := [(0, { st := .opened })] }, .pavDrain 1 3, 1, 0x41, 3, cmd 1 0x41 (0 * 2 ^ 192), by simp, by decide +kernel⟩,
    ⟨{ open0.wr R.drainLimit 5 with time := 5, pavs := [(0, { st := .draining })] }, 0, by decide +kernel⟩,
    ⟨0, 1, by decide +kernel⟩⟩

theorem wit_Boundaries :
    (∃ (s : State) (a : State) (b : State) (c : State) (d : State) (e : State) (f : State) (p : Nat) (mpf : Nat) (mdec : Nat), (((s.pav p).st.active = true ∨ s.residents p ≠ [])) ∧ a = (s.endStep p mpf mdec).endRequests p ∧ b = (a.residents p).foldl State.advanceReq a ∧ c = (((b.withdrawals p).repairRows (some p)).holdTerrs p).swapHold p ∧ d = (c.residents p).foldl State.pauseReq c ∧ e = (if (d.pav p).st = .draining ∧ d.residents p = [] then d.closePav p else d) ∧ f = (if (e.pav p).st = .closed then e.endRequests p else e) ∧ s.serving = true ∧ s.defined p = true ∧ f.mayStep p = true)
    ∧ (∃ (s : State) (a : State) (b : State) (c : State) (d : State) (e : State) (f : State) (p : Nat) (mpf : Nat) (mdec : Nat), (((s.pav p).st.active = true ∨ s.residents p ≠ [])) ∧ a = (s.endStep p mpf mdec).endRequests p ∧ b = (a.residents p).foldl State.advanceReq a ∧ c = (((b.withdrawals p).repairRows (some p)).holdTerrs p).swapHold p ∧ d = (c.residents p).foldl State.pauseReq c ∧ e = (if (d.pav p).st = .draining ∧ d.residents p = [] then d.closePav p else d) ∧ f = (if (e.pav p).st = .closed then e.endRequests p else e) ∧ s.serving = true ∧ s.defined p = true ∧ f.mayStep p = false)
    ∧ (∃ (s : State) (p : Nat), s.withdrawals p = s ∧ s.repairRows (some p) = s ∧ s.serving = true ∧ s.defined p = true ∧ (s.pav p).st = .draining ∧ s.residents p = [] ∧ s.stepReqs p = [] ∧ (s.pav p).swap = none)
    ∧ (∃ (s : State) (a : State) (b : State), a = State.bcastRetry { s with sdl := { s.sdl with cadDone := true, owed := { s.sdl.owed with cad := false } } } ∧ b = (List.range 8).foldl State.cadPav a.dirBoundary.installKeys.ringsAgain ∧ s.serving = true ∧ s.cadDue = true ∧ s.before (turnAt s.time 3 0) = [] ∧ a.handing 0 = false)
    ∧ (∃ (s : State), s.serving = true ∧ s.cadDue = true ∧ s.before (turnAt s.time 3 0) = [] ∧ s.bcast.st ≠ .retry ∧ s.handing 0 = false ∧ s.dirActs = [])
    ∧ (∃ (s : State), s.cadDue = false)
    ∧ (∃ (x : Pav) (hold : Nat), 2 ≤ hold ∧ x.streak = 0)
    ∧ (∃ (x : Pav) (target : Nat) (hold : Nat), 2 ≤ hold ∧ x.np = target) :=
  ⟨⟨open0, _, _, _, _, _, _, 0, 0, 0, by decide +kernel, rfl, rfl, rfl, rfl, rfl, rfl, by decide +kernel⟩,
    ⟨{ open0 with pavs := [(0, { st := .opened, held := true })] }, _, _, _, _, _, _, 0, 0, 0, by decide +kernel, rfl, rfl, rfl, rfl, rfl, rfl, by decide +kernel⟩,
    ⟨{ open0 with pavs := [(0, { st := .draining })] }, 0, rfl, rfl, by decide +kernel⟩,
    ⟨open0, _, _, rfl, rfl, by decide +kernel⟩,
    ⟨open0, by decide +kernel⟩,
    ⟨{ open0 with time := 1 }, by decide +kernel⟩,
    ⟨{}, 2, by decide +kernel⟩,
    ⟨{ np := 4 }, 4, 2, by decide +kernel⟩⟩

theorem wit_ResetsAndReadiness :
    (∃ (s : State) (fn : Nat), Tab.Rises s.reqs ∧ s.barsUp = true ∧ fn ≠ 0)
    ∧ (∃ (s : State), s.dev.perst = true)
    ∧ (∃ (s : State), s.serving = true)
    ∧ (∃ (s : State), s.dev.st ≠ .dormant)
    ∧ (∃ (s : State) (t : State) (u : State) (r : Nat) (i : Nat) (c : BitVec 1024), t = s.dropLatch r 0 ∧ c = t.svcImage ∧ u = t.wr R.svcBusy 1 ∧ s.target r 0 0x190 .service = some i ∧ t.rd R.svcBusy = 0 ∧ privileged (Ad.opcode c) = true ∧ Ad.dataLen c = 0 ∧ Ad.wellFormed c = true)
    ∧ (∃ (s : State) (t : State) (u : State) (r : Nat) (i : Nat) (c : BitVec 1024), t = s.dropLatch r 0 ∧ c = t.svcImage ∧ u = t.wr R.svcBusy 1 ∧ s.target r 0 0x190 .service = some i ∧ t.rd R.svcBusy = 0 ∧ privileged (Ad.opcode c) = false)
    ∧ (∃ (s : State) (data : List Byte), s.dev.svcReady = true ∧ zeros data 5 3 = true ∧ fld data 0 4 % 4 = 0 ∧ data.length = 8 ∧ fld data 4 1 = 0)
    ∧ (∃ (s : State) (data : List Byte), s.dev.svcReady = true ∧ zeros data 5 3 = true ∧ fld data 0 4 % 4 = 0 ∧ data.length = 12 ∧ fld data 4 1 = 1) :=
  ⟨⟨lit, 63, by unfold Tab.Rises; decide +kernel, by decide +kernel⟩,
    ⟨State.reset, by decide +kernel⟩,
    ⟨lit, by decide +kernel⟩,
    ⟨lit, by decide +kernel⟩,
    ⟨((lit.wr R.svcCmd 0x40).wr R.svcCmd 3 0 1), _, _, 64, 0, _, rfl, rfl, rfl, by decide +kernel⟩,
    ⟨((lit.wr R.svcCmd 0x10).wr R.svcCmd 3 0 1), _, _, 64, 0, _, rfl, rfl, rfl, by decide +kernel⟩,
    ⟨lit, leBytes 4 0x100 ++ [0, 0, 0, 0], by decide +kernel⟩,
    ⟨lit, leBytes 4 0x100 ++ [1, 0, 0, 0] ++ leBytes 4 7, by decide +kernel⟩⟩

theorem wit_WeightLoading :
    (∃ (s : State) (p : Nat) (m : Nat), s.serving = true ∧ s.rd R.fabricLoad = 0 ∧ s.upd.gateDown = false ∧ (s.model p m).isSome = true ∧ (s.pav p).st = .loading ∧ (s.wgt (wgtIx p m)).tried = false ∧ (s.pav p).swap = none)
    ∧ (∃ (s : State) (p : Nat) (m : Nat) (i : Nat) (data : List Byte) (h : Shard) (b : List Byte), h = s.shard p m i ∧ b = (s.wgt (wgtIx p m)).manifest ∧ rootOf (shardLeaves (Man.id b i) (Man.leaves b i) data) = Man.root b i ∧ s.serving = true ∧ s.rd R.fabricLoad = 0 ∧ s.stages p m i = none ∧ s.loads p m i = true ∧ h.reads < 3 ∧ data.length = Man.size b i)
    ∧ (∃ (s : State) (p : Nat) (m : Nat) (i : Nat) (data : List Byte) (h : Shard) (b : List Byte), h = s.shard p m i ∧ b = (s.wgt (wgtIx p m)).manifest ∧ ¬(data.length = Man.size b i ∧ rootOf (shardLeaves (Man.id b i) (Man.leaves b i) data) = Man.root b i) ∧ s.serving = true ∧ s.rd R.fabricLoad = 0 ∧ s.stages p m i = none ∧ s.loads p m i = true ∧ h.reads < 3 ∧ h.reads < 2)
    ∧ (∃ (s : State) (p : Nat) (m : Nat) (i : Nat) (data : List Byte) (h : Shard) (b : List Byte), h = s.shard p m i ∧ b = (s.wgt (wgtIx p m)).manifest ∧ ¬(data.length = Man.size b i ∧ rootOf (shardLeaves (Man.id b i) (Man.leaves b i) data) = Man.root b i) ∧ s.serving = true ∧ s.rd R.fabricLoad = 0 ∧ s.stages p m i = none ∧ s.loads p m i = true ∧ h.reads < 3 ∧ h.reads = 2)
    ∧ (∃ (s : State) (t : State) (p : Nat) (m : Nat) (i : Nat) (h : Shard), h = s.shard p m i ∧ t = ((s.writeShard h h.addr h.data).writeTable h h.leaves).setShard p m i { h with inPlace := true, data := [], leaves := [], got := [], reads := 0, rounds := 0 } ∧ (s.pav p).st = .loading ∧ h.verified = true ∧ h.inPlace = false)
    ∧ (∃ (s : State) (n : Nat), n = s.boundaryFrom (s.time + 100000) ∧ s.serving = true ∧ s.rd R.wgtRoot = 1)
    ∧ (∃ (s : State), s.serving = true ∧ s.rd R.wgtRoot = 0 ∧ s.rd R.fabricLoad = 1)
    ∧ (∃ (s : State), s.serving = true ∧ s.bcast.st = .announced ∧ s.bcast.start ≤ s.time ∧ s.before (turnAt s.bcast.start 2 0) = [] ∧ s.sdl.st.valid = false)
    ∧ (∃ (s : State), s.serving = true ∧ s.bcast.st = .announced ∧ s.bcast.start ≤ s.time ∧ s.before (turnAt s.bcast.start 2 0) = [] ∧ s.sdl.st.valid = true ∧ s.rd R.wgtRoot = 0)
    ∧ (∃ (s : State), s.serving = true ∧ s.bcast.st = .announced ∧ s.bcast.start ≤ s.time ∧ s.before (turnAt s.bcast.start 2 0) = [] ∧ s.sdl.st.valid = true ∧ s.rd R.wgtRoot = 1)
    ∧ (∃ (s : State) (u : State) (p : Nat) (m : Nat) (i : Nat) (k : Nat) (d : List Byte) (b : List Byte) (h : Shard), s.bcastShard p m i = some (h, b, none) ∧ h.leaves[k]? = some (leafHash (Man.id b i) k d) ∧ u = (s.writeShard h (h.leafAt k) d).setShard p m i { h with got := setIns k h.got, verified := decide ((setIns k h.got).length = Man.leaves b i) } ∧ s.serving = true ∧ s.rd R.fabricLoad = 1 ∧ s.bcast.st = .running ∧ d.length = Man.leafLen b i k)
    ∧ (∃ (s : State) (u : State) (p : Nat) (m : Nat) (i : Nat) (hs : List (BitVec 384)) (b : List Byte) (h : Shard), s.bcastShard p m i = some (h, b, none) ∧ u = (if rootOf hs = Man.root b i then s.setShard p m i { h with leaves := hs } else s) ∧ s.serving = true ∧ s.rd R.fabricLoad = 1 ∧ s.bcast.st = .running ∧ hs.length = Man.leaves b i)
    ∧ (∃ (s : State) (p : Nat) (m : Nat) (i : Nat) (b : List Byte) (h : Shard), s.bcastShard p m i = some (h, b, none) ∧ s.serving = true ∧ s.rd R.fabricLoad = 1 ∧ s.bcast.st = .running ∧ h.rounds < 3)
    ∧ (∃ (s : State) (u : State) (p : Nat) (m : Nat) (i : Nat) (b : List Byte) (h : Shard), s.bcastShard p m i = some (h, b, none) ∧ u = (s.setShard p m i { h with rounds := 4, reads := 3 }).raise (wgtErr .pavilion Code.weightDigestFail p) ∧ s.serving = true ∧ s.rd R.fabricLoad = 1 ∧ s.bcast.st = .running ∧ h.rounds = 3) :=
  ⟨⟨{ open0 with pavs := [(0, { st := .loading })] }, 0, 0, by decide +kernel⟩,
    ⟨weighted .loading 0 {reads := 2}, 0, 0, 0, [0], _, _, rfl, rfl, leaf_root, by decide +kernel⟩,
    ⟨weighted .loading 0 {reads := 1}, 0, 0, 0, [], _, _, rfl, rfl, fun h => absurd h.1 (by decide +kernel), by decide +kernel⟩,
    ⟨weighted .loading 0 {reads := 2}, 0, 0, 0, [], _, _, rfl, rfl, fun h => absurd h.1 (by decide +kernel), by decide +kernel⟩,
    ⟨weighted .loading 0 {verified := true, data := [0], leaves := [leaf0]}, _, 0, 0, 0, _, rfl, rfl, by decide +kernel⟩,
    ⟨lit.wr R.wgtRoot 1, _, rfl, by decide +kernel⟩,
    ⟨lit.wr R.fabricLoad 1, by decide +kernel⟩,
    ⟨{ lit with time := 5, sdl := { st := .acquiring }, bcast := { st := .announced, start := 5 } }, by decide +kernel⟩,
    ⟨{ lit with time := 5, sdl := { st := .holdover }, bcast := { st := .announced, start := 5 } }, by decide +kernel⟩,
    ⟨{ lit.wr R.wgtRoot 1 with time := 5, sdl := { st := .locked }, bcast := { st := .announced, start := 5 } }, by decide +kernel⟩,
    ⟨{ (weighted .loading 0 {leaves := [leaf0]}).wr R.fabricLoad 1 with bcast := { st := .running } }, _, 0, 0, 0, 0, [0], _, _, rfl, rfl, rfl, by decide +kernel⟩,
    ⟨{ (weighted .loading 0 {rounds := 2}).wr R.fabricLoad 1 with bcast := { st := .running } }, _, 0, 0, 0, [leaf0], _, _, rfl, rfl, by decide +kernel⟩,
    ⟨{ (weighted .loading 0 {rounds := 2}).wr R.fabricLoad 1 with bcast := { st := .running } }, 0, 0, 0, _, _, rfl, by decide +kernel⟩,
    ⟨{ (weighted .loading 0 {rounds := 3}).wr R.fabricLoad 1 with bcast := { st := .running } }, _, 0, 0, 0, _, _, rfl, rfl, by decide +kernel⟩⟩

theorem wit_SwapsAndScrub :
    (∃ (s : State) (t : State) (src : Nat) (p : Nat) (cid : Word32) (a : AdminCmd) (e : _), t = { s with accepted := markStarted src cid 0x30 s.accepted } ∧ p = byteAt a.img 24 1 ∧ s.findCmd src cid 0x30 = some a ∧ pfRights src = true ∧ t.weightTarget a.img = some e)
    ∧ (∃ (s : State) (t : State) (src : Nat) (p : Nat) (cid : Word32) (a : AdminCmd), t = { s with accepted := markStarted src cid 0x30 s.accepted } ∧ p = byteAt a.img 24 1 ∧ s.findCmd src cid 0x30 = some a ∧ pfRights src = true ∧ t.weightTarget a.img = none ∧ (t.pav p).swap.isSome = true)
    ∧ (∃ (s : State) (t : State) (src : Nat) (p : Nat) (cid : Word32) (a : AdminCmd), t = { s with accepted := markStarted src cid 0x30 s.accepted } ∧ p = byteAt a.img 24 1 ∧ s.findCmd src cid 0x30 = some a ∧ pfRights src = true ∧ t.weightTarget a.img = none ∧ (t.pav p).swap = none)
    ∧ (∃ (s : State) (t : State) (src : Nat) (p : Nat) (m : Nat) (cid : Word32) (a : AdminCmd), t = { s with accepted := markStarted src cid 0x31 s.accepted } ∧ p = byteAt a.img 24 1 ∧ m = byteAt a.img 25 1 ∧ s.findCmd src cid 0x31 = some a ∧ pfRights src = true ∧ t.weightTarget a.img = none ∧ (t.pav p).swap = none)
    ∧ (∃ (s : State) (t : State) (src : Nat) (p : Nat) (m : Nat) (cid : Word32) (a : AdminCmd) (w : _), t = { s with accepted := markStarted src cid 0x31 s.accepted } ∧ p = byteAt a.img 24 1 ∧ m = byteAt a.img 25 1 ∧ s.findCmd src cid 0x31 = some a ∧ pfRights src = true ∧ t.weightTarget a.img = none ∧ (t.pav p).swap = some w ∧ w.model = m)
    ∧ (∃ (s : State) (p : Nat) (w : Swap), (s.pav p).swap = some w ∧ w.stage = .staging ∧ w.back = false ∧ (∀ i ∈ s.unitShards p w, (Tab.get ({} : Shard) w.staged i).verified = true))
    ∧ (∃ (s : State) (p : Nat) (w : Swap), (s.pav p).swap = some w ∧ w.stage = .staging ∧ w.back = false ∧ (∃ i ∈ s.unitShards p w, (Tab.get ({} : Shard) w.staged i).failedOut = true) ∧ w.copied = [])
    ∧ (∃ (s : State) (p : Nat) (w : Swap), (s.pav p).swap = some w ∧ w.stage = .staging ∧ w.back = false ∧ (∃ i ∈ s.unitShards p w, (Tab.get ({} : Shard) w.staged i).failedOut = true) ∧ w.copied ≠ [])
    ∧ (∃ (s0 : State) (s : State) (t : State) (p : Nat) (w : Swap) (evs : List (Nat × MemEvent)), (s0.pav p).swap = some w ∧ s = s0.hbmEvents evs ∧ t = (s.unitShards p w).foldl (fun (u : State) i => u.copyShard p w w.manifest i) s ∧ w.stage = .copying ∧ w.back = false ∧ (Man.units w.manifest).find? (fun u => decide (w.unit < u)) = none)
    ∧ (∃ (s0 : State) (s : State) (t : State) (p : Nat) (w : Swap) (evs : List (Nat × MemEvent)) (v : _), (s0.pav p).swap = some w ∧ s = s0.hbmEvents evs ∧ t = (s.unitShards p w).foldl (fun (u : State) i => u.copyShard p w w.manifest i) s ∧ w.stage = .copying ∧ w.back = false ∧ (Man.units w.manifest).find? (fun u => decide (w.unit < u)) = some v)
    ∧ (∃ (s : State) (u : State), u = { s with sdl := { s.sdl with scrubSeen := some (max (s.sdl.scrubSeen.getD 0) s.time), owed := { s.sdl.owed with scrub := false } } } ∧ s.serving = true ∧ s.scrubDue = true ∧ s.before (turnAt s.time 8 0) = [] ∧ s.scrub.running = true)
    ∧ (∃ (s : State) (u : State), u = { s with sdl := { s.sdl with scrubSeen := some (max (s.sdl.scrubSeen.getD 0) s.time), owed := { s.sdl.owed with scrub := false } } } ∧ s.serving = true ∧ s.scrubDue = true ∧ s.before (turnAt s.time 8 0) = [] ∧ s.scrub.running = false ∧ ({ u with scrub := { u.scrub with running := true, pos := 0 } : State}).scrubNext ≠ none)
    ∧ (∃ (s0 : State) (s : State) (u : State) (evs : List (Nat × MemEvent)) (k : Nat) (x : ScrubTarget) (p : _) (m : _) (i : _) (j : _), s = s0.hbmEvents evs ∧ u = { s with scrub := { s.scrub with pos := k + 1 } } ∧ s.leafNow (s.shard p m i) (s.manifestAt p m i) i j = s.tableNow (s.shard p m i) j ∧ s0.serving = true ∧ s0.scrub.running = true ∧ s.scrubNext = some (k, x) ∧ x = .leaf p m i j ∧ (s.leafNow (s.shard p m i) (s.manifestAt p m i) i j).isSome = true)
    ∧ (∃ (s0 : State) (s : State) (u : State) (evs : List (Nat × MemEvent)) (k : Nat) (x : ScrubTarget) (p : _) (m : _) (i : _) (j : _), s = s0.hbmEvents evs ∧ u = { s with scrub := { s.scrub with pos := k + 1 } } ∧ s0.serving = true ∧ s0.scrub.running = true ∧ s.scrubNext = some (k, x) ∧ x = .leaf p m i j ∧ s.leafNow (s.shard p m i) (s.manifestAt p m i) i j ≠ s.tableNow (s.shard p m i) j)
    ∧ (∃ (s0 : State) (s : State) (u : State) (evs : List (Nat × MemEvent)) (k : Nat) (x : ScrubTarget) (i : _), s = s0.hbmEvents evs ∧ u = { s with scrub := { s.scrub with pos := k + 1 } } ∧ s.scrubNext = some (k, x) ∧ s.blobGood (s.adrec i) = true ∧ s0.serving = true ∧ s0.scrub.running = true ∧ x = .adapter i)
    ∧ (∃ (s0 : State) (s : State) (u : State) (evs : List (Nat × MemEvent)) (k : Nat) (x : ScrubTarget), s = s0.hbmEvents evs ∧ u = { s with scrub := { s.scrub with pos := k + 1 } } ∧ s.scrubNext = some (k, x) ∧ s0.serving = true ∧ s0.scrub.running = true ∧ u.scrubEnds.scrub.running = true)
    ∧ (∃ (s0 : State) (s : State) (evs : List (Nat × MemEvent)), s = s0.hbmEvents evs ∧ s0.serving = true ∧ s0.scrub.running = true ∧ s.scrubNext = none)
    ∧ (∃ (s : State) (p : Nat) (m : Nat) (i : Nat) (k : Nat) (d : List Byte) (r : Restore), s.tableNow (s.shard p m i) k = some (leafHash (Man.id (s.manifestAt p m i) i) k d) ∧ s.scrub.restores = [r] ∧ r.pav = p ∧ r.model = m ∧ r.shard = i ∧ r.leaf = some k ∧ d.length = Man.leafLen (s.manifestAt p m i) i k) :=
  ⟨⟨{ open0 with accepted := [cmd 0 0x30 (8 * 2 ^ 192)] }, _, 0, _, 3, cmd 0 0x30 (8 * 2 ^ 192), Code.pavUndefined, rfl, rfl, by decide +kernel⟩,
    ⟨{ open0 with accepted := [cmd 0 0x30 (0 * 2 ^ 192)], pavs := [(0, { st := .opened, swap := some { model := 0 } })] }, _, 0, _, 3, cmd 0 0x30 (0 * 2 ^ 192), rfl, rfl, by decide +kernel⟩,
    ⟨{ open0 with accepted := [cmd 0 0x30 (0 * 2 ^ 192)] }, _, 0, _, 3, cmd 0 0x30 (0 * 2 ^ 192), rfl, rfl, by decide +kernel⟩,
    ⟨{ open0 with accepted := [cmd 0 0x31 (0 * 2 ^ 192)] }, _, 0, _, _, 3, cmd 0 0x31 (0 * 2 ^ 192), rfl, rfl, rfl, by decide +kernel⟩,
    ⟨{ open0 with accepted := [cmd 0 0x31 (0 * 2 ^ 192)], pavs := [(0, { st := .opened, swap := some { model := 0 } })] }, _, 0, _, _, 3, cmd 0 0x31 (0 * 2 ^ 192), { model := 0 }, rfl, rfl, rfl, by decide +kernel⟩,
    ⟨{ weighted .opened 0 {} with pavs := [(0, { st := .opened, swap := some ({ model := 0, stage := .staging, unit := 0, manifest := man 0 leaf0, staged := [(0, {verified := true})] }) })] }, 0, { model := 0, stage := .staging, unit := 0, manifest := man 0 leaf0, staged := [(0, {verified := true})] }, rfl, by decide +kernel⟩,
    ⟨{ weighted .opened 0 {} with pavs := [(0, { st := .opened, swap := some ({ model := 0, stage := .staging, unit := 0, manifest := man 0 leaf0, staged := [(0, {reads := 3})] }) })] }, 0, { model := 0, stage := .staging, unit := 0, manifest := man 0 leaf0, staged := [(0, {reads := 3})] }, rfl, by decide +kernel⟩,
    ⟨{ weighted .opened 0 {} with pavs := [(0, { st := .opened, swap := some ({ model := 0, stage := .staging, unit := 0, manifest := man 0 leaf0, staged := [(0, {reads := 3})], copied := [7] }) })] }, 0, { model := 0, stage := .staging, unit := 0, manifest := man 0 leaf0, staged := [(0, {reads := 3})], copied := [7] }, rfl, by decide +kernel⟩,
    ⟨{ weighted .opened 0 {} with pavs := [(0, { st := .opened, swap := some ({ model := 0, stage := .copying, unit := 0, manifest := man 0 leaf0, staged := [(0, {verified := true})] }) })] }, _, _, 0, { model := 0, stage := .copying, unit := 0, manifest := man 0 leaf0, staged := [(0, {verified := true})] }, [], rfl, rfl, rfl, by decide +kernel⟩,
    ⟨{ weighted .opened 0 {} with pavs := [(0, { st := .opened, swap := some ({ model := 0, stage := .copying, unit := 0, manifest := man 1 leaf0, staged := [(0, {verified := true})] }) })] }, _, _, 0, { model := 0, stage := .copying, unit := 0, manifest := man 1 leaf0, staged := [(0, {verified := true})] }, [], 1, rfl, rfl, rfl, by decide +kernel⟩,
    ⟨{ lit.wr R.scrubInterval 100 with time := 100, scrub := { running := true } }, _, rfl, by decide +kernel⟩,
    ⟨{ lit.wr R.scrubInterval 100 with time := 100, recs := [(9, { vst := .current })] }, _, rfl, by decide +kernel⟩,
    ⟨{ weighted .opened 0 { verified := true, inPlace := true, addr := 0x1000, tableAt := 0x2000 } with scrub := { running := true, pos := 1 }, mem := (List.range 48).map fun i => (0x2000 + i, (digestBytes leaf0).getD i 0) }, _, _, [], 1, .leaf 0 0 0 0, 0, 0, 0, 0, rfl, rfl, (congrArg some (digest_stored leaf0)).symm, by decide +kernel⟩,
    ⟨{ weighted .opened 0 { verified := true, inPlace := true, addr := 0x1000, tableAt := 0x2000 } with scrub := { running := true, pos := 1 }, poison := [64] }, _, _, [], 1, .leaf 0 0 0 0, 0, 0, 0, 0, rfl, rfl, by decide +kernel⟩,
    ⟨{ lit with scrub := { running := true }, recs := [(9, { vst := .current, digest := Config.sha384 [] })] }, _, _, [], _, .adapter 9, 9, rfl, rfl, rfl, by simp [State.hbmEvents, State.blobGood, State.adrec, State.blob, Tab.get, Mem.read, State.poisoned, linesOf, lit], by decide +kernel⟩,
    ⟨{ lit with scrub := { running := true }, recs := [(9, { vst := .current }), (11, { vst := .current })] }, _, _, [], _, .adapter 9, rfl, rfl, rfl, by decide +kernel⟩,
    ⟨{ lit with scrub := { running := true }, recs := [] }, _, [], rfl, by decide +kernel⟩,
    ⟨{ weighted .opened 0 { verified := true, inPlace := true, addr := 0x1000, tableAt := 0x2000 } with scrub := { restores := [{ pav := 0, model := 0, shard := 0, leaf := some 0 }] }, mem := (List.range 48).map fun i => (0x2000 + i, (digestBytes leaf0).getD i 0) }, 0, 0, 0, 0, [0], { pav := 0, model := 0, shard := 0, leaf := some 0 }, congrArg some (digest_stored leaf0), by decide +kernel⟩⟩

theorem wit_TorvolLink :
    (∃ (s : State) (i : Nat) (prev : BitVec 58) (msg : BitVec 5140) (errs : List Nat) (bad : List Nat) (c : Cw), bad = (errs.filter (· < 544)).eraseDups ∧ c = Cw.ofMessage (descrambled prev msg) ∧ (s.port i).linkedUp = true ∧ bad.length ≤ 15 ∧ c.noseq = false ∧ c.seq = (s.port i).rxSeq)
    ∧ (∃ (s : State) (i : Nat) (prev : BitVec 58) (msg : BitVec 5140) (errs : List Nat) (bad : List Nat) (c : Cw), bad = (errs.filter (· < 544)).eraseDups ∧ c = Cw.ofMessage (descrambled prev msg) ∧ (15 < bad.length ∨ c.seq ≠ (s.port i).rxSeq) ∧ (s.port i).linkedUp = true ∧ c.noseq = false)
    ∧ (∃ (s : State) (i : Nat) (prev : BitVec 58) (msg : BitVec 5140), (s.port i).linkedUp = true ∧ (Cw.ofMessage (descrambled prev msg)).noseq = true)
    ∧ (∃ (s : State) (u : State) (i : Nat) (q : Byte) (l : List Cw) (j : _), u = s.setPort i { s.port i with replay := l, nakSeq := none, replayFails := 0 } ∧ (s.port i).linkedUp = true ∧ afterSeq q (s.port i).replay = some l ∧ s.tvlDue = [] ∧ (s.port i).held = [] ∧ (∀ j < 12, (s.port j).rxBuf = []) ∧ j ≠ i)
    ∧ (∃ (s : State) (i : Nat) (q : Byte) (again : List Cw), again = (s.port i).replay.dropWhile (fun c => c.seq != q) ∧ ((s.port i).nakSeq ≠ some q ∨ (s.port i).replayFails < 7) ∧ (s.port i).linkedUp = true ∧ again ≠ [])
    ∧ (∃ (s : State) (i : Nat) (q : Byte) (again : List Cw), again = (s.port i).replay.dropWhile (fun c => c.seq != q) ∧ (s.port i).linkedUp = true ∧ again ≠ [] ∧ (s.port i).nakSeq = some q ∧ 7 ≤ (s.port i).replayFails)
    ∧ (∃ (s : State) (i : Nat) (typ : Nat) (body : List Byte) (c : Instr), (((∃ t1 t2 t3 : Word64, c = .delayReq i t1 t2 t3 ∧ typ = 0x0A ∧ body = List.replicate 7 0 ++ leBytes 8 t1.toNat ++ leBytes 8 t2.toNat ++ leBytes 8 t3.toNat) ∨ (∃ t1 : Word64, c = .delayReqTimer i t1 ∧ typ = 0x09 ∧ body = List.replicate 7 0 ++ leBytes 8 t1.toNat))) ∧ (s.port i).linkedUp = true)
    ∧ (∃ (s : State) (i : Nat) (t1 : Word64) (t2 : Word64) (t3 : Word64) (t4 : Word64) (l : List Int), l = (((((t4.toNat : Int) - t1.toNat) - ((t3.toNat : Int) - t2.toNat)) / 2) :: (s.port i).delays).take 8 ∧ (s.port i).linkedUp = true)
    ∧ (∃ (s : State) (i : Nat) (lane : Nat) (count : Nat) (n : Nat) (q : Port) (map : List Nat), n = Tab.get 0 (s.port i).lanes lane + count ∧ map = s.laneMap i 1 ∧ q = { s.port i with lanes := Tab.put 0 (s.port i).lanes lane 0, lanesPast := Tab.put 0 (s.port i).lanesPast lane n } ∧ (n ≤ s.rd R.tvlLaneThresh ∨ (s.port i).swapAt.isSome = true) ∧ (s.port i).linkedUp = true)
    ∧ (∃ (s : State) (i : Nat) (lane : Nat) (count : Nat) (n : Nat) (q : Port) (map : List Nat), n = Tab.get 0 (s.port i).lanes lane + count ∧ map = s.laneMap i 1 ∧ q = { s.port i with lanes := Tab.put 0 (s.port i).lanes lane 0, lanesPast := Tab.put 0 (s.port i).lanesPast lane n } ∧ (s.port i).linkedUp = true ∧ s.rd R.tvlLaneThresh < n ∧ (s.port i).swapAt = none ∧ Tab.get none s.nvm.repair.tvlLane (i * 2 + 1) = none)
    ∧ (∃ (s : State) (i : Nat) (lane : Nat) (count : Nat) (n : Nat) (q : Port) (map : List Nat), n = Tab.get 0 (s.port i).lanes lane + count ∧ map = s.laneMap i 1 ∧ q = { s.port i with lanes := Tab.put 0 (s.port i).lanes lane 0, lanesPast := Tab.put 0 (s.port i).lanesPast lane n } ∧ (s.port i).linkedUp = true ∧ s.rd R.tvlLaneThresh < n ∧ (s.port i).swapAt = none ∧ (Tab.get none s.nvm.repair.tvlLane (i * 2 + 1)).isSome = true)
    ∧ (∃ (s : State) (i : Nat), (s.port i).linkedUp = true ∧ (s.port i).txSwap = none ∧ Tab.get none s.nvm.repair.tvlLane (i * 2) = none)
    ∧ (∃ (s : State) (i : Nat) (fmk : List Byte) (salt : BitVec 128), salt = (if (s.port i).rxEpoch + 1 = 0 then nextSalt fmk (s.port i).rxSalt else (s.port i).rxSalt) ∧ (s.port i).st = .ready ∧ (s.port i).fmk = some fmk)
    ∧ (∃ (s : State) (i : Nat) (typ : Byte), (s.port i).linkedUp = true ∧ 0x0F ≤ typ.toNat) :=
  ⟨⟨onPort { st := .linked, rxSeq := 7 }, 11, 0, scrambled 0 (Cw.message { seq := 7, slots := [] }), List.range 15, _, _, rfl, rfl, by decide +kernel⟩,
    ⟨onPort { st := .linked, rxSeq := 7 }, 11, 0, scrambled 0 (Cw.message { seq := 7, slots := [] }), List.range 16, _, _, rfl, rfl, .inl (by decide +kernel), by decide +kernel⟩,
    ⟨onPort { st := .linked,  }, 11, 0, scrambled 0 (Cw.message { noseq := true, seq := 0, slots := [] }), by decide +kernel⟩,
    ⟨onPort { st := .linked, replay := [{ seq := 254, slots := [] }, { seq := 255, slots := [] }, { seq := 0, slots := [] }] }, _, 11, 255, [{ seq := 0, slots := [] }], 0, rfl, by decide +kernel⟩,
    ⟨onPort { st := .linked, replay := [{ seq := 254, slots := [] }, { seq := 255, slots := [] }, { seq := 0, slots := [] }], nakSeq := some 0 }, 11, 255, _, rfl, .inl (by decide +kernel), by decide +kernel⟩,
    ⟨onPort { st := .linked, replay := [{ seq := 254, slots := [] }, { seq := 255, slots := [] }, { seq := 0, slots := [] }], nakSeq := some 255, replayFails := 7 }, 11, 255, _, rfl, by decide +kernel⟩,
    ⟨onPort { st := .linked,  }, 11, 0x09, _, .delayReqTimer 11 5, .inr ⟨5, rfl, rfl, rfl⟩, by decide +kernel⟩,
    ⟨onPort { st := .linked,  }, 11, 0, 0, 0, 10, _, rfl, by decide +kernel⟩,
    ⟨(onPort { st := .linked, lanes := [(3, 2)] }).wr R.tvlLaneThresh 5, 11, 3, 3, _, _, _, rfl, rfl, rfl, .inl (by decide +kernel), by decide +kernel⟩,
    ⟨(onPort { st := .linked, lanes := [(3, 2)] }).wr R.tvlLaneThresh 5, 11, 3, 4, _, _, _, rfl, rfl, rfl, by decide +kernel⟩,
    ⟨{ (onPort { st := .linked,  }).wr R.tvlLaneThresh 5 with nvm := { repair := { tvlLane := [(23, some 2)] } } }, 11, 3, 6, _, _, _, rfl, rfl, rfl, by decide +kernel⟩,
    ⟨onPort { st := .linked,  }, 11, by decide +kernel⟩,
    ⟨onPort { st := .ready, fmk := some [1], rxEpoch := 0xFE }, 11, [1], _, rfl, by decide +kernel⟩,
    ⟨onPort { st := .linked,  }, 11, 0x0F, by decide +kernel⟩⟩

theorem wit_TorvolPortStates :
    (∃ (s : State) (i : Nat) (c : Instr), (((s.port i).st = .training ∧ c = .trainingComplete i ∨ (s.port i).st = .down ∧ s.rd R.attempts i < 3 ∧ ((1000000 * (s.rd R.attempts i + 1) : Nat) : Int) ≤ tkFrom (s.port i).downAt s.time ∧ c = .retrainAttempt i true)) ∧ i < 12 ∧ s.mayTrain i = true)
    ∧ (∃ (s : State) (i : Nat), (s.port i).st = .down ∧ s.mayTrain i = true ∧ s.rd R.attempts i < 3 ∧ ((1000000 * (s.rd R.attempts i + 1) : Nat) : Int) ≤ tkFrom (s.port i).downAt s.time)
    ∧ (∃ (s : State) (i : Nat) (dom : BitVec 16) (dev : Byte) (fmk : List Byte), (s.port i).st = .linked ∧ (s.port i).sentReady = true ∧ s.gate.fmk = some fmk ∧ dom.toNat = s.rd R.domain ∧ dev.toNat ≠ s.rd R.devId)
    ∧ (∃ (s : State) (i : Nat) (c : Instr) (reason : Byte), (c, reason) ∈ ([(.down i reason, reason), (.lossOfCodewordLock i, 0xFF)] : List (Instr × Byte)) ∧ (s.port i).linkedUp = true ∧ i < 12)
    ∧ (∃ (s : State) (t : State) (r : Nat) (i : Nat), t = s.dropLatch r (7 * 65536) ∧ s.target r 7 0x100 .pf = some i ∧ t.mayTrain i = true) :=
  ⟨⟨(onPort { st := .training }).wr R.portEn 0x800, 11, .trainingComplete 11, .inl ⟨by decide +kernel, rfl⟩, by decide +kernel⟩,
    ⟨{ ((onPort {  }).wr R.portEn 0x800).wr R.attempts 2 11 with time := 3000000 }, 11, by decide +kernel⟩,
    ⟨{ onPort { st := .linked, sentReady := true } with gate := { fmk := some [1] } }, 11, 0, 3, [1], by decide +kernel⟩,
    ⟨onPort { st := .ready }, 11, .lossOfCodewordLock 11, 0xFF, by simp, by decide +kernel⟩,
    ⟨{ (onPort { st := .linked }).wr R.portEn 0x800 with acc := { chsel := [(511, 11)] } }, _, 0, 11, rfl, by decide +kernel⟩⟩

theorem wit_TorvolPackets :
    (∃ (s : State) (u : State) (i : Nat) (c0 : BitVec 16) (c1 : BitVec 16) (c2 : BitVec 16) (j : _), u = s.setPort i { s.port i with cr0 := (s.port i).cr0 + c0.toNat, cr1 := (s.port i).cr1 + c1.toNat, cr2 := (s.port i).cr2 + c2.toNat } ∧ (s.port i).st = .ready ∧ s.tvlDue = [] ∧ (s.port i).held = [] ∧ (∀ j < 12, (s.port j).rxBuf = []) ∧ j ≠ i)
    ∧ (∃ (s : State) (head : BitVec 512) (h : BitVec 512) (payload : List Byte), h = BitVec.ofNat 512 (putBits head.toNat 24 6 (s.rd R.devId)) ∧ s.serving = true ∧ headGood h = true ∧ payload.length = 64 * Hd.len h ∧ Hd.mcast h = false ∧ Hd.vc h = 0 ∧ Hd.op h = 1 ∧ Hd.dest h = s.rd R.devId ∧ s.rd R.wgtRoot = 0)
    ∧ (∃ (s : State) (head : BitVec 512) (h : BitVec 512) (payload : List Byte), h = BitVec.ofNat 512 (putBits head.toNat 24 6 (s.rd R.devId)) ∧ s.serving = true ∧ headGood h = true ∧ payload.length = 64 * Hd.len h ∧ Hd.mcast h = false ∧ Hd.vc h = 0 ∧ Hd.op h = 0 ∧ Hd.dest h = s.rd R.devId)
    ∧ (∃ (s : State) (head : BitVec 512) (h : BitVec 512) (payload : List Byte) (i : _) (key : _) (iv : _) (hd : _) (ct : _), h = BitVec.ofNat 512 (putBits head.toNat 24 6 (s.rd R.devId)) ∧ iv = linkNonce (s.rd R.devId) i (s.port i).nonce ∧ hd = sealHead h (s.port i).nonce ∧ ct = Config.gcmSeal key iv payload ∧ s.serving = true ∧ headGood h = true ∧ payload.length = 64 * Hd.len h ∧ Hd.mcast h = false ∧ Hd.vc h = 0 ∧ Hd.op h = 0 ∧ Hd.dest h ≠ s.rd R.devId ∧ s.routeTo (Hd.dest h) = some i ∧ s.tvlDue = [] ∧ s.canSend i 0 (Hd.len h) = true ∧ (s.port i).txKey = some key ∧ (s.port i).nonce + 1 < 0xFFF00000)
    ∧ (∃ (s : State) (head : BitVec 512) (h : BitVec 512) (payload : List Byte) (i : _), h = BitVec.ofNat 512 (putBits head.toNat 24 6 (s.rd R.devId)) ∧ s.serving = true ∧ headGood h = true ∧ payload.length = 64 * Hd.len h ∧ Hd.mcast h = false ∧ Hd.vc h = 0 ∧ Hd.op h = 0 ∧ Hd.dest h ≠ s.rd R.devId ∧ s.routeTo (Hd.dest h) = some i ∧ s.canSend i 0 (Hd.len h) = false)
    ∧ (∃ (s : State) (i : Nat) (h : BitVec 512) (data : List Byte) (payload : List Byte) (tag : BitVec 128) (crc : Word32), headCrcGood h = true ∧ headGood h = true ∧ payload.length = 64 * Hd.len h ∧ Hd.mcast h = false ∧ Hd.dest h = s.rd R.devId ∧ s.opened i h data tag = (true, payload) ∧ Config.crc32c payload = crc ∧ Hd.op h = 0 ∧ s.inWindow h = true ∧ (s.port i).st = .ready ∧ (s.port i).rxBuf = [])
    ∧ (∃ (s : State) (i : Nat) (h : BitVec 512) (data : List Byte) (payload : List Byte) (tag : BitVec 128) (crc : Word32), headCrcGood h = true ∧ headGood h = true ∧ payload.length = 64 * Hd.len h ∧ Hd.mcast h = false ∧ Hd.dest h = s.rd R.devId ∧ s.opened i h data tag = (true, payload) ∧ Config.crc32c payload = crc ∧ Hd.op h = 1 ∧ (s.port i).st = .ready ∧ (s.port i).rxBuf = [])
    ∧ (∃ (s : State) (i : Nat) (h : BitVec 512) (data : List Byte) (payload : List Byte) (tag : BitVec 128) (crc : Word32) (x : _) (q : _), headCrcGood h = true ∧ headGood h = true ∧ payload.length = 64 * Hd.len h ∧ Hd.mcast h = false ∧ Hd.dest h = s.rd R.devId ∧ s.opened i h data tag = (true, payload) ∧ Config.crc32c payload = crc ∧ Hd.op h = 2 ∧ x = (Hd.xid h).toNat ∧ s.xacts = [(x, q)] ∧ Hd.status h ≠ 1 ∧ (s.port i).st = .ready ∧ (s.port i).rxBuf = [])
    ∧ (∃ (s : State) (i : Nat) (h : BitVec 512) (data : List Byte) (tag : BitVec 128), headCrcGood h = true ∧ Hd.op h = 0 ∧ Hd.mcast h = false ∧ Hd.dest h = s.rd R.devId ∧ (s.port i).st = .ready ∧ (s.port i).rxBuf = [] ∧ (s.opened i h data tag).1 = false ∧ ((s.port i).authTimes.filter fun x => tkFrom x s.time < 1000000).length + 1 < s.rd R.authLimit ∧ i < 12)
    ∧ (∃ (s : State) (i : Nat) (c : Instr) (h : BitVec 512) (data : List Byte) (tag : BitVec 128) (stomp : Bool) (crc : Word32), headCrcGood h = true ∧ ((c = .put i h data tag stomp crc ∧ Hd.mcast h = false ∧ Hd.op h = 0 ∨ c = .msg i h data tag stomp crc ∧ Hd.mcast h = false ∧ Hd.op h = 1 ∨ c = .ack i h data tag stomp crc ∧ Hd.mcast h = false ∧ Hd.op h = 2 ∨ c = .multicastPacket i h data tag stomp crc ∧ Hd.mcast h = true)) ∧ (s.port i).st = .linked)
    ∧ (∃ (s : State) (xid : Word32) (q : Xact), s.xacts = [(xid.toNat, q)] ∧ (s.rd R.e2eTimeout : Int) ≤ tkFrom q.sentAt s.time ∧ Hd.op q.head = 0 ∧ q.sends < 3)
    ∧ (∃ (s : State) (xid : Word32) (q : Xact), (Hd.op q.head ≠ 0 ∨ 3 ≤ q.sends) ∧ s.xacts = [(xid.toNat, q)] ∧ (s.rd R.e2eTimeout : Int) ≤ tkFrom q.sentAt s.time)
    ∧ (∃ (s : State) (i : Nat) (h : BitVec 512) (data : List Byte) (payload : List Byte) (tag : BitVec 128) (crc : Word32), headCrcGood h = true ∧ headGood h = true ∧ payload.length = 64 * Hd.len h ∧ Hd.mcast h = true ∧ s.opened i h data tag = (true, payload) ∧ Config.crc32c payload = crc ∧ s.rd R.treeUp 0 (Hd.tree h) ≠ i ∧ (s.port i).st = .ready ∧ (s.port i).rxBuf = [])
    ∧ (∃ (s : State) (i : Nat) (h : BitVec 512) (data : List Byte) (payload : List Byte) (tag : BitVec 128) (crc : Word32), headCrcGood h = true ∧ headGood h = true ∧ payload.length = 64 * Hd.len h ∧ Hd.mcast h = true ∧ s.opened i h data tag = (true, payload) ∧ Config.crc32c payload = crc ∧ s.rd R.treeUp 0 (Hd.tree h) = i ∧ s.rd R.treeValid 0 (Hd.tree h) = 1 ∧ s.downPorts (Hd.tree h) = [] ∧ s.rd R.treeLocal 0 (Hd.tree h) = 1 ∧ s.inWindow h = true ∧ (s.port i).st = .ready ∧ (s.port i).rxBuf = []) :=
  ⟨⟨onPort { st := .ready }, _, 11, 1, 2, 3, 0, rfl, by decide +kernel⟩,
    ⟨lit, Hd.mk 0 0 0 0 1 64 0 9 0, _, List.replicate 4096 1, rfl, by decide +kernel⟩,
    ⟨lit.wr R.rxSize 4096, Hd.mk 0 0 0 0 0 64 0 9 0, _, List.replicate 4096 1, rfl, by decide +kernel⟩,
    ⟨(onPort { st := .ready, cr0 := 66, txKey := some 1 }).wr R.routePrimary 11 0 3, Hd.mk 0 3 0 0 0 64 0 9 0, _, List.replicate 4096 1, 11, 1, _, _, _, rfl, rfl, rfl, rfl, by decide +kernel⟩,
    ⟨(onPort { st := .ready }).wr R.routePrimary 11 0 3, Hd.mk 0 3 0 0 0 64 0 9 0, _, List.replicate 4096 1, 11, rfl, by decide +kernel⟩,
    ⟨(onPort { st := .ready, rxKey := some 1 }).wr R.rxSize 64, 11, crced (Hd.mk 0 0 0 0 0 1 0 9 0).toNat, List.replicate 64 1, _, _, _, crced_good _, by rw [headGood, typ_crced, vc_crced, op_crced, len_crced]; decide +kernel, by rw [Laws.gcmSeal_length, len_crced]; decide +kernel, by rw [mcast_crced]; decide +kernel, by rw [dest_crced]; decide +kernel, opened_own _ _ _ _ 1 rfl, rfl, by rw [op_crced]; decide +kernel, by rw [State.inWindow, addr_crced, len_crced]; decide +kernel, by decide +kernel⟩,
    ⟨onPort { st := .ready, rxKey := some 1 }, 11, crced (Hd.mk 0 0 0 0 1 1 0 9 0).toNat, List.replicate 64 1, _, _, _, crced_good _, by rw [headGood, typ_crced, vc_crced, op_crced, len_crced]; decide +kernel, by rw [Laws.gcmSeal_length, len_crced]; decide +kernel, by rw [mcast_crced]; decide +kernel, by rw [dest_crced]; decide +kernel, opened_own _ _ _ _ 1 rfl, rfl, by rw [op_crced]; decide +kernel, by decide +kernel⟩,
    ⟨{ onPort { st := .ready, rxKey := some 1 } with xacts := [(_, { head := Hd.mk 0 3 0 0 0 1 0 9 0, payload := [], sends := 1, sentAt := 0 })] }, 11, crced (Hd.mk 1 0 0 0 2 1 0 9 0).toNat, List.replicate 64 1, _, _, _, _, { head := Hd.mk 0 3 0 0 0 1 0 9 0, payload := [], sends := 1, sentAt := 0 }, crced_good _, by rw [headGood, typ_crced, vc_crced, op_crced, len_crced]; decide +kernel, by rw [Laws.gcmSeal_length, len_crced]; decide +kernel, by rw [mcast_crced]; decide +kernel, by rw [dest_crced]; decide +kernel, opened_own _ _ _ _ 1 rfl, rfl, by rw [op_crced]; decide +kernel, rfl, rfl, by rw [status_crced]; decide +kernel, by decide +kernel⟩,
    ⟨(onPort { st := .ready }).wr R.authLimit 2, 11, crced (Hd.mk 0 0 0 0 0 1 0 9 0).toNat, List.replicate 64 1, 0, crced_good _, by rw [op_crced]; decide +kernel, by rw [mcast_crced]; decide +kernel, by rw [dest_crced]; decide +kernel, by decide +kernel⟩,
    ⟨onPort { st := .linked }, 11, _, crced (Hd.mk 0 0 0 0 0 1 0 9 0).toNat, List.replicate 64 1, 0, false, 0, crced_good _, .inl ⟨rfl, by rw [mcast_crced]; decide +kernel, by rw [op_crced]; decide +kernel⟩, by decide +kernel⟩,
    ⟨{ lit.wr R.e2eTimeout 100 with time := 100, xacts := [(9, { head := Hd.mk 0 3 0 0 0 1 0 9 0, payload := [], sends := 2, sentAt := 0 })] }, 9, { head := Hd.mk 0 3 0 0 0 1 0 9 0, payload := [], sends := 2, sentAt := 0 }, by decide +kernel⟩,
    ⟨{ lit.wr R.e2eTimeout 100 with time := 100, xacts := [(9, { head := Hd.mk 0 3 0 0 1 1 0 9 0, payload := [], sends := 1, sentAt := 0 })] }, 9, { head := Hd.mk 0 3 0 0 1 1 0 9 0, payload := [], sends := 1, sentAt := 0 }, .inl (by decide +kernel), by decide +kernel⟩,
    ⟨(onPort { st := .ready, rxKey := some 1 }).wr R.treeUp 3 0 0, 11, crced (Hd.mk 2 0 0 0 0 1 0 9 0 true).toNat, List.replicate 64 1, _, _, _, crced_good _, by rw [headGood, typ_crced, vc_crced, op_crced, len_crced]; decide +kernel, by rw [Laws.gcmSeal_length, len_crced]; decide +kernel, by rw [mcast_crced]; decide +kernel, opened_own _ _ _ _ 1 rfl, rfl, by rw [tree_crced]; decide +kernel, by decide +kernel⟩,
    ⟨((((onPort { st := .ready, rxKey := some 1 }).wr R.treeUp 11 0 0).wr R.treeValid 1 0 0).wr R.treeLocal 1 0 0).wr R.rxSize 64, 11, crced (Hd.mk 2 0 0 0 0 1 0 9 0 true).toNat, List.replicate 64 1, _, _, _, crced_good _, by rw [headGood, typ_crced, vc_crced, op_crced, len_crced]; decide +kernel, by rw [Laws.gcmSeal_length, len_crced]; decide +kernel, by rw [mcast_crced]; decide +kernel, opened_own _ _ _ _ 1 rfl, rfl, by rw [tree_crced]; decide +kernel, by rw [tree_crced]; decide +kernel, by rw [tree_crced]; decide +kernel, by rw [tree_crced]; decide +kernel, by rw [State.inWindow, addr_crced, len_crced]; decide +kernel, by decide +kernel⟩⟩

theorem wit_ResetAndBoot :
    (∃ (s : State), (s.dev.tripHold = false ∨ s.dev.thermN = false) ∧ s.dev.rstLow = true ∧ s.dev.st = .dormant)
    ∧ (∃ (s : State), s.dev.rstLow = true ∧ s.dev.st = .dormant ∧ s.dev.tripHold = true ∧ s.dev.thermN = true)
    ∧ (∃ (s : State) (t : State) (v : Bool), t = State.gradeDefault { s with dev := { s.dev with st := .rooting }, boot := { s.boot with fusesRead := true } } ∧ (v = false ∨ s.bootRec.pendingSv = 0) ∧ s.dev.st = .waking)
    ∧ (∃ (s : State) (t : State) (v : Bool), t = State.gradeDefault { s with dev := { s.dev with st := .rooting }, boot := { s.boot with fusesRead := true } } ∧ s.dev.st = .waking ∧ v = true ∧ s.bootRec.pendingSv ≠ 0)
    ∧ (∃ (s : State), s.dev.st = .rooting ∧ s.boot.selfTest = .notRun)
    ∧ (∃ (s : State) (t : State) (u : State) (k : Nat), ((s.boot.bank = some k ∧ t = s ∨ s.boot.bank = none ∧ t = { u with boot := { u.boot with bank := some k } } ∧ (s.bootRec.trialBank = 0xFF ∧ u = s ∧ k = s.bootRec.primary ∨ s.bootRec.trialBank ≠ 0xFF ∧ s.bootRec.trialBoots = 0 ∧ u = s.writeRec (fun r => { r with trialBoots := 1 }) ∧ k = s.bootRec.trialBank ∨ s.bootRec.trialBank ≠ 0xFF ∧ s.bootRec.trialBoots ≠ 0 ∧ k = s.bootRec.primary ∧ u = (s.writeRec fun r => { r with trialBank := 0xFF }).raise (corrErr Code.updateFallback 7 0 0 3)))) ∧ s.reading = true ∧ s.boot.headerOk = false)
    ∧ (∃ (s : State) (k : Nat), s.reading = true ∧ s.boot.headerOk = true ∧ s.boot.bank = some k)
    ∧ (∃ (s : State) (a : State) (b : State) (c : State) (bist : List Nat) (lanes : List Nat) (raw0 : Nat) (raw1 : Nat) (f0 : Bool) (f1 : Bool), (s.boot.imageApplied = true ∨ s.boot.invalid = true) ∧ a = ((lanes.foldl State.trainLane (bist.foldl State.bistSite s)).enumerate raw0 raw1 f0 f1).openFmk ∧ b = { a with dev := { a.dev with recovery := a.boot.invalid, fabricReady := true } } ∧ c = (b.goDev .loading).flushEarly ∧ s.dev.st = .rooting)
    ∧ (∃ (s : State), (s.boot.imageApplied = true ∨ s.boot.invalid = true) ∧ s.dev.st = .rooting ∧ s.boot.early = [] ∧ s.nvm.fmkWrapped = none ∧ ((∀ p, p < 8 → s.defined p = false))) :=
  ⟨⟨State.reset, .inl (by decide +kernel), by decide +kernel⟩,
    ⟨{ dev := { tripHold := true, thermN := true } }, by decide +kernel⟩,
    ⟨{ dev := { st := .waking, rstLow := false } }, _, true, rfl, .inr (by decide +kernel), by decide +kernel⟩,
    ⟨{ dev := { st := .waking, rstLow := false }, nvm := { rec0 := some { pendingSv := 3 } } }, _, true, rfl, by decide +kernel⟩,
    ⟨{ dev := { st := .rooting, rstLow := false } }, by decide +kernel⟩,
    ⟨{ dev := { st := .rooting, rstLow := false }, boot := { selfTest := .passed, bank := some 1 } }, _, {}, 1, .inl ⟨by decide +kernel, rfl⟩, by decide +kernel⟩,
    ⟨{ dev := { st := .rooting, rstLow := false }, boot := { selfTest := .passed, bank := some 1, headerOk := true } }, 1, by decide +kernel⟩,
    ⟨{ dev := { st := .rooting, rstLow := false }, boot := { invalid := true } }, _, _, _, [], [], 0, 0, false, false, .inr (by decide +kernel), rfl, rfl, rfl, by decide +kernel⟩,
    ⟨{ dev := { st := .rooting, rstLow := false }, boot := { invalid := true } }, .inr (by decide +kernel), by decide +kernel⟩⟩

theorem wit_ServiceReplies :
    (∃ (s : State) (c : Instr), c ∈ ([.getEndpointUuid, .getMctpVersionSupport] : List Instr) ∧ s.dev.svcReady = true)
    ∧ (∃ (s : State), s.dev.st ≠ .dormant)
    ∧ (∃ (s : State) (c : Instr) (handle : Word32) (typ : Nat), (typ = 0 ∨ typ = 2 ∨ typ = 5) ∧ c ∈ ([.getTid, .getPldmVersion, .getPldmCommands typ, .getPdrRepositoryInfo, .getPdr handle] : List Instr) ∧ s.dev.svcReady = true ∧ s.dev.pldmReady = true ∧ s.dev.recovery = false)
    ∧ (∃ (s : State) (typ : _), s.dev.svcReady = true ∧ s.dev.pldmReady = true ∧ s.dev.recovery = false ∧ typ ≠ 0 ∧ typ ≠ 2 ∧ typ ≠ 5)
    ∧ (∃ (s : State) (sensor : Nat), s.dev.svcReady = true ∧ s.dev.pldmReady = true ∧ s.dev.recovery = false ∧ 1 ≤ sensor ∧ sensor ≤ 8)
    ∧ (∃ (s : State) (sensor : Nat), s.dev.svcReady = true ∧ s.dev.pldmReady = true ∧ s.dev.recovery = false ∧ 9 < sensor)
    ∧ (∃ (s : State) (c : Instr) (nonce : List Byte), c ∈ ([.getVersion, .getCapabilities, .negotiateAlgorithms, .getDigests, .getCertificate 0, .challenge nonce, .selfTestOnDemand true] : List Instr) ∧ s.dev.svcReady = true ∧ s.dev.pldmReady = true ∧ s.dev.recovery = false ∧ s.gate.errorState = false)
    ∧ (∃ (s : State) (block : Nat), s.dev.svcReady = true ∧ s.dev.pldmReady = true ∧ s.dev.recovery = false ∧ s.gate.errorState = false ∧ 1 ≤ block ∧ block ≤ 9)
    ∧ (∃ (s : State) (block : Nat), s.dev.svcReady = true ∧ s.dev.pldmReady = true ∧ s.dev.recovery = false ∧ s.gate.errorState = false ∧ 9 < block ∧ block ≠ 0xFF)
    ∧ (∃ (s : State) (slot : _), s.dev.svcReady = true ∧ s.dev.pldmReady = true ∧ s.dev.recovery = false ∧ s.gate.errorState = false ∧ slot ≠ 0) :=
  ⟨⟨lit, .getEndpointUuid, by simp, by decide +kernel⟩,
    ⟨lit, by decide +kernel⟩,
    ⟨lit, .getPldmCommands 5, 1, 5, .inr (.inr rfl), by simp, by decide +kernel⟩,
    ⟨lit, 1, by decide +kernel⟩,
    ⟨lit, 8, by decide +kernel⟩,
    ⟨lit, 10, by decide +kernel⟩,
    ⟨lit, .challenge [], [], by simp, by decide +kernel⟩,
    ⟨lit, 9, by decide +kernel⟩,
    ⟨lit, 254, by decide +kernel⟩,
    ⟨lit, 1, by decide +kernel⟩⟩

theorem wit_SessionsAndOfficers :
    (∃ (s : State), s.dev.svcReady = false)
    ∧ (∃ (s : State), (s.dev.pldmReady = false ∨ s.dev.recovery = true) ∧ s.dev.svcReady = true)
    ∧ (∃ (s : State), s.dev.svcReady = true ∧ s.dev.pldmReady = true ∧ s.dev.recovery = false ∧ s.gate.errorState = true)
    ∧ (∃ (s : State) (sid : Nat), s.dev.svcReady = true ∧ s.dev.pldmReady = true ∧ s.dev.recovery = false ∧ s.gate.errorState = false ∧ s.gate.sessions.length < 2 ∧ sid ∉ s.gate.sessions)
    ∧ (∃ (s : State), s.dev.svcReady = true ∧ s.dev.pldmReady = true ∧ s.dev.recovery = false ∧ s.gate.errorState = false ∧ 2 ≤ s.gate.sessions.length)
    ∧ (∃ (s : State) (sid : Nat), s.dev.svcReady = true ∧ s.dev.pldmReady = true ∧ s.dev.recovery = false ∧ s.gate.errorState = false ∧ sid ∈ s.gate.sessions ∧ sid ∉ s.gate.established)
    ∧ (∃ (s : State) (sid : Nat), s.dev.svcReady = true ∧ s.dev.pldmReady = true ∧ s.dev.recovery = false ∧ s.gate.errorState = false ∧ sid ∈ s.gate.established)
    ∧ (∃ (s : State) (sid : Nat), s.dev.svcReady = true ∧ s.dev.pldmReady = true ∧ s.dev.recovery = false ∧ s.gate.errorState = false ∧ sid ∉ s.gate.officers)
    ∧ (∃ (s : State) (sid : Nat) (key : List Byte) (w : _), s.dev.svcReady = true ∧ s.dev.pldmReady = true ∧ s.dev.recovery = false ∧ s.gate.errorState = false ∧ sid ∈ s.gate.officers ∧ s.gate.wrapKey = some w ∧ s.dev.st ≠ .shuttered ∧ key.length = 32)
    ∧ (∃ (s : State) (sid : Nat) (key : List Byte), (s.gate.wrapKey = none ∨ s.dev.st = .shuttered ∨ key.length ≠ 32) ∧ s.dev.svcReady = true ∧ s.dev.pldmReady = true ∧ s.dev.recovery = false ∧ s.gate.errorState = false ∧ sid ∈ s.gate.officers)
    ∧ (∃ (s : State) (i : _), s.gate.keysLoaded = true ∧ s.gate.errorState = false ∧ i < 12) :=
  ⟨⟨State.reset, by decide +kernel⟩,
    ⟨{ lit with dev := { lit.dev with recovery := true } }, .inr (by decide +kernel), by decide +kernel⟩,
    ⟨{ lit with gate := { errorState := true } }, by decide +kernel⟩,
    ⟨{ lit with gate := { sessions := [1] } }, 2, by decide +kernel⟩,
    ⟨{ lit with gate := { sessions := [1, 2] } }, by decide +kernel⟩,
    ⟨{ lit with gate := { sessions := [1, 2] } }, 2, by decide +kernel⟩,
    ⟨{ lit with gate := { sessions := [2], established := [2] } }, 2, by decide +kernel⟩,
    ⟨lit, 2, by decide +kernel⟩,
    ⟨{ lit with gate := { sessions := [2], established := [2], officers := [2], wrapKey := some 1 } }, 2, List.replicate 32 0, 1, by decide +kernel⟩,
    ⟨{ lit with gate := { sessions := [2], established := [2], officers := [2], wrapKey := some 1 } }, 2, List.replicate 31 0, .inr (.inr (by decide +kernel)), by decide +kernel⟩,
    ⟨{ lit with gate := { keysLoaded := true } }, 11, by decide +kernel⟩⟩

theorem wit_UpdateTransfer :
    (∃ (s : State) (t : State) (c : Instr), t = { s with upd := { s.upd with lastMsg := s.time } } ∧ c ∈ ([.queryDeviceIdentifiers, .getFirmwareParameters, .getStatus] : List Instr) ∧ s.dev.svcReady = true ∧ s.dev.pldmReady = true ∧ s.dev.st ≠ .shuttered)
    ∧ (∃ (s : State) (c : Instr), c ∈ ([.queryDeviceIdentifiers, .getFirmwareParameters, .getStatus, .passComponentTable, .cancelUpdateComponent, .cancelUpdate] : List Instr) ∧ s.dev.svcReady = false)
    ∧ (∃ (s : State) (c : Instr), c ∈ ([.queryDeviceIdentifiers, .getFirmwareParameters, .getStatus, .passComponentTable, .cancelUpdateComponent, .cancelUpdate] : List Instr) ∧ s.dev.svcReady = true ∧ s.dev.pldmReady = false)
    ∧ (∃ (s : State) (c : Instr), c ∈ ([.queryDeviceIdentifiers, .getFirmwareParameters, .getStatus, .passComponentTable, .cancelUpdateComponent, .cancelUpdate] : List Instr) ∧ s.dev.svcReady = true ∧ s.dev.pldmReady = true ∧ s.dev.st = .shuttered)
    ∧ (∃ (s : State) (t : State), t = { s with upd := { s.upd with lastMsg := s.time } } ∧ s.dev.svcReady = true ∧ s.dev.pldmReady = true ∧ s.dev.st ≠ .shuttered ∧ s.upd.mode = false ∧ s.upd.scheduled = false ∧ s.upd.trial = false)
    ∧ (∃ (s : State) (t : State), t = { s with upd := { s.upd with lastMsg := s.time } } ∧ (s.upd.mode = true ∨ s.upd.scheduled = true ∨ s.upd.trial = true) ∧ s.dev.svcReady = true ∧ s.dev.pldmReady = true ∧ s.dev.st ≠ .shuttered)
    ∧ (∃ (s : State) (t : State) (kind : _), t = { s with upd := { s.upd with lastMsg := s.time } } ∧ (kind = 1 ∨ kind = 2) ∧ s.dev.svcReady = true ∧ s.dev.pldmReady = true ∧ s.dev.st ≠ .shuttered ∧ s.upd.mode = true ∧ s.upd.kind = 0 ∧ kind ∉ s.upd.applied)
    ∧ (∃ (s : State) (t : State) (kind : _), t = { s with upd := { s.upd with lastMsg := s.time } } ∧ (s.upd.mode = false ∨ s.upd.kind ≠ 0 ∨ kind ≠ 1 ∧ kind ≠ 2 ∨ kind ∈ s.upd.applied) ∧ s.dev.svcReady = true ∧ s.dev.pldmReady = true ∧ s.dev.st ≠ .shuttered)
    ∧ (∃ (s : State) (t : State), t = { s with upd := { s.upd with lastMsg := s.time } } ∧ s.dev.svcReady = true ∧ s.dev.pldmReady = true ∧ s.dev.st ≠ .shuttered ∧ s.upd.mode = true ∧ s.upd.kind ≠ 0)
    ∧ (∃ (s : State) (t : State), t = { s with upd := { s.upd with lastMsg := s.time } } ∧ s.dev.svcReady = true ∧ s.dev.pldmReady = true ∧ s.dev.st ≠ .shuttered ∧ s.upd.trial = false ∧ s.upd.mode = true)
    ∧ (∃ (s : State) (t : State), t = { s with upd := { s.upd with lastMsg := s.time } } ∧ s.dev.svcReady = true ∧ s.dev.pldmReady = true ∧ s.dev.st ≠ .shuttered ∧ s.upd.mode = true ∧ s.upd.applied ≠ [] ∧ s.upd.kind = 0)
    ∧ (∃ (s : State) (t : State), t = { s with upd := { s.upd with lastMsg := s.time } } ∧ s.dev.svcReady = true ∧ s.dev.pldmReady = true ∧ s.dev.st ≠ .shuttered ∧ s.upd.mode = false ∧ s.upd.trial = true ∧ s.upd.windowEnd.isSome = true ∧ s.upd.cause = none)
    ∧ (∃ (s : State) (t : State) (data : List Byte), t = { s with upd := { s.upd with lastMsg := s.time } } ∧ s.upd.mode = true ∧ s.upd.kind ≠ 0 ∧ s.upd.transferred = false ∧ s.dev.st ≠ .shuttered ∧ data.length = s.upd.nextData.2 ∧ s.upd.manifest = [])
    ∧ (∃ (s : State) (t : State) (data : List Byte), t = { s with upd := { s.upd with lastMsg := s.time } } ∧ s.upd.mode = true ∧ s.upd.kind ≠ 0 ∧ s.upd.transferred = false ∧ s.dev.st ≠ .shuttered ∧ data.length = s.upd.nextData.2 ∧ s.upd.manifest ≠ [] ∧ (s.upd.chunk ++ data).length < s.upd.blockLen)
    ∧ (∃ (s : State) (t : State) (data : List Byte) (b : _), t = { s with upd := { s.upd with lastMsg := s.time } } ∧ b = s.upd.chunk ++ data ∧ (Config.crc32c b).toNat ≠ UMan.crc s.upd.manifest s.upd.block ∧ s.upd.mode = true ∧ s.upd.kind ≠ 0 ∧ s.upd.transferred = false ∧ s.dev.st ≠ .shuttered ∧ data.length = s.upd.nextData.2 ∧ s.upd.manifest ≠ [] ∧ s.upd.blockLen ≤ b.length)
    ∧ (∃ (s : State) (t : State) (data : List Byte) (ok : Bool) (b : _), t = { s with upd := { s.upd with lastMsg := s.time } } ∧ b = s.upd.chunk ++ data ∧ (Config.crc32c b).toNat = UMan.crc s.upd.manifest s.upd.block ∧ s.upd.mode = true ∧ s.upd.kind ≠ 0 ∧ s.upd.transferred = false ∧ s.dev.st ≠ .shuttered ∧ data.length = s.upd.nextData.2 ∧ s.upd.manifest ≠ [] ∧ s.upd.blockLen ≤ b.length ∧ s.upd.kind = 1 ∧ ok = false)
    ∧ (∃ (s : State) (t : State) (data : List Byte) (ok : Bool) (b : _) (u : _), t = { s with upd := { s.upd with lastMsg := s.time } } ∧ b = s.upd.chunk ++ data ∧ (Config.crc32c b).toNat = UMan.crc s.upd.manifest s.upd.block ∧ (s.upd.kind ≠ 1 ∨ ok = true) ∧ u = (if s.upd.kind = 1 then t.programBlock b else { t with upd := { t.upd with record := b } }) ∧ s.upd.mode = true ∧ s.upd.kind ≠ 0 ∧ s.upd.transferred = false ∧ s.dev.st ≠ .shuttered ∧ data.length = s.upd.nextData.2 ∧ s.upd.manifest ≠ [] ∧ s.upd.blockLen ≤ b.length)
    ∧ (∃ (s : State), s.awaitsVerify = true ∧ s.upd.kind = 1)
    ∧ (∃ (s : State), s.awaitsVerify = true ∧ s.upd.kind = 2)
    ∧ (∃ (s : State), s.upd.mode = true ∧ s.upd.verified = true ∧ s.dev.st ≠ .shuttered ∧ s.upd.kind = 1)
    ∧ (∃ (s : State), s.upd.mode = true ∧ s.upd.verified = true ∧ s.dev.st ≠ .shuttered ∧ s.upd.kind = 2)
    ∧ (∃ (s : State), s.upd.mode = true ∧ s.passed s.upd.lastMsg 120000000 = true ∧ s.dev.st ≠ .shuttered) :=
  ⟨⟨lit, _, .getStatus, rfl, by simp, by decide +kernel⟩,
    ⟨State.reset, .getStatus, by simp, by decide +kernel⟩,
    ⟨{ lit with dev := { lit.dev with pldmReady := false } }, .cancelUpdate, by simp, by decide +kernel⟩,
    ⟨{ lit with dev := { lit.dev with st := .shuttered } }, .passComponentTable, by simp, by decide +kernel⟩,
    ⟨lit, _, rfl, by decide +kernel⟩,
    ⟨{ lit with upd := { trial := true } }, _, rfl, .inr (.inr (by decide +kernel)), by decide +kernel⟩,
    ⟨{ lit with upd := { mode := true, applied := [1] } }, _, 2, rfl, .inr rfl, by decide +kernel⟩,
    ⟨{ lit with upd := { mode := true, kind := 1 } }, _, 2, rfl, .inr (.inl (by decide +kernel)), by decide +kernel⟩,
    ⟨{ lit with upd := { mode := true, kind := 1 } }, _, rfl, by decide +kernel⟩,
    ⟨{ lit with upd := { mode := true } }, _, rfl, by decide +kernel⟩,
    ⟨{ lit with upd := { mode := true, applied := [2] } }, _, rfl, by decide +kernel⟩,
    ⟨{ lit with upd := { trial := true, windowEnd := some 9 } }, _, rfl, by decide +kernel⟩,
    ⟨{ lit with upd := { mode := true, kind := 1 } }, _, List.replicate 4096 0, rfl, by decide +kernel⟩,
    ⟨{ lit with upd := { mode := true, kind := 1, manifest := umanB 8192 } }, _, List.replicate 4096 0, rfl, by decide +kernel⟩,
    ⟨{ lit with upd := { mode := true, kind := 1, manifest := umanC 64 ((Config.crc32c (List.replicate 64 0)).toNat + 1) } }, _, List.replicate 64 0, _, rfl, rfl, umanC_bad 64 _, by decide +kernel⟩,
    ⟨{ lit with upd := { mode := true, kind := 1, manifest := umanC 64 ((Config.crc32c (List.replicate 64 0)).toNat) } }, _, List.replicate 64 0, false, _, rfl, rfl, umanC_good 64 _, by decide +kernel⟩,
    ⟨{ lit with upd := { mode := true, kind := 1, manifest := umanC 64 ((Config.crc32c (List.replicate 64 0)).toNat) } }, _, List.replicate 64 0, true, _, _, rfl, rfl, umanC_good 64 _, .inr rfl, rfl, by decide +kernel⟩,
    ⟨{ lit with upd := { mode := true, kind := 1, transferred := true } }, by decide +kernel⟩,
    ⟨{ lit with upd := { mode := true, kind := 2, transferred := true } }, by decide +kernel⟩,
    ⟨{ lit with upd := { mode := true, kind := 1, verified := true } }, by decide +kernel⟩,
    ⟨{ lit with upd := { mode := true, kind := 2, verified := true } }, by decide +kernel⟩,
    ⟨{ { lit with upd := { mode := true } } with time := 120000000 }, by decide +kernel⟩⟩

theorem wit_HitlessActivation :
    (∃ (s : State) (t : State) (b : List Byte), b = (s.bank s.stagingBank).take (Img.size (s.bank s.stagingBank)) ∧ t = { s with upd := { ({} : Upd) with lastMsg := s.upd.lastMsg, trial := true, hitlessTrial := true, gateDown := true, oldImage := s.boot.image, oldFormat := s.boot.format }, stw := { s.stw with newFw := [] }, gate := { s.gate with sessions := [], established := [], officers := [] } } ∧ s.upd.scheduled = true ∧ s.atBoundary = true ∧ ((∀ p, p < 8 → (s.pav p).swap = none)))
    ∧ (∃ (s : State), s.upd.gateDown = true)
    ∧ (∃ (s : State) (p : Nat), s.dev.st = .tending ∧ s.upd.hitlessTrial = true ∧ p < 8 ∧ s.handing p = false ∧ s.stw.newFw.contains p = s.upd.reverse)
    ∧ (∃ (s : State) (p : Nat), s.dev.st = .tending ∧ s.handing p = true)
    ∧ (∃ (s : State) (p : Nat) (x : Nat), s.dev.st = .tending ∧ s.upd.reverse = false ∧ (p, x) ∈ s.upd.paused ∧ s.passed x 3000 = true ∧ s.upd.cause = none)
    ∧ (∃ (s : State) (x : Nat), s.upd.windowEnd = some x ∧ s.upd.trial = true ∧ x ≤ s.time ∧ s.before (turnAt x 9 0) = [])
    ∧ (∃ (s : State) (t : State), t = { s with upd := { s.upd with reverse := true, windowEnd := none, paused := s.upd.paused.map fun e => (e.1, s.time) } } ∧ s.upd.hitlessTrial = true ∧ s.upd.cause.isSome = true ∧ s.upd.reverse = false ∧ s.dev.st = .tending ∧ s.atBoundary = true)
    ∧ (∃ (s : State), s.dev.st = .tending ∧ s.upd.reverse = true ∧ s.overdue = true) :=
  ⟨⟨{ lit with sdl := { cadDone := true }, upd := { scheduled := true } }, _, _, rfl, rfl, by decide +kernel⟩,
    ⟨{ lit with upd := { gateDown := true } }, by decide +kernel⟩,
    ⟨{ lit with time := 3000, dev := { lit.dev with st := .tending }, sdl := { cadDone := true }, upd := { hitlessTrial := true } }, 7, by decide +kernel⟩,
    ⟨{ lit with time := 3000, dev := { lit.dev with st := .tending }, sdl := { cadDone := true }, upd := { paused := [(7, 5)] }, stw := { newFw := [0, 1, 2, 3, 4, 5, 6] } }, 7, by decide +kernel⟩,
    ⟨{ lit with time := 3000, dev := { lit.dev with st := .tending }, sdl := { cadDone := true }, upd := { paused := [(7, 0)] } }, 7, 0, by decide +kernel⟩,
    ⟨{ lit with time := 3000, dev := { lit.dev with st := .tending }, sdl := { cadDone := true }, upd := { trial := true, windowEnd := some 3000 } }, 3000, by decide +kernel⟩,
    ⟨{ lit with time := 3000, dev := { lit.dev with st := .tending }, sdl := { cadDone := true }, upd := { hitlessTrial := true, cause := some 2 } }, _, rfl, by decide +kernel⟩,
    ⟨{ lit with time := 3000, dev := { lit.dev with st := .tending }, sdl := { cadDone := true }, upd := { reverse := true, paused := [(7, 0)] } }, by decide +kernel⟩⟩

theorem wit_HandlingAndRepair :
    (∃ (s : State) (r : Nat) (i : Nat) (c : Cls), s.target r 12 0x130 .steward0 = some i ∧ Cls.ofInst i = some c ∧ s.dev.recovery = false)
    ∧ (∃ (s : State) (r : Nat) (i : Nat), (r = 0 ∨ r = 64) ∧ s.target r 12 0x124 .any = some i)
    ∧ (∃ (s : State) (i : Nat) (c : Cls), Cls.ofInst i = some c ∧ s.locked = true ∧ s.dev.recovery = false ∧ (s.errs.bank c).hip = true ∧ (s.errs.bank c).timedOut = false ∧ s.passed (s.errs.bank c).hipAt (s.rd R.hipLimit) = true)
    ∧ (∃ (s : State) (r : BitVec 256) (rest : List (BitVec 256)), (s.dev.recovery = false ∨ s.dev.st = .shuttered) ∧ s.errs.plogPending = r :: rest ∧ s.locked = true)
    ∧ (∃ (s : State), s.serving = true ∧ s.errs.repairPending = true)
    ∧ (∃ (s : State) (t : State) (p : Nat), t = (((s.moveToSpare p).takeTerr (terrOf p)).setPlot p { s.plot p with retire := false, rowRepair := [], ce := [], resid := none }).raise { cls := .corrected, event := Code.plotRetired, pav := s.plotPav p, unit := 1, inst := p } ∧ s.mayRetire p = true ∧ s.hasSpare (terrOf p) = true ∧ (s.plot p).bad = [])
    ∧ (∃ (s : State) (t : State) (p : Nat), t = (((s.moveToSpare p).takeTerr (terrOf p)).setPlot p { s.plot p with retire := false, rowRepair := [], ce := [], resid := none }).raise { cls := .corrected, event := Code.plotRetired, pav := s.plotPav p, unit := 1, inst := p } ∧ s.mayRetire p = true ∧ s.hasSpare (terrOf p) = true ∧ (s.plot p).bad ≠ [])
    ∧ (∃ (s : State) (p : Nat), s.mayRetire p = true ∧ s.hasSpare (terrOf p) = false)
    ∧ (∃ (s : State) (p : Nat), ((s.terr (terrOf p)).took = true ∨ (∃ m ∈ s.trellis, m.src = p ∨ m.dst = p) ∨ ((s.plotPav p).isSome = true ∧ (s.terr (terrOf p)).rows ≠ [])))
    ∧ (∃ (s : State) (t : State) (p : Nat), t = s.setPlot p { s.plot p with resid := some s.time } ∧ s.serving = true ∧ (s.plot p).resid = none)
    ∧ (∃ (s : State) (t : State) (p : Nat) (u : _), t = s.setPlot p { s.plot p with resid := some s.time } ∧ s.serving = true ∧ (s.plot p).resid = some u)
    ∧ (∃ (s : State) (t : State) (r : Nat) (i : Nat), t = s.dropLatch r (13 * 65536) ∧ s.target r 13 0x8 .pf = some i)
    ∧ (∃ (s : State) (r : Nat) (i : Nat) (p : Nat) (v : Word32), p = v.toNat % 16 ∧ s.target r 13 0xC .pf = some i ∧ v.getLsbD 31 = true ∧ p < 12)
    ∧ (∃ (s : State) (ms : List Nat), s.serving = true ∧ s.agingDue = true ∧ ms.length ≤ 2048) :=
  ⟨⟨{ lit with acc := { chsel := [(12 * 73 + 65, 4)] } }, 65, 4, .device, by decide +kernel⟩,
    ⟨lit, 64, 0, .inr rfl, by decide +kernel⟩,
    ⟨{ lit with time := 1000000, errs := { pavilion := { hip := true, primary := 2 ^ 27 } } }, 3, .pavilion, by decide +kernel⟩,
    ⟨{ lit with errs := { plogPending := [1] } }, 1, [], .inl (by decide +kernel), by decide +kernel⟩,
    ⟨{ lit with errs := { repairPending := true } }, by decide +kernel⟩,
    ⟨{ lit with sdl := { cadDone := true }, plots := [(2047, { retire := true })] }, _, 2047, rfl, by decide +kernel⟩,
    ⟨{ lit with sdl := { cadDone := true }, plots := [(2047, { retire := true, bad := [5] })] }, _, 2047, rfl, by decide +kernel⟩,
    ⟨{ lit with sdl := { cadDone := true }, plots := [(2047, { retire := true })], nvm := { repair := { spareGone := [31] } } }, 2047, by decide +kernel⟩,
    ⟨{ lit with trellis := [note] }, 0, .inr (.inl ⟨note, by simp, .inl rfl⟩)⟩,
    ⟨lit, _, 2047, rfl, by decide +kernel⟩,
    ⟨{ lit with time := 1000005, plots := [(2047, { resid := some 5 })] }, _, 2047, 5, rfl, by decide +kernel⟩,
    ⟨lit, _, 0, 0, rfl, by decide +kernel⟩,
    ⟨lit, 0, 0, _, 0x8000000B, rfl, by decide +kernel⟩,
    ⟨lit, [40, 255], by decide +kernel⟩⟩

theorem wit_PowerAndTemperature :
    (∃ (s : State) (w : Nat) (l : List Nat), l = (w :: s.pwr.samples).take 10 ∧ s.readingDue = true ∧ s.sdl.powerDone = false)
    ∧ (∃ (s : State), s.locked = true ∧ s.dev.st ≠ .shuttered ∧ s.pwr.fastCapped = false)
    ∧ (∃ (s : State) (x : Nat), s.pwr.raising = some x ∧ s.pwr.reached = false)
    ∧ (∃ (s : State) (r : Nat) (i : Nat), s.target r 0 0x10 .pf = some i)
    ∧ (∃ (s : State) (tj : Nat), s.dev.st = .dormant ∧ s.dev.tripHold = true ∧ tj < 95)
    ∧ (∃ (s : State) (c : Instr), c ∈ ([.railUndervoltage, .aonOscillatorStop] : List Instr) ∧ s.dev.st ≠ .dormant) :=
  ⟨⟨{ lit with pwr := { samples := [600, 640] } }, 700, _, rfl, by decide +kernel⟩,
    ⟨lit, by decide +kernel⟩,
    ⟨{ lit with pwr := { raising := some 1800 } }, 1800, by decide +kernel⟩,
    ⟨lit, 0, 0, by decide +kernel⟩,
    ⟨{ dev := { tripHold := true } }, 94, by decide +kernel⟩,
    ⟨lit, .railUndervoltage, by simp, by decide +kernel⟩⟩

theorem wit_FlashMaintenance :
    (∃ (s : State) (t : State) (u : State) (c : Instr) (r : Nat) (i : Nat) (op : Nat) (chan : Nat) (ce : Nat), (c, op) ∈ ([(.nandPageProgram r chan ce, 1), (.nandBlockErase r chan ce, 2)] : List (Instr × Nat)) ∧ t = s.dropLatch r (15 * 65536) ∧ u = ((t.wr R.nandOp op).wr R.nandChannel chan).wr R.nandCe ce ∧ s.target r 15 0 .pf = some i ∧ t.rd R.nandBusy = 1)
    ∧ (∃ (s : State) (t : State) (u : State) (c : Instr) (r : Nat) (i : Nat) (op : Nat) (chan : Nat) (ce : Nat), (c, op) ∈ ([(.nandPageProgram r chan ce, 1), (.nandBlockErase r chan ce, 2)] : List (Instr × Nat)) ∧ t = s.dropLatch r (15 * 65536) ∧ u = ((t.wr R.nandOp op).wr R.nandChannel chan).wr R.nandCe ce ∧ s.target r 15 0 .pf = some i ∧ t.rd R.nandBusy ≠ 1)
    ∧ (∃ (s : State) (a : Nat) (n : Nat), (a, n) = Config.nandBlock (s.rd R.nandChannel) (s.rd R.nandCe) (s.rd R.nandRow) ∧ s.rd R.nandBusy = 1 ∧ s.rd R.nandOp = 2)
    ∧ (∃ (s : State) (a : Nat), a = Config.nandPage (s.rd R.nandChannel) (s.rd R.nandCe) (s.rd R.nandRow) ∧ s.rd R.nandBusy = 1 ∧ s.rd R.nandOp = 1)
    ∧ (∃ (s : State) (a : Nat) (n : Nat), (a, n) = (if s.rd R.nandOp = 1 then (Config.nandPage (s.rd R.nandChannel) (s.rd R.nandCe) (s.rd R.nandRow), 32768) else Config.nandBlock (s.rd R.nandChannel) (s.rd R.nandCe) (s.rd R.nandRow)) ∧ s.rd R.nandBusy = 1) :=
  ⟨⟨lit.wr R.nandBusy 1, _, _, .nandBlockErase 0 3 1, 0, 0, 2, 3, 1, by simp, rfl, rfl, by decide +kernel⟩,
    ⟨lit, _, _, .nandBlockErase 0 3 1, 0, 0, 2, 3, 1, by simp, rfl, rfl, by decide +kernel⟩,
    ⟨(lit.wr R.nandBusy 1).wr R.nandOp 2, _, _, Prod.eta _, by decide +kernel⟩,
    ⟨(lit.wr R.nandBusy 1).wr R.nandOp 1, _, rfl, by decide +kernel⟩,
    ⟨lit.wr R.nandBusy 1, _, _, Prod.eta _, by decide +kernel⟩⟩

end Sys2Proof.Tests
end

/-! PROOFS. The directory's choice at one layer: the top priority among the entries that match, at its lowest slot. -/
namespace Sys2Proof.Proofs
open Sys2Proof Sys2Proof.Machine

/-- A bound holds of a running maximum just when it holds of the start and of every value met. -/
theorem foldl_max_le_iff {α : Type} {f : α → Nat} {l : List α} {m b : Nat} :
    l.foldl (fun m a => max m (f a)) m ≤ b ↔ m ≤ b ∧ ∀ a ∈ l, f a ≤ b := by
  induction l generalizing m with
  | nil => simp only [List.foldl_nil, List.not_mem_nil, false_implies, implies_true, and_true]
  | cons a l ih => simp only [List.foldl_cons, ih, Nat.max_le, List.forall_mem_cons, and_assoc]

theorem le_foldl_max {α : Type} {f : α → Nat} {l : List α} {a : α} (m : Nat) (ha : a ∈ l) :
    f a ≤ l.foldl (fun m a => max m (f a)) m :=
  (foldl_max_le_iff.1 (Nat.le_refl _)).2 a ha

/-- The first entry of a table has its lowest index. -/
theorem Tab.le_of_head? {α : Type} {t : Tab α} {e x : Nat × α} (h : Tab.Rises t) (he : t.head? = some e) (hx : x ∈ t) :
    e.1 ≤ x.1 := by
  cases t with
  | nil => cases hx
  | cons y t =>
    obtain rfl : y = e := Option.some.inj he
    obtain ⟨hlt, -⟩ := List.pairwise_cons.1 h
    rcases List.mem_cons.1 hx with rfl | hx
    · exact Nat.le_refl _
    · exact Nat.le_of_lt (hlt x.1 (List.mem_map_of_mem hx))

/-- What `dir_match` answers (R21, R26): the slot of an entry that matches, whose PRIO no entry that matches exceeds, and
below which none that matches has that PRIO. -/
theorem dirMatch_some {s : State} {tenant hash model layer k : Nat} (hr : Tab.Rises s.dir)
    (hk : (s.dirMatch tenant hash model layer).1 = some k) :
    ∃ e, (k, e) ∈ s.dir ∧ e.hit tenant hash model layer = true
      ∧ ∀ x ∈ s.dir, x.2.hit tenant hash model layer = true → x.2.prio ≤ e.prio ∧ (x.2.prio = e.prio → k ≤ x.1) := by
  obtain ⟨⟨i, e⟩, hhead, rfl⟩ := Option.map_eq_some_iff.1 hk
  obtain ⟨hmem, htop⟩ := List.mem_filter.1 (List.mem_of_head? hhead)
  obtain ⟨hdir, hhit⟩ := List.mem_filter.1 hmem
  refine ⟨e, hdir, hhit, fun x hx hxhit => ?_⟩
  have hxmem : x ∈ s.dir.filter fun y => y.2.hit tenant hash model layer := List.mem_filter.2 ⟨hx, hxhit⟩
  have hbest := eq_of_beq htop
  have hle : x.2.prio + 1 ≤ e.prio + 1 :=
    Nat.le_trans (le_foldl_max (f := fun y : Nat × DirEnt => y.2.prio + 1) 0 hxmem) (Nat.le_of_eq hbest.symm)
  refine ⟨Nat.le_of_succ_le_succ hle, fun hprio => ?_⟩
  exact Tab.le_of_head? (Tab.rises_filter _ (Tab.rises_filter _ hr)) hhead
    (List.mem_filter.2 ⟨hxmem, beq_iff_eq.2 ((congrArg (· + 1) hprio).trans hbest)⟩)

/-- Settles O35: no entry that matches exceeds the winner's PRIO, and one that equals it stands at no lower slot. -/
theorem directoryMatchOrder : Obligations.DirectoryMatchOrder := by
  intro s tenant hash model layer k hr hk
  obtain ⟨e, hdir, hhit, hbest⟩ := dirMatch_some hr hk
  refine ⟨e, hdir, hhit, fun j f hf hfhit => ?_⟩
  obtain ⟨hle, hlow⟩ := hbest (j, f) hf hfhit
  rcases Nat.lt_or_eq_of_le hle with hlt | heq
  · exact .inl hlt
  · exact .inr ⟨heq, hlow heq⟩

end Sys2Proof.Proofs

/-! PROOFS. Tile counters (R117 to R119): what a draw and an arming answer, and the one counter they change. -/
namespace Sys2Proof.Proofs
open Sys2Proof Sys2Proof.Machine Sys2Proof.Laws

/-- A field of w bits counts less than 2^w. -/
theorem bits_lt {n : Nat} (v : BitVec n) (lo w : Nat) : bits v lo w < 2 ^ w := Nat.mod_lt _ (Nat.two_pow_pos w)

/-- A terrace holds 16 counters, so a write of one leaves every other of any terrace alone. -/
theorem tc_setTc_other {s : State} {g c t d : Nat} (v : Nat × Nat) (hc : c < 16) (hd : d < 16) (h : (g, c) ≠ (t, d)) :
    (s.setTc t d v).tc g c = s.tc g c := by
  refine Tab.get_put_other v fun hkey => h (Prod.ext ?_ ?_)
  · show g = t
    omega
  · show c = d
    omega

/-- A draw below the limit answers VALUE and increments it. -/
theorem draw_value {s : State} {g c v l : Nat} (htc : s.tc g c = (v, l)) (hne : v ≠ l) :
    s.draw g c = (some v, s.setTc g c ((v + 1) % 2 ^ 24, l)) := by
  simp only [State.draw, htc, if_neg hne]

/-- A draw at the limit answers nothing and changes nothing. -/
theorem draw_exhausted {s : State} {g c v : Nat} (htc : s.tc g c = (v, v)) : s.draw g c = (none, s) := by
  simp only [State.draw, htc, if_true]

section TcntNext
variable {s : State} {p : Nat} {w a : Word32} (hact : (s.plot p).active = true)
  (hlegal : In.legal w 0x0B 2 false true = true) (ha : a = (s.plot p).cpu.reg (In.rs1 w)) (hsel : bits a 4 28 = 0)
include hact hlegal ha hsel

theorem exec_tcntNext_value {v l : Nat} (htc : s.tc (terrOf p) (bits a 0 4) = (v, l)) (hne : v ≠ l) :
    exec (.tcntNext p w) s
      = .next ((s.setTc (terrOf p) (bits a 0 4) ((v + 1) % 2 ^ 24, l)).insnDone p (In.rd w) (BitVec.ofNat 32 v)) := by
  subst ha
  show execTcntNext p w s = _
  simp only [execTcntNext, custom_legal hact hlegal, hsel, draw_value htc hne]
  rfl

theorem exec_tcntNext_exhausted {v : Nat} (htc : s.tc (terrOf p) (bits a 0 4) = (v, v)) :
    exec (.tcntNext p w) s = .next (s.insnDone p (In.rd w) 0xFFFFFFFF) := by
  subst ha
  show execTcntNext p w s = _
  simp only [execTcntNext, custom_legal hact hlegal, hsel, draw_exhausted htc]
  rfl

end TcntNext

/-- A word of tcnt_arm whose reserved bits are 0 arms the counter it selects. -/
theorem exec_tcntArm_arms {s : State} {p : Nat} {v : Word32} (hact : (s.plot p).active = true) (hres : bits v 28 4 = 0) :
    exec (.tcntArm p v) s
      = .next ((s.setTc (terrOf p) (bits v 24 4) (0, bits v 0 24)).insnDone p ((s.plot p).csrRd 0x7C0)
          (s.free64.setWidth 32)).tickFree := by
  show execTcntArm p v s = _
  simp only [execTcntArm, hact, hres]
  rfl

/-- A word of tcnt_arm with a reserved bit set is PLOT_BAD_OPERAND (R129). -/
theorem exec_tcntArm_traps {s : State} {p : Nat} {v : Word32} (hact : (s.plot p).active = true) (hres : bits v 28 4 ≠ 0) :
    exec (.tcntArm p v) s = .next (s.trap p 26 v) := by
  show execTcntArm p v s = _
  simp only [execTcntArm, hact, bne_iff_ne.2 hres]
  rfl

/-- Settles O16: a draw and an arming are each a write of one counter and an instruction that completes; a counter at its
limit, as reset leaves every one, is not written. -/
theorem tileCounters : Obligations.TileCounters := by
  refine ⟨?_, ?_, ?_, ?_, fun _ _ => rfl, ?_⟩
  · intro s p w a v l hact hlegal ha hsel htc hne
    exact ⟨_, exec_tcntNext_value hact hlegal ha hsel htc hne, State.tc_setTc s _ _ _,
      fun g c hc hother => tc_setTc_other _ hc (bits_lt a 0 4) hother, insnDone_only _ _ _ _, insnDone_retired _ _ _ _⟩
  · intro s p w a v hact hlegal ha hsel htc
    exact ⟨_, exec_tcntNext_exhausted hact hlegal ha hsel htc, insnDone_only _ _ _ _, insnDone_retired _ _ _ _⟩
  · intro s p v hact hres
    exact ⟨_, _, exec_tcntArm_arms hact hres, State.tc_setTc s _ _ _,
      fun g c hc hother => tc_setTc_other _ hc (bits_lt v 24 4) hother, insnDone_only _ _ _ _, insnDone_retired _ _ _ _⟩
  · intro s p v hact htrap hres
    exact ⟨_, exec_tcntArm_traps hact hres, trap_trapped htrap⟩
  · intro s p w a hact hlegal ha hsel htc
    exact ⟨_, exec_tcntNext_exhausted hact hlegal ha hsel htc, htc, insnDone_retired _ _ _ _⟩

end Sys2Proof.Proofs

/-! PROOFS. Halo exchanges (R106 to R108): what ends or traps an exchange in one plot, and in the two plots of a pair. -/
namespace Sys2Proof.Proofs
open Sys2Proof Sys2Proof.Machine Sys2Proof.Laws

/-- A change of one plot and then of another is a change of those two, each of them as the change of its own leaves it. -/
theorem onlyPlot_pair {p n : Nat} {s t u : State} (hne : n ≠ p) (hp : OnlyPlot p s t) (hn : OnlyPlot n t u) :
    u = { s with plots := u.plots } ∧ (∀ j, j ≠ p → j ≠ n → u.plot j = s.plot j) ∧ u.plot p = t.plot p
      ∧ t.plot n = s.plot n := by
  obtain ⟨hst, hp⟩ := hp
  obtain ⟨htu, hn⟩ := hn
  exact ⟨by rw [htu, hst], fun j hjp hjn => (hn j hjn).trans (hp j hjp), hn p hne.symm, hp n hne⟩

/-! ### One plot -/

theorem haloEnd_only (s : State) (p : Nat) (h : Halo) (bs : List Byte) : OnlyPlot p s (s.haloEnd p h bs) :=
  setPlot_insnDone_only _ _ _ _ _

/-- The bytes received are written at RADDR (R107). -/
theorem haloEnd_store (s : State) (p : Nat) (h : Halo) (bs : List Byte) :
    ((s.haloEnd p h bs).plot p).store = Mem.write (s.plot p).store h.recv bs := by
  simp only [State.haloEnd, insnDone_store, State.plot_setPlot]
  rfl

theorem haloEnd_halo (s : State) (p : Nat) (h : Halo) (bs : List Byte) : ((s.haloEnd p h bs).plot p).halo = none := by
  simp only [State.haloEnd, insnDone_halo, State.plot_setPlot]
  rfl

/-- The instruction completes with the count of the bytes received. -/
theorem haloEnd_retired {s : State} {p : Nat} {h : Halo} {bs : List Byte} {len : Nat} (hlen : bs.length = len) :
    Retired h.rd (BitVec.ofNat 32 len) (s.plot p).cpu ((s.haloEnd p h bs).plot p).cpu :=
  hlen ▸ setPlot_insnDone_retired_of rfl

/-- An exchange that traps is over, and its plot is trapped with the halo word as mtval (R129). -/
theorem haloTrap_trapped {s : State} {p cause : Nat} {h : Halo} (htrap : (s.plot p).inTrap = false) :
    OnlyPlot p s (s.haloTrap p cause h)
      ∧ Trapped cause h.word { s.plot p with halo := none } ((s.haloTrap p cause h).plot p) := by
  have hnone : ((s.setPlot p { s.plot p with halo := none }).plot p).inTrap = false := by
    rw [State.plot_setPlot]
    exact htrap
  obtain ⟨honly, htrapped⟩ := trap_trapped (cause := cause) (v := h.word) hnone
  rw [State.plot_setPlot] at htrapped
  exact ⟨onlyPlot_trans (onlyPlot_setPlot _ _ _) honly, htrapped⟩

/-- What a trap of an exchange leaves in its plot. -/
theorem haloTrapped_effect {q r : Plot} {cause : Nat} {v : Word32} (h : Trapped cause v { q with halo := none } r) :
    r.store = q.store ∧ r.cpu.mcause = BitVec.ofNat 32 cause ∧ r.inTrap = true ∧ r.halo = none := by
  obtain ⟨hin, -, hcause, -, -, -, hr⟩ := h
  exact ⟨by rw [hr], hcause, hin, by rw [hr]⟩

/-! ### The instruction -/

/-- The exchange that an instruction and its operands name (R101, R106). -/
def haloAsked (w a d : Word32) (len : Nat) : Halo :=
  { dir := bits d 0 2, len := len, send := a.toNat, recv := 16 * bits d 12 20, rd := In.rd w }

section HaloXch
variable {s : State} {p len : Nat} {w a d : Word32} (hact : (s.plot p).active = true)
  (hlegal : In.legal w 0x2B 0 false false = true) (ha : a = (s.plot p).cpu.reg (In.rs1 w))
  (hd : d = (s.plot p).cpu.reg (In.rs2 w)) (hlen : len = if bits d 2 8 = 0 then 4096 else 16 * bits d 2 8)
  (hres : bits d 10 2 = 0) (hsend : inStore a.toNat len 16 = true) (hrecv : inStore (16 * bits d 12 20) len 16 = true)
include hact hlegal ha hd hlen hres hsend hrecv

/-- Beyond the grid's edge there is no exchange. -/
theorem exec_haloXch_edge (hedge : neighbour p (bits d 0 2) = none) :
    exec (.haloXch p w) s = .next (s.insnDone p (In.rd w) 0) := by
  show execHaloXch p w s = _
  simp only [execHaloXch, custom_legal hact hlegal, ← ha, ← hd, ← hlen, hres, hsend, hrecv, hedge]
  rfl

/-- A neighbour that has begun the opposite exchange with the same length: both plots end. -/
theorem exec_haloXch_agrees {n : Nat} {g : Halo} (hn : neighbour p (bits d 0 2) = some n)
    (hg : s.haloOf n ((bits d 0 2 + 2) % 4) = some g) (hsame : g.len = len) :
    exec (.haloXch p w) s = .next ((s.haloEnd p (haloAsked w a d len) ((s.plot n).bytes g.send g.len)).haloEnd n g
      ((s.plot p).bytes a.toNat g.len)) := by
  show execHaloXch p w s = _
  simp only [execHaloXch, custom_legal hact hlegal, ← ha, ← hd, ← hlen, hres, hsend, hrecv, hn, hg, hsame, if_true]
  rfl

/-- A neighbour that has begun the opposite exchange with another length: both plots trap (R107). -/
theorem exec_haloXch_differs {n : Nat} {g : Halo} (hn : neighbour p (bits d 0 2) = some n)
    (hg : s.haloOf n ((bits d 0 2 + 2) % 4) = some g) (hdiff : g.len ≠ len) :
    exec (.haloXch p w) s = .next ((s.haloTrap p 28 (haloAsked w a d len)).haloTrap n 28 g) := by
  show execHaloXch p w s = _
  simp only [execHaloXch, custom_legal hact hlegal, ← ha, ← hd, ← hlen, hres, hsend, hrecv, hn, hg, if_neg hdiff]
  rfl

end HaloXch

/-- HALO_TIMEOUT of a plot that waits on a halo exchange traps it. -/
theorem exec_haloTimeout_waiting {s : State} {p : Nat} {h : Halo} (hh : (s.plot p).halo = some h) :
    exec (.haloTimeout p) s = .next (s.haloTrap p 29 h) := by
  show execHaloTimeout p s = _
  simp only [execHaloTimeout, hh]

/-- Settles O18: an exchange ends or traps in one plot at a time, and neither plot's change touches the other. -/
theorem haloExchange : Obligations.HaloExchange := by
  refine ⟨?_, ?_, ?_, ?_⟩
  · intro s p n len w a d g hact hlegal ha hd hlen hres hsend hrecv hn hg hsame hne
    obtain ⟨hframe, hother, hup, htn⟩ := onlyPlot_pair hne
      (haloEnd_only s p (haloAsked w a d len) ((s.plot n).bytes g.send g.len))
      (haloEnd_only _ n g ((s.plot p).bytes a.toNat g.len))
    refine ⟨_, exec_haloXch_agrees hact hlegal ha hd hlen hres hsend hrecv hn hg hsame, hframe, hother, ?_, ?_, ?_,
      haloEnd_halo _ _ _ _, ?_, ?_⟩
    · rw [hup, haloEnd_store]
      rfl
    · rw [haloEnd_store, htn]
    · rw [hup, haloEnd_halo]
    · rw [hup]
      exact haloEnd_retired (h := haloAsked w a d len) (read_length _ _ _)
    · rw [← congrArg Plot.cpu htn]
      exact haloEnd_retired (read_length _ _ _)
  · intro s p len w a d hact hlegal ha hd hlen hres hsend hrecv hedge
    exact ⟨_, exec_haloXch_edge hact hlegal ha hd hlen hres hsend hrecv hedge, insnDone_only _ _ _ _,
      insnDone_store _ _ _ _, insnDone_retired _ _ _ _⟩
  · intro s p n len w a d g hact hlegal ha hd hlen hres hsend hrecv hn hg hdiff hne hpt hnt
    obtain ⟨honlyp, htrapp⟩ := haloTrap_trapped (cause := 28) (h := haloAsked w a d len) hpt
    have htn := honlyp.2 n hne
    obtain ⟨honlyn, htrapn⟩ := haloTrap_trapped (cause := 28) (h := g) ((congrArg Plot.inTrap htn).trans hnt)
    obtain ⟨hframe, hother, hup, -⟩ := onlyPlot_pair hne honlyp honlyn
    obtain ⟨hstorep, hcausep, hinp, hhalop⟩ := haloTrapped_effect htrapp
    obtain ⟨hstoren, hcausen, hinn, hhalon⟩ := haloTrapped_effect htrapn
    rw [← hup] at hstorep hcausep hinp hhalop
    rw [htn] at hstoren
    exact ⟨_, exec_haloXch_differs hact hlegal ha hd hlen hres hsend hrecv hn hg hdiff, hframe, hother, hstorep, hstoren,
      hcausep, hcausen, hinp, hinn, hhalop, hhalon⟩
  · intro s p h hh htrap
    obtain ⟨honly, htrapped⟩ := haloTrap_trapped (cause := 29) (h := h) htrap
    obtain ⟨-, -, -, hhalo⟩ := haloTrapped_effect htrapped
    exact ⟨_, exec_haloTimeout_waiting hh, honly, hhalo, htrapped⟩

end Sys2Proof.Proofs

/-! PROOFS. The whole block: a step takes one command, answers a next state, and keeps what every command keeps. -/
namespace Sys2Proof.Proofs
open Sys2Proof Sys2Proof.Machine Sys2Proof.Laws

/-! ### A step -/

theorem step_nil {s : State} (h : s.pending = []) : step s = .next s.tick := by
  simp only [step, h]

theorem step_cons {s : State} {c : Instr} {cs : List Instr} (h : s.pending = c :: cs) :
    step s = exec c { s with pending := cs } := by
  simp only [step, h]

/-- Settles O1: `step` matches on the queue. -/
theorem stepRunsTheFront : Obligations.StepRunsTheFront := fun _ _ _ h => step_cons h

/-- What keeps beside a sound state keeps beside itself: the queue, outputs and fuses are its own. -/
theorem keeps_of_sound {s : State} (h : Sound s) : Keeps s s :=
  ⟨{ pending := rfl, out := List.prefix_rfl, freeCtr := Nat.le_refl _, sv := Nat.le_refl _, fuses := rfl,
     mem := h.mem, flash := h.flash, regs := h.regs }⟩

theorem sound_of_keeps {b t : State} (h : Keeps b t) : Sound t :=
  ⟨h.all.mem, h.all.flash, h.all.regs⟩

/-- Taking the front command off the queue leaves a sound state sound. -/
theorem sound_dequeue {s : State} (h : Sound s) (cs : List Instr) : Sound { s with pending := cs } :=
  ⟨h.mem, h.flash, h.regs⟩

/-- A command answers a next state that keeps. -/
theorem exec_keeps {b s : State} (c : Instr) (h : Keeps b s) : ∃ t, exec c s = .next t ∧ Keeps b t := by
  generalize hr : exec c s = r
  have hk := hr ▸ keeps_exec c h
  cases hk with
  | next ht => exact ⟨_, rfl, ht⟩

/-- A step of a sound state answers a next state that keeps, beside the state without the command taken. -/
theorem step_keeps {s : State} (h : Sound s) : ∃ t, step s = .next t ∧ Keeps { s with pending := s.pending.tail } t := by
  cases hp : s.pending with
  | nil =>
    have hs : { s with pending := ([] : List Instr).tail } = s := by rw [List.tail_nil, ← hp]
    rw [hs]
    exact ⟨_, step_nil hp, keeps_State_tick (keeps_of_sound h)⟩
  | cons c cs =>
    rw [step_cons hp]
    exact exec_keeps c (keeps_of_sound (sound_dequeue h cs))

/-- Settles O5: every command keeps the canonical forms, and so does a tick. -/
theorem everyStepKeepsSound : Obligations.EveryStepKeepsSound := fun _ h =>
  let ⟨t, ht, hk⟩ := step_keeps h
  ⟨t, ht, sound_of_keeps hk⟩

/-- Settles O7: outputs are only appended to, and the queue is touched by the step alone. -/
theorem outputsAndQueueOverAStep : Obligations.OutputsAndQueueOverAStep := by
  intro s t h hst
  obtain ⟨u, hu, hk⟩ := step_keeps h
  obtain rfl : t = u := Host.Outcome.next.inj (hst.symm.trans hu)
  exact ⟨hk.all.out, hk.all.pending⟩

theorem run_succ (n : Nat) {s u : State} (h : step s = .next u) : core.run (n + 1) s = core.run n u := by
  have hstep : core.step s = .next u := h
  simp only [Host.Core.run, hstep]

/-- Settles O6, by induction on the length of the run: each step keeps the fuses but for positions blown. -/
theorem noRunLowersTheSecurityVersion : Obligations.NoRunLowersTheSecurityVersion := by
  intro n
  induction n with
  | zero => exact fun s _ => ⟨s, rfl, Nat.le_refl _, rfl⟩
  | succ n ih =>
    intro s h
    obtain ⟨u, hu, hk⟩ := step_keeps h
    obtain ⟨t, ht, hsv, hf⟩ := ih u (sound_of_keeps hk)
    refine ⟨t, ?_, Nat.le_trans hk.all.sv hsv, ?_⟩
    · rw [← ht]
      exact run_succ n hu
    · have huf := hk.all.fuses
      calc { t.fuses with sv := s.fuses.sv }
          = { ({ t.fuses with sv := u.fuses.sv } : Fuses) with sv := s.fuses.sv } := rfl
        _ = { u.fuses with sv := s.fuses.sv } := by rw [hf]
        _ = s.fuses := huf

/-- Settles O4: at reset memory, flash and the register file list nothing. -/
theorem soundAtReset : Obligations.SoundAtReset := ⟨rfl, rfl, List.Pairwise.nil⟩

/-- Settles O3: every table is empty at reset, so each entry reads its default. -/
theorem resetState : Obligations.ResetState :=
  ⟨rfl, rfl, rfl, rfl, rfl, rfl, rfl, fun _ => rfl, fun _ => rfl, fun _ => rfl, fun _ => rfl⟩

/-! ### An empty queue -/

/-- Nothing changed but device time and the Sundial receiver. -/
def OnlyTime (s t : State) : Prop := t = { s with time := t.time, sdl := t.sdl }

theorem OnlyTime.trans {s t u : State} (h : OnlyTime s t) (k : OnlyTime t u) : OnlyTime s u := by
  unfold OnlyTime at *
  rw [k, h]

theorem OnlyTime.foldl {α : Type} {f : State → α → State} (hf : ∀ t x, OnlyTime t (f t x)) (l : List α) (s : State) :
    OnlyTime s (l.foldl f s) := by
  induction l generalizing s with
  | nil => exact rfl
  | cons x l ih => exact (hf s x).trans (ih _)

theorem OnlyTime.refl (s : State) : OnlyTime s s := rfl

theorem onlyTime_sdl (s : State) (d : SdlS) : OnlyTime s { s with sdl := d } := rfl

theorem paySlew_onlyTime (s : State) : OnlyTime s s.paySlew := rfl

theorem advance_onlyTime (s : State) : OnlyTime s s.advance := by
  have hpay : OnlyTime s (if s.sdl.slewOwed then (s.oweOver s.time (s.time + 1)).paySlew else s) := by split <;> rfl
  refine hpay.trans ?_
  unfold State.advance
  dsimp only
  generalize (if s.sdl.slewOwed then (s.oweOver s.time (s.time + 1)).paySlew else s) = u
  split
  · rfl
  · split
    · rfl
    · split <;> rfl

theorem symTick_onlyTime (s : State) (y : Sym) (missing : Bool) (ns : Nat) : OnlyTime s (s.symTick y missing ns) := by
  unfold State.symTick
  split
  · rfl
  · dsimp only
    split
    · exact (onlyTime_sdl s _).trans (OnlyTime.foldl (fun t _ => advance_onlyTime t) _ _)
    · rfl

theorem idle_onlyTime (s : State) : OnlyTime s s.idle := by
  unfold State.idle
  split
  · rfl
  · dsimp only
    split
    · split
      · exact (onlyTime_sdl s _).trans (symTick_onlyTime _ _ _ _)
      · exact ((onlyTime_sdl s _).trans (symTick_onlyTime _ _ _ _)).trans (advance_onlyTime _)
    · split
      · rfl
      · split
        · rfl
        · exact (onlyTime_sdl s _).trans (advance_onlyTime _)

theorem idle_serving (s : State) : s.idle.serving = s.serving := by rw [idle_onlyTime s]; rfl

theorem tick_of_not_serving {s : State} (h : s.serving = false) : s.tick = s.idle := by
  simp only [State.tick, idle_serving, h, Bool.false_eq_true, if_false]

theorem tick_of_dormant {s : State} (h : s.dev.st = .dormant) : s.tick = s := by
  have hs : s.serving = false := by simp only [State.serving, h]
  rw [tick_of_not_serving hs, State.idle, if_pos h]

/-- Settles O2: a tick is the idle clock, and on a device that serves what the root and the plots do. -/
theorem emptyQueueTicks : Obligations.EmptyQueueTicks := by
  intro s h hp
  have hk := keeps_State_tick (keeps_of_sound h)
  refine ⟨step_nil hp, hk.all.pending.trans hp, hk.all.out, tick_of_dormant, fun hs => ?_⟩
  rw [tick_of_not_serving hs, idle_onlyTime s]
  exact ⟨rfl, rfl, rfl, rfl, rfl, rfl, rfl⟩

end Sys2Proof.Proofs

/-! PROOFS. The Sundial receiver (chapter 2): edges, frames that lock, losses of time, and time over Torvol. -/
namespace Sys2Proof.Proofs
open Sys2Proof Sys2Proof.Machine Sys2Proof.Laws

/-! ### Ticks -/

/-- With no slew in progress a tick of the source is one tk. -/
theorem advance_no_slew {s : State} (hslew : s.sdl.slew = 0) (howed : s.sdl.slewOwed = false) :
    s.advance = s.setTime (s.time + 1) := by
  unfold State.advance
  simp only [howed, Bool.false_eq_true, if_false, hslew, if_true]

theorem setTime_mod (s : State) (t : Nat) : s.setTime (t % 2 ^ 64) = s.setTime t := by
  simp only [State.setTime, Nat.mod_mod]

theorem setTime_mod_add (s : State) (t n : Nat) : s.setTime (t % 2 ^ 64 + n) = s.setTime (t + n) := by
  rw [← setTime_mod, ← setTime_mod s (t + n), Nat.mod_add_mod]

/-- Ticks of the source with no slew in progress set device time once, by their number. -/
theorem foldl_advance {s : State} (hslew : s.sdl.slew = 0) (howed : s.sdl.slewOwed = false) (l : List Nat) :
    l.foldl (fun (u : State) _ => u.advance) s = if l = [] then s else s.setTime (s.time + l.length) := by
  induction l generalizing s with
  | nil => rfl
  | cons x l ih =>
    rw [List.foldl_cons, advance_no_slew hslew howed, ih (s := s.setTime (s.time + 1)) hslew howed]
    split
    · next hl => rw [hl]; rfl
    · rw [if_neg (List.cons_ne_nil x l), List.length_cons]
      show s.setTime ((s.time + 1) % 2 ^ 64 + l.length) = _
      rw [setTime_mod_add, Nat.add_right_comm, Nat.add_assoc]

/-- The symbol that a tick enters: an edge that is missing, or comes late after one, closes no valid tick. -/
def heardSym (sd : SdlS) (y : Sym) (missing : Bool) : Sym := if missing ∨ sd.refMoved = true then Sym.invalid else y

/-- The receiver after a symbol enters its record of ticks (R66, R70). -/
def SdlS.heard (sd : SdlS) (y : Sym) (missing : Bool) (ns : Nat) : SdlS :=
  let z := heardSym sd y missing
  { sd with
    refMoved := missing
    bad := if z = .invalid then sd.bad + 1 else 0
    ticks := (z :: sd.ticks).take 128
    pos := sd.pos + sd.tkOf z ns
    accNs := if z = .invalid then sd.accNs + ns else 0
    accTk := if z = .invalid then sd.accTk + sd.tkOf z ns else 0 }

theorem symTick_eq {s : State} (hrx : s.sdl.rxEn = true) (y : Sym) (missing : Bool) (ns : Nat) :
    s.symTick y missing ns =
      if s.sdl.st = .locked then
        (List.range (s.sdl.tkOf (heardSym s.sdl y missing) ns)).foldl (fun (u : State) _ => u.advance)
          { s with sdl := SdlS.heard s.sdl y missing ns }
      else { s with sdl := SdlS.heard s.sdl y missing ns } := by
  unfold State.symTick
  rw [if_neg (by simp only [hrx, reduceCtorEq, not_false_eq_true])]
  rfl

/-- An edge while LOCKED with no slew in progress: the symbol enters, and device time advances by its tk. -/
theorem symTick_locked {s : State} (hrx : s.sdl.rxEn = true) (hst : s.sdl.st = .locked) (hslew : s.sdl.slew = 0)
    (howed : s.sdl.slewOwed = false) (y : Sym) (missing : Bool) (ns : Nat) {n : Nat}
    (hn : s.sdl.tkOf (heardSym s.sdl y missing) ns = n) :
    s.symTick y missing ns =
      if n = 0 then { s with sdl := SdlS.heard s.sdl y missing ns }
      else State.setTime { s with sdl := SdlS.heard s.sdl y missing ns } (s.time + n) := by
  rw [symTick_eq hrx, if_pos hst, hn,
    foldl_advance (s := { s with sdl := SdlS.heard s.sdl y missing ns }) hslew howed, List.length_range]
  simp only [List.range_eq_nil]

/-- Edges on the pins count while they are the source (R85). -/
theorem exec_sundialEdge {s : State} {missing : Bool} (h : missing = true ∨ s.rd R.sdlSrc = 0) (period high : Nat) :
    exec (.sundialEdge missing period high) s =
      .next (s.symTick (tickSym period high) missing (if missing then 1020 else min period 1020)) := by
  have hsrc : (missing || s.rd R.sdlSrc == 0) = true := by simpa using h
  show execSundialEdge missing period high s = _
  simp only [execSundialEdge, onlyIf, hsrc, if_true]

theorem heardSym_of_bad {sd : SdlS} {y : Sym} {missing : Bool} (h : missing = true ∨ sd.refMoved = true ∨ y = .invalid) :
    heardSym sd y missing = .invalid := by
  unfold heardSym
  split
  · rfl
  · next hn => exact (h.resolve_left fun hm => hn (.inl hm)).resolve_left fun hr => hn (.inr hr)

theorem heardSym_of_good {sd : SdlS} {y : Sym} (h : sd.refMoved = false) : heardSym sd y false = y := by
  simp only [heardSym, h, Bool.false_eq_true, or_self, if_false]

theorem heardSym_eq_invalid {sd : SdlS} {y : Sym} {missing : Bool} :
    heardSym sd y missing = .invalid ↔ missing = true ∨ sd.refMoved = true ∨ y = .invalid := by
  refine ⟨fun h => ?_, heardSym_of_bad⟩
  unfold heardSym at h
  split at h
  · next hb => exact hb.imp id .inl
  · exact .inr (.inr h)

/-- Settles O11: a valid tick is one tk, a bad one as many as bring the count to the nearest; either only enters the record
while not LOCKED. -/
theorem sundialEdges : Obligations.SundialEdges := by
  refine ⟨?_, ?_, ?_, ?_⟩
  · intro s period high hrx hsrc hst hslew howed href hval
    have hz := heardSym_of_good (y := tickSym period high) href
    have hn : s.sdl.tkOf (heardSym s.sdl (tickSym period high) false) (min period 1020) = 1 := by
      rw [hz, SdlS.tkOf, if_neg hval]
    refine ⟨_, exec_sundialEdge (.inr hsrc) _ _, ?_⟩
    rw [if_neg Bool.false_ne_true, symTick_locked hrx hst hslew howed _ _ _ hn, if_neg Nat.one_ne_zero]
    refine ⟨rfl, hst, ?_, ?_, ?_, rfl, rfl, rfl, rfl⟩
    · show (if heardSym s.sdl (tickSym period high) false = .invalid then _ else 0) = 0
      rw [hz, if_neg hval]
    · exact congrArg (s.sdl.pos + ·) hn
    · exact congrArg (fun z => (z :: s.sdl.ticks).take 128) hz
  · intro s missing period high ns n hrx hsrc hst hslew howed hbad htime hns hn
    have hz := heardSym_of_bad hbad
    have hn' : s.sdl.tkOf (heardSym s.sdl (tickSym period high) missing) ns = n := by
      rw [hz, SdlS.tkOf, if_pos rfl, hn]
    have hcnt : (SdlS.heard s.sdl (tickSym period high) missing ns).bad = s.sdl.bad + 1 := if_pos hz
    have hpos : (SdlS.heard s.sdl (tickSym period high) missing ns).pos = s.sdl.pos + n :=
      congrArg (s.sdl.pos + ·) hn'
    refine ⟨_, exec_sundialEdge hsrc _ _, ?_⟩
    rw [← hns, symTick_locked hrx hst hslew howed _ _ _ hn']
    split
    · next h0 => exact ⟨by rw [h0, Nat.add_zero, Nat.mod_eq_of_lt htime], hst, hcnt, hpos, rfl, rfl, rfl, rfl, rfl⟩
    · exact ⟨rfl, hst, hcnt, hpos, rfl, rfl, rfl, rfl, rfl⟩
  · intro s missing period high hrx hsrc hst
    refine ⟨_, exec_sundialEdge hsrc _ _, ?_⟩
    rw [symTick_eq hrx, if_neg hst]
    exact ⟨rfl, ite_congr (propext heardSym_eq_invalid) (fun _ => rfl) (fun _ => rfl), rfl, rfl⟩
  · intro s hdev
    show execSundialReceiverEnable s = _
    simp only [execSundialReceiverEnable, onlyIf, bne_iff_ne.2 hdev, if_true]

/-! ### Frames -/

/-- While the receiver searches, or waits on a frame that has closed, a good frame ends as one. -/
theorem exec_sundialFrameEnd_good {s : State} {f : Frame} (hrx : s.sdl.rxEn = true) (hst : s.sdl.st ≠ .locked)
    (hf : goodFrame s.sdl.ticks = some f) (h : s.sdl.searching = true ∨ 128 ≤ s.sdl.pos) :
    exec .sundialFrameEnd s = .next ((s.noteHops f).goodUnlocked f) := by
  have hend : s.goodEnd f = (s.noteHops f).goodUnlocked f := if_neg hst
  show execSundialFrameEnd s = _
  unfold execSundialFrameEnd
  dsimp only
  rw [if_neg (by simp only [hrx, reduceCtorEq, not_false_eq_true]), hf]
  by_cases hs : s.sdl.searching = true
  · rw [if_pos hs, ← hend]
  · have hp : decide (128 ≤ s.sdl.pos) = true := decide_eq_true (h.resolve_left hs)
    rw [if_neg hs, hp, if_neg (by simp), if_neg (fun hl => hst hl.1), ← hend]
    rfl

/-- Settles O12: a good frame outside LOCKED either becomes the one waited on or, 128 after it, locks. -/
theorem twoGoodFramesLock : Obligations.TwoGoodFramesLock := by
  refine ⟨?_, ?_⟩
  · intro s f hrx hst hprev hf
    have hsearch : s.sdl.searching = true := by simp only [SdlS.searching, hst]
    have hne : ¬ (s.noteHops f).sdl.prevEpoch = some ((f.epoch + 2 ^ 64 - 128) % 2 ^ 64) := by
      show ¬ s.sdl.prevEpoch = _
      rw [hprev]
      exact nofun
    refine ⟨_, exec_sundialFrameEnd_good hrx (by rw [hst]; exact nofun) hf (.inl hsearch), ?_⟩
    rw [State.goodUnlocked, if_neg hne]
    refine ⟨?_, rfl, rfl, rfl, rfl, rfl⟩
    show (if s.sdl.st = .holdover then _ else _) = _
    rw [hst, if_neg nofun]
  · intro s f hrx hst hever hpos hlt hf hprev
    have hlock : (s.noteHops f).goodUnlocked f = (s.noteHops f).lock f := if_pos hprev
    refine ⟨_, exec_sundialFrameEnd_good hrx (by rw [hst]; exact nofun) hf (.inr hpos), ?_⟩
    have hever' : ¬ (s.noteHops f).sdl.everLocked = true := by
      show ¬ s.sdl.everLocked = true
      rw [hever]
      exact Bool.false_ne_true
    rw [hlock, State.lock]
    dsimp only
    rw [if_neg hever']
    exact ⟨rfl, rfl, Nat.mod_mod _ _, rfl, rfl⟩

/-! ### Losses -/

/-- Nothing changed but what raising an error below DEVICE outside a handler may change, in any state of the device: the error
records, the registers, MSI-X and the outputs, and before LOADING what the Gatehouse holds (R489). -/
def OnlyRaised (s t : State) : Prop :=
  t = { s with boot := t.boot, errs := t.errs, regs := t.regs, msixPend := t.msixPend, out := t.out }

section
variable {s t : State} (h : OnlyRaised s t)
include h

theorem OnlyRaised.sdl : t.sdl = s.sdl := by rw [h]

theorem OnlyRaised.time : t.time = s.time := by rw [h]

theorem OnlyRaised.mem : t.mem = s.mem := by rw [h]

theorem OnlyRaised.plots : t.plots = s.plots := by rw [h]

theorem OnlyRaised.bcast : t.bcast = s.bcast := by rw [h]

end

theorem raise_onlyRaised (s : State) {e : Err} (hc : e.cls ≠ .device) (hi : e.inHandler = false) :
    OnlyRaised s (s.raise e) := by
  have henter : OnlyRaised s (s.enter e) := by
    have h := enter_notes s e hc hi
    unfold OnlyNotes at h
    unfold OnlyRaised
    rw [h]
  unfold State.raise
  split
  · rfl
  · rfl
  · rfl
  · exact henter

theorem raise_corrErr (s : State) (event unit inst d0 d1 : Nat) :
    OnlyRaised s (s.raise (corrErr event unit inst d0 d1)) :=
  raise_onlyRaised s Cls.noConfusion rfl

/-- Of a device that serves, a CORRECTED error counts. -/
theorem raise_corrErr_cnt {s : State} (h : s.serving = true) (event unit inst d0 d1 : Nat) :
    (s.raise (corrErr event unit inst d0 d1)).errs.corrected.cnt = satInc32 s.errs.corrected.cnt := by
  rw [raise_enter h]
  exact enter_cnt s _ rfl rfl

theorem abortBroadcast_frame (s : State) :
    s.abortBroadcast = { s with
      bcast := s.abortBroadcast.bcast, out := s.abortBroadcast.out, wgts := s.abortBroadcast.wgts
      pavs := s.abortBroadcast.pavs } := by
  unfold State.abortBroadcast
  split
  · dsimp only
    split <;> rfl
  · rfl

theorem abortBroadcast_running {s : State} (h : s.bcast.st = .running) : s.abortBroadcast.bcast.st = .retry := by
  unfold State.abortBroadcast
  rw [if_pos h]
  dsimp only
  split <;> rfl

/-! ### Time over Torvol -/

theorem exec_time {s : State} {port : Nat} (epoch : Word64) (flags : BitVec 16) (offset : Word32)
    (h : s.timePort port = true) :
    exec (.time port epoch flags offset false) s = .next { s with sdl := { s.sdl with
      regen := placeTicks s.sdl.regen (((offset.toNat : Int) - s.linkDelay port + 500000) / 1000000).toNat
        (frameTicks epoch.toNat flags)
      tvlLast := some (epoch.toNat, flags)
      tvlMiss := 0 } } := by
  show execTime port epoch flags offset false s = _
  simp only [execTime, onlyIf, h, Bool.not_false, Bool.and_self, if_true]

theorem exec_time_replayed (s : State) (port : Nat) (epoch : Word64) (flags : BitVec 16) (offset : Word32) :
    exec (.time port epoch flags offset true) s = .next s := by
  show execTime port epoch flags offset true s = _
  simp only [execTime, onlyIf, Bool.not_true, Bool.and_false, Bool.false_eq_true, if_false]

/-! ### Forwarding -/

theorem sendTime_ports (s : State) (epoch offset i : Nat) : OnlyPorts s (s.sendTime epoch offset i) := by
  unfold State.sendTime
  split
  · exact (sendSym_ports _ _ _ _).1
  · exact OnlyPorts.refl s

/-- What forwarding reads is not what sending changes. -/
theorem OnlyPorts.reads {s t : State} (h : OnlyPorts s t) :
    t.rd R.fwdMask = s.rd R.fwdMask ∧ t.fwdFlags = s.fwdFlags ∧ ∀ i, (t.port i).linkedUp = (s.port i).linkedUp := by
  obtain ⟨ht, -, -, hst⟩ := h
  refine ⟨by rw [ht]; rfl, by rw [ht]; rfl, fun i => ?_⟩
  unfold Port.linkedUp
  rw [hst]

/-- Each port of FWD_MASK that carries codewords sends the symbol, and what it sent stays. -/
theorem sendTimes_sends (epoch offset : Nat) (l : List Nat) (s : State) {i : Nat} (hi : i ∈ l)
    (hmask : (s.rd R.fwdMask).testBit i = true) (hup : (s.port i).linkedUp = true) :
    .symbol i 0x08 (timeBody epoch s.fwdFlags offset) ∈ (l.foldl (fun t i => t.sendTime epoch offset i) s).out := by
  induction l generalizing s with
  | nil => cases hi
  | cons j l ih =>
    have hj := sendTime_ports s epoch offset j
    have hrest : OnlyPorts (s.sendTime epoch offset j) (l.foldl (fun t i => t.sendTime epoch offset i) _) :=
      OnlyPorts.foldl l _ (fun t x => sendTime_ports t epoch offset x) _
    obtain ⟨hm, hf, hl⟩ := OnlyPorts.reads hj
    rw [List.foldl_cons]
    rcases List.mem_cons.1 hi with rfl | hi
    · refine hrest.2.1.subset ?_
      rw [State.sendTime, if_pos (by rw [hmask, hup]; rfl)]
      exact (sendSym_ports _ _ _ _).2
    · rw [← hf]
      exact ih _ hi (by rw [hm]; exact hmask) (by rw [hl]; exact hup)

/-- The device and the tick on which a frame is forwarded. -/
def forwards (s : State) (e : Nat) : Bool :=
  s.sdl.st.valid && s.rd R.sdlHops != 15 && s.sdl.fwdDone != some e && decide (32 ≤ e - s.time) && decide (e - s.time ≤ 96)

theorem exec_timeForward {s : State} {e : Nat} (he : e = (s.time / 128 + 1) * 128) :
    exec .timeForward s = .next (if forwards s e then
      (List.range 12).foldl (fun t i => t.sendTime (e % 2 ^ 64) (s.timeOffset (e - s.time)) i)
        (State.tickFree { s with sdl := { s.sdl with fwdDone := some e } })
      else s) := by
  subst he
  rfl

/-- Settles O13: each loss changes the receiver and raises an error; a symbol of the time source fills the record of ticks to
come; forwarding marks its frame done before it sends. -/
theorem timeLosses : Obligations.TimeLosses := by
  refine ⟨?_, ?_, ?_, ?_, fun s port epoch flags offset => exec_time_replayed s port epoch flags offset, ?_, ?_, ?_⟩
  · intro s hst hbad
    have hx : exec .holdover s = .next (State.raise { s with sdl := { s.sdl with
        st := .holdover, holdAt := s.time, prevEpoch := none, mism := none, prevStepNext := false, notGood := 0 } }
        (corrErr Code.sundialHoldover 3 0)) := by
      show execHoldover s = _
      simp only [execHoldover, onlyIf, hst, decide_eq_true hbad, beq_self_eq_true, Bool.true_or, Bool.true_and, if_true]
    refine ⟨_, hx, ?_⟩
    have hr := raise_corrErr { s with sdl := { s.sdl with
      st := .holdover, holdAt := s.time, prevEpoch := none, mism := none, prevStepNext := false, notGood := 0 } }
      Code.sundialHoldover 3 0 0 0
    exact ⟨by rw [hr.sdl], by rw [hr.sdl], by rw [hr.sdl]; rfl, hr.time, hr.mem, hr.plots,
      fun h => raise_corrErr_cnt (s := { s with sdl := { s.sdl with
        st := .holdover, holdAt := s.time, prevEpoch := none, mism := none, prevStepNext := false, notGood := 0 } })
        h _ _ _ _ _⟩
  · intro s hst hpass
    have hp : s.passed s.sdl.holdAt 10000000 = true := decide_eq_true hpass
    have hx : exec .sundialLost s = .next (State.raise
        (State.abortBroadcast { s with sdl := { s.sdl with st := .lost, prevEpoch := none } })
        (corrErr Code.sundialLost 3 0)) := by
      show execSundialLost s = _
      simp only [execSundialLost, onlyIf, hst, hp, beq_self_eq_true, Bool.true_and, if_true]
    refine ⟨_, hx, ?_⟩
    have hf := abortBroadcast_frame { s with sdl := { s.sdl with st := .lost, prevEpoch := none } }
    have hb : s.bcast.st = .running → _ :=
      abortBroadcast_running (s := { s with sdl := { s.sdl with st := .lost, prevEpoch := none } })
    generalize State.abortBroadcast _ = u at hf hb
    have hr := raise_corrErr u Code.sundialLost 3 0 0 0
    have hsdl : u.sdl = { s.sdl with st := .lost, prevEpoch := none } := by rw [hf]
    have hserv : u.serving = s.serving := by rw [hf]; rfl
    have herrs : u.errs = s.errs := by rw [hf]
    refine ⟨by rw [hr.sdl, hsdl], by rw [hr.sdl, hsdl]; rfl, by rw [hr.time, hf], by rw [hr.mem, hf],
      by rw [hr.plots, hf], fun h => ?_, fun h => ?_⟩
    · rw [raise_corrErr_cnt (hserv.trans h), herrs]
    · rw [hr.bcast, hb h]
  · intro s hslew
    have hx : exec .slewComplete s = .next s.stopSlew := by
      show execSlewComplete s = _
      simp only [execSlewComplete, onlyIf, hslew, beq_self_eq_true, if_true]
    exact ⟨_, hx, rfl, rfl, rfl, rfl, rfl, rfl⟩
  · intro s port epoch flags offset hport
    exact ⟨_, _, exec_time epoch flags offset hport, rfl, rfl, rfl, rfl, rfl, rfl⟩
  · intro s port e f hport hlast hmiss
    have hx : exec (.timeFrameMissing port) s = .next { s with sdl := { s.sdl with
        regen := s.sdl.regen ++ (frameTicks ((e + 128) % 2 ^ 64) f).map some
        tvlLast := some ((e + 128) % 2 ^ 64, f), tvlMiss := 1 } } := by
      show execTimeFrameMissing port s = _
      simp only [execTimeFrameMissing, hport, hlast, hmiss, if_true, ok]
    exact ⟨_, hx, rfl, rfl, rfl, rfl⟩
  · intro s port hport hmiss hlast
    obtain ⟨⟨e, f⟩, hlast⟩ := Option.ne_none_iff_exists'.1 hlast
    show execTimeFrameMissing port s = _
    simp only [execTimeFrameMissing, hport, hlast, hmiss, if_true, if_false, ok]
  · intro s e hvalid hhops he hlo hhi hdone
    have hgo : forwards s e = true := by
      simp only [forwards, hvalid, bne_iff_ne.2 hhops, bne_iff_ne.2 hdone, decide_eq_true hlo, decide_eq_true hhi, Bool.and_self]
    refine ⟨_, (exec_timeForward he).trans (by rw [hgo, if_pos rfl]), ?_⟩
    have hports := OnlyPorts.foldl (List.range 12) (fun t i => t.sendTime (e % 2 ^ 64) (s.timeOffset (e - s.time)) i)
      (fun t x => sendTime_ports t _ _ x) (State.tickFree { s with sdl := { s.sdl with fwdDone := some e } })
    have hsends := fun i (hi : i < 12) => sendTimes_sends (e % 2 ^ 64) (s.timeOffset (e - s.time)) (List.range 12)
      (State.tickFree { s with sdl := { s.sdl with fwdDone := some e } }) (List.mem_range.2 hi)
    generalize (List.range 12).foldl _ _ = t at hports hsends
    obtain ⟨ht, hout, -, -⟩ := hports
    have htime : t.time = s.time := by rw [ht]; rfl
    have hfwd : t.sdl.fwdDone = some e := by rw [ht]; rfl
    refine ⟨hfwd, hout, hsends, by rw [ht]; rfl, by rw [ht]; rfl, htime, ?_⟩
    have hstop : forwards t e = false := by
      simp only [forwards, hfwd, bne_self_eq_false, Bool.and_false, Bool.false_and]
    rw [exec_timeForward (he.trans (by rw [htime])), hstop, if_neg Bool.false_ne_true]

end Sys2Proof.Proofs

/-! PROOFS. What the instructions of a plot controller do (R101 to R112, R130, R212, R213, R237): messages, the sequencer
queue, the generators and the system instructions. -/
namespace Sys2Proof.Proofs
open Sys2Proof Sys2Proof.Machine Sys2Proof.Laws

/-! ### Messages -/

/-- The message that MSG.SEND forms from its operands (R101, R103). -/
def messageOf (q : Plot) (p : Nat) (w a d : Word32) : Message :=
  { src := p, dst := bits d 0 12, flits := bits d 12 4 + 1, tag := BitVec.ofNat 8 (bits d 16 8), rel := In.flag w
    payload := q.bytes a.toNat (64 * (bits d 12 4 + 1))
    stores := if In.flag w then q.sb.length else 0
    ops := if In.flag w then q.queue.length else 0 }

theorem exec_msgSend_sends {s : State} {p : Nat} {w a d : Word32} (hact : (s.plot p).active = true)
    (hlegal : In.legal w 0x0B 0 true false = true) (ha : a = (s.plot p).cpu.reg (In.rs1 w))
    (hd : d = (s.plot p).cpu.reg (In.rs2 w)) (hres : bits d 24 8 = 0) (hdst : bits d 0 12 ≤ 0x807)
    (hstore : inStore a.toNat (64 * (bits d 12 4 + 1)) 64 = true) (hok : s.destOk p (bits d 0 12) = true)
    (hroom : flitsOf (s.plot p).outq + (bits d 12 4 + 1) ≤ 64) :
    exec (.msgSend p w) s = .next
      ((s.setPlot p { s.plot p with outq := (s.plot p).outq ++ [messageOf (s.plot p) p w a d] }).insnDone p (In.rd w) 0) := by
  show execMsgSend p w s = _
  simp only [execMsgSend, custom_legal hact hlegal, ← ha, ← hd, hres, bne_self_eq_false, decide_eq_false (Nat.not_lt.2 hdst),
    hstore, hok, Nat.not_lt.2 hroom, Bool.or_self, Bool.not_true, Bool.false_eq_true, if_false]
  rfl

section MsgRecv
variable {s : State} {p : Nat} {w a d : Word32} (hact : (s.plot p).active = true)
  (hlegal : In.legal w 0x0B 1 true false = true) (ha : a = (s.plot p).cpu.reg (In.rs1 w))
  (hd : d = (s.plot p).cpu.reg (In.rs2 w)) (hres : bits d 9 23 = 0) (hstore : inStore a.toNat 64 64 = true)
include hact hlegal ha hd hres hstore

theorem exec_msgRecv_receives {m : Message} (hspan : inStore a.toNat (64 * m.flits) 64 = true)
    (hm : (s.plot p).inq.find? (Message.matches d) = some m) :
    exec (.msgRecv p w) s = .next
      ((s.setPlot p (Plot.write { s.plot p with inq := dropFirst (Message.matches d) (s.plot p).inq } a.toNat
        m.payload)).insnDone p (In.rd w) m.header) := by
  show execMsgRecv p w s = _
  simp only [execMsgRecv, custom_legal hact hlegal, ← ha, ← hd, hres, hstore, hm, hspan]
  rfl

theorem exec_msgRecv_none (hflag : In.flag w = true) (hm : (s.plot p).inq.find? (Message.matches d) = none) :
    exec (.msgRecv p w) s = .next (s.insnDone p (In.rd w) 0xFFFFFFFF) := by
  show execMsgRecv p w s = _
  simp only [execMsgRecv, custom_legal hact hlegal, ← ha, ← hd, hres, hstore, hm, hflag]
  rfl

end MsgRecv

/-- Settles O14: a message sent joins the outbound buffer; one received leaves the inbound buffer for plot store. -/
theorem messageInstructions : Obligations.MessageInstructions := by
  refine ⟨?_, ?_, ?_⟩
  · intro s p w a d hact hlegal ha hd hres hdst hstore hok hroom
    refine ⟨_, messageOf (s.plot p) p w a d, exec_msgSend_sends hact hlegal ha hd hres hdst hstore hok hroom,
      setPlot_insnDone_only _ _ _ _ _, ?_, rfl, rfl, rfl, rfl, rfl, setPlot_insnDone_retired_of rfl, ?_⟩
    · rw [insnDone_outq, State.plot_setPlot]
    · rw [insnDone_store, State.plot_setPlot]
  · intro s p w a d m hact hlegal ha hd hres hstore hspan hm
    refine ⟨_, exec_msgRecv_receives hact hlegal ha hd hres hstore hspan hm, setPlot_insnDone_only _ _ _ _ _, ?_, ?_,
      setPlot_insnDone_retired_of rfl⟩
    · rw [insnDone_inq, State.plot_setPlot]
      rfl
    · rw [insnDone_store, State.plot_setPlot]
      rfl
  · intro s p w a d hact hlegal ha hd hres hstore hflag hm
    exact ⟨_, exec_msgRecv_none hact hlegal ha hd hres hstore hflag hm, insnDone_only _ _ _ _, insnDone_inq _ _ _ _,
      insnDone_store _ _ _ _, insnDone_retired _ _ _ _⟩

/-! ### Messages in the Trellis -/

/-- The Trellis as a delivery finds it: what the source may inject is in it (R114). -/
def afterInject (s : State) (src : Nat) : State := if src < 2048 then s.inject src else s

/-- A source with nothing outbound injects nothing: the plots and the Trellis stay, and nothing else changes. -/
theorem afterInject_same {s : State} {src : Nat} (h : src < 2048 → (s.plot src).outq = []) :
    (∀ j, (afterInject s src).plot j = s.plot j) ∧ (afterInject s src).trellis = s.trellis
      ∧ afterInject s src = { s with plots := (afterInject s src).plots, trellis := (afterInject s src).trellis } := by
  unfold afterInject
  split
  · next hsrc => exact ⟨inject_plot s src (h hsrc), inject_trellis s src (h hsrc), rfl⟩
  · exact ⟨fun _ => rfl, rfl, rfl⟩

theorem exec_messageDelivery {s : State} {src dst : Nat} {m : Message}
    (hm : (afterInject s src).trellis.find? (Message.between src dst) = some m) :
    exec (.messageDelivery src dst) s = .next (if (afterInject s src).inRoom m then
      State.arrive { afterInject s src with trellis := dropFirst (Message.between src dst) (afterInject s src).trellis } m
      else afterInject s src) := by
  show execMessageDelivery src dst s = _
  unfold execMessageDelivery
  dsimp only
  rw [show (if src < 2048 then s.inject src else s) = afterInject s src from rfl, hm]
  dsimp only
  split <;> rfl

/-- The error of a message that has waited too long at a destination (R116). -/
def stallErr (s : State) (dst : Nat) : Err :=
  { cls := .pavilion, event := Code.trlMsgStall, pav := s.plotPav dst, unit := 1, inst := dst }

theorem exec_trlMsgStall {s : State} {src dst : Nat} {m : Message}
    (hm : (afterInject s src).trellis.find? (Message.between src dst) = some m)
    (hfull : (afterInject s src).inRoom m = false) :
    exec (.trlMsgStall src dst) s = .next (((afterInject s src).inc R.msgStalls).raise
      (stallErr (afterInject s src) dst)) := by
  show execTrlMsgStall src dst s = _
  unfold execTrlMsgStall
  dsimp only
  rw [show (if src < 2048 then s.inject src else s) = afterInject s src from rfl, hm]
  dsimp only
  rw [hfull]
  rfl

/-- A message that a search between two ends finds is between them. -/
theorem find_between {l : List Message} {src dst : Nat} {m : Message} (h : l.find? (Message.between src dst) = some m) :
    m.dst = dst := by
  have hb := List.find?_some h
  simp only [Message.between, Bool.and_eq_true, beq_iff_eq] at hb
  exact hb.2

theorem arrive_plot {s : State} {m : Message} (h : m.dst < 2048) :
    s.arrive m = s.setPlot m.dst { s.plot m.dst with inq := (s.plot m.dst).inq ++ [m] } := if_pos h

theorem arrive_steward {s : State} {m : Message} (h : 2048 ≤ m.dst) :
    s.arrive m = { s with mbox := s.mbox ++ [(m.dst - 2048, m.payload)] } := if_neg (Nat.not_lt.2 h)

/-- Settles O15: a message goes from the Trellis into a buffer with room, else it stays and its stall is an error. -/
theorem messageDelivery : Obligations.MessageDelivery := by
  refine ⟨?_, ?_, ?_⟩
  · intro s src dst m hout hdst hm hroom
    obtain ⟨hplot, htrl, hframe⟩ := afterInject_same hout
    obtain rfl := find_between hm
    rw [← htrl] at hm
    have hin : (afterInject s src).inRoom m = true := by
      simp only [State.inRoom, hplot, decide_eq_true hroom, Bool.or_true]
    refine ⟨_, exec_messageDelivery hm, ?_⟩
    rw [hin, if_pos rfl, arrive_plot hdst]
    have hp : ∀ j, State.plot { afterInject s src with
        trellis := dropFirst (Message.between src m.dst) (afterInject s src).trellis } j = s.plot j := hplot
    refine ⟨?_, ?_, fun j hj => ?_, ?_, ?_, ?_, ?_⟩
    · rw [State.plot_setPlot, hp]
    · show dropFirst _ (afterInject s src).trellis = _
      rw [htrl]
    · rw [State.plot_setPlot_other _ _ hj, hp]
    · rw [State.plot_setPlot, hp]
    · rw [State.plot_setPlot, hp]
    · show (afterInject s src).mem = _
      rw [hframe]
    · show (afterInject s src).regs = _
      rw [hframe]
  · intro s src dst m hout hdst hserv hm hroom
    obtain ⟨hplot, htrl, hframe⟩ := afterInject_same hout
    obtain rfl := find_between hm
    rw [← htrl] at hm
    have hin : (afterInject s src).inRoom m = false := by
      simp only [State.inRoom, hplot, decide_eq_false (Nat.not_le.2 hroom), decide_eq_false (Nat.not_le.2 hdst), Bool.or_self]
    refine ⟨⟨_, exec_messageDelivery hm, ?_⟩, ⟨_, exec_trlMsgStall hm hin, ?_⟩⟩
    · rw [hin, if_neg Bool.false_ne_true]
      exact ⟨htrl, hplot⟩
    · have hserv' : ((afterInject s src).inc R.msgStalls).serving = true := by
        rw [hframe]
        exact hserv
      have hnotes := raise_notes hserv' (stallErr (afterInject s src) m.dst) Cls.noConfusion rfl
      refine ⟨?_, fun j => ?_, ?_, ?_⟩
      · rw [hnotes]
        exact htrl
      · rw [hnotes]
        exact hplot j
      · rw [hnotes]
        show (afterInject s src).mem = _
        rw [hframe]
      · have hregs : (afterInject s src).regs = s.regs := by rw [hframe]
        rw [raise_rd hserv' _ Cls.noConfusion rfl _ _ _ (by decide), State.inc, State.rd_wr,
          rd_of_regs hregs]
        exact Nat.mod_eq_of_lt (Nat.lt_of_le_of_lt (Nat.min_le_right _ _) (by decide))
  · intro s src dst m hout hdst hm
    obtain ⟨hplot, htrl, -⟩ := afterInject_same hout
    obtain rfl := find_between hm
    rw [← htrl] at hm
    have hin : (afterInject s src).inRoom m = true := by
      simp only [State.inRoom, decide_eq_true hdst, Bool.true_or]
    have hmbox : (afterInject s src).mbox = s.mbox := by
      unfold afterInject
      split <;> rfl
    refine ⟨_, exec_messageDelivery hm, ?_⟩
    rw [hin, if_pos rfl, arrive_steward hdst]
    refine ⟨?_, ?_, hplot⟩
    · show (afterInject s src).mbox ++ _ = _
      rw [hmbox]
    · show dropFirst _ (afterInject s src).trellis = _
      rw [htrl]

/-! ### The sequencer queue -/

/-- The queue entry that SEQ.PUSH forms (R109). -/
def entryOf (q : Plot) (a : Word32) : QOp :=
  { ticket := q.nextTicket, img := BitVec.ofNat 256 (leNat (q.bytes a.toNat 32)), stores := q.sb.length }

section SeqPush
variable {s : State} {p : Nat} {w a : Word32} (hact : (s.plot p).active = true)
  (hlegal : In.legal w 0x0B 3 false true = true) (ha : a = (s.plot p).cpu.reg (In.rs1 w))
  (hstore : inStore a.toNat 32 32 = true)
include hact hlegal ha hstore

theorem exec_seqPush_enqueues (hroom : (s.plot p).queue.length < 256) :
    exec (.seqPush p w) s = .next ((s.setPlot p { s.plot p with
      queue := (s.plot p).queue ++ [entryOf (s.plot p) a], nextTicket := (s.plot p).nextTicket + 1 }).insnDone p (In.rd w)
        (s.plot p).nextTicket) := by
  show execSeqPush p w s = _
  simp only [execSeqPush, custom_legal hact hlegal, ← ha, hstore, Nat.not_le.2 hroom, if_false]
  rfl

theorem exec_seqPush_stalls (hfull : 256 ≤ (s.plot p).queue.length) : exec (.seqPush p w) s = .next s := by
  show execSeqPush p w s = _
  simp only [execSeqPush, custom_legal hact hlegal, ← ha, hstore, hfull, if_true]
  rfl

end SeqPush

/-- SEQ.WAIT on finished entries completes with the recorded fault, which it clears (R110). -/
theorem exec_seqWait_finished {s : State} {p : Nat} {w a : Word32} (hact : (s.plot p).active = true)
    (hlegal : In.legal w 0x0B 4 false true = true) (ha : a = (s.plot p).cpu.reg (In.rs1 w))
    (hd : ¬(((s.plot p).nextTicket - a).toNat = 0 ∨ 2 ^ 31 < ((s.plot p).nextTicket - a).toNat))
    (hfin : (s.plot p).finished a = true) :
    exec (.seqWait p w) s = .next (match (s.plot p).fault with
      | none => s.insnDone p (In.rd w) 0
      | some c => (s.setPlot p { s.plot p with fault := none, discarding := false }).insnDone p (In.rd w)
          (BitVec.ofNat 32 c)) := by
  show execSeqWait p w s = _
  simp only [execSeqWait, custom_legal hact hlegal, ← ha, hfin, hd, if_false, Bool.not_true, Bool.false_eq_true] <;> rfl

/-- Settles O17: a push takes the next ticket or stalls; a wait on what has finished answers the fault and clears it. -/
theorem sequencerTickets : Obligations.SequencerTickets := by
  refine ⟨?_, fun s p w a hact hlegal ha hstore hfull => exec_seqPush_stalls hact hlegal ha hstore hfull, ?_⟩
  · intro s p w a hact hlegal ha hstore hroom
    refine ⟨_, entryOf (s.plot p) a, exec_seqPush_enqueues hact hlegal ha hstore hroom, setPlot_insnDone_only _ _ _ _ _,
      ?_, rfl, rfl, ?_, setPlot_insnDone_retired_of rfl, ?_⟩
    · rw [insnDone_queue, State.plot_setPlot]
    · rw [insnDone_nextTicket, State.plot_setPlot]
    · rw [insnDone_store, State.plot_setPlot]
  · intro s p w a hact hlegal ha hne hle hfin
    have hd : ¬(((s.plot p).nextTicket - a).toNat = 0 ∨ 2 ^ 31 < ((s.plot p).nextTicket - a).toNat) := by
      rintro (h0 | hlt)
      · exact hne (by bv_omega)
      · exact Nat.not_lt.2 hle hlt
    refine ⟨_, exec_seqWait_finished hact hlegal ha hd hfin, ?_⟩
    cases hf : (s.plot p).fault with
    | none =>
      exact ⟨insnDone_only _ _ _ _, (insnDone_fault _ _ _ _).trans hf, insnDone_retired _ _ _ _, insnDone_queue _ _ _ _⟩
    | some c =>
      refine ⟨setPlot_insnDone_only _ _ _ _ _, ?_, setPlot_insnDone_retired_of rfl, ?_⟩
      · rw [insnDone_fault, State.plot_setPlot]
      · rw [insnDone_queue, State.plot_setPlot]

/-! ### Generators -/

theorem exec_genSeed_seeds {s : State} {p : Nat} {w a d : Word32} (hact : (s.plot p).active = true)
    (hlegal : In.legal w 0x2B 1 false false = true) (ha : a = (s.plot p).cpu.reg (In.rs1 w))
    (hd : d = (s.plot p).cpu.reg (In.rs2 w)) (hres : bits d 2 30 = 0) (hstore : inStore a.toNat 16 16 = true)
    (hfree : (s.plot p).drawing (bits d 0 2) = false) :
    exec (.genSeed p w) s = .next ((s.setPlot p ((s.plot p).setGen (bits d 0 2)
      (Gen.seed (BitVec.ofNat 64 (leNat ((s.plot p).bytes a.toNat 8)))
        (BitVec.ofNat 64 (leNat ((s.plot p).bytes (a.toNat + 8) 8)))))).insnDone p (In.rd w) 0) := by
  show execGenSeed p w s = _
  simp only [execGenSeed, custom_legal hact hlegal, ← ha, ← hd, hres, hstore, hfree]
  rfl

/-- A bank after a read of one phase: that phase counter has advanced (R154). -/
def Gen.read (g : Gen) (i : Nat) : Gen := { g with c := Tab.put 0 g.c i (g.phase i + 1) }

theorem exec_genRead_reads {s : State} {p : Nat} {w a : Word32} (hact : (s.plot p).active = true)
    (hlegal : In.legal w 0x2B 2 false true = true) (ha : a = (s.plot p).cpu.reg (In.rs1 w)) (hres : bits a 6 26 = 0)
    (hfree : (s.plot p).drawing (bits a 0 2) = false) :
    exec (.genRead p w) s = .next ((s.setPlot p ((s.plot p).setGen (bits a 0 2)
      (Gen.read ((s.plot p).gen (bits a 0 2)) (bits a 2 4)))).insnDone p (In.rd w)
        (phaseWord ((s.plot p).gen (bits a 0 2)).key (((s.plot p).gen (bits a 0 2)).phase (bits a 2 4)) (bits a 2 4))) := by
  show execGenRead p w s = _
  simp only [execGenRead, custom_legal hact hlegal, ← ha, hres, hfree]
  rfl

/-- Settles O19: a seed fills one bank, a read advances one phase of one bank. -/
theorem generators : Obligations.Generators := by
  refine ⟨?_, ?_⟩
  · intro s p w a d hact hlegal ha hd hres hstore hfree
    refine ⟨_, exec_genSeed_seeds hact hlegal ha hd hres hstore hfree, setPlot_insnDone_only _ _ _ _ _, ?_,
      fun i hi => ?_, fun b hb => ?_, setPlot_insnDone_retired_of (setGen_cpu _ _ _)⟩
    · rw [setPlot_insnDone_gen, gen_setGen, if_pos rfl]
      rfl
    · rw [setPlot_insnDone_gen, gen_setGen, if_pos rfl]
      exact seed_phase _ _ i hi
    · rw [setPlot_insnDone_gen, gen_setGen, if_neg hb]
  · intro s p w a hact hlegal ha hres hfree
    refine ⟨_, exec_genRead_reads hact hlegal ha hres hfree, setPlot_insnDone_only _ _ _ _ _,
      setPlot_insnDone_retired_of (setGen_cpu _ _ _), ?_, fun i hi => ?_, fun b hb => ?_⟩
    · rw [setPlot_insnDone_gen, gen_setGen, if_pos rfl]
      exact Tab.get_put _ _
    · rw [setPlot_insnDone_gen, gen_setGen, if_pos rfl]
      exact Tab.get_put_other _ hi
    · rw [setPlot_insnDone_gen, gen_setGen, if_neg hb]

/-! ### System instructions -/

theorem exec_mret {s : State} {p : Nat} (hact : (s.plot p).active = true) :
    exec (.mret p) s = .next (s.setPlot p { s.plot p with inTrap := false, cpu := (s.plot p).cpu.mret }) := by
  show execMret p s = _
  simp only [execMret, onlyIf, hact, if_true]

theorem exec_fence {s : State} {p : Nat} {w : Word32} (hact : (s.plot p).active = true) (hop : In.opcode w = 0x0F)
    (hf3 : In.funct3 w = 0) :
    exec (.fence p w) s = .next ((if fenceOrders w then s.setPlot p { s.plot p with fence := (s.plot p).sb.length }
      else s).insnNext p) := by
  show execFence p w s = _
  simp only [execFence, onlyIf, hact, hop, hf3, beq_self_eq_true, Bool.and_self, if_true]

theorem exec_fenceI {s : State} {p : Nat} (hact : (s.plot p).active = true) :
    exec (.fenceI p) s = .next (s.trap p 2 0x0000100F) := by
  show execFenceI p s = _
  simp only [execFenceI, onlyIf, hact, if_true]

/-- The bits of a data-window base that must be 0 (R212). -/
def dwinReserved (which : Bool) (v : Word32) : Nat := if which then bits v 21 11 else bits v 18 14

theorem exec_dwinWrite_traps {s : State} {p : Nat} {which : Bool} {v : Word32} (hact : (s.plot p).active = true)
    (hres : dwinReserved which v ≠ 0) : exec (.dwinWrite p which v) s = .next (s.trap p 26 v) := by
  show execDwinWrite p which v s = _
  have hb : ((if which then bits v 21 11 else bits v 18 14) != 0) = true := bne_iff_ne.2 hres
  simp only [execDwinWrite, hact, hb]
  rfl

theorem exec_dwinWrite_low {s : State} {p : Nat} {v : Word32} (hact : (s.plot p).active = true)
    (hres : bits v 18 14 = 0) :
    exec (.dwinWrite p false v) s = .next ((s.setPlot p { s.plot p with
      cpu := { (s.plot p).cpu with dwin0 := v } }).insnDone p ((s.plot p).csrRd 0x7C1) (s.plot p).cpu.dwin0) := by
  show execDwinWrite p false v s = _
  simp only [execDwinWrite, hact, hres]
  rfl

theorem exec_dwinWrite_high {s : State} {p : Nat} {v : Word32} (hact : (s.plot p).active = true)
    (hres : bits v 21 11 = 0) :
    exec (.dwinWrite p true v) s = .next ((s.setPlot p { s.plot p with
      cpu := { (s.plot p).cpu with dwin1 := v } }).insnDone p ((s.plot p).csrRd 0x7C2) (s.plot p).cpu.dwin1) := by
  show execDwinWrite p true v s = _
  simp only [execDwinWrite, hact, hres]
  rfl

/-- An instruction that ends normally changes neither the window bases. -/
theorem Retired.dwin {rd n : Nat} {v : Word32} {c d : Cpu} (h : Retired rd v c d n) :
    d.dwin0 = c.dwin0 ∧ d.dwin1 = c.dwin1 := by
  obtain ⟨-, -, -, hd⟩ := h
  rw [hd]
  exact ⟨rfl, rfl⟩

/-- Settles O20: each is an update of the plot's own control state, or a trap. -/
theorem systemInstructions : Obligations.SystemInstructions := by
  refine ⟨?_, ?_, ?_, ?_, ?_⟩
  · intro s p hact
    refine ⟨_, exec_mret hact, onlyPlot_setPlot _ _ _, ?_, ?_, fun i => ?_⟩ <;> rw [State.plot_setPlot] <;> rfl
  · intro s p w hact hop hf3
    refine ⟨_, exec_fence hact hop hf3, ?_⟩
    cases fenceOrders w with
    | false =>
      exact ⟨insnDone_only _ _ _ _, insnDone_sb _ _ _ _, insnDone_fence _ _ _ _, insnDone_retired _ _ _ _⟩
    | true =>
      refine ⟨setPlot_insnDone_only _ _ _ _ _, ?_, ?_, setPlot_insnDone_retired_of rfl⟩
      · rw [if_pos rfl, State.insnNext, insnDone_sb, State.plot_setPlot]
      · rw [if_pos rfl, if_pos rfl, State.insnNext, insnDone_fence, State.plot_setPlot]
  · intro s p hact htrap
    exact ⟨_, exec_fenceI hact, trap_trapped htrap⟩
  · intro s p v hact
    refine ⟨fun hres => ?_, fun hres => ?_⟩
    · have hret := setPlot_insnDone_retired_of (s := s) (p := p) (rd := (s.plot p).csrRd 0x7C1) (v := (s.plot p).cpu.dwin0)
        (q := { s.plot p with cpu := { (s.plot p).cpu with dwin0 := v } }) (n := 4) rfl
      exact ⟨_, exec_dwinWrite_low hact hres, setPlot_insnDone_only _ _ _ _ _, (Retired.dwin hret).1, hret⟩
    · have hret := setPlot_insnDone_retired_of (s := s) (p := p) (rd := (s.plot p).csrRd 0x7C2) (v := (s.plot p).cpu.dwin1)
        (q := { s.plot p with cpu := { (s.plot p).cpu with dwin1 := v } }) (n := 4) rfl
      exact ⟨_, exec_dwinWrite_high hact hres, setPlot_insnDone_only _ _ _ _ _, (Retired.dwin hret).2, hret⟩
  · intro s p which v hact htrap hres
    exact ⟨_, exec_dwinWrite_traps hact hres, trap_trapped htrap⟩

end Sys2Proof.Proofs

/-! PROOFS. Loads, stores and atomics of a plot controller (R210 to R214, R231 to R237). -/
namespace Sys2Proof.Proofs
open Sys2Proof Sys2Proof.Machine Sys2Proof.Laws

/-! ### Which access an address makes -/

section
variable {s : State} {p : Nat} {addr : Word32} (hact : (s.plot p).active = true)
include hact

theorem exec_load_store {width : Nat} (rd : Nat) (signed : Bool) (ev : MemEvent) (h : addr.toNat + width ≤ storeSize) :
    exec (.controllerLoad p rd addr width signed ev) s = .next (s.loadStore p rd addr width signed ev) := by
  show execControllerLoad p rd addr width signed ev s = _
  simp only [execControllerLoad, hact, h, Bool.not_true, Bool.false_eq_true, if_false, if_true, ok]

theorem exec_store_store {width : Nat} (v : Word32) (h : addr.toNat + width ≤ storeSize) :
    exec (.controllerStore p addr width v) s = .next (s.storeStore p addr.toNat width v) := by
  show execControllerStore p addr width v s = _
  simp only [execControllerStore, hact, h, Bool.not_true, Bool.false_eq_true, if_false, if_true, ok]

variable (hlo : 0x80000000 ≤ addr.toNat) (hhi : addr.toNat < 0xC0000000)
include hlo hhi

theorem exec_load_window (rd width : Nat) (signed : Bool) (ev : MemEvent) :
    exec (.controllerLoad p rd addr width signed ev) s = .next (s.loadWindow p rd addr width signed ev) := by
  have hstore : ¬ addr.toNat + width ≤ storeSize := fun h => by unfold storeSize at h; omega
  show execControllerLoad p rd addr width signed ev s = _
  simp only [execControllerLoad, hact, hstore, Nat.not_lt.2 hlo, hhi, Bool.not_true, Bool.false_eq_true, if_false,
    if_true, ok]

theorem exec_store_window (width : Nat) (v : Word32) :
    exec (.controllerStore p addr width v) s = .next (s.storeWindow p addr (leBytes width v.toNat)) := by
  have hstore : ¬ addr.toNat + width ≤ storeSize := fun h => by unfold storeSize at h; omega
  show execControllerStore p addr width v s = _
  simp only [execControllerStore, hact, hstore, Nat.not_lt.2 hlo, hhi, Bool.not_true, Bool.false_eq_true, if_false,
    if_true, ok]

end

/-! ### Plot store -/

/-- A load from plot store of words that are good and that nothing overwrites (R226). -/
theorem loadStore_reads {s : State} {p width : Nat} {addr : Word32} (rd : Nat) (signed : Bool)
    (hbad : (s.plot p).badIn addr.toNat width = false) (huse : (s.plot p).inUse addr.toNat width = false)
    (hfence : (s.plot p).fence = 0) :
    s.loadStore p rd addr width signed .clean
      = s.insnDone p rd (loadValue ((s.plot p).bytes addr.toNat width) signed) (s.plot p).insnLen := by
  have hwait : s.storesWait p 0 = false := rfl
  simp only [State.loadStore, hfence, hwait, Bool.false_eq_true, if_false, State.drain, State.storeEvent, huse, hbad]

theorem storeStore_writes {s : State} {p a width : Nat} (v : Word32) (huse : (s.plot p).inUse a width = false) :
    s.storeStore p a width v
      = (s.setPlot p ((s.plot p).write a (leBytes width v.toNat))).insnDone p 0 0 (s.plot p).insnLen := by
  simp only [State.storeStore, huse, Bool.false_eq_true, if_false, State.insnNext]

/-! ### The window -/

theorem coldOpen_of_hbm {s : State} {a n : Nat} (h : s.region a = .hbm) : s.coldOpen a n = s := by
  have hp : s.coldPages a n = [] := by
    rw [State.coldPages, if_neg (by rw [h]; exact nofun)]
  rw [State.coldOpen, hp, List.foldl_nil]

theorem read_eq_map (m : List Host.Cell) (a n : Nat) : Mem.read m a n = (List.range n).map fun i => Mem.rd m (a + i) := by
  induction n generalizing a with
  | zero => rfl
  | succ n ih =>
    rw [Mem.read, ih, List.range_succ_eq_map, List.map_cons, List.map_map]
    congr 1
    exact List.map_congr_left fun i _ => congrArg (Mem.rd m) (Nat.add_right_comm a 1 i)

/-- With the store buffer empty a load sees memory. -/
theorem seen_of_empty {s : State} {p : Nat} (h : (s.plot p).sb = []) (a n : Nat) :
    ((List.range n).map fun i => s.seen p (a + i)) = Mem.read s.mem a n := by
  rw [read_eq_map]
  refine List.map_congr_left fun i _ => ?_
  simp only [State.seen, h, List.reverse_nil, List.find?_nil]

theorem forwards_of_empty {q : Plot} (h : q.sb = []) (a : Nat) {n : Nat} (hn : n ≠ 0) : q.forwards a n = false := by
  obtain ⟨k, rfl⟩ := Nat.exists_eq_succ_of_ne_zero hn
  simp only [Plot.forwards, h, List.any_nil, List.range_succ_eq_map, List.all_cons, Bool.false_and]

/-- A byte of a buffered store lies in it. -/
theorem store_covers (w : Store) {i : Nat} (hi : i < w.bytes.length) :
    (decide (w.addr ≤ w.addr + i) && decide (w.addr + i < w.addr + w.bytes.length)) = true := by
  simp only [Nat.le_add_right, decide_true, Bool.true_and, decide_eq_true_eq]
  omega

/-- A load that one buffered store covers sees its bytes (R236). -/
theorem seen_of_store {s : State} {p : Nat} {w : Store} (h : (s.plot p).sb = [w]) :
    ((List.range w.bytes.length).map fun i => s.seen p (w.addr + i)) = w.bytes := by
  refine List.ext_getElem (by simp only [List.length_map, List.length_range]) fun i h1 h2 => ?_
  simp only [List.getElem_map, List.getElem_range, State.seen, h, List.reverse_singleton, List.find?_cons,
    store_covers w h2, Nat.add_sub_cancel_left, List.getD_eq_getElem?_getD, List.getElem?_eq_getElem h2, Option.getD_some]

theorem forwards_of_store {q : Plot} {w : Store} (h : q.sb = [w]) : q.forwards w.addr w.bytes.length = true := by
  simp only [Plot.forwards, h, List.all_eq_true, List.mem_range, List.any_cons, List.any_nil, Bool.or_false]
  exact fun i hi => store_covers w hi

section
variable {s : State} {p : Nat} {addr : Word32} {width a : Nat} (hal : addr.toNat % width = 0)
  (ha : a = (s.plot p).cpu.window addr.toNat)
include hal ha

/-- A load of HBM that the store buffer answers as a whole. -/
theorem loadWindow_forwards (rd : Nat) (signed : Bool) (hreg : s.region a = .hbm) (hhome : s.homeWaits a = false)
    (hfence : (s.plot p).fence = 0) (hf : (s.plot p).forwards a width = true) :
    s.loadWindow p rd addr width signed .clean = s.insnDone p rd
      (loadValue ((List.range width).map fun i => s.seen p (a + i)) signed) (s.plot p).insnLen := by
  have hwait : s.storesWait p 0 = false := rfl
  simp only [State.loadWindow, ← ha, hal, hreg, hfence, hwait, hhome, State.drain, coldOpen_of_hbm hreg, hf, if_true]
  rfl

/-- A load of HBM that reads memory. -/
theorem loadWindow_reads (rd : Nat) (signed : Bool) (hreg : s.region a = .hbm) (hhome : s.homeWaits a = false)
    (hfence : (s.plot p).fence = 0) (hf : (s.plot p).forwards a width = false) (hpoison : s.poisoned a width = false) :
    s.loadWindow p rd addr width signed .clean = s.insnDone p rd
      (loadValue ((List.range width).map fun i => s.seen p (a + i)) signed) (s.plot p).insnLen := by
  have hwait : s.storesWait p 0 = false := rfl
  simp only [State.loadWindow, ← ha, hal, hreg, hfence, hwait, hhome, State.drain, coldOpen_of_hbm hreg, hf, State.hbmEvent,
    hpoison, if_true]
  rfl

theorem loadWindow_faults (rd : Nat) (signed : Bool) (ev : MemEvent) (hreg : s.region a = .priv ∨ s.region a = .none) :
    s.loadWindow p rd addr width signed ev = s.trap p 5 addr := by
  rcases hreg with h | h <;> simp only [State.loadWindow, ← ha, hal, h] <;> rfl

theorem storeWindow_faults (v : Word32) (hreg : s.region a ≠ .hbm) :
    s.storeWindow p addr (leBytes width v.toNat) = s.trap p 7 addr := by
  simp only [State.storeWindow, ← ha, leBytes_length, hal, ne_eq, not_true_eq_false, if_false, hreg, not_false_eq_true, if_true]

theorem storeWindow_buffers (v : Word32) (hreg : s.region a = .hbm) (hroom : (s.plot p).sb.length < 8) :
    s.storeWindow p addr (leBytes width v.toNat) =
      (s.setPlot p { s.plot p with sb := (s.plot p).sb ++ [{ addr := a, bytes := leBytes width v.toNat }] }).insnDone
        p 0 0 (s.plot p).insnLen := by
  simp only [State.storeWindow, ← ha, leBytes_length, hal, ne_eq, not_true_eq_false, if_false, hreg, Nat.not_le.2 hroom,
    State.insnNext]

end

theorem loadWindow_misaligned {s : State} {p : Nat} {addr : Word32} {width : Nat} (hal : addr.toNat % width ≠ 0)
    (rd : Nat) (signed : Bool) (ev : MemEvent) : s.loadWindow p rd addr width signed ev = s.trap p 4 addr := by
  simp only [State.loadWindow, hal, ne_eq, not_false_eq_true, if_true]

theorem storeWindow_misaligned {s : State} {p : Nat} {addr : Word32} {width : Nat} (hal : addr.toNat % width ≠ 0)
    (v : Word32) : s.storeWindow p addr (leBytes width v.toNat) = s.trap p 6 addr := by
  simp only [State.storeWindow, leBytes_length, hal, ne_eq, not_false_eq_true, if_true]

/-! ### The store buffer -/

/-- A plot whose oldest buffered store has been performed (R236). -/
def popStore (q : Plot) (rest : List Store) : Plot :=
  { q with
    sb := rest
    fence := q.fence - 1
    outq := q.outq.map fun m => { m with stores := m.stores - 1 }
    queue := q.queue.map fun o => { o with stores := o.stores - 1 } }

theorem exec_storePerform {s : State} {p : Nat} {b : Store} {rest : List Store} (hsb : (s.plot p).sb = b :: rest)
    (hhome : s.homeWaits b.addr = false) :
    exec (.storePerform p .clean) s = .next ((s.homeWrite b.addr b.bytes).setPlot p (popStore (s.plot p) rest)) := by
  show execStorePerform p .clean s = _
  simp only [execStorePerform, hsb, hhome, State.hbmEvent, State.performStore]
  rfl

/-- Settles O21: an access is classified by its address; each class then reads, writes, buffers or traps. -/
theorem loadsAndStores : Obligations.LoadsAndStores := by
  refine ⟨?_, ?_, ?_, ?_, ?_, ?_, ?_⟩
  · intro s p rd addr width signed hact hin hbad huse hfence
    refine ⟨_, (exec_load_store hact rd signed .clean hin).trans
      (congrArg _ (loadStore_reads rd signed hbad huse hfence)), ?_⟩
    exact ⟨insnDone_only _ _ _ _, insnDone_retired _ _ _ _, insnDone_store _ _ _ _⟩
  · intro s p addr width v hact hin huse
    refine ⟨_, (exec_store_store hact v hin).trans (congrArg _ (storeStore_writes v huse)),
      setPlot_insnDone_only _ _ _ _ _, ?_, fun a ha => ?_, setPlot_insnDone_retired_of rfl⟩
    · rw [insnDone_store, State.plot_setPlot]
      rfl
    · rw [insnDone_store, State.plot_setPlot]
      refine Mem.rd_write_other _ _ ?_
      rw [leBytes_length]
      omega
  · intro s p addr width v hact hlo hhi hal hreg hroom
    refine ⟨_, (exec_store_window hact hlo hhi width v).trans (congrArg _ (storeWindow_buffers hal rfl v hreg hroom)),
      setPlot_insnDone_only _ _ _ _ _, ?_, setPlot_insnDone_retired_of rfl⟩
    rw [insnDone_sb, State.plot_setPlot]
  · intro s p b rest hsb hhome
    refine ⟨_, exec_storePerform hsb hhome, ?_, rfl, fun a ha => ?_, fun j hj => ?_, rfl, ?_⟩
    · rw [State.plot_setPlot]
      rfl
    · exact Mem.rd_write_other _ _ (by omega)
    · exact State.plot_setPlot_other _ _ hj
    · rw [State.plot_setPlot]
      rfl
  · intro s p rd addr width signed a hact hlo hhi hal ha hreg hhome hsb hpoison hfence hw
    refine ⟨_, (exec_load_window hact hlo hhi rd width signed .clean).trans (congrArg _
      (loadWindow_reads hal ha rd signed hreg hhome hfence (forwards_of_empty hsb a hw) hpoison)),
      insnDone_only _ _ _ _, ?_⟩
    rw [seen_of_empty hsb]
    exact insnDone_retired _ _ _ _
  · intro s p rd addr width signed a w hact hlo hhi hal ha hreg hhome hsb hfence hwa hwl
    subst hwa hwl
    refine ⟨_, (exec_load_window hact hlo hhi rd _ signed .clean).trans (congrArg _
      (loadWindow_forwards hal ha rd signed hreg hhome hfence (forwards_of_store hsb))),
      insnDone_only _ _ _ _, (insnDone_sb _ _ _ _).trans hsb, ?_⟩
    rw [seen_of_store hsb]
    exact insnDone_retired _ _ _ _
  · intro s p rd addr width signed v a hact htrap hlo hhi ha
    have hload := exec_load_window hact hlo hhi rd width signed .clean
    have hstore := exec_store_window hact hlo hhi width v
    refine ⟨fun hal => ?_, fun hal hreg => ?_⟩
    · rw [loadWindow_misaligned hal] at hload
      rw [storeWindow_misaligned hal] at hstore
      exact ⟨⟨_, hload, trap_trapped htrap⟩, ⟨_, hstore, trap_trapped htrap⟩⟩
    · have hne : s.region a ≠ .hbm := by
        rcases hreg with h | h <;> rw [h] <;> exact nofun
      rw [loadWindow_faults hal ha rd signed .clean hreg] at hload
      rw [storeWindow_faults hal ha v hne] at hstore
      exact ⟨⟨_, hload, trap_trapped htrap⟩, ⟨_, hstore, trap_trapped htrap⟩⟩

/-! ### Atomics -/

/-- An atomic on a good word of HBM with the store buffer empty: the word is written at its home, and rd takes the old one. -/
theorem atomic_writes {s : State} {p a : Nat} {addr old : Word32} (code rd : Nat) (hal : addr.toNat % 4 = 0)
    (ha : a = (s.plot p).cpu.atomicAddr addr.toNat) (hreg : s.region a = .hbm) (hsb : (s.plot p).sb = [])
    (hhome : s.homeWaits a = false) (hpoison : s.poisoned a 4 = false)
    (hold : old = BitVec.ofNat 32 (leNat (Mem.read s.mem a 4))) :
    s.atomic code p rd addr 4 .clean =
      (s.homeWrite a (leBytes 4 (atomicNew code old (s.plot p).cpu.aarg (s.plot p).cpu.acmp).toNat)).insnDone p rd old
        (s.plot p).insnLen := by
  subst ha hold
  have hwait : s.storesWait p 8 = false := by simp only [State.storesWait, hsb, List.take_nil, List.any_nil]
  have hdrain : s.drainAll p = s := by simp only [State.drainAll, hsb, List.length_nil, State.drain]
  simp only [State.atomic, hal, hreg, hwait, hhome, hdrain, State.hbmEvent, hpoison]
  rfl

/-- An atomic command runs the operation that its address names. -/
theorem atomicCmd_runs {s : State} {p code : Nat} {addr : Word32} (rd width : Nat) (ev : MemEvent)
    (hact : (s.plot p).active = true) (hwin : bits addr 30 2 = 3) (hcode : atomicCode addr = code) :
    s.atomicCmd code p rd addr width ev = .next (s.atomic code p rd addr width ev) := by
  simp only [State.atomicCmd, onlyIf, hact, hwin, hcode, beq_self_eq_true, Bool.and_self, if_true]

/-- What an atomic leaves: the word at its address is the new one, and nothing else changes but its plot and the marks of the
lines it writes whole. -/
theorem homeWrite_insnDone_effect (s : State) (p rd a : Nat) (old new : Word32) (n : Nat) :
    ((s.homeWrite a (leBytes 4 new.toNat)).insnDone p rd old n).mem = Mem.write s.mem a (leBytes 4 new.toNat)
      ∧ (∀ b, ¬(a ≤ b ∧ b < a + 4) →
          Mem.rd ((s.homeWrite a (leBytes 4 new.toNat)).insnDone p rd old n).mem b = Mem.rd s.mem b)
      ∧ Retired rd old (s.plot p).cpu ((((s.homeWrite a (leBytes 4 new.toNat)).insnDone p rd old n).plot p).cpu) n
      ∧ (((s.homeWrite a (leBytes 4 new.toNat)).insnDone p rd old n).plot p).store = (s.plot p).store
      ∧ (∀ j, j ≠ p → ((s.homeWrite a (leBytes 4 new.toNat)).insnDone p rd old n).plot j = s.plot j)
      ∧ ((s.homeWrite a (leBytes 4 new.toNat)).insnDone p rd old n).regs = s.regs := by
  refine ⟨rfl, fun b hb => ?_, insnDone_retired _ _ _ _, insnDone_store _ _ _ _, (insnDone_only _ _ _ _).2, rfl⟩
  refine Mem.rd_write_other _ _ ?_
  rw [leBytes_length]
  omega

/-- MAXU and MINU compare as numbers. -/
theorem atomicNew_maxu (old arg cmp : Word32) : atomicNew 6 old arg cmp = if arg ≤ old then old else arg := by
  simp only [atomicNew, BitVec.le_def]
  by_cases h : arg.toNat ≤ old.toNat
  · rw [if_pos h, if_neg (Nat.not_lt.2 h)]
  · rw [if_neg h, if_pos (Nat.not_le.1 h)]

theorem atomicNew_minu (old arg cmp : Word32) : atomicNew 7 old arg cmp = if old ≤ arg then old else arg := by
  simp only [atomicNew, BitVec.le_def]
  by_cases h : old.toNat ≤ arg.toNat
  · rw [if_pos h, if_neg (Nat.not_lt.2 h)]
  · rw [if_neg h, if_pos (Nat.not_le.1 h)]

/-- Settles O22: each of the eight commands is `atomic` of its code, whose new word `atomicNew` gives. -/
theorem atomics : Obligations.Atomics := by
  intro s p rd code a addr old arg cmp hact hwin hcode hal ha hreg hsb hhome hpoison hold harg hcmp c new hmem
  have hrun : ∀ k, code = k → s.atomicCmd k p rd addr 4 .clean = .next
      ((s.homeWrite a (leBytes 4 (atomicNew k old arg cmp).toNat)).insnDone p rd old (s.plot p).insnLen) := by
    rintro k rfl
    rw [atomicCmd_runs rd 4 .clean hact hwin hcode.symm, atomic_writes code rd hal ha hreg hsb hhome hpoison hold, harg, hcmp]
  obtain ⟨k, hc, hx, hnew⟩ : ∃ k, code = k ∧ exec c s = s.atomicCmd k p rd addr 4 .clean ∧ atomicNew k old arg cmp = new := by
    simp only [List.mem_cons, Prod.mk.injEq, List.not_mem_nil, or_false] at hmem
    rcases hmem with ⟨rfl, hc, rfl⟩ | ⟨rfl, hc, rfl⟩ | ⟨rfl, hc, rfl⟩ | ⟨rfl, hc, rfl⟩ | ⟨rfl, hc, rfl⟩ | ⟨rfl, hc, rfl⟩
      | ⟨rfl, hc, rfl⟩ | ⟨rfl, hc, rfl⟩
    · exact ⟨0, hc, rfl, rfl⟩
    · exact ⟨1, hc, rfl, rfl⟩
    · exact ⟨2, hc, rfl, rfl⟩
    · exact ⟨3, hc, rfl, rfl⟩
    · exact ⟨4, hc, rfl, rfl⟩
    · exact ⟨5, hc, rfl, rfl⟩
    · exact ⟨6, hc, rfl, atomicNew_maxu _ _ _⟩
    · exact ⟨7, hc, rfl, atomicNew_minu _ _ _⟩
  subst hnew
  exact ⟨_, hx.trans (hrun k hc), homeWrite_insnDone_effect s p rd a old _ _⟩

end Sys2Proof.Proofs

/-! PROOFS. The steward's PLOT window (R125 to R128, R201, R621, R622): start, stop, program load, injection, plot-store access. -/
namespace Sys2Proof.Proofs
open Sys2Proof Sys2Proof.Machine Sys2Proof.Laws

section
variable {s : State} {r i : Nat}

theorem exec_plotStart_starts {v : Nat} (h : s.target r 3 0x100 .steward = some i) (hrun : (s.plot i).run = false)
    (hstop : (s.plot i).stopping = false) (hpav : s.plotPav i = some v) :
    exec (.plotStart r) s = .next ((s.dropLatch r (3 * 65536)).setPlot i ((s.plot i).started i (s.rd R.plotEntry i) v)) := by
  have hv : (s.dropLatch r (3 * 65536)).plotPav i = some v := hpav
  show execPlotStart r s = _
  simp only [execPlotStart, own_target h, dropLatch_plot, hrun, hstop, Bool.or_self, Bool.false_eq_true, if_false,
    State.startPlot, State.startPav, hv, dropLatch_rd, ok]

theorem exec_plotStop_stops (h : s.target r 3 0x100 .steward = some i) (hrun : (s.plot i).run = true)
    (hidle : (s.plot i).running = none) :
    exec (.plotStop r) s = .next ((s.dropLatch r (3 * 65536)).setPlot i (s.plot i).stopped) := by
  show execPlotStop r s = _
  simp only [execPlotStop, own_target h, dropLatch_plot, hrun, hidle]
  rfl

theorem exec_plotLoadGo_of_stopped (h : s.target r 3 0x118 .steward = some i) (hrun : (s.plot i).run = false) :
    exec (.plotLoadGo r) s = .next ((s.dropLatch r (3 * 65536)).wr R.loadGo 1 i) := by
  show execPlotLoadGo r s = _
  simp only [execPlotLoadGo, own_target h, dropLatch_plot, hrun]
  rfl

theorem exec_plotLoadGo_of_running (h : s.target r 3 0x118 .steward = some i) (hrun : (s.plot i).run = true) :
    exec (.plotLoadGo r) s = .next ((s.dropLatch r (3 * 65536)).inc R.lateWrites i) := by
  show execPlotLoadGo r s = _
  simp only [execPlotLoadGo, own_target h, dropLatch_plot, hrun]
  rfl

theorem exec_plotInj_injects (v : Word32) (h : s.target r 3 0x15C .steward = some i) (hroom : (s.plot i).inj.length < 16) :
    exec (.plotInj r v) s = .next ((s.dropLatch r (3 * 65536)).setPlot i
      { s.plot i with inj := (s.plot i).inj ++ [(s.plot i).injImage v] }) := by
  show execPlotInj r v s = _
  simp only [execPlotInj, own_target h, dropLatch_plot, hroom, if_true, ok]

theorem exec_plotInj_full (v : Word32) (h : s.target r 3 0x15C .steward = some i) (hfull : 16 ≤ (s.plot i).inj.length) :
    exec (.plotInj r v) s = .next ((s.dropLatch r (3 * 65536)).wr R.injFull 1 i) := by
  show execPlotInj r v s = _
  simp only [execPlotInj, own_target h, dropLatch_plot, Nat.not_lt.2 hfull, if_false, ok]

theorem exec_plotMemData_writes (v : Word32) (h : s.target r 3 0x164 .steward = some i)
    (hin : 4 * s.rd R.memAddr i < storeSize) :
    exec (.plotMemData r true v) s = .next (((s.dropLatch r (3 * 65536)).setPlot i
      ((s.plot i).write (4 * s.rd R.memAddr i) (leBytes 4 v.toNat))).stepMemAddr i) := by
  show execPlotMemData r true v s = _
  simp only [execPlotMemData, h, dropLatch_rd, dropLatch_plot, hin, if_true, ok]

theorem exec_plotMemData_reads (v : Word32) (h : s.target r 3 0x164 .steward = some i) :
    exec (.plotMemData r false v) s = .next (((s.dropLatch r (3 * 65536)).emit
      (.readData r (BitVec.ofNat 64 (leNat ((s.plot i).bytes (4 * s.rd R.memAddr i) 4))))).stepMemAddr i) := by
  show execPlotMemData r false v s = _
  simp only [execPlotMemData, h, dropLatch_rd, dropLatch_plot, Bool.false_eq_true, if_false, ok]

end

/-- The registers of a plot that starts: a0 to a2 hold its arguments, every other integer register 0 (R126). -/
theorem started_reg (q : Plot) (p entry pav k : Nat) :
    (q.started p entry pav).cpu.reg k = if k = 12 then BitVec.ofNat 32 pav else if k = 11 then BitVec.ofNat 32 (terrOf p)
      else if k = 10 then BitVec.ofNat 32 p else 0 := by
  have h10 : (10 : Nat) ≠ 0 := by decide
  have h11 : (11 : Nat) ≠ 0 := by decide
  have h12 : (12 : Nat) ≠ 0 := by decide
  simp only [Plot.started, reg_setReg, h10, h11, h12, ne_eq, not_false_eq_true, and_true]
  have h0 : ∀ c : Cpu, c.x = [] → c.reg k = 0 := fun c hx => by
    rw [Cpu.reg, hx]
    split <;> rfl
  rw [h0 _ rfl]

/-! ### The program load -/

theorem coldOpen_frame (s : State) (a n : Nat) : s.coldOpen a n = { s with cfm := (s.coldOpen a n).cfm } := by
  unfold State.coldOpen
  induction s.coldPages a n generalizing s with
  | nil => rfl
  | cons page l ih =>
    rw [List.foldl_cons]
    split
    · exact ih s
    · exact ih _

theorem foldl_spoil_store (g : Nat → Nat × Nat) (l : List Nat) (q : Plot) :
    (l.foldl (fun t k => t.spoil (g k).1 (g k).2) q).store = q.store := by
  induction l generalizing q with
  | nil => rfl
  | cons k l ih => exact ih _

/-- The copy changes one plot, whose store takes the source's bytes. -/
theorem loadProgram_effect (s : State) (p : Nat) : OnlyPlot p s (s.loadProgram p)
    ∧ ((s.loadProgram p).plot p).store = Mem.write (s.plot p).store (s.rd R.loadDst p)
        (Mem.read s.mem (s.rd R.loadSrc p) (min (s.rd R.loadLen p) (storeSize - s.rd R.loadDst p))) := by
  refine ⟨onlyPlot_setPlot _ _ _, ?_⟩
  unfold State.loadProgram
  rw [State.plot_setPlot]
  exact foldl_spoil_store (fun k => (s.rd R.loadDst p + 64 * k,
    min 64 (min (s.rd R.loadLen p) (storeSize - s.rd R.loadDst p) - 64 * k))) _ _

theorem exec_plotLoadComplete {s : State} {p : Nat} (hgo : s.rd R.loadGo p = 1) (hhome : s.homeBusy = []) :
    exec (.plotLoadComplete p []) s = .next
      ((if s.region (s.rd R.loadSrc p) = .hbm ∨ s.region (s.rd R.loadSrc p) = .cold then
        (s.coldOpen (s.rd R.loadSrc p) (s.rd R.loadLen p)).loadProgram p else s).wr R.loadGo 0 p) := by
  have hwait : s.spanWaits (s.rd R.loadSrc p) (s.rd R.loadLen p) = false := by
    rw [State.spanWaits, hhome, List.any_nil]
  show execPlotLoadComplete p [] s = _
  simp only [execPlotLoadComplete, onlyIf, hgo, hwait, beq_self_eq_true, Bool.not_false, Bool.and_self, if_true,
    State.accessEvents, List.foldl_nil]

/-- Settles O23: each command acts on the plot, or the registers, that its requester's window reaches. -/
theorem plotWindow : Obligations.PlotWindow := by
  refine ⟨?_, ?_, ?_, ?_, ?_, fun s r i v h hfull => exec_plotInj_full v h hfull, ?_⟩
  · intro s r i v h hrun hstop hpav
    refine ⟨_, exec_plotStart_starts h hrun hstop hpav, onlyPlot_setPlot _ _ _, ?_⟩
    rw [State.plot_setPlot]
    refine ⟨rfl, rfl, started_reg _ _ _ _ 10, started_reg _ _ _ _ 11, started_reg _ _ _ _ 12, fun k hk => ?_,
      rfl, rfl, rfl, rfl, rfl, rfl, rfl, rfl⟩
    simp only [List.mem_cons, List.not_mem_nil, or_false, not_or] at hk
    obtain ⟨h10, h11, h12⟩ := hk
    rw [started_reg, if_neg h12, if_neg h11, if_neg h10]
  · intro s r i h hrun hidle
    refine ⟨_, exec_plotStop_stops h hrun hidle, onlyPlot_setPlot _ _ _, ?_⟩
    rw [State.plot_setPlot]
    exact ⟨rfl, rfl, rfl⟩
  · intro s r i h
    exact ⟨fun hrun => ⟨_, exec_plotLoadGo_of_stopped h hrun, State.rd_wr _ _ _ _ _, rfl⟩,
      exec_plotLoadGo_of_running h⟩
  · intro s p hgo hhome
    have hcold := coldOpen_frame s (s.rd R.loadSrc p) (s.rd R.loadLen p)
    refine ⟨_, exec_plotLoadComplete hgo hhome, State.rd_wr _ _ _ _ _, ?_⟩
    generalize s.coldOpen (s.rd R.loadSrc p) (s.rd R.loadLen p) = c at hcold
    obtain ⟨⟨hframe, hother⟩, hstore⟩ := loadProgram_effect c p
    have hplots : c.plots = s.plots := by rw [hcold]
    have hregs : c.regs = s.regs := by rw [hcold]
    have hmem : c.mem = s.mem := by rw [hcold]
    have hplot : ∀ j, c.plot j = s.plot j := fun j => by rw [State.plot, hplots]; rfl
    have hrd : ∀ f, c.rd f p = s.rd f p := fun f => rd_of_regs hregs f p 0
    split
    · next hreg =>
      refine ⟨?_, fun j hj => (hother j hj).trans (hplot j), fun _ hfit => ?_⟩
      · show (c.loadProgram p).mem = _
        rw [hframe]
        exact hmem
      · show ((c.loadProgram p).plot p).store = _
        rw [hstore, hplot, hmem, hrd, hrd, hrd, Nat.min_eq_left (by omega)]
    · next hreg => exact ⟨rfl, fun _ _ => rfl, fun h => absurd h hreg⟩
  · intro s r i v h hroom
    refine ⟨_, exec_plotInj_injects v h hroom, onlyPlot_setPlot _ _ _, ?_⟩
    rw [State.plot_setPlot]
  · intro s r i v h hin
    refine ⟨⟨_, exec_plotMemData_writes v h hin, ?_, fun j hj => ?_, rfl⟩,
      ⟨_, exec_plotMemData_reads v h, rfl, fun _ => rfl, State.rd_wr _ _ _ _ _⟩⟩
    · show (State.plot (State.setPlot _ _ _) i).store = _
      rw [State.plot_setPlot]
      rfl
    · exact State.plot_setPlot_other _ _ hj

end Sys2Proof.Proofs

/-! PROOFS. Register writes (R7 to R9, R611 to R613): a 4-byte write is a write of each field that its word reaches. -/
namespace Sys2Proof.Proofs
open Sys2Proof Sys2Proof.Machine Sys2Proof.Laws

/-! ### The places of fields -/

/-- Another field of a block that a plain field's word reaches lies elsewhere in the register file. -/
def apartAt (f h : Field) : Bool :=
  match h.hit f.off with
  | none => true
  | some (i, _) => h == f || (h.off + i * h.stride != f.off) || (h.lo != f.lo)

/-- What the register file's layout gives of the fields of a block. -/
def layoutOk (blk : Nat) : Bool :=
  (fieldsOf blk).all fun f => f.blk == blk && decide (f.lo < 64)
    && (decide (1 < f.n) || decide (f.wid = 64) || (fieldsOf blk).all (apartAt f))

theorem layout_ok : ∀ blk < 18, layoutOk blk = true := by decide +kernel

theorem offsets_ok : ∀ blk < 18, ∀ f ∈ fieldsOf blk, f.off < 65536 ∧ f.off % 4 = 0 := by decide +kernel

/-- A word of NAND_MAINT with a plain field, other than that of its GO, does not reach BUSY (R633). -/
theorem nand_plain : ∀ f ∈ fieldsNand, f.acc = .rw → f.own = false → f.n ≤ 1 → f.off ≠ 0 →
    ∀ h ∈ fieldsNand, (h.hit f.off).isSome = true → h.off = 8 ∧ h.stride = 0 := by decide +kernel

theorem layout_blk {blk : Nat} {f : Field} (hblk : blk < 18) (hf : f ∈ fieldsOf blk) : f.blk = blk ∧ f.lo < 64 := by
  have h := List.all_eq_true.1 (layout_ok blk hblk) f hf
  simp only [Bool.and_eq_true, beq_iff_eq, decide_eq_true_eq] at h
  exact h.1

/-- Fields of one block at different places have different keys. -/
theorem key_ne {f h : Field} {inst i : Nat} (hblk : f.blk = h.blk) (hf : f.lo < 64) (hh : h.lo < 64)
    (hne : h.off + i * h.stride ≠ f.off ∨ h.lo ≠ f.lo) : f.key inst 0 ≠ h.key inst i := by
  unfold Field.key
  rw [hblk]
  generalize i * h.stride = d at hne ⊢
  omega

theorem key_ne_of_hit {blk inst i k : Nat} {f h : Field} (hblk : blk < 18) (hf : f ∈ fieldsOf blk) (hh : h ∈ fieldsOf blk)
    (hn : f.n ≤ 1) (hw : f.wid ≤ 32) (hne : h ≠ f) (hhit : h.hit f.off = some (i, k)) : f.key inst 0 ≠ h.key inst i := by
  obtain ⟨hfb, hflo⟩ := layout_blk hblk hf
  obtain ⟨hhb, hhlo⟩ := layout_blk hblk hh
  have hall := List.all_eq_true.1 (layout_ok blk hblk) f hf
  simp only [Bool.and_eq_true, Bool.or_eq_true, decide_eq_true_eq] at hall
  have hap : apartAt f h = true := by
    rcases hall.2 with (h1 | h2) | h3
    · omega
    · omega
    · exact List.all_eq_true.1 h3 h hh
  refine key_ne (hfb.trans hhb.symm) hflo hhlo ?_
  simpa only [apartAt, hhit, Bool.or_eq_true, beq_iff_eq, hne, false_or, bne_iff_ne, ne_eq] using hap

/-! ### One field -/

/-- Nothing changed but registers and the requesters' index registers. -/
def OnlyRegs (s t : State) : Prop := t = { s with regs := t.regs, acc := t.acc } ∧ t.acc.chsel = s.acc.chsel

theorem OnlyRegs.refl (s : State) : OnlyRegs s s := ⟨rfl, rfl⟩

theorem OnlyRegs.trans {s t u : State} (h : OnlyRegs s t) (k : OnlyRegs t u) : OnlyRegs s u := by
  obtain ⟨ht, htc⟩ := h
  obtain ⟨hu, huc⟩ := k
  exact ⟨by rw [hu, ht], huc.trans htc⟩

/-- Outside the PLOT block a field takes its bits, or changes nothing, or is a table index of its requester's own. -/
theorem fieldWrite_cases {s : State} (r inst o v : Nat) {h : Field} (hblk : h.blk ≠ 3) :
    OnlyRegs s (s.fieldWrite r inst o v h)
      ∧ ((s.fieldWrite r inst o v h).regs = s.regs
        ∨ ∃ i k x, h.hit o = some (i, k) ∧ s.fieldWrite r inst o v h = s.wr h x inst i) := by
  unfold State.fieldWrite
  split
  · exact ⟨OnlyRegs.refl s, .inl rfl⟩
  · next i k hhit =>
    split
    · exact ⟨OnlyRegs.refl s, .inl rfl⟩
    · split
      · exact ⟨OnlyRegs.refl s, .inl rfl⟩
      · split
        · exact ⟨⟨rfl, rfl⟩, .inl rfl⟩
        · split
          · exact ⟨⟨rfl, rfl⟩, .inl rfl⟩
          · rw [if_neg fun hp => hblk hp.1]
            split
            · exact ⟨⟨rfl, rfl⟩, .inr ⟨i, k, _, hhit, rfl⟩⟩
            · exact ⟨⟨rfl, rfl⟩, .inr ⟨i, k, _, hhit, rfl⟩⟩

/-- A field keeps what is not at its own place. -/
theorem fieldWrite_rd_other {s : State} {r inst o v : Nat} {h g : Field} {k i : Nat} (hblk : h.blk ≠ 3)
    (hne : ∀ j l, h.hit o = some (j, l) → g.key k i ≠ h.key inst j) :
    (s.fieldWrite r inst o v h).rd g k i = s.rd g k i := by
  obtain ⟨-, hregs | ⟨j, l, x, hhit, ht⟩⟩ := fieldWrite_cases (s := s) r inst o v hblk
  · exact rd_of_regs hregs g k i
  · rw [ht]
    exact State.rd_wr_other s (hne j l hhit)

/-- What lets a plain field of a block be written (R9, R437, R612, R633). -/
structure Writes (s : State) (r inst : Nat) (f : Field) : Prop where
  rw : f.acc = .rw
  own : f.own = false
  wid : f.wid ≤ 32
  n : f.n ≤ 1
  lock : f.lock = false ∨ s.locked = false
  who : f.who.admits r = true
  notHome : (f.blk, f.off) ≠ (5, 0x1004)
  notPlog : (f.blk, f.off) ≠ (12, 0x1010)
  notPlot : f.blk ≠ 3
  qp : f.blk = 16 → (s.qp inst).st = .disabled
  nand : f.blk = 15 → s.rd R.nandBusy = 0

theorem Field.hit_self {f : Field} (hw : f.wid ≤ 32) (hn : f.n ≤ 1) : f.hit f.off = some (0, 0) := by
  have hw64 : f.wid ≠ 64 := by omega
  have hmax : 0 < max f.n 1 := by omega
  have hfour : 0 < 4 := by decide
  simp only [Field.hit, if_neg hw64, if_pos hn, Nat.lt_irrefl, if_false, Nat.sub_self, Nat.zero_div, Nat.zero_mod, hmax,
    and_self, if_true, hfour]

theorem fieldWrite_self {s : State} {r inst : Nat} {f : Field} (h : Writes s r inst f) (v : Nat) :
    s.fieldWrite r inst f.off v f = s.wr f (v / 2 ^ f.lo % 2 ^ f.wid) inst 0 := by
  have hlock : (f.lock && s.locked) = false := by
    rcases h.lock with hl | hl <;> rw [hl]
    · rfl
    · exact Bool.and_false _
  have hqp : s.qpOpenForWrite f inst = true := by
    by_cases hb : f.blk = 16
    · simp only [State.qpOpenForWrite, h.qp hb, beq_self_eq_true, Bool.or_true]
    · simp only [State.qpOpenForWrite, beq_eq_false_iff_ne.2 hb, Bool.false_and, Bool.not_false, Bool.true_or]
  have hnand : s.nandOpen f = true := by
    by_cases hb : f.blk = 15
    · simp only [State.nandOpen, h.nand hb, beq_self_eq_true, Bool.or_true]
    · simp only [State.nandOpen, beq_eq_false_iff_ne.2 hb, Bool.false_and, Bool.not_false, Bool.true_or]
  have hlate : f.late = false := by
    simp only [Field.late, beq_eq_false_iff_ne.2 h.notPlot, Bool.false_and]
  have hhome : ¬(f.blk = 5 ∧ f.off = 0x1004) := fun hp => h.notHome (Prod.ext hp.1 hp.2)
  have hplog : ¬(f.blk = 12 ∧ f.off = 0x1010) := fun hp => h.notPlog (Prod.ext hp.1 hp.2)
  have hplot : ¬(f.blk = 3 ∧ f.off = 0x140) := fun hp => h.notPlot hp.1
  have hw64 : f.wid ≠ 64 := by have := h.wid; omega
  unfold State.fieldWrite
  rw [Field.hit_self h.wid h.n]
  dsimp only
  rw [h.own, hlock, h.who, hqp, hnand, hlate, if_neg hhome, if_neg hplog, if_neg hplot, if_neg hw64, h.rw]
  rfl

/-! ### One word -/

theorem foldl_fieldWrite_only {l : List Field} (r inst o v : Nat) (hl : ∀ h ∈ l, h.blk ≠ 3) (s : State) :
    OnlyRegs s (l.foldl (fun t f => t.fieldWrite r inst o v f) s) := by
  induction l generalizing s with
  | nil => exact OnlyRegs.refl s
  | cons h l ih =>
    obtain ⟨hh, hl⟩ := List.forall_mem_cons.1 hl
    exact (fieldWrite_cases r inst o v hh).1.trans (ih hl _)

theorem foldl_fieldWrite_rd_other {l : List Field} {r inst o v : Nat} {g : Field} {k i : Nat} (hl : ∀ h ∈ l, h.blk ≠ 3)
    (hne : ∀ h ∈ l, ∀ j m, h.hit o = some (j, m) → g.key k i ≠ h.key inst j) (s : State) :
    (l.foldl (fun t f => t.fieldWrite r inst o v f) s).rd g k i = s.rd g k i := by
  induction l generalizing s with
  | nil => rfl
  | cons h l ih =>
    obtain ⟨hh, hl⟩ := List.forall_mem_cons.1 hl
    obtain ⟨hnh, hnl⟩ := List.forall_mem_cons.1 hne
    exact (ih hl hnl _).trans (fieldWrite_rd_other hh hnh)

theorem Writes.of_onlyRegs {s t : State} {r inst : Nat} {f : Field} (h : Writes s r inst f) (k : OnlyRegs s t)
    (hnand : f.blk = 15 → t.rd R.nandBusy = 0) : Writes t r inst f := by
  obtain ⟨hreg, -⟩ := k
  have hdev : t.locked = s.locked := by rw [hreg]; rfl
  have hqp : t.qp inst = s.qp inst := by rw [hreg]; rfl
  exact { h with lock := h.lock.imp id fun hl => hdev.trans hl, qp := fun hb => by rw [hqp, h.qp hb], nand := hnand }

/-- A plain field takes its bits of the word, whatever other fields of the word are written before and after it. -/
theorem foldl_fieldWrite_rd_self {l : List Field} {r inst v : Nat} {f : Field} (hl : ∀ h ∈ l, h.blk ≠ 3)
    (hne : ∀ h ∈ l, h ≠ f → ∀ j m, h.hit f.off = some (j, m) → f.key inst 0 ≠ h.key inst j)
    (hnand : f.blk = 15 → ∀ h ∈ l, ∀ j m, h.hit f.off = some (j, m) → R.nandBusy.key 0 0 ≠ h.key inst j)
    {s : State} (hw : Writes s r inst f) (h : f ∈ l ∨ s.rd f inst = v / 2 ^ f.lo % 2 ^ f.wid) :
    (l.foldl (fun t f' => t.fieldWrite r inst f.off v f') s).rd f inst = v / 2 ^ f.lo % 2 ^ f.wid := by
  induction l generalizing s with
  | nil => exact h.resolve_left List.not_mem_nil
  | cons g l ih =>
    obtain ⟨hg, hl⟩ := List.forall_mem_cons.1 hl
    obtain ⟨hng, hnl⟩ := List.forall_mem_cons.1 hne
    have hbusy : f.blk = 15 → (s.fieldWrite r inst f.off v g).rd R.nandBusy = 0 := fun hb =>
      (fieldWrite_rd_other hg ((List.forall_mem_cons.1 (hnand hb)).1)).trans (hw.nand hb)
    refine ih hl hnl (fun hb => (List.forall_mem_cons.1 (hnand hb)).2)
      (hw.of_onlyRegs (fieldWrite_cases r inst f.off v hg).1 hbusy) ?_
    by_cases hgf : g = f
    · refine .inr ?_
      dsimp only
      rw [hgf, fieldWrite_self hw, State.rd_wr, Nat.mod_mod]
    · refine h.imp (fun hm => (List.mem_cons.1 hm).resolve_left (Ne.symm hgf)) fun hrd => ?_
      exact (fieldWrite_rd_other hg (hng hgf)).trans hrd

/-! ### The access -/

theorem blkOf_word {blk o : Nat} (hblk : blk < 18) (ho : o < 65536) :
    blkOf (blk * 65536 + o) = some blk ∧ (blk * 65536 + o) % 65536 = o := by
  have hdiv : (blk * 65536 + o) / 65536 = blk := by omega
  exact ⟨by rw [blkOf, hdiv, if_pos hblk], by omega⟩

/-- A 4-byte write outside the PLOT block is a word write; one that may not take effect only drops the latch (R611, R634). -/
theorem exec_registerWrite {s : State} {r blk o : Nat} (v : Word64) (hblk : blk < 18) (ho : o < 65536) (hal : o % 4 = 0)
    (h3 : blk ≠ 3 ∨ s.writable r blk o = false) :
    exec (.registerWrite r (blk * 65536 + o) 4 v) s = .next (if s.writable r blk o then
      (s.dropLatch r (blk * 65536 + o)).wordWrite r blk o (v.toNat % 2 ^ 32) else s.dropLatch r (blk * 65536 + o)) := by
  obtain ⟨hb, hm⟩ := blkOf_word hblk ho
  have hacc : ¬(¬((4 : Nat) = 4 ∨ (4 : Nat) = 8) ∨ (blk * 65536 + o) % 4 ≠ 0) := by omega
  have hwr : (s.dropLatch r (blk * 65536 + o)).writable r blk o = s.writable r blk o := rfl
  have hend : ok (State.write32 (s.dropLatch r (blk * 65536 + o)) r (blk * 65536 + o) (v.toNat % 2 ^ 32)) = .next
      (if s.writable r blk o then (s.dropLatch r (blk * 65536 + o)).wordWrite r blk o (v.toNat % 2 ^ 32)
        else s.dropLatch r (blk * 65536 + o)) := by
    simp only [ok, State.write32, hb, hm, hwr]
  show execRegisterWrite r (blk * 65536 + o) 4 v s = _
  unfold execRegisterWrite State.regWrite
  rw [if_neg hacc]
  dsimp only
  rw [hb, hm, if_neg (by decide)]
  split
  · next heq =>
    obtain rfl : blk = 3 := Option.some.inj heq
    rw [if_neg (by rw [hwr, h3.resolve_left (fun h => h rfl)]; exact Bool.false_ne_true)]
    exact hend
  · exact hend

/-- Settles O8: the fields of a word are written one after the other, each at its own place. -/
theorem registerWrites : Obligations.RegisterWrites := by
  refine ⟨?_, ?_, ?_, ?_⟩
  · intro s r blk inst v f hblk h3 hf hrw hown hwid hn hlock hwho hhome hplog hqp hnand hwr hinst
    obtain ⟨hfb, -⟩ := layout_blk hblk hf
    have hblk3 : ∀ h ∈ fieldsOf blk, h.blk ≠ 3 := fun h hh => (layout_blk hblk hh).1 ▸ h3
    have hoff : f.off < 65536 ∧ f.off % 4 = 0 := offsets_ok blk hblk f hf
    have hw : Writes (s.dropLatch r (blk * 65536 + f.off)) r inst f :=
      { rw := hrw, own := hown, wid := hwid, n := hn, lock := hlock, who := hwho, notHome := hhome, notPlog := hplog
        notPlot := hfb ▸ h3, qp := fun hb => hqp (hfb ▸ hb), nand := fun hb => (hnand (hfb ▸ hb)).2 }
    have hbusy : f.blk = 15 → ∀ h ∈ fieldsOf blk, ∀ j m, h.hit f.off = some (j, m) →
        R.nandBusy.key 0 0 ≠ h.key inst j := by
      intro hb h hh j m hhit
      obtain rfl : blk = 15 := hfb.symm.trans hb
      obtain ⟨ho4, hs0⟩ := nand_plain f hf hrw hown hn (hnand rfl).1 h hh (by rw [hhit]; rfl)
      obtain rfl : inst = 0 := (Option.some.inj hinst).symm
      obtain ⟨hhb, hhlo⟩ := layout_blk hblk hh
      refine key_ne (f := R.nandBusy) hhb.symm (by decide) hhlo (.inl ?_)
      rw [ho4, hs0]
      show 8 + j * 0 ≠ 0x10
      omega
    have hrefuse : s.nandRefuses r blk f.off (v.toNat % 2 ^ 32) = false := by
      by_cases hb : blk = 15
      · simp only [State.nandRefuses, beq_eq_false_iff_ne.2 (hnand hb).1, Bool.and_false, Bool.false_and]
      · simp only [State.nandRefuses, beq_eq_false_iff_ne.2 hb, Bool.false_and]
    have hword : (s.dropLatch r (blk * 65536 + f.off)).wordWrite r blk f.off (v.toNat % 2 ^ 32) =
        (fieldsOf blk).foldl (fun t h => t.fieldWrite r inst f.off (v.toNat % 2 ^ 32) h)
          (s.dropLatch r (blk * 65536 + f.off)) := by
      have hi : (s.dropLatch r (blk * 65536 + f.off)).instOf r blk f.off = some inst := hinst
      have hr : (s.dropLatch r (blk * 65536 + f.off)).nandRefuses r blk f.off (v.toNat % 2 ^ 32) = false := hrefuse
      rw [State.wordWrite, hi]
      dsimp only
      rw [hr]
      rfl
    have honly := OnlyRegs.trans (s := s) ⟨rfl, rfl⟩ (foldl_fieldWrite_only r inst f.off (v.toNat % 2 ^ 32) hblk3
      (s.dropLatch r (blk * 65536 + f.off)))
    refine ⟨_, (exec_registerWrite v hblk hoff.1 hoff.2 (.inl h3)).trans (by rw [if_pos hwr, hword]), ?_, ?_, honly⟩
    · exact foldl_fieldWrite_rd_self hblk3 (fun h hh hne j m hhit => key_ne_of_hit hblk hf hh hn hwid hne hhit) hbusy hw
        (.inl hf)
    · exact fun g k i hne => foldl_fieldWrite_rd_other hblk3
        (fun h hh j m hhit => hne h hh (by rw [hhit]; rfl) j) _
  · intro s r off size v h
    show execRegisterWrite r off size v s = _
    simp only [execRegisterWrite, State.regWrite, if_pos h, ok]
  · intro s r blk o v hblk h3 ho hal hwr
    rw [exec_registerWrite v hblk ho hal (.inl h3), if_pos hwr]
  · intro s r blk o v hblk ho hal hwr
    rw [exec_registerWrite v hblk ho hal (.inr hwr), hwr, if_neg Bool.false_ne_true]

end Sys2Proof.Proofs

/-! PROOFS. Log numbers (R134 to R137): elements, products, and the log value that brackets a linear one. -/
namespace Sys2Proof.Proofs
open Sys2Proof Sys2Proof.Machine Sys2Proof.Laws

/-! ### Elements and products -/

theorem Term.mul_nonzero {a b : Term} (ha : a.zero = false) (hb : b.zero = false) :
    a.mul b = { zero := false, neg := a.neg != b.neg, lam := a.lam + b.lam } := by
  simp only [Term.mul, ha, hb, Bool.or_self, Bool.false_eq_true, if_false]

theorem Term.mul_zero {a b : Term} (h : a.zero = true ∨ b.zero = true) : a.mul b = {} := by
  rcases h with h | h <;> simp only [Term.mul, h, Bool.or_true, Bool.true_or, if_true]

/-- Settles O25: code 0 is zero; every other code is a sign and a log value under the block's exponent. -/
theorem logNumbers : Obligations.LogNumbers := by
  refine ⟨?_, ?_, ?_, fun a b => Term.mul_nonzero, ?_⟩
  · intro raw scale sexp _ hcode
    simp only [decElem, if_neg hcode]
  · intro raw scale sexp _ hcode
    simp only [decElem, if_neg hcode]
  · exact fun scale sexp => ⟨rfl, rfl, rfl, rfl⟩
  · intro a b h
    rw [Term.mul_zero h]
    exact ⟨rfl, rfl⟩

/-! ### Comparisons over a common power of two -/

theorem Dy.lt_of_not_le {a b : Dy} (h : ¬ a.le b = true) : b.lt a = true := by
  rw [Dy.le, decide_eq_true_iff] at h
  rw [Dy.lt, decide_eq_true_iff, Int.min_comm]
  exact Int.not_le.1 h

/-- At a multiple of 16 the log value is a power of two. -/
theorem tval_over (o e : Int) : (tval (16 * o)).over e = ((2 ^ (19 + (o - 19 - e).toNat) : Nat) : Int) := by
  have hlow : lamLow (16 * o) = 0 := by simp only [lamLow, Int.mul_emod_right, Int.toNat_zero]
  have hdiv : 16 * o / 16 = o := Int.mul_ediv_cancel_left o (by decide)
  rw [tval, hlow, hdiv, Dy.over, Nat.pow_add, Int.natCast_mul, Int.natCast_pow 2 (o - 19 - e).toNat]
  rfl

theorem abs_over (v : Dy) (e : Int) : v.abs.over e = ((v.m.natAbs * 2 ^ (v.e - e).toNat : Nat) : Int) := by
  rw [Dy.over, Dy.abs, Int.natCast_mul, Int.natCast_pow]
  rfl

/-- A nonzero value is at least the power of two of its logarithm. -/
theorem log2_le {v : Dy} (h : v.m ≠ 0) : (tval (16 * v.log2)).le v.abs = true := by
  have hlog : v.log2 = (Nat.log2 v.m.natAbs : Int) + v.e := rfl
  have hexp : (tval (16 * v.log2)).e = v.log2 - 19 := by
    rw [tval, Int.mul_ediv_cancel_left _ (by decide)]
  have habs : v.abs.e = v.e := rfl
  rw [Dy.le, decide_eq_true_iff, tval_over, abs_over]
  generalize hμ : min (tval (16 * v.log2)).e v.abs.e = μ
  rw [hexp, habs] at hμ
  have hsum : 19 + (v.log2 - 19 - μ).toNat = Nat.log2 v.m.natAbs + (v.e - μ).toNat := by omega
  rw [hsum, Nat.pow_add]
  exact Int.ofNat_le.2 (Nat.mul_le_mul_right _ (Nat.log2_self_le (Int.natAbs_ne_zero.2 h)))

/-- A value is below the power of two after that of its logarithm. -/
theorem lt_log2 (v : Dy) : v.abs.lt (tval (16 * (v.log2 + 1))) = true := by
  have hlog : v.log2 = (Nat.log2 v.m.natAbs : Int) + v.e := rfl
  have hexp : (tval (16 * (v.log2 + 1))).e = v.log2 + 1 - 19 := by
    rw [tval, Int.mul_ediv_cancel_left _ (by decide)]
  have habs : v.abs.e = v.e := rfl
  rw [Dy.lt, decide_eq_true_iff, tval_over, abs_over]
  generalize hμ : min v.abs.e (tval (16 * (v.log2 + 1))).e = μ
  rw [hexp, habs] at hμ
  have hsum : 19 + (v.log2 + 1 - 19 - μ).toNat = Nat.log2 v.m.natAbs + 1 + (v.e - μ).toNat := by omega
  rw [hsum, Nat.pow_add]
  exact Int.ofNat_lt.2 ((Nat.mul_lt_mul_right (Nat.two_pow_pos _)).2 Nat.lt_log2_self)

/-! ### The search -/

/-- The search from n down stops at a log value that its own step brackets, when those of 0 and n do. -/
theorem lamFind_brackets {v : Dy} {o : Int} (hlo : (tval (16 * o)).le v = true) (n : Nat)
    (hhi : v.lt (tval (16 * o + n + 1)) = true) :
    (tval (16 * o + lamFind v o (n + 1))).le v = true ∧ v.lt (tval (16 * o + lamFind v o (n + 1) + 1)) = true := by
  induction n with
  | zero =>
    have hf : lamFind v o 1 = 0 := by simp only [lamFind, ite_self]
    rw [hf]
    refine ⟨?_, hhi⟩
    rw [Int.natCast_zero, Int.add_zero]
    exact hlo
  | succ n ih =>
    rw [lamFind]
    by_cases hle : (tval (16 * o + ((n + 1 : Nat) : Int))).le v = true
    · rw [if_pos hle]
      exact ⟨hle, hhi⟩
    · rw [if_neg hle]
      refine ih ?_
      rw [Int.add_assoc]
      exact Dy.lt_of_not_le hle

/-- Settles O26: the exponent brackets the value to a power of two, and the search to a sixteenth. -/
theorem conversionBracketsItsValue : Obligations.ConversionBracketsItsValue := by
  intro v hv
  have hhi := lt_log2 v
  rw [Int.mul_add] at hhi
  refine lamFind_brackets (log2_le hv) 15 ?_
  rw [Int.add_assoc]
  exact hhi

end Sys2Proof.Proofs

/-! PROOFS. The sequencer (R175 to R206): the tile commands, and the counter of issue that reaches another register. -/
namespace Sys2Proof.Proofs
open Sys2Proof Sys2Proof.Machine Sys2Proof.Laws

/-! ### The commands -/

/-- The tile commands with their opcodes (R176). -/
def tileCommands : List ((Nat → Nat → List (Nat × MemEvent) → Instr) × Nat) :=
  [(.matmul, 1), (.adaptShrink, 2), (.adaptExpand, 3), (.eltwise, 4), (.table, 5), (.reduce, 6), (.softmaxRows, 7),
    (.normRows, 8), (.gather, 9), (.scatter, 10), (.conv1d, 11), (.copy, 12), (.pad, 13)]

/-- Each is the one shared operation on its opcode. -/
theorem exec_tileCommand {mk : Nat → Nat → List (Nat × MemEvent) → Instr} {code : Nat} (h : (mk, code) ∈ tileCommands)
    (p n : Nat) (evs : List (Nat × MemEvent)) (s : State) : exec (mk p n evs) s = .next (s.macroOp code p n evs) := by
  have hall : ∀ x ∈ tileCommands, exec (x.1 p n evs) s = .next (s.macroOp x.2 p n evs) := by
    simp only [tileCommands, List.forall_mem_cons]
    exact ⟨rfl, rfl, rfl, rfl, rfl, rfl, rfl, rfl, rfl, rfl, rfl, rfl, rfl, nofun⟩
  exact hall _ h

/-! ### Issue

The registers lie in one table of keys, and a register number is part of its key. The counter `R.padSat` of the plot
`farPlot` has the key of `R.cfmCapacity`: issue counts there, and a count is kept below 2^32. A capacity of 2^40 falls to
2^32 − 1, so the cold-frame row that issue found readable is not there when the halo of R195 is to begin. -/

/-- The plot whose counter of padded tiles has the key of the cold frame's capacity. -/
def farPlot : Nat := R.cfmCapacity.key 0 0 - R.padSat.key 0 0

/-- REDUCE over one row, with the window 2 that makes it one of R195's. -/
def farQueued : QOp := { ticket := 0, img := BitVec.ofNat 256 (6 + 2 ^ 20 + 2 ^ 48 + 2 ^ 56 + 2 ^ 192 + 2 * 2 ^ 200) }

/-- A plot store whose descriptor 0 names rows at an address of the cold frame. -/
def farStore : List Host.Cell :=
  Mem.write [] 0 (leBytes 8 (coldBase + 2 ^ 33) ++ leBytes 8 (coldBase + 2 ^ 33) ++ (List.replicate 7 (leBytes 4 1)).flatten)

/-- A running plot with that entry at the head of its queue, the cold frame's capacity being 2^40. -/
def farState : State :=
  State.wr { plots := [(farPlot, { run := true, store := farStore, queue := [farQueued] })] } R.cfmCapacity (2 ^ 40)

/-- The entry's operands as issue reads them. -/
def farCtx : Ctx :=
  Ctx.mk' farState farPlot farQueued.img ((farState.plot farPlot).descs farQueued.img) (farState.lens farPlot) none

theorem farState_queue : (farState.plot farPlot).sequencing = true ∧ (farState.plot farPlot).running = none
    ∧ (farState.plot farPlot).inj = [] ∧ (farState.plot farPlot).queue = [farQueued] ∧ Mo.opcode farQueued.img = 6
    ∧ (farState.plot farPlot).discarding = false := by
  decide +kernel

/-- The entry passes the checks of issue, its halo is one of R195's and every row that it reads is readable. -/
theorem farCtx_passes : farCtx.issueFault false = none ∧ (farState.plot farPlot).descUe farQueued.img = false
    ∧ farCtx.halos = true ∧ farState.spansFault farPlot farCtx.haloReads = none := by
  decide +kernel

/-- Still the command begins no transfer. -/
theorem farState_begins_no_halo :
    (((farState.macroOp 6 farPlot 0 []).plot farPlot).running.map fun r => r.sent.isSome) = some false := by
  decide +kernel

/-- Refutes O27: the counter of padded tiles of the plot number `farPlot` is the register of the cold frame's capacity, and
counting at issue takes the rows of the halo out of the address map. -/
theorem not_macroOpsIssue : ¬ Obligations.MacroOpsIssue := by
  unfold Obligations.MacroOpsIssue
  intro h
  obtain ⟨hseq, hrun, hinj, hq, hcode, hdisc⟩ := farState_queue
  obtain ⟨hpass, hue, hhalo, hspans⟩ := farCtx_passes
  have hmem : (Instr.reduce, 6) ∈ tileCommands := by simp [tileCommands]
  obtain ⟨_, hbegins, _⟩ := h .reduce 6 hmem farState farPlot farQueued [] farCtx hseq hrun hinj hq hcode hdisc rfl rfl
  obtain ⟨t, r, ht, hr, _, hsent, _⟩ := hbegins hpass hue hhalo rfl hspans
  rw [exec_tileCommand hmem] at ht
  have hnone := farState_begins_no_halo
  rw [Host.Outcome.next.inj ht, hr, Option.map_some, hsent] at hnone
  exact absurd hnone (by decide)

end Sys2Proof.Proofs

/-! PROOFS. The sequencer's walks and ends (R155, R181, R186 to R190, R201 to R206). -/
namespace Sys2Proof.Proofs
open Sys2Proof Sys2Proof.Machine Sys2Proof.Laws

/-! ### Walks -/

/-- An entry in execution goes on. -/
theorem macroOp_goes_on {s : State} {p n code : Nat} {r : RunOp} (hseq : (s.plot p).sequencing = true)
    (hrun : (s.plot p).running = some r) (hcode : Mo.opcode r.op.img = code) :
    s.macroOp code p n [] = s.goOn p n := by
  simp only [State.macroOp, hseq, hrun, hcode, State.accessEvents, List.foldl_nil, Bool.not_true, Bool.false_eq_true,
    if_false, if_true]

section Walk
variable {s : State} {p : Nat} {r : RunOp} (hrun : (s.plot p).running = some r) (hdone : r.done = false)
  (hfault : r.fault = none)
include hrun hdone hfault

/-- With its halo complete, or none to wait for, it walks. -/
theorem goOn_walks (n : Nat) (hwait : (s.ctx p r).waits = false)
    (hhalo : (s.ctx p r).halos = false ∨ (r.eOk = true ∧ r.wOk = true)) : s.goOn p n = s.walk p n := by
  have hready : ((s.ctx p r).halos && !(r.eOk && r.wOk)) = false := by
    rcases hhalo with h | ⟨he, hw⟩
    · rw [h, Bool.false_and]
    · rw [he, hw, Bool.and_self, Bool.not_true, Bool.and_false]
  simp only [State.goOn, hrun, hdone, hfault, hwait, hready, Option.isSome_none, Bool.or_self, Bool.false_eq_true, if_false]

/-- One tile of a SHARED walk. -/
theorem walk_one_shared (hw : Mo.walk r.op.img = 0) : s.walk p 1 = s.sharedTile p r := by
  simp only [State.walk, hrun, hdone, hfault, hw, Option.isSome_none, Bool.or_self, Bool.false_eq_true, if_false]

/-- One tile of a LOCAL walk. -/
theorem walk_one_local (hw : Mo.walk r.op.img = 1) : s.walk p 1 =
    if r.next < (s.ctx p r).total % 2 ^ 24 then s.runTile p { r with next := r.next + 1 } r.next
    else s.setRun p (some { r with done := true }) := by
  simp only [State.walk, hrun, hdone, hfault, hw, Option.isSome_none, Bool.or_self, Bool.false_eq_true, if_false]

/-- The tile of an EXPLICIT entry, which is then done. -/
theorem walk_one_explicit (hw : Mo.walk r.op.img = 2) {u : RunOp}
    (hu : ((s.runTile p r (Mo.tile r.op.img)).plot p).running = some u) (huf : u.fault = none) :
    s.walk p 1 = (s.runTile p r (Mo.tile r.op.img)).setRun p (some { u with done := true }) := by
  simp only [State.walk, hrun, hdone, hfault, hw, hu, huf, Option.isSome_none, Bool.or_self, Bool.false_eq_true, if_false]

end Walk

/-- Settles O28: a command on an entry in execution is one step of its walk, by the WALK of its image. -/
theorem macroOpTiles : Obligations.MacroOpTiles := by
  intro mk code hmk s p r hseq hrun hcode hdone hfault hwait hhalo
  have hx : exec (mk p 1 []) s = .next (s.walk p 1) := (exec_tileCommand hmk p 1 [] s).trans
    (congrArg _ ((macroOp_goes_on hseq hrun hcode).trans (goOn_walks hrun hdone hfault 1 hwait hhalo)))
  have hshared := fun hw => hx.trans (congrArg _ (walk_one_shared hrun hdone hfault hw))
  have hlocal := fun hw => hx.trans (congrArg _ (walk_one_local hrun hdone hfault hw))
  refine ⟨fun hw hn => (hlocal hw).trans (congrArg _ (if_pos hn)), fun hw hn => (hlocal hw).trans (congrArg _ (if_neg hn)),
    fun i hw ha => (hshared hw).trans ?_, fun v l hw ha htc hvl => (hshared hw).trans ?_, fun v hw ha => (hshared hw).trans ?_,
    fun u hw hu huf => hx.trans (congrArg _ (walk_one_explicit hrun hdone hfault hw hu huf))⟩
  · simp only [State.sharedTile, ha]
  · simp only [State.sharedTile, ha, State.draw, htc, if_neg hvl]
  · rcases ha with ha | ⟨ha, htc⟩
    · simp only [State.sharedTile, ha]
    · simp only [State.sharedTile, ha, State.draw, htc, if_true]

/-! ### Ends -/

/-- The draw bases of the banks a fold advances. -/
theorem gen_foldl_advance (ks : List Nat) (hn : ks.Nodup) (on : Nat → Bool) (d : Nat → Word64) (q : Plot) (b : Nat) :
    (ks.foldl (fun q k => if on k then q.setGen k { q.gen k with d := (q.gen k).d + d k } else q) q).gen b
      = if b ∈ ks ∧ on b then { q.gen b with d := (q.gen b).d + d b } else q.gen b := by
  induction ks generalizing q with
  | nil => simp
  | cons k ks ih =>
    obtain ⟨hk, hks⟩ := List.nodup_cons.1 hn
    rw [List.foldl_cons, ih hks]
    by_cases hb : b = k
    · subst hb
      simp only [hk, List.mem_cons, true_or, true_and, false_and, if_false]
      split
      · rw [gen_setGen, if_pos rfl]
      · rfl
    · simp only [List.mem_cons, hb, false_or]
      have hsame : (if on k then q.setGen k { q.gen k with d := (q.gen k).d + d k } else q).gen b = q.gen b := by
        split
        · rw [gen_setGen, if_neg hb]
        · rfl
      rw [hsame]

/-- Completion leaves all of the plot but its generators as the queue's head leaves. -/
theorem gens_foldl_frame (ks : List Nat) (f : Plot → Nat → Plot) (hf : ∀ q k, f q k = { q with gens := (f q k).gens })
    (q : Plot) : ks.foldl f q = { q with gens := (ks.foldl f q).gens } := by
  induction ks generalizing q with
  | nil => rfl
  | cons k ks ih => rw [List.foldl_cons, ih, hf q k]

section End
variable {s : State} {p : Nat}

/-- The plot with its draw bases advanced. -/
def advanced (c : Ctx) (q : Plot) : Plot :=
  (List.range 4).foldl (fun q b =>
    if (Mo.banks c.m).contains b then q.setGen b { q.gen b with d := (q.gen b).d + BitVec.ofNat 64 (c.span b) } else q) q

theorem advanced_frame (c : Ctx) (q : Plot) : advanced c q = { q with gens := (advanced c q).gens } :=
  gens_foldl_frame _ _ (fun q k => by split <;> rfl) q

theorem advanced_gen (c : Ctx) (q : Plot) {b : Nat} (hb : b < 4) : (advanced c q).gen b =
    { q.gen b with d := (q.gen b).d + BitVec.ofNat 64 (if (Mo.banks c.m).contains b then c.span b else 0) } := by
  rw [advanced, gen_foldl_advance _ List.nodup_range (fun k => (Mo.banks c.m).contains k) fun k => BitVec.ofNat 64 (c.span k)]
  simp only [List.mem_range, hb, true_and]
  split
  · rfl
  · rw [show BitVec.ofNat 64 0 = 0#64 from rfl, BitVec.add_zero]

/-- What the head leaves behind when it leaves the queue of a plot that goes on. -/
theorem popOp_plot {t : State} (hstop : (t.plot p).stopping = false) : (t.popOp p).plot p = { t.plot p with
    queue := (t.plot p).queue.drop 1, running := none, barrier := none
    outq := (t.plot p).outq.map fun m => { m with ops := m.ops - 1 } } := by
  simp only [State.popOp, State.plot_setPlot, hstop, Bool.false_eq_true, if_false]

theorem popOp_onlyPlot (t : State) (p : Nat) : OnlyPlot p t (t.popOp p) := onlyPlot_setPlot _ _ _

/-- A walk that is done completes. -/
theorem macroOpComplete_ends {r : RunOp} {o : QOp} {rest : List QOp} (hrun : (s.plot p).running = some r)
    (hdone : r.done = true) (hfault : r.fault = none) (hq : (s.plot p).queue = o :: rest) (hstop : (s.plot p).stopping = false) :
    ∃ t, exec (.macroOpComplete p) s = .next t ∧ OnlyPlot p s t ∧ (t.plot p).queue = rest ∧ (t.plot p).running = none
      ∧ (t.plot p).store = (s.plot p).store ∧ (t.plot p).fault = (s.plot p).fault
      ∧ ∀ b, b < 4 → (t.plot p).gen b = { (s.plot p).gen b with
          d := ((s.plot p).gen b).d + BitVec.ofNat 64 (if (Mo.banks r.op.img).contains b then (s.ctx p r).span b else 0) } := by
  have hadv : s.advanceGens (s.ctx p r) = s.setPlot p (advanced (s.ctx p r) (s.plot p)) := rfl
  have hplot : (s.advanceGens (s.ctx p r)).plot p = advanced (s.ctx p r) (s.plot p) := by rw [hadv, State.plot_setPlot]
  have hframe := advanced_frame (s.ctx p r) (s.plot p)
  have hpop : ((s.advanceGens (s.ctx p r)).popOp p).plot p = _ := popOp_plot (by rw [hplot, hframe]; exact hstop)
  refine ⟨(s.advanceGens (s.ctx p r)).popOp p, ?_, onlyPlot_trans (onlyPlot_setPlot _ _ _) (popOp_onlyPlot _ _), ?_⟩
  · show execMacroOpComplete p s = _
    simp only [execMacroOpComplete, hrun, hdone, hfault, Option.isNone_none, Bool.and_self, onlyIf, if_true]
  · rw [hpop, hplot]
    refine ⟨?_, rfl, ?_, ?_, fun b hb => advanced_gen (s.ctx p r) (s.plot p) hb⟩
    · rw [hframe]
      exact congrArg (List.drop 1) hq
    · rw [hframe]
    · rw [hframe]

/-- A fault with no tile drawn ends the walk. -/
theorem executionFault_ends {code : Nat} {r : RunOp} {o : QOp} {rest : List QOp} (hrun : (s.plot p).running = some r)
    (hfault : r.fault = some code) (hinc : r.incomplete = []) (hq : (s.plot p).queue = o :: rest)
    (hstop : (s.plot p).stopping = false) :
    ∃ t, exec (.executionFault p) s = .next t ∧ t.out = s.out ++ [.faultReport p r.op.img code []]
      ∧ (t.plot p).queue = rest ∧ (t.plot p).running = none ∧ (t.plot p).discarding = true
      ∧ (t.plot p).fault = some ((s.plot p).fault.getD code) ∧ (∀ j, j ≠ p → t.plot j = s.plot j) ∧ t.mem = s.mem := by
  have hor : (s.plot p).fault.orElse (fun _ => some code) = some ((s.plot p).fault.getD code) := by
    cases (s.plot p).fault <;> rfl
  have honly : OnlyPlot p (s.emit (.faultReport p r.op.img code []))
      ((((s.emit (.faultReport p r.op.img code [])).recordFault p code).markFaulted p r.op.img).popOp p) :=
    onlyPlot_trans (onlyPlot_trans (onlyPlot_setPlot _ _ _) (onlyPlot_setPlot _ _ _)) (popOp_onlyPlot _ _)
  have hexec : exec (.executionFault p) s = .next
      ((((s.emit (.faultReport p r.op.img code [])).recordFault p code).markFaulted p r.op.img).popOp p) := by
    show execExecutionFault p s = _
    simp only [execExecutionFault, hrun, hfault, hinc, List.foldl_nil, ok]
  refine ⟨_, hexec, rfl, ?_⟩
  · have hmark : (((s.emit (.faultReport p r.op.img code [])).recordFault p code).markFaulted p r.op.img).plot p =
        { s.plot p with
          fault := (s.plot p).fault.orElse fun _ => some code, discarding := true
          faultOn := Mo.explicit r.op.img 0 :: (s.plot p).faultOn } := by
      rw [State.markFaulted, State.plot_setPlot, State.recordFault, State.plot_setPlot]
      rfl
    rw [popOp_plot (by rw [hmark]; exact hstop), hmark]
    exact ⟨congrArg (List.drop 1) hq, rfl, rfl, hor, honly.2, rfl⟩

/-- A barrier whose scope is this plot alone completes on it. -/
theorem barrier_completes {scope id : Nat} {r : RunOp} (hseq : (s.plot p).sequencing = true) (hrun : (s.plot p).running = some r)
    (hbar : (s.plot p).barrier = some (scope, id)) (hscope : s.scopePlots p scope = [p]) (hat : s.atBarrier p scope id = true)
    (hre : s.scopeReissues p scope = false) : exec (.barrier p) s = .next (s.passBarrier p) := by
  show execBarrier p s = _
  simp only [execBarrier, hseq, hrun, State.tryBarrier, hbar, hscope, hre, List.contains_cons, beq_self_eq_true, List.all_cons,
    List.all_nil, hat, List.foldl_cons, List.foldl_nil, Bool.true_or, Bool.and_self, Bool.not_true, Bool.not_false,
    Bool.false_eq_true, if_false, if_true, ok]

/-- A barrier waits for every plot of its scope. -/
theorem barrier_waits {scope id q : Nat} {r : RunOp} (hseq : (s.plot p).sequencing = true) (hrun : (s.plot p).running = some r)
    (hbar : (s.plot p).barrier = some (scope, id)) (hq : q ∈ s.scopePlots p scope) (hat : s.atBarrier q scope id = false) :
    exec (.barrier p) s = .next s := by
  have hall : (s.scopePlots p scope).all (fun k => s.atBarrier k scope id) = false :=
    List.all_eq_false.2 ⟨q, hq, by rw [hat]; exact Bool.false_ne_true⟩
  show execBarrier p s = _
  simp only [execBarrier, hseq, hrun, State.tryBarrier, hbar, hall, Bool.and_false, Bool.false_and, Bool.not_true,
    Bool.false_eq_true, if_false, ok]

end End

/-! ### Injected tiles -/

section Injected
variable {s t : State} {p : Nat} {img : BitVec 256} {rest : List (BitVec 256)} {c : Ctx} (hinj : (s.plot p).inj = img :: rest)
  (hat : (s.plot p).atBoundary = true) (hseq : (s.plot p).sequencing = true)
  (ht : t = s.setPlot p (Plot.feed { s.plot p with inj := rest })) (hwait : c.waits = false)
  (hc : c = Ctx.mk' t p img ((s.plot p).descs img) (s.lens p) none)
include hinj hat hseq ht hwait hc

theorem injected_runs {o : TileOut} (hpass : c.issueFault true = none) (hue : (s.plot p).descUe img = false)
    (ho : o = Ctx.run { c with s := t.issueStats c } (Mo.tile img)) (hof : o.fault = none)
    (hpad : o.padS = false ∨ c.padStats.1 = true) :
    exec (.injectedMacroOp p []) s = .next (((t.issueStats c).applyTile p o).injDone c) := by
  have hcount : (o.padS && !c.padStats.1) = false := by
    rcases hpad with h | h
    · rw [h, Bool.false_and]
    · rw [h, Bool.not_true, Bool.and_false]
  show execInjectedMacroOp p [] s = _
  simp only [execInjectedMacroOp, State.accessEvents, List.foldl_nil, hinj, hseq, hat, Bool.not_true, Bool.or_self,
    Bool.false_eq_true, if_false, ← ht, ← hc, hwait, hpass, hue, ← ho, hof, hcount, ok]

theorem injected_refused {code : Nat} (hfault : c.issueFault true = some code) (hover : code ≠ Code.tileOverflow)
    (hre : t.reissueOf p img = none) : exec (.injectedMacroOp p []) s = .next (t.emit (.faultReport p img code [])) := by
  have hcp : c.p = p := by rw [hc]; rfl
  have hcm : c.m = img := by rw [hc]; rfl
  have hkeep : t.overflowed c code = t := if_neg fun h => hover h.1
  have hre' : (t.emit (.faultReport p img code [])).reissueOf p img = none := hre
  show execInjectedMacroOp p [] s = _
  simp only [execInjectedMacroOp, State.accessEvents, List.foldl_nil, hinj, hseq, hat, Bool.not_true, Bool.or_self,
    Bool.false_eq_true, if_false, ← ht, ← hc, hwait, hfault, hkeep, State.injFault, hcp, hcm, hre', ok]

end Injected

/-- Settles O29: how a walk, a barrier and an injected tile end. -/
theorem macroOpsEnd : Obligations.MacroOpsEnd := by
  refine ⟨fun s p r o rest hrun hdone hfault hq hstop => macroOpComplete_ends hrun hdone hfault hq hstop,
    fun s p code r o rest hrun hfault hinc hq hstop => executionFault_ends hrun hfault hinc hq hstop,
    fun s p scope id r hseq hrun hbar hscope hat hre => ?_,
    fun s p scope id q r hseq hrun hbar hq hat => barrier_waits hseq hrun hbar hq hat,
    fun s p b r hbar hrun => ?_,
    fun s p img rest t c o hinj hat hseq ht hwait hc hpass hue ho hof hpad =>
      injected_runs hinj hat hseq ht hwait hc hpass hue ho hof hpad,
    fun s p code img rest t c hinj hat hseq ht hwait hc hfault hover hre =>
      injected_refused hinj hat hseq ht hwait hc hfault hover hre⟩
  · refine ⟨_, barrier_completes hseq hrun hbar hscope hat hre, ?_⟩
    simp only [State.passBarrier, hrun, State.plot_setPlot, and_self, and_true]
    exact onlyPlot_setPlot _ _ _
  · have hexec : exec (.barrierTimeout p) s = .next ((s.faultRun p Code.barrierTimeout).setPlot p
        { (s.faultRun p Code.barrierTimeout).plot p with barrier := none }) := by
      show execBarrierTimeout p s = _
      simp only [execBarrierTimeout, hbar, ok]
    refine ⟨_, hexec, ?_⟩
    simp only [State.faultRun, hrun, State.setRun, State.plot_setPlot, and_true]
    exact onlyPlot_trans (onlyPlot_setPlot _ _ _) (onlyPlot_setPlot _ _ _)

end Sys2Proof.Proofs

/-! PROOFS. The address map, home slices and the cold frame (R4, R209, R210, R217 to R224, R245, R572, R642). -/
namespace Sys2Proof.Proofs
open Sys2Proof Sys2Proof.Machine Sys2Proof.Laws

/-! ### The address map -/

/-- Settles O30: the five ranges do not meet, so that the order in which an address is looked up does not matter. -/
theorem addressMap : Obligations.AddressMap := by
  intro s a
  have hmin : min s.capacity (2 ^ 42) ≤ 2 ^ 42 := Nat.min_le_right _ _
  generalize hcap : min s.capacity (2 ^ 42) = cap at hmin
  have hdef : s.region a = if a < 0x47C0000000 then .hbm else if a < 0x4800000000 then .priv
      else if coldBase ≤ a ∧ a < coldBase + cap then .cold
      else if selfBase ≤ a ∧ a < selfBase + storeSize then .self else .none := by rw [← hcap]; rfl
  rw [hdef]
  have hcold : coldBase = 0x100000000000 := rfl
  have hself : selfBase = 0x300000000000 := rfl
  have hsize : storeSize = 393216 := rfl
  rw [hcold, hself, hsize]
  repeat' split
  all_goals simp only [reduceCtorEq, true_iff, false_iff, Nat.not_lt, not_and]
  all_goals omega

/-! ### Home slices -/

theorem homeOf_entry {s : State} {a : Nat} (ha : a < 0x4800000000)
    (he : (Tab.get 0x80 s.homes (a / 2097152)).getLsbD 7 = false) :
    s.homeOf a = (Tab.get 0x80 s.homes (a / 2097152)).toNat % 32 := if_pos ⟨ha, he⟩

theorem homeOf_hash {s : State} {a : Nat} (h : 0x4800000000 ≤ a ∨ (Tab.get 0x80 s.homes (a / 2097152)).getLsbD 7 = true) :
    s.homeOf a = hashHome a := by
  refine if_neg fun ⟨ha, he⟩ => ?_
  rcases h with h | h
  · exact absurd ha (Nat.not_lt.2 h)
  · exact absurd (h.symm.trans he) (by decide)

/-- At reset every granule has the hash home. -/
theorem reset_home_hashed (g : Nat) : (Tab.get 0x80 State.reset.homes g).getLsbD 7 = true := by
  have hentry : Tab.get (0x80 : Byte) State.reset.homes g = 0x80 := rfl
  rw [hentry]
  decide

theorem foldl_xor_lt {n : Nat} (l : List Nat) (hl : ∀ x ∈ l, x < 2 ^ n) {x : Nat} (hx : x < 2 ^ n) :
    l.foldl (· ^^^ ·) x < 2 ^ n := by
  induction l generalizing x with
  | nil => exact hx
  | cons y l ih =>
    exact ih (fun z hz => hl z (List.mem_cons_of_mem y hz)) (Nat.xor_lt_two_pow hx (hl y List.mem_cons_self))

theorem hashHome_lt (a : Nat) : hashHome a < 32 := by
  refine foldl_xor_lt (n := 5) _ (fun x hx => ?_) (by decide)
  obtain ⟨k, _, rfl⟩ := List.mem_map.1 hx
  exact Nat.mod_lt _ (by decide)

/-- A store to a granule that changes its home waits. -/
theorem storePerform_waits {s : State} {p : Nat} {b : Store} {rest : List Store} (ev : MemEvent)
    (hsb : (s.plot p).sb = b :: rest) (hw : s.homeWaits b.addr = true) : exec (.storePerform p ev) s = .next s := by
  show execStorePerform p ev s = _
  simp only [execStorePerform, hsb, hw, if_true, ok]

/-- A home command queues the change of its granule. -/
theorem hbmHome_queues {s : State} {r i : Nat} (v : Word32) (h : s.target r 5 0x1008 .steward = some i)
    (hg : Tab.get 0 s.acc.homeIdx r < 147456) :
    exec (.hbmHome r v) s = .next { s.dropLatch r (5 * 65536) with
      homeBusy := s.homeBusy ++ [(Tab.get 0 s.acc.homeIdx r, BitVec.ofNat 8 (bits v 0 5 + bits v 7 1 * 128))] } := by
  have hidx : Tab.get 0 (s.dropLatch r (5 * 65536)).acc.homeIdx r < 147456 := hg
  show execHbmHome r v s = _
  simp only [execHbmHome, own_target h, if_pos hidx, ok]
  rfl

/-! ### The cold frame -/

theorem CfmS.port_zero (c : CfmS) : c.port 0 = c.port0 := rfl

theorem CfmS.port_one (c : CfmS) : c.port 1 = c.port1 := rfl

/-- Gives a port its record. -/
def withPort (c : CfmS) (port : Nat) (p : CfmPort) : CfmS := if port = 0 then { c with port0 := p } else { c with port1 := p }

section Port
variable {port : Nat} (hp : port = 0 ∨ port = 1) (c : CfmS) (p : CfmPort)
include hp

theorem withPort_port : (withPort c port p).port port = p := by rcases hp with rfl | rfl <;> rfl

theorem withPort_other : (withPort c port p).port (1 - port) = c.port (1 - port) := by rcases hp with rfl | rfl <;> rfl

theorem withPort_raw : (withPort c port p).port0.raw + (withPort c port p).port1.raw = p.raw + (c.port (1 - port)).raw := by
  rcases hp with rfl | rfl
  · rfl
  · exact Nat.add_comm _ _

theorem port_ok : (port == 0 || port == 1) = true := by rcases hp with rfl | rfl <;> rfl

end Port

/-- An address of a lost port's range reads POISON. -/
theorem poisonLine_of_lost {t : State} {port a : Nat} (hlost : (t.cfm.port port).lost = true)
    (hport : t.coldPort (a / 64 * 64 - coldBase) = port) (hline : t.region (a / 64 * 64) = .cold) :
    t.poisonLine (a / 64) = true := by
  simp only [State.poisonLine, hline, hport, hlost, Bool.or_true, Bool.true_or]

/-- The error of a link that is lost. -/
def linkLost (port : Nat) : Err := { cls := .pavilion, event := Code.cfmLinkDown, unit := 5, inst := port }

theorem cfmLinkDown_loses {s : State} {port : Nat} (hp : port = 0 ∨ port = 1) (hlink : (s.cfm.port port).linked = true)
    (hlost : (s.cfm.port port).lost = false) (hserv : s.serving = true) : exec (.cfmLinkDown port) s =
    .next (State.raise { s with cfm := withPort s.cfm port { s.cfm.port port with lost := true } } (linkLost port)) := by
  have hmay : ((port == 0 || port == 1) && (s.cfm.port port).linked && !(s.cfm.port port).lost && s.serving) = true := by
    rw [port_ok hp, hlink, hlost, hserv]
    rfl
  show execCfmLinkDown port s = _
  rw [execCfmLinkDown, onlyIf, if_pos hmay]
  rcases hp with rfl | rfl <;> rfl

theorem cfmLinkDown_effect {s : State} {port : Nat} (hp : port = 0 ∨ port = 1) (hlink : (s.cfm.port port).linked = true)
    (hlost : (s.cfm.port port).lost = false) (hserv : s.serving = true) :
    ∃ t, exec (.cfmLinkDown port) s = .next t ∧ (t.cfm.port port).lost = true
      ∧ t.cfm.port (1 - port) = s.cfm.port (1 - port) ∧ t.mem = s.mem ∧ t.plots = s.plots ∧ t.reqs = s.reqs := by
  have hnotes := raise_notes (s := { s with cfm := withPort s.cfm port { s.cfm.port port with lost := true } }) hserv
    (linkLost port) Cls.noConfusion rfl
  refine ⟨_, cfmLinkDown_loses hp hlink hlost hserv, ?_⟩
  rw [hnotes]
  exact ⟨congrArg CfmPort.lost (withPort_port hp _ _), withPort_other hp _ _, rfl, rfl, rfl⟩

/-- The state in which a port is mapped behind what is mapped, before its registers are written. -/
def mapped (s : State) (port raw : Nat) : State :=
  { s with cfm := { withPort s.cfm port { linked := true, raw := raw, lost := false } with order := s.cfm.order ++ [port] } }

theorem coldFrameHotEnumeration_maps {s : State} {port raw : Nat} (hp : port = 0 ∨ port = 1)
    (hlink : (s.cfm.port port).linked = false) (hserv : s.serving = true) (hopen : s.dev.everOpen = false) :
    exec (.coldFrameHotEnumeration port raw) s =
      .next (((mapped s port raw).wr R.cfmCapacity (usable (raw + (s.cfm.port (1 - port)).raw))).wr
        (if port = 0 then R.cfmLink0 else R.cfmLink1) 1) := by
  have hraw := withPort_raw hp s.cfm { linked := true, raw := raw, lost := false }
  show execColdFrameHotEnumeration port raw s = _
  rw [← hraw]
  simp only [execColdFrameHotEnumeration, port_ok hp, hlink, hserv, hopen, Bool.not_false, Bool.and_self, onlyIf, if_true]
  rcases hp with rfl | rfl <;> rfl

theorem coldFrameHotEnumeration_effect {s : State} {port raw : Nat} (hp : port = 0 ∨ port = 1)
    (hlink : (s.cfm.port port).linked = false) (hserv : s.serving = true) (hopen : s.dev.everOpen = false) :
    ∃ t, exec (.coldFrameHotEnumeration port raw) s = .next t ∧ (t.cfm.port port).linked = true ∧ (t.cfm.port port).raw = raw
      ∧ t.cfm.order = s.cfm.order ++ [port]
      ∧ t.capacity = usable (raw + (s.cfm.port (1 - port)).raw) % 2 ^ R.cfmCapacity.wid
      ∧ t.cfm.port (1 - port) = s.cfm.port (1 - port) ∧ t.mem = s.mem := by
  have hport := withPort_port hp s.cfm { linked := true, raw := raw, lost := false }
  have hkey : R.cfmCapacity.key 0 0 ≠ (if port = 0 then R.cfmLink0 else R.cfmLink1).key 0 0 := by
    split <;> decide
  refine ⟨_, coldFrameHotEnumeration_maps hp hlink hserv hopen, congrArg CfmPort.linked hport, congrArg CfmPort.raw hport, rfl,
    ?_, withPort_other hp _ _, rfl⟩
  exact (State.rd_wr_other _ hkey).trans (State.rd_wr _ _ _ _ _)

/-- Settles O31: changes of homes, the homes of addresses, pages and links of the cold frame, and the lanes of HBM. -/
theorem homesAndColdFrame : Obligations.HomesAndColdFrame := by
  refine ⟨fun s r i v h hg => ⟨_, hbmHome_queues v h hg, rfl, rfl, rfl, rfl, rfl⟩,
    fun s g b h => ?_,
    fun s p b rest ev hsb hw => storePerform_waits ev hsb hw,
    fun s a => ⟨homeOf_entry, fun he => homeOf_hash (.inr he), fun ha => homeOf_hash (.inl (Nat.le_trans (by decide) ha)),
      homeOf_hash (.inr (reset_home_hashed _)), hashHome_lt a⟩, by decide +kernel, by decide +kernel,
    fun s page hserv hcap hgate hlost => ?_,
    fun s port hp hlink hlost hserv => ?_,
    fun s port raw hp hlink hserv hopen => coldFrameHotEnumeration_effect hp hlink hserv hopen, fun s => rfl⟩
  · have hexec : exec (.homeChangeComplete g) s = .next { s with
        homes := Tab.put 0x80 s.homes g b, homeBusy := dropFirstOf g s.homeBusy } := by
      show execHomeChangeComplete g s = _
      simp only [execHomeChangeComplete, h, ok]
    exact ⟨_, hexec, Tab.get_put _ _, fun k hk => Tab.get_put_other _ hk, rfl, rfl, rfl⟩
  · have hblocked : ¬ (s.serving = false ∨ s.capacity ≤ page * 4096 ∨ (s.cfm.port (s.coldPort (page * 4096))).lost = true
        ∨ s.gate.errorState = true) := by
      rw [hserv, hlost, hgate]
      simp only [Bool.true_eq_false, Bool.false_eq_true, false_or, or_false, Nat.not_le, hcap]
    show execCfmPageRead page true s = _
    simp only [execCfmPageRead, if_neg hblocked, if_true, ok]
    rfl
  · obtain ⟨t, ht, hl, ho, hm, hq, hr⟩ := cfmLinkDown_effect hp hlink hlost hserv
    exact ⟨t, ht, hl, ho, hm, hq, hr, fun a _ hport hline => poisonLine_of_lost hl hport hline⟩

end Sys2Proof.Proofs

/-! PROOFS. Administrative commands and the adapter directory (R48 to R61, R457). -/
namespace Sys2Proof.Proofs
open Sys2Proof Sys2Proof.Machine Sys2Proof.Laws

/-! ### Commands -/

/-- An accepted command that its source may give is executed. -/
theorem runCmd_of_found {s : State} {src op : Nat} {cid : Word32} {a : AdminCmd} {act : BitVec 1024 → State → State}
    (h : s.findCmd src cid op = some a) (hpriv : (privileged op && !pfRights src) = false) :
    s.runCmd src cid op act = act a.img { s with accepted := markStarted src cid op s.accepted } := by
  simp only [State.runCmd, h, hpriv, Bool.false_eq_true, if_false]

/-- A command that is not accepted, or that has started, is not executed. -/
theorem runCmd_of_none {s : State} {src op : Nat} {cid : Word32} {act : BitVec 1024 → State → State}
    (h : s.findCmd src cid op = none) : s.runCmd src cid op act = s := by
  simp only [State.runCmd, h]

/-- A choice among candidates is one of them. -/
theorem pickD_mem (s : State) {l : List Nat} (h : l ≠ []) : s.pickD l ∈ l := by
  have hlen : Config.choose s.freeCtr % l.length < l.length := Nat.mod_lt _ (List.length_pos_iff.2 h)
  rw [State.pickD, List.getD_eq_getElem?_getD, List.getElem?_eq_getElem hlen]
  exact List.getElem_mem hlen

/-! ### ADAPTER_LOAD -/

section Load
variable {t : State} {src : Nat} {cid : Word32} {e : DirEnt} {r : AdRec}

/-- The record of a load placed in HBM, with the choices of its record index and its place drawn from the free word. -/
def loadedRec (t : State) (src : Nat) (cid : Word32) (slot : Nat) (r : AdRec) : AdRec :=
  { r with
    loc := .hbm, location := t.tickFree.tickFree.pickD (t.poolFits r.size), coldAt := none
    vst := .loading, slot := slot, serial := t.loadSerial, load := some (src, cid) }

/-- A load with a free record and a place for its blob, for a new entry. -/
theorem loadAt_new_hbm (slot : Nat) (blob : List Byte) (hrec : t.freeRecs ≠ []) (hfit : t.poolFits r.size ≠ []) :
    t.loadAt src cid slot (some e) r .hbm blob [] =
      (State.setAdrec (State.setEnt { t.tickFree.tickFree.tickFree with loadSerial := t.loadSerial + 1 } slot
          { e with st := .free, cur := 131072, born := t.loadSerial })
        (t.tickFree.pickD t.freeRecs) (loadedRec t src cid slot r)).homeWrite
          (t.tickFree.tickFree.pickD (t.poolFits r.size)) blob := by
  have hrecs : (State.tickFree t).freeRecs = t.freeRecs := rfl
  have hfits : (State.tickFree (State.tickFree t)).poolFits r.size = t.poolFits r.size := rfl
  have hplace : (State.tickFree (State.tickFree t)).placeBlob r .hbm = some ({ r with
      loc := .hbm, location := t.tickFree.tickFree.pickD (t.poolFits r.size), coldAt := none },
      t.tickFree.tickFree.tickFree) := by
    simp only [State.placeBlob, hfits, List.isEmpty_iff, hfit, if_false]
  simp only [State.loadAt, hrecs, List.isEmpty_iff, hrec, if_false, hplace]
  rfl

/-- A load of a key that the directory does not hold takes a free slot. -/
theorem loadInto_new (want : Loc) (blob : List Byte) (hkey : t.sameKey e = none) (hslot : t.freeSlots ≠ []) :
    t.loadInto src cid e r want blob [] = t.loadAt src cid (t.pickD t.freeSlots) (some e) r want blob [] := by
  simp only [State.loadInto, hkey, List.isEmpty_iff, hslot, if_false]

end Load

/-- A load that passes every check is placed, from the data that came with it. -/
theorem adapterLoad_loads {s t : State} {src : Nat} {cid : Word32} {data : List Byte} {a : AdminCmd} {e : DirEnt} {r : AdRec}
    (hcmd : s.findCmd src cid 0x10 = some a) (ht : t = { s with accepted := markStarted src cid 0x10 s.accepted })
    (he : e = DirEnt.ofImage (BitVec.ofNat 128 (byteAt a.img 24 16))) (hr : r = AdRec.ofImage (data.take 128) e.anyHash)
    (hloc : byteAt a.img 40 1 = Loc.hbm.num) (hcf : byteAt a.img 48 8 = 0) (hten : t.tenantOk src e.tenant.toNat = true)
    (hgood : imageFault e (entReserved a.img) (data.take 128) = none) :
    exec (.adapterLoad src cid data true) s = .next (t.loadInto src cid e r .hbm (sub data 128 r.size) []) := by
  show execAdapterLoad src cid data true s = _
  rw [execAdapterLoad, runCmd_of_found hcmd rfl, ← ht]
  have hwant : Loc.ofNum Loc.hbm.num = some Loc.hbm := rfl
  simp only [← he, ← hr, hloc, hwant, hcf, hten, hgood, ne_eq, not_true_eq_false, false_and, Bool.true_eq_false, if_false,
    if_true, ok]

/-- Settles O32: the load takes a free record, writes its blob where it is placed, and leaves its entry FREE. -/
theorem adapterLoads : Obligations.AdapterLoads := by
  intro s src cid data a t e r hcmd ht he hr hloc hcf hten hgood hkey hslot hrec hfit
  have hexec := adapterLoad_loads hcmd ht he hr hloc hcf hten hgood
  rw [loadInto_new _ _ hkey hslot, loadAt_new_hbm _ _ hrec hfit] at hexec
  have hi := pickD_mem t.tickFree hrec
  have hk := pickD_mem t hslot
  generalize t.tickFree.pickD t.freeRecs = i at hexec hi
  generalize t.pickD t.freeSlots = k at hexec hk
  refine ⟨_, i, loadedRec t src cid k r, hexec, State.adrec_setAdrec _ _ _, hi, rfl, rfl, rfl, rfl,
    congrArg DirEnt.st (State.ent_setEnt _ _ _), hk, ?_, ?_, ?_, ?_, fun j hj => ?_⟩
  · rw [ht]
    rfl
  · rw [ht]
    rfl
  · rw [ht]
    rfl
  · rw [ht]
    rfl
  · refine (State.adrec_setAdrec_other _ _ hj).trans ?_
    rw [ht]
    rfl

/-! ### The other directory commands

The last clause of O33 takes ADAPTER_DELETE not to be accepted and says that ADAPTER_QUERY changes nothing; the query is
another command, with an opcode of its own. -/

/-- An accepted ADAPTER_QUERY of the PF, with CID 0. -/
def queryAlone : State := { accepted := [{ src := 0, img := BitVec.ofNat 1024 0x12 }] }

/-- No ADAPTER_DELETE with that CID is accepted. -/
theorem queryAlone_no_delete : queryAlone.findCmd 0 0 0x11 = none := by decide +kernel

/-- The query is executed, and is over. -/
theorem queryAlone_is_executed : ∃ t, exec (.adapterQuery 0 0) queryAlone = .next t ∧ t.accepted = [] :=
  ⟨_, rfl, by decide +kernel⟩

/-- Refutes O33: an accepted query is executed, whether or not a delete with its CID is accepted. -/
theorem not_adapterCommands : ¬ Obligations.AdapterCommands := by
  rintro ⟨_, _, _, _, _, h⟩
  obtain ⟨_, hquery, _⟩ := h queryAlone 0 0 queryAlone_no_delete
  obtain ⟨t, ht, hnone⟩ := queryAlone_is_executed
  have hsame : t = queryAlone := Host.Outcome.next.inj (ht.symm.trans hquery)
  rw [hsame] at hnone
  exact absurd hnone (List.cons_ne_nil _ _)

end Sys2Proof.Proofs

/-! PROOFS. Selection objects (R351 to R357). -/
namespace Sys2Proof.Proofs
open Sys2Proof Sys2Proof.Machine Sys2Proof.Laws

/-- The object that a load registers. -/
def loadedObj (t : State) (c : BitVec 1024) (src vocab : Nat) (g : Bool) : Obj :=
  { grammar := g, fn := src, pav := byteAt c 25 1, vocab := vocab, addr := t.pickD (t.objFits (Ad.dataLen c))
    size := Ad.dataLen c }

/-- The state in which the object has its handle and its bytes are in the object area. -/
def withObj (t : State) (c : BitVec 1024) (src vocab : Nat) (g : Bool) (data : List Byte) : State :=
  { (t.tickFree.setObj t.nextHandle (loadedObj t c src vocab g)).homeWrite (t.pickD (t.objFits (Ad.dataLen c)))
      (data.take (Ad.dataLen c)) with nextHandle := t.nextHandle + 1 }

/-- A load of a good object with room registers it (R351, R352). -/
theorem objLoad_registers {t : State} {src : Nat} {cid : Word32} {c : BitVec 1024} {g : Bool} {data : List Byte} {e : Model}
    (hpav : byteAt c 25 1 < 8) (hdef : t.defined (byteAt c 25 1) = true)
    (hmodel : t.model (byteAt c 25 1) (byteAt c 24 1) = some e) (hlen : Ad.dataLen c ≤ data.length)
    (hgood : (if g then grammarGood e.vocab (data.take (Ad.dataLen c)) else listGood e.vocab (data.take (Ad.dataLen c))) = true)
    (hcount : t.objs.length < 4096) (hhandle : t.nextHandle < 2 ^ 32) (hsize : Ad.dataLen c ≤ 67108864)
    (hfits : t.objFits (Ad.dataLen c) ≠ []) :
    t.objLoad src cid c g data true = (withObj t c src e.vocab g data).complete src cid 0 t.nextHandle := by
  have htake : (data.take (Ad.dataLen c)).length = Ad.dataLen c := List.length_take_of_le hlen
  have hplace : ¬ (8 ≤ byteAt c 25 1 ∨ t.defined (byteAt c 25 1) = false) := by
    rw [hdef]
    simp only [Bool.true_eq_false, or_false, Nat.not_le, hpav]
  have hroom : ¬ (4096 ≤ t.objs.length ∨ 67108864 < Ad.dataLen c ∨ (t.objFits (Ad.dataLen c)).isEmpty = true
      ∨ 2 ^ 32 ≤ t.nextHandle) := by
    simp only [List.isEmpty_iff, hfits, false_or, not_or, Nat.not_le, Nat.not_lt]
    exact ⟨hcount, hsize, hhandle⟩
  simp only [State.objLoad, if_neg hplace, hmodel, htake, beq_self_eq_true, hgood, Bool.and_self, Bool.true_eq_false, if_false,
    if_neg hroom]
  rfl

/-- The commands that load an object are the one shared operation, each for its form. -/
theorem exec_objLoad {c : Instr} {op src : Nat} {g : Bool} {cid : Word32} {data : List Byte}
    (h : (c, op, g) ∈ ([(.listLoad src cid data true, 0x20, false), (.grammarLoad src cid data true, 0x21, true)] :
      List (Instr × Nat × Bool))) {s : State} {a : AdminCmd} (hcmd : s.findCmd src cid op = some a) :
    exec c s = .next (State.objLoad { s with accepted := markStarted src cid op s.accepted } src cid a.img g data true) := by
  simp only [List.mem_cons, Prod.mk.injEq, List.not_mem_nil, or_false] at h
  rcases h with ⟨rfl, rfl, rfl⟩ | ⟨rfl, rfl, rfl⟩
  · show execListLoad src cid data true s = _
    rw [execListLoad, runCmd_of_found hcmd rfl, ok]
  · show execGrammarLoad src cid data true s = _
    rw [execGrammarLoad, runCmd_of_found hcmd rfl, ok]

section Delete
variable {t : State} {src : Nat} {cid : Word32} {a : AdminCmd} {s : State} (hcmd : s.findCmd src cid 0x22 = some a)
  (ht : t = { s with accepted := markStarted src cid 0x22 s.accepted }) (hhas : t.hasObj (byteAt a.img 24 4) = true)
  (hfn : (t.obj (byteAt a.img 24 4)).fn = src) (hlive : (t.obj (byteAt a.img 24 4)).retiring = false)
include hcmd ht hhas hfn hlive

/-- A delete by the object's own function, of an object that is not RETIRING. -/
theorem selObjDelete_deletes : exec (.selObjDelete src cid) s = .next
    (if (t.obj (byteAt a.img 24 4)).pins = 0 then (t.deleteObj (byteAt a.img 24 4) none).complete src cid Code.deleted
      else (t.deleteObj (byteAt a.img 24 4) (some (src, cid))).complete src cid Code.retiring 0 true) := by
  have hknown : ¬ (t.hasObj (byteAt a.img 24 4) = false ∨ (t.obj (byteAt a.img 24 4)).fn ≠ src
      ∨ (t.obj (byteAt a.img 24 4)).retiring = true) := by
    rw [hhas, hfn, hlive]
    simp only [Bool.true_eq_false, Bool.false_eq_true, ne_eq, not_true_eq_false, or_self, not_false_eq_true]
  show execSelObjDelete src cid s = _
  rw [execSelObjDelete, runCmd_of_found hcmd rfl, ← ht]
  simp only [if_neg hknown, ok]

theorem selObjDelete_unpinned (hpins : (t.obj (byteAt a.img 24 4)).pins = 0) : exec (.selObjDelete src cid) s = .next
    (State.complete { t with objs := t.objs.filter fun e => e.1 != byteAt a.img 24 4 } src cid Code.deleted) := by
  have hfree : t.deleteObj (byteAt a.img 24 4) none = { t with objs := t.objs.filter fun e => e.1 != byteAt a.img 24 4 } := by
    simp only [State.deleteObj, if_pos hpins, State.freeObj, hlive, Bool.false_eq_true, if_false]
  rw [selObjDelete_deletes hcmd ht hhas hfn hlive, if_pos hpins, hfree]

theorem selObjDelete_pinned (hpins : (t.obj (byteAt a.img 24 4)).pins ≠ 0) : exec (.selObjDelete src cid) s = .next
    ((t.setObj (byteAt a.img 24 4) { t.obj (byteAt a.img 24 4) with retiring := true, deleter := some (src, cid) }).complete
      src cid Code.retiring 0 true) := by
  have hmark : t.deleteObj (byteAt a.img 24 4) (some (src, cid)) =
      t.setObj (byteAt a.img 24 4) { t.obj (byteAt a.img 24 4) with retiring := true, deleter := some (src, cid) } :=
    if_neg hpins
  rw [selObjDelete_deletes hcmd ht hhas hfn hlive, if_neg hpins, hmark]

end Delete

/-- Settles O36: a load registers its object under the next handle; a delete frees it, or marks it while it is pinned. -/
theorem selectionObjects : Obligations.SelectionObjects := by
  refine ⟨fun c op g s t src cid data a e hc hcmd ht hpav hdef hmodel hlen hgood hcount hhandle hsize hfits => ?_,
    fun s t src cid a hcmd ht hhas hfn hlive => ⟨selObjDelete_unpinned hcmd ht hhas hfn hlive,
      selObjDelete_pinned hcmd ht hhas hfn hlive⟩⟩
  subst ht
  have hexec := (exec_objLoad hc hcmd).trans (congrArg _
    (objLoad_registers (cid := cid) hpav hdef hmodel hlen hgood hcount hhandle hsize hfits))
  generalize hv : withObj _ _ _ _ _ _ = v at hexec
  have hobj : v.obj s.nextHandle = loadedObj { s with accepted := markStarted src cid op s.accepted } a.img src e.vocab g := by
    rw [← hv]
    exact State.obj_setObj _ _ _
  refine ⟨_, v, hexec, rfl, by rw [← hv]; rfl, by rw [hobj]; rfl, by rw [hobj]; rfl, by rw [hobj]; rfl, ?_, fun h hh => ?_⟩
  · rw [hobj, ← hv]
    rfl
  · rw [← hv]
    exact State.obj_setObj_other _ _ hh

end Sys2Proof.Proofs

/-! PROOFS. Doorbells, queue pairs, events and vectors (R435 to R453). -/
namespace Sys2Proof.Proofs
open Sys2Proof Sys2Proof.Machine Sys2Proof.Laws

/-! ### Accepting administrative commands -/

/-- From s to t a queue pair accepted commands: its head moved, its events grew, and nothing else but the list of accepted
commands changed. -/
structure Pumped (k : Nat) (s t : State) : Prop where
  grows : s.accepted <+: t.accepted
  others : ∀ j, j ≠ k → t.qp j = s.qp j
  tail : (t.qp k).sqTail = (s.qp k).sqTail
  state : (t.qp k).st = (s.qp k).st
  frame : t = { s with qps := t.qps, accepted := t.accepted }

theorem Pumped.refl (k : Nat) (s : State) : Pumped k s s := ⟨List.prefix_rfl, fun _ _ => rfl, rfl, rfl, rfl⟩

theorem Pumped.trans {k : Nat} {s t u : State} (h : Pumped k s t) (g : Pumped k t u) : Pumped k s u :=
  ⟨h.grows.trans g.grows, fun j hj => (g.others j hj).trans (h.others j hj), g.tail.trans h.tail, g.state.trans h.state, by
    rw [g.frame, h.frame]⟩

theorem Pumped.setQp {k : Nat} {s : State} {x : Qp} (htail : x.sqTail = (s.qp k).sqTail) (hst : x.st = (s.qp k).st) :
    Pumped k s (s.setQp k x) :=
  ⟨List.prefix_rfl, fun _ hj => State.qp_setQp_other _ _ hj, by rw [State.qp_setQp, htail], by rw [State.qp_setQp, hst], rfl⟩

theorem putEvent_pumped (s : State) (k : Nat) (e : Ev) : Pumped k s (s.putEvent k e) := by
  unfold State.putEvent
  split
  · exact Pumped.setQp rfl rfl
  · exact Pumped.refl k s

theorem acceptHead_pumped (s : State) {src : Nat} (h : src < 64) : Pumped (src * 16) s (s.acceptHead src) := by
  have hhead : Pumped (src * 16) s (s.setQp (src * 16) { s.qp (src * 16) with
      sqHead := if s.rd R.sqSize (src * 16) ≤ (s.qp (src * 16)).sqHead + 1 then 0 else (s.qp (src * 16)).sqHead + 1 }) :=
    Pumped.setQp rfl rfl
  unfold State.acceptHead
  dsimp only
  split
  · rw [State.deliver, if_neg (by omega)]
    exact hhead.trans (putEvent_pumped _ _ _)
  · exact hhead.trans ⟨List.prefix_append _ _, fun _ _ => rfl, rfl, rfl, rfl⟩

theorem pumpAdmin_pumped (s : State) {src : Nat} (h : src < 64) (n : Nat) : Pumped (src * 16) s (s.pumpAdmin src n) := by
  induction n generalizing s with
  | zero => exact Pumped.refl _ s
  | succ n ih =>
    rw [State.pumpAdmin]
    split
    · exact (acceptHead_pumped s h).trans (ih _)
    · exact Pumped.refl _ s

/-! ### Leaving ENABLED -/

/-- Nothing changed but requests. -/
def ChangesReqs (s t : State) : Prop := t = { s with reqs := t.reqs }

theorem ChangesReqs.trans {s t u : State} (h : ChangesReqs s t) (g : ChangesReqs t u) : ChangesReqs s u := by
  unfold ChangesReqs at *
  rw [g, h]

theorem setReq_changesReqs (s : State) (i : Nat) (r : Req) : ChangesReqs s (s.setReq i r) := rfl

theorem ChangesReqs.foldl {α : Type} (f : State → α → State) (hf : ∀ s x, ChangesReqs s (f s x)) (l : List α) (s : State) :
    ChangesReqs s (l.foldl f s) := by
  induction l generalizing s with
  | nil => rfl
  | cons x l ih => exact (hf s x).trans (ih _)

theorem markEnd_changesReqs (s : State) (i status : Nat) : ChangesReqs s (s.markEnd i status) := by
  unfold State.markEnd
  split <;> rfl

theorem cutReq_changesReqs (s : State) (i status : Nat) : ChangesReqs s (s.cutReq i status false) :=
  (markEnd_changesReqs s i status).trans (setReq_changesReqs _ _ _)

/-- A queue pair in ERROR, no failed write being the cause: its events are gone, its rings stay. -/
theorem qpError_effect (s : State) (k : Nat) : (s.qpError k false).qp k =
      { s.qp k with st := .error, draining := false, evbuf := [] }
    ∧ (∀ j, j ≠ k → (s.qpError k false).qp j = s.qp j) ∧ (s.qpError k false).mem = s.mem := by
  have hnotes := notify_notes (s.setQp k { s.qp k with st := .error, draining := false, evbuf := [] }) (k / 16) 0
  generalize hu : (s.setQp k { s.qp k with st := .error, draining := false, evbuf := [] }).notify (k / 16) 0 = u at hnotes
  have hreqs : ChangesReqs u (s.qpError k false) := by
    rw [State.qpError, hu]
    exact ChangesReqs.foldl _ (fun v i => cutReq_changesReqs v i _) _ u
  have hqps : (s.qpError k false).qps = (s.setQp k { s.qp k with st := .error, draining := false, evbuf := [] }).qps := by
    rw [hreqs, hnotes]
  have hqp : ∀ j, (s.qpError k false).qp j =
      (s.setQp k { s.qp k with st := .error, draining := false, evbuf := [] }).qp j := fun j => by
    rw [State.qp, hqps]
    rfl
  refine ⟨(hqp k).trans (State.qp_setQp _ _ _), fun j hj => (hqp j).trans (State.qp_setQp_other _ _ hj), ?_⟩
  rw [hreqs, hnotes]
  rfl

/-! ### Doorbells -/

section Doorbells
variable {s : State} {fn q : Nat} {v : Word32} (hup : s.hostUp = true)
include hup

/-- The state in which a doorbell has posted the descriptors up to its tail. -/
def posted (s : State) (k : Nat) (v : Word32) : State :=
  s.setQp k { s.qp k with
    sqTail := v.toNat, posted := postSlots (s.rd R.sqSize k) s.time (s.qp k).sqTail v.toNat (s.qp k).posted }

theorem sqTailDoorbell_posts (hlive : (s.qp (fn * 16 + q)).live = true) (hnew : v.toNat ≠ (s.qp (fn * 16 + q)).sqTail)
    (hin : v.toNat < s.rd R.sqSize (fn * 16 + q)) : exec (.sqTailDoorbell fn q v) s =
      .next (if q = 0 then (posted s (fn * 16 + q) v).pumpAdmin fn 256 else posted s (fn * 16 + q) v) := by
  show execSqTailDoorbell fn q v s = _
  simp only [execSqTailDoorbell, hup, hlive, hnew, Bool.true_eq_false, or_self, if_false, if_neg (Nat.not_le.2 hin), ok]
  rfl

theorem sqTailDoorbell_faults (hlive : (s.qp (fn * 16 + q)).live = true) (hnew : v.toNat ≠ (s.qp (fn * 16 + q)).sqTail)
    (hout : s.rd R.sqSize (fn * 16 + q) ≤ v.toNat) :
    exec (.sqTailDoorbell fn q v) s = .next (s.qpError (fn * 16 + q) false) := by
  show execSqTailDoorbell fn q v s = _
  simp only [execSqTailDoorbell, hup, hlive, hnew, Bool.true_eq_false, or_self, if_false, if_pos hout, ok]

theorem cqHeadDoorbell_returns {n : Nat} (hn : n = s.rd R.cqSize (fn * 16 + q)) (hst : (s.qp (fn * 16 + q)).st = .enabled)
    (hin : v.toNat < n) (hle : (v.toNat + n - (s.qp (fn * 16 + q)).cqHead) % n
      ≤ ((s.qp (fn * 16 + q)).cqTail + n - (s.qp (fn * 16 + q)).cqHead) % n) :
    exec (.cqHeadDoorbell fn q v) s = .next (s.setQp (fn * 16 + q) { s.qp (fn * 16 + q) with
      cqHead := v.toNat
      written := if v.toNat = (s.qp (fn * 16 + q)).cqTail then []
        else (s.qp (fn * 16 + q)).written.drop ((v.toNat + n - (s.qp (fn * 16 + q)).cqHead) % n)
      fired := (s.qp (fn * 16 + q)).fired && v.toNat != (s.qp (fn * 16 + q)).cqTail }) := by
  have hmax : max n 1 = n := Nat.max_eq_left (by omega)
  have hfits : ¬ (n ≤ v.toNat ∨ ((s.qp (fn * 16 + q)).cqTail + n - (s.qp (fn * 16 + q)).cqHead) % n
      < (v.toNat + n - (s.qp (fn * 16 + q)).cqHead) % n) := by omega
  show execCqHeadDoorbell fn q v s = _
  simp only [execCqHeadDoorbell, hup, hst, Bool.true_eq_false, ne_eq, not_true_eq_false, or_self, if_false, ← hn, hmax,
    if_neg hfits, ok]

theorem cqHeadDoorbell_faults {n : Nat} (hn : n = s.rd R.cqSize (fn * 16 + q)) (hst : (s.qp (fn * 16 + q)).st = .enabled)
    (hout : n ≤ v.toNat ∨ 0 < n ∧ ((s.qp (fn * 16 + q)).cqTail + n - (s.qp (fn * 16 + q)).cqHead) % n
      < (v.toNat + n - (s.qp (fn * 16 + q)).cqHead) % n) :
    exec (.cqHeadDoorbell fn q v) s = .next (s.qpError (fn * 16 + q) false) := by
  have hbad : n ≤ v.toNat ∨ ((s.qp (fn * 16 + q)).cqTail + n - (s.qp (fn * 16 + q)).cqHead) % max n 1
      < (v.toNat + n - (s.qp (fn * 16 + q)).cqHead) % max n 1 := by
    refine hout.imp_right fun ⟨hpos, hlt⟩ => ?_
    rwa [Nat.max_eq_left (by omega : 1 ≤ n)]
  show execCqHeadDoorbell fn q v s = _
  simp only [execCqHeadDoorbell, hup, hst, Bool.true_eq_false, ne_eq, not_true_eq_false, or_self, if_false, ← hn, if_pos hbad,
    ok]

end Doorbells

theorem live_enabled {x : Qp} (h : x.live = true) : x.st = .enabled :=
  eq_of_beq (Bool.and_eq_true_iff.1 h).1

/-- Settles O37: a doorbell in range posts or returns its slots, and puts the queue pair in ERROR otherwise. -/
theorem doorbells : Obligations.Doorbells := by
  refine ⟨fun s fn q v hq hup hlive hnew hin => ?_, fun s fn v hfn hup hlive hnew hin => ?_,
    fun s fn q v hup hlive hnew hout => ?_, fun s fn q n h d x v hx hn hh hd hup hst hin hle => ?_,
    fun s fn q n h x v hx hn hh hup hst hout => ?_⟩
  · have hexec := sqTailDoorbell_posts hup hlive hnew hin
    rw [if_neg hq] at hexec
    have hqp : (posted s (fn * 16 + q) v).qp (fn * 16 + q) = _ := State.qp_setQp _ _ _
    exact ⟨_, hexec, by rw [hqp], by rw [hqp], by rw [hqp]; exact live_enabled hlive,
      fun j hj => State.qp_setQp_other _ _ hj, rfl⟩
  · have hexec := sqTailDoorbell_posts (q := 0) hup hlive hnew hin
    rw [if_pos rfl, Nat.add_zero] at hexec
    have hqp : (posted s (fn * 16) v).qp (fn * 16) = _ := State.qp_setQp _ _ _
    have hpump := pumpAdmin_pumped (posted s (fn * 16) v) hfn 256
    refine ⟨_, hexec, by rw [hpump.tail, hqp], by rw [hpump.state, hqp]; exact live_enabled hlive, hpump.grows,
      fun j hj => (hpump.others j hj).trans (State.qp_setQp_other _ _ hj), ?_⟩
    rw [hpump.frame]
    rfl
  · obtain ⟨hself, hother, hmem⟩ := qpError_effect s (fn * 16 + q)
    exact ⟨_, sqTailDoorbell_faults hup hlive hnew hout, by rw [hself], by rw [hself], hother, hmem⟩
  · subst hx hh hd
    have hqp := State.qp_setQp s (fn * 16 + q) { s.qp (fn * 16 + q) with
      cqHead := v.toNat
      written := if v.toNat = (s.qp (fn * 16 + q)).cqTail then []
        else (s.qp (fn * 16 + q)).written.drop ((v.toNat + n - (s.qp (fn * 16 + q)).cqHead) % n)
      fired := (s.qp (fn * 16 + q)).fired && v.toNat != (s.qp (fn * 16 + q)).cqTail }
    exact ⟨_, cqHeadDoorbell_returns hup hn hst hin hle, by rw [hqp], by rw [hqp], by rw [hqp], by rw [hqp]; exact hst,
      by rw [hqp], fun j hj => State.qp_setQp_other _ _ hj, rfl⟩
  · subst hx hh
    obtain ⟨hself, hother, hmem⟩ := qpError_effect s (fn * 16 + q)
    exact ⟨_, cqHeadDoorbell_faults hup hn hst hout, by rw [hself], by rw [hself], hother, hmem⟩

/-! ### Enabling and disabling -/

section Enable
variable {s : State} {r k : Nat} (h : s.target r 16 0x100 .any = some k)
include h

theorem qpEnable_enables (hst : (s.qp k).st = .disabled) : exec (.qpEnable r) s =
    .next ((s.dropLatch r (16 * 65536)).setQp k ((s.qp k).enabledNow ((s.dropLatch r (16 * 65536)).qpFieldsOk k))) := by
  have hst' : ((s.dropLatch r (16 * 65536)).qp k).st = .disabled := hst
  show execQpEnable r s = _
  rw [execQpEnable, own_target h]
  simp only [if_pos hst', ok]
  rfl

/-- The queue pair with what was posted discarded. -/
def discarded (x : Qp) : Qp := { x with sqHead := x.sqTail, posted := [] }

theorem qpDisable_drains (hst : (s.qp k).st = .enabled) (hdrain : (s.qp k).draining = false) (hnone : s.reqsOfQueue k = []) :
    exec (.qpDisable r) s = .next (((s.dropLatch r (16 * 65536)).discardSq k).setQp k
      { discarded (s.qp k) with draining := true }) := by
  have hst' : ((s.dropLatch r (16 * 65536)).qp k).st = .enabled := hst
  have hdrain' : ((s.dropLatch r (16 * 65536)).qp k).draining = false := hdrain
  have hself : ((s.dropLatch r (16 * 65536)).discardSq k).qp k = discarded (s.qp k) := State.qp_setQp _ _ _
  have hnone' : (((s.dropLatch r (16 * 65536)).discardSq k).setQp k
      { discarded (s.qp k) with draining := true }).reqsOfQueue k = [] := hnone
  show execQpDisable r s = _
  rw [execQpDisable, own_target h]
  simp only [hst', hdrain', Bool.false_eq_true, if_false, hself, hnone', List.foldl_nil, ok]

theorem qpDisable_of_error (hst : (s.qp k).st = .error) : exec (.qpDisable r) s =
    .next (((s.dropLatch r (16 * 65536)).discardSq k).setQp k { discarded (s.qp k) with st := .disabled }) := by
  have hst' : ((s.dropLatch r (16 * 65536)).qp k).st = .error := hst
  have hself : ((s.dropLatch r (16 * 65536)).discardSq k).qp k = discarded (s.qp k) := State.qp_setQp _ _ _
  show execQpDisable r s = _
  rw [execQpDisable, own_target h]
  simp only [hst', hself, ok]

omit h in
theorem discardSq_others {t : State} {j : Nat} (hj : j ≠ k) (x : Qp) : ((t.discardSq k).setQp k x).qp j = t.qp j :=
  (State.qp_setQp_other _ _ hj).trans (State.qp_setQp_other _ _ hj)

end Enable

/-! ### Events and vectors -/

/-- A vector that fires, outside SHUTTERED: sent, or pending while it is masked. -/
theorem fire_effect (s : State) (fn vec : Nat) (hst : s.dev.st ≠ .shuttered) : s.fire fn vec = { s with
    out := s.out ++ (if s.masked fn vec then [] else [.msix fn vec])
    msixPend := if s.masked fn vec then Tab.put false s.msixPend (fn * 32 + vec) true else s.msixPend } := by
  unfold State.fire
  rw [if_neg hst]
  split
  · rw [List.append_nil]
  · rfl

theorem fire_sent {s : State} {fn vec : Nat} (hst : s.dev.st ≠ .shuttered) (hmask : s.masked fn vec = false) :
    s.fire fn vec = s.emit (.msix fn vec) :=
  (if_neg hst).trans (if_neg (by rw [hmask]; exact Bool.false_ne_true))

/-- A CQ's vector fires. -/
theorem fireCq_effect (s : State) (k : Nat) (hst : s.dev.st ≠ .shuttered) : s.fireCq k = { s with
    qps := (s.setQp k { s.qp k with fired := true }).qps
    out := s.out ++ (if s.masked (k / 16) (s.rd R.qpVector k) then [] else [.msix (k / 16) (s.rd R.qpVector k)])
    msixPend := if s.masked (k / 16) (s.rd R.qpVector k) then
      Tab.put false s.msixPend (k / 16 * 32 + s.rd R.qpVector k) true else s.msixPend } :=
  (fire_effect (s.setQp k { s.qp k with fired := true }) (k / 16) (s.rd R.qpVector k) hst).trans rfl

theorem serving_not_shuttered {s : State} (h : s.serving = true) : s.dev.st ≠ .shuttered := fun hst => by
  rw [State.serving, hst] at h
  exact Bool.false_ne_true h

/-- A queue pair whose oldest event has been written to its slot. -/
def wroteEvent (s : State) (k nx : Nat) (rest : List Ev) : Qp :=
  { s.qp k with
    evbuf := rest, cqTail := nx, phase := if nx = 0 then !(s.qp k).phase else (s.qp k).phase
    written := (s.qp k).written ++ [s.time] }

section EventWrite
variable {s : State} {fn q n nx : Nat} {e : Ev} {rest : List Ev} (hn : n = s.rd R.cqSize (fn * 16 + q))
  (hnx : nx = (if n ≤ (s.qp (fn * 16 + q)).cqTail + 1 then 0 else (s.qp (fn * 16 + q)).cqTail + 1))
  (hbuf : (s.qp (fn * 16 + q)).evbuf = e :: rest) (hst : (s.qp (fn * 16 + q)).st = .enabled) (hserv : s.serving = true)
  (hbars : s.barsUp = true) (hroom : nx ≠ (s.qp (fn * 16 + q)).cqHead)

/-- The state in which the event is written. -/
def eventWritten (s : State) (fn k nx : Nat) (e : Ev) (rest : List Ev) : State :=
  (s.emit (.hostWrite fn (s.rd R.cqBase k + 16 * (s.qp k).cqTail) (e.bytes (s.qp k).phase))).setQp k (wroteEvent s k nx rest)

include hn hnx hbuf hst hserv hbars hroom in
theorem eventWrite_writes : exec (.eventWrite fn q true) s = .next
    (if s.rd R.coalCount (fn * 16 + q) ≤ (s.qp (fn * 16 + q)).written.length + 1 ∧ (s.qp (fn * 16 + q)).fired = false then
      (eventWritten s fn (fn * 16 + q) nx e rest).fireCq (fn * 16 + q)
    else eventWritten s fn (fn * 16 + q) nx e rest) := by
  have hgo : ¬ ((s.qp (fn * 16 + q)).st ≠ .enabled ∨ s.serving = false ∨ s.barsUp = false
      ∨ nx = (s.qp (fn * 16 + q)).cqHead) := by
    simp only [hst, hserv, hbars, hroom, ne_eq, not_true_eq_false, Bool.true_eq_false, or_self, not_false_eq_true]
  have hemit : s.hostOut fn (s.rd R.cqBase (fn * 16 + q) + 16 * (s.qp (fn * 16 + q)).cqTail)
      (e.bytes (s.qp (fn * 16 + q)).phase) = _ := if_neg (serving_not_shuttered hserv)
  show execEventWrite fn q true s = _
  simp only [execEventWrite, hbuf, ← hn, ← hnx, if_neg hgo, Bool.true_eq_false, if_false, hemit, ok]
  rfl

end EventWrite

/-- What an event that is written leaves. -/
theorem eventWrite_effect {s : State} {fn q k nx : Nat} {e : Ev} {rest : List Ev} (hq : q < 16) (hk : k = fn * 16 + q)
    (hserv : s.serving = true) {t : State}
    (ht : t = (if s.rd R.coalCount k ≤ (s.qp k).written.length + 1 ∧ (s.qp k).fired = false then
      (eventWritten s fn k nx e rest).fireCq k else eventWritten s fn k nx e rest)) :
    t.out = s.out ++ [.hostWrite fn (s.rd R.cqBase k + 16 * (s.qp k).cqTail) (e.bytes (s.qp k).phase)]
        ++ (if s.rd R.coalCount k ≤ (s.qp k).written.length + 1 ∧ (s.qp k).fired = false
          ∧ s.masked fn (s.rd R.qpVector k) = false then [.msix fn (s.rd R.qpVector k)] else [])
      ∧ (∃ b, t.qp k = { wroteEvent s k nx rest with fired := b }) ∧ (∀ j, j ≠ k → t.qp j = s.qp j) ∧ t.regs = s.regs
      ∧ t.mem = s.mem := by
  have hfn : k / 16 = fn := by omega
  have hself : (eventWritten s fn k nx e rest).qp k = wroteEvent s k nx rest := State.qp_setQp _ _ _
  have hother : ∀ j, j ≠ k → (eventWritten s fn k nx e rest).qp j = s.qp j := fun j hj => State.qp_setQp_other _ _ hj
  by_cases hfire : s.rd R.coalCount k ≤ (s.qp k).written.length + 1 ∧ (s.qp k).fired = false
  · have hst : (eventWritten s fn k nx e rest).dev.st ≠ .shuttered := serving_not_shuttered hserv
    rw [if_pos hfire, fireCq_effect _ k hst, hfn, hself] at ht
    subst ht
    refine ⟨?_, ⟨true, State.qp_setQp _ _ _⟩, fun j hj => (State.qp_setQp_other _ _ hj).trans (hother j hj), rfl, rfl⟩
    have hmask : (eventWritten s fn k nx e rest).masked fn ((eventWritten s fn k nx e rest).rd R.qpVector k) =
        s.masked fn (s.rd R.qpVector k) := rfl
    simp only [hmask, hfire, true_and]
    cases s.masked fn (s.rd R.qpVector k) <;> rfl
  · rw [if_neg hfire] at ht
    subst ht
    have hno : ¬ (s.rd R.coalCount k ≤ (s.qp k).written.length + 1 ∧ (s.qp k).fired = false
        ∧ s.masked fn (s.rd R.qpVector k) = false) := fun h => hfire ⟨h.1, h.2.1⟩
    rw [if_neg hno, List.append_nil]
    exact ⟨rfl, ⟨_, hself⟩, hother, rfl, rfl⟩

/-- The mask bit of a word with it cleared is 0. -/
theorem masked_unmasked (s : State) (fn vec : Nat) : (s.setMsixWord (fn * 128 + vec * 4 + 3)
    (s.msixWord (fn * 128 + vec * 4 + 3) &&& ~~~1)).masked fn vec = false := by
  have hword : (s.setMsixWord (fn * 128 + vec * 4 + 3) (s.msixWord (fn * 128 + vec * 4 + 3) &&& ~~~1)).msixWord
      (fn * 128 + vec * 4 + 3) = s.msixWord (fn * 128 + vec * 4 + 3) &&& ~~~1 := Tab.get_put _ _
  rw [State.masked, hword, BitVec.getLsbD_and]
  exact Bool.and_false _

theorem msixUnmask_sends {s : State} {fn vec : Nat} (hup : s.hostUp = true) (hmask : s.masked fn vec = true)
    (hpend : Tab.get false s.msixPend (fn * 32 + vec) = true) (hst : s.dev.st ≠ .shuttered) :
    exec (.msixUnmask fn vec) s = .next (State.emit { s.setMsixWord (fn * 128 + vec * 4 + 3)
      (s.msixWord (fn * 128 + vec * 4 + 3) &&& ~~~1) with
        msixPend := Tab.put false s.msixPend (fn * 32 + vec) false } (.msix fn vec)) := by
  have hsent := fire_sent (s := { s.setMsixWord (fn * 128 + vec * 4 + 3) (s.msixWord (fn * 128 + vec * 4 + 3) &&& ~~~1) with
    msixPend := Tab.put false s.msixPend (fn * 32 + vec) false }) hst (masked_unmasked s fn vec)
  show execMsixUnmask fn vec s = _
  rw [execMsixUnmask, onlyIf, if_pos hup, State.unmask]
  exact congrArg _ ((if_pos ⟨hpend, hmask⟩).trans hsent)

/-- Settles O38: enabling and disabling a queue pair, the writing of an event, and the firing of vectors. -/
theorem queuePairs : Obligations.QueuePairs := by
  refine ⟨fun s r k h hst => ?_, fun s r k h hst hdrain hnone => ?_, fun s r k h hst => ?_, fun s fn q hdrain hbuf => ?_,
    fun s fn q k n nx e rest hq hk hn hnx hbuf hst hserv hbars hroom => ?_,
    fun s fn q k x hq hk hx hst hfired htime hshut => ?_, fun s fn vec hup hmask hpend hst => ?_⟩
  · have hqp : ((s.dropLatch r (16 * 65536)).setQp k
        ((s.qp k).enabledNow ((s.dropLatch r (16 * 65536)).qpFieldsOk k))).qp k = _ := State.qp_setQp _ _ _
    refine ⟨_, qpEnable_enables h hst, ?_⟩
    rw [hqp]
    exact ⟨rfl, rfl, rfl, rfl, rfl, rfl, rfl, fun j hj => State.qp_setQp_other _ _ hj, rfl, rfl⟩
  · have hqp : (((s.dropLatch r (16 * 65536)).discardSq k).setQp k { discarded (s.qp k) with draining := true }).qp k = _ :=
      State.qp_setQp _ _ _
    refine ⟨_, qpDisable_drains h hst hdrain hnone, ?_⟩
    rw [hqp]
    exact ⟨rfl, hst, rfl, rfl, fun j hj => discardSq_others hj _, rfl⟩
  · have hqp : (((s.dropLatch r (16 * 65536)).discardSq k).setQp k { discarded (s.qp k) with st := .disabled }).qp k = _ :=
      State.qp_setQp _ _ _
    refine ⟨_, qpDisable_of_error h hst, ?_⟩
    rw [hqp]
    refine ⟨rfl, rfl, fun x hx => ?_, fun j hj => discardSq_others hj _, rfl⟩
    exact bne_iff_ne.1 (List.mem_filter.1 hx).2
  · show execQpDisableComplete fn q s = _
    simp only [execQpDisableComplete, hdrain, hbuf, List.isEmpty_nil, Bool.and_self, onlyIf, if_true]
  · subst hk
    obtain ⟨hout, ⟨b, hself⟩, hother, hregs, hmem⟩ := eventWrite_effect (s := s) (nx := nx) (e := e) (rest := rest) hq rfl hserv
      rfl
    exact ⟨_, eventWrite_writes hn hnx hbuf hst hserv hbars hroom, hout, by rw [hself]; rfl, by rw [hself]; rfl,
      by rw [hself]; rfl, by rw [hself]; rfl, hother, hregs, hmem⟩
  · have hfn : k / 16 = fn := by omega
    have hexec : exec (.coalTimeExpiry fn q) s = .next (s.fireCq k) := by
      have hpassed : s.passed x (s.rd R.coalTime k) = true := decide_eq_true htime
      show execCoalTimeExpiry fn q s = _
      simp only [execCoalTimeExpiry, ← hk, hx, hst, hfired, hpassed, beq_self_eq_true, Bool.not_false, Bool.and_self, onlyIf,
        if_true]
    rw [fireCq_effect s k hshut, hfn] at hexec
    refine ⟨_, hexec, congrArg Qp.fired (State.qp_setQp _ _ _), fun j hj => State.qp_setQp_other _ _ hj, rfl, fun hm => ?_,
      rfl, rfl⟩
    have hset : Tab.get false (Tab.put false s.msixPend (fn * 32 + s.rd R.qpVector k) true) (fn * 32 + s.rd R.qpVector k) = true :=
      Tab.get_put _ _
    rw [hm]
    exact hset
  · have hcleared : Tab.get false (Tab.put false s.msixPend (fn * 32 + vec) false) (fn * 32 + vec) = false := Tab.get_put _ _
    exact ⟨_, msixUnmask_sends hup hmask hpend hst, rfl, masked_unmasked s fn vec, hcleared, rfl, rfl⟩

end Sys2Proof.Proofs

/-! PROOFS. Admission decisions (R252 to R257, R443, R445, R447, R462). -/
namespace Sys2Proof.Proofs
open Sys2Proof Sys2Proof.Machine Sys2Proof.Laws

/-! ### A decision -/

/-- A decision with nothing due before it. -/
theorem admissionDecision_decides {s : State} {fn q k : Nat} (hk : k = fn * 16 + q) (hdec : s.deciding k = true)
    (hbefore : s.before (turnAt s.time 5 0) = []) :
    exec (.admissionDecision fn q) s = .next (s.visited (s.decideAt k) k (s.rd R.qpPavilion k)) := by
  have hsettle : s.settle (turnAt s.time 5 0) = s := by rw [State.settle, hbefore, List.foldl_nil]
  subst hk
  show execAdmissionDecision fn q s = _
  simp only [execAdmissionDecision, hdec, if_true, hsettle, onlyIf]

theorem deciding_live {s : State} {k : Nat} (h : s.deciding k = true) : (s.qp k).live = true ∧ s.serving = true := by
  simp only [State.deciding, State.waiting, Bool.and_eq_true] at h
  obtain ⟨⟨⟨⟨⟨_, hlive⟩, _⟩, hserv⟩, _⟩, _⟩ := h
  exact ⟨hlive, hserv⟩

/-- The head of a ring after a descriptor. -/
def nextHead (n h : Nat) : Nat := if n ≤ h + 1 then 0 else h + 1

theorem nextHead_ne {n : Nat} (hn : 1 < n) (h : Nat) : nextHead n h ≠ h := by
  unfold nextHead
  split <;> omega

theorem visited_decided {s t : State} {k p : Nat} (h : (t.qp k).sqHead ≠ (s.qp k).sqHead) :
    s.visited t k p = t.setPav p ((t.pav p).decided (k / 16)) := if_neg h

theorem visited_waits {s : State} {k p : Nat} : s.visited s k p = s.setQp k { s.qp k with waits := true } := if_pos rfl

/-- A visit changes a queue pair or a pavilion, and nothing else. -/
theorem visited_frame (s t : State) (k p : Nat) :
    s.visited t k p = { t with qps := (s.visited t k p).qps, pavs := (s.visited t k p).pavs } := by
  unfold State.visited
  split <;> rfl

theorem Pav.decided_turn (x : Pav) (fn : Nat) : (x.decided fn).turnFn = fn
    ∧ (x.decided fn).turnN = if x.turnFn = fn ∧ x.turnN < 8 then x.turnN + 1 else 1 := by
  unfold Pav.decided
  split
  · next h => exact ⟨h.1, rfl⟩
  · exact ⟨rfl, rfl⟩

/-- A decision on a descriptor that is not cancelled. -/
theorem decideAt_live {s : State} {k : Nat} {d : BitVec 1024} (hd : d = Tab.get 0 (s.qp k).ring (s.qp k).sqHead)
    (hc : s.cancels.contains (k * 256 + (s.qp k).sqHead) = false) : s.decideAt k = s.decideLive k d := by
  simp only [State.decideAt, hc, Bool.false_eq_true, if_false, ← hd]

/-- In a pavilion that does not load, with the Gatehouse up, the checks of R445 decide. -/
theorem decideLive_checks {s : State} {k : Nat} (d : BitVec 1024) (hload : (s.pav (s.rd R.qpPavilion k)).st ≠ .loading)
    (hgate : s.upd.gateDown = false) : s.decideLive k d = s.decideD k d := by
  simp only [State.decideLive, if_neg hload, hgate, Bool.false_eq_true, false_and, if_false]

/-! ### A rejection -/

/-- A queue pair after the rejection of the descriptor at its head. -/
def rejectedQp (s : State) (k : Nat) (d : BitVec 1024) (status : Nat) : Qp :=
  { s.qp k with
    evbuf := (s.qp k).evbuf ++ [{ w := finalEvent (Rd.reqId d) status 0 0 }]
    sqHead := nextHead (s.rd R.sqSize k) (s.qp k).sqHead
    posted := Tab.put 0 (s.qp k).posted (s.qp k).sqHead 0 }

/-- What a rejection writes to the host (R447). -/
def rejection (s : State) (k : Nat) (d : BitVec 1024) (status : Nat) : Out :=
  .hostWrite (k / 16) (Rd.outAddr d) (finalRecord (Rd.reqId d) status {} 0 (BitVec.ofNat 64 (Rd.seed d)) s.time)

/-- From s to t the descriptor at the head of a queue pair was rejected. -/
structure Rejected (s t : State) (k : Nat) (d : BitVec 1024) (status : Nat) : Prop where
  frame : t = { s with
    out := s.out ++ [rejection s k d status], qps := t.qps, cancels := s.cancels.filter (· != k * 256 + (s.qp k).sqHead) }
  self : t.qp k = rejectedQp s k d status
  others : ∀ j, j ≠ k → t.qp j = s.qp j

theorem reject_rejects {s : State} {k : Nat} (d : BitVec 1024) (status : Nat) (hlive : (s.qp k).live = true)
    (hst : s.dev.st ≠ .shuttered) : Rejected s (s.reject k d status) k d status := by
  have hreport : s.report k d status {} 0 (BitVec.ofNat 64 (Rd.seed d)) = (s.emit (rejection s k d status)).setQp k { s.qp k with
      evbuf := (s.qp k).evbuf ++ [{ w := finalEvent (Rd.reqId d) status 0 0 }] } := by
    have hlive' : ((s.emit (rejection s k d status)).qp k).live = true := hlive
    have hout : s.hostOut (k / 16) (Rd.outAddr d) (finalRecord (Rd.reqId d) status {} 0 (BitVec.ofNat 64 (Rd.seed d)) s.time) =
      s.emit (rejection s k d status) := if_neg hst
    rw [State.report, if_pos hlive, hout, State.putEvent, if_pos hlive']
    rfl
  rw [State.reject, hreport]
  have hqp : ((s.emit (rejection s k d status)).setQp k { s.qp k with
      evbuf := (s.qp k).evbuf ++ [{ w := finalEvent (Rd.reqId d) status 0 0 }] }).qp k = _ := State.qp_setQp _ _ _
  refine ⟨?_, ?_, fun j hj => ?_⟩
  · rw [State.advanceSq, hqp]
    rfl
  · rw [State.advanceSq, hqp]
    exact State.qp_setQp _ _ _
  · exact (State.qp_setQp_other _ _ hj).trans (State.qp_setQp_other _ _ hj)

/-- The size of a submission ring is none of the counters of the directory and of the routing table. -/
theorem sqSize_inc {f : Field} (hf : f ∈ [R.dirTies, R.routeTies]) (s : State) (k : Nat) :
    (s.inc f).rd R.sqSize k = s.rd R.sqSize k := by
  refine State.rd_wr_other _ ?_
  simp only [List.mem_cons, List.not_mem_nil, or_false] at hf
  rcases hf with rfl | rfl <;> simp only [Field.key, R.sqSize, R.dirTies, R.routeTies] <;> omega

theorem countRoute_frame (s : State) (k : Nat) (d : BitVec 1024) :
    s.countRoute k d = { s with regs := (s.countRoute k d).regs } := by
  unfold State.countRoute
  split
  · rfl
  · split <;> rfl

theorem countRoute_sqSize (s : State) (k j : Nat) (d : BitVec 1024) :
    (s.countRoute k d).rd R.sqSize j = s.rd R.sqSize j := by
  unfold State.countRoute
  split
  · rfl
  · split
    · exact sqSize_inc (by simp) s j
    · rfl

/-- The rejection of a descriptor whose routing is counted first. -/
theorem countRoute_reject {s : State} {k : Nat} (d : BitVec 1024) (status : Nat) (hlive : (s.qp k).live = true)
    (hst : s.dev.st ≠ .shuttered) :
    ∃ t, (s.countRoute k d).reject k d status = t ∧ t.out = s.out ++ [rejection s k d status]
      ∧ t.qp k = rejectedQp s k d status ∧ (∀ j, j ≠ k → t.qp j = s.qp j) ∧ t.reqs = s.reqs ∧ t.mem = s.mem := by
  have hframe := countRoute_frame s k d
  have hqp : ∀ j, (s.countRoute k d).qp j = s.qp j := fun j => by
    rw [hframe]
    rfl
  have hrej := reject_rejects (s := s.countRoute k d) (k := k) d status (by rw [hqp]; exact hlive)
    (by rw [hframe]; exact hst)
  have hsay : rejection (s.countRoute k d) k d status = rejection s k d status := by
    rw [hframe]
    rfl
  have hself : rejectedQp (s.countRoute k d) k d status = rejectedQp s k d status := by
    rw [rejectedQp, rejectedQp, hqp, countRoute_sqSize]
  refine ⟨_, rfl, ?_, hrej.self.trans hself, fun j hj => (hrej.others j hj).trans (hqp j), ?_, ?_⟩
  · rw [hrej.frame, hsay, hframe]
  · rw [hrej.frame, hframe]
  · rw [hrej.frame, hframe]

/-! ### An admission -/

/-- Nothing changed but records, memory and the count of free choices. -/
def OnlyTaken (s t : State) : Prop := t = { s with recs := t.recs, mem := t.mem, poison := t.poison, freeCtr := t.freeCtr }

theorem OnlyTaken.trans {s t u : State} (h : OnlyTaken s t) (g : OnlyTaken t u) : OnlyTaken s u := by
  unfold OnlyTaken at *
  rw [g, h]

theorem OnlyTaken.foldl {α : Type} (f : State → α → State) (hf : ∀ s x, OnlyTaken s (f s x)) (l : List α) (s : State) :
    OnlyTaken s (l.foldl f s) := by
  induction l generalizing s with
  | nil => rfl
  | cons x l ih => exact (hf s x).trans (ih _)

theorem makeRoom_onlyTaken (s : State) (size : Nat) (l : List Nat) : OnlyTaken s (s.makeRoom size l) := by
  induction l generalizing s with
  | nil => rfl
  | cons i l ih =>
    rw [State.makeRoom]
    split
    · exact OnlyTaken.trans (t := s.demote i) rfl (ih _)
    · rfl

theorem markPoison_onlyTaken (s : State) (l : Nat) : OnlyTaken s (s.markPoison l) := rfl

theorem pinRec_onlyTaken (s : State) (i : Nat) : OnlyTaken s (s.pinRec i) := rfl

theorem spoilLines_onlyTaken (s : State) (a : Nat) (bad : List Nat) : OnlyTaken s (s.spoilLines a bad) :=
  OnlyTaken.foldl _ (fun t k => markPoison_onlyTaken t (a / 64 + k)) bad s

theorem promote_onlyTaken {s u : State} {i : Nat} (h : s.promote i = some u) : OnlyTaken s u := by
  unfold State.promote at h
  dsimp only at h
  split at h
  · cases h
  · obtain rfl := Option.some.inj h
    have hcopy : OnlyTaken s ((s.tickFree.setAdrec i { s.adrec i with
        loc := .both, location := s.pickD (s.poolFits (s.adrec i).size) }).homeWrite
          (s.pickD (s.poolFits (s.adrec i).size)) (s.blob (s.adrec i))) := rfl
    exact hcopy.trans (spoilLines_onlyTaken _ _ _)

theorem wantHbm_onlyTaken (s : State) (i : Nat) : OnlyTaken s (s.wantHbm i) := by
  unfold State.wantHbm
  split
  · dsimp only
    split
    · next h => exact (makeRoom_onlyTaken _ _ _).trans (promote_onlyTaken h)
    · exact makeRoom_onlyTaken _ _ _
  · rfl

theorem takeRecs_onlyTaken (s : State) (l : List Nat) : OnlyTaken s (s.takeRecs l) :=
  (OnlyTaken.foldl _ pinRec_onlyTaken l s).trans (OnlyTaken.foldl _ wantHbm_onlyTaken l _)

/-- The request that an admission takes in. -/
def admittedReq (s : State) (k p : Nat) (d : BitVec 1024) : Req :=
  { fn := k / 16, qp := k % 16, pav := p, model := Rd.model d, desc := d, seq := s.admitSeq, res := s.resolveD d
    todo := Rd.promptLen d, sched := { cls := Rd.cls d, noRow := s.time }, gram := s.startState (Rd.handle d)
    seed := s.tickFree.seedOf d, report := { verFirst := s.verOf (s.resolveD d), verLast := s.verOf (s.resolveD d) }
    wgenAdm := s.gen p (Rd.model d), kvClass := s.classOf (s.resolveD d)
    deadline := if Rd.deadline d = 0 then none else some (Rd.deadline d), reserved := cdiv (Rd.promptLen d) 16 }

/-- The state in which the request has its slot. -/
def slotTaken (s : State) (k p : Nat) (d : BitVec 1024) : State :=
  { s.tickFree.tickFree.setReq (s.pickD (s.freeSlotsOf p)) (admittedReq s k p d) with admitSeq := s.admitSeq + 1 }

/-- An admission, but for the advance of the ring: counters, pins and the records that are wanted in HBM. -/
def takenIn (s : State) (k p : Nat) (d : BitVec 1024) : State :=
  let t := (slotTaken s k p d).takeRecs (recsIn (s.resolveD d))
  let u := if Rd.handle d = 0 then t
    else t.setObj (Rd.handle d) { t.obj (Rd.handle d) with pins := (t.obj (Rd.handle d)).pins + 1 }
  if s.tied (Rd.tenant d) (Rd.hash d) (Rd.model d) (s.layersOf d) ∧ s.rd R.tieStrict = 0 then u.inc R.dirTies else u

theorem admits_takes {s : State} (k p : Nat) {d : BitVec 1024} (hseed : Rd.seed d ≠ 0) :
    s.admits k p d = (takenIn s k p d).advanceSq k := if_neg fun h => hseed h.1

theorem takenIn_frame (s : State) (k p : Nat) (d : BitVec 1024) : takenIn s k p d = { slotTaken s k p d with
    recs := (takenIn s k p d).recs, mem := (takenIn s k p d).mem, poison := (takenIn s k p d).poison
    freeCtr := (takenIn s k p d).freeCtr, objs := (takenIn s k p d).objs, regs := (takenIn s k p d).regs } := by
  have htake := takeRecs_onlyTaken (slotTaken s k p d) (recsIn (s.resolveD d))
  unfold OnlyTaken at htake
  unfold takenIn
  dsimp only
  split <;> split <;> rw [htake] <;> rfl

theorem takenIn_sqSize (s : State) (k p j : Nat) (d : BitVec 1024) : (takenIn s k p d).rd R.sqSize j = s.rd R.sqSize j := by
  have htake := takeRecs_onlyTaken (slotTaken s k p d) (recsIn (s.resolveD d))
  unfold OnlyTaken at htake
  unfold takenIn
  dsimp only
  split <;> split <;> rw [htake]
  · exact sqSize_inc (by simp) _ j
  · exact sqSize_inc (by simp) _ j
  · rfl
  · rfl

/-- What an admission leaves (R250, R443). -/
theorem admits_effect {s : State} {k p : Nat} {d : BitVec 1024} (hseed : Rd.seed d ≠ 0) :
    ∃ t, s.admits k p d = t ∧ t.req (s.pickD (s.freeSlotsOf p)) = admittedReq s k p d
      ∧ (∀ j, j ≠ s.pickD (s.freeSlotsOf p) → t.req j = s.req j) ∧ t.admitSeq = s.admitSeq + 1 ∧ t.out = s.out
      ∧ (t.qp k).sqHead = nextHead (s.rd R.sqSize k) (s.qp k).sqHead ∧ (∀ j, j ≠ k → t.qp j = s.qp j) := by
  have hframe := takenIn_frame s k p d
  have hqp : ∀ j, (takenIn s k p d).qp j = s.qp j := fun j => by
    rw [hframe]
    rfl
  have hreq : ∀ j, (takenIn s k p d).req j = (slotTaken s k p d).req j := fun j => by
    rw [hframe]
    rfl
  refine ⟨_, admits_takes k p hseed, (hreq _).trans (State.req_setReq _ _ _),
    fun j hj => (hreq j).trans (State.req_setReq_other _ _ hj), ?_, ?_, ?_,
    fun j hj => (State.qp_setQp_other _ _ hj).trans (hqp j)⟩
  · show (takenIn s k p d).admitSeq = _
    rw [hframe]
    rfl
  · show (takenIn s k p d).out = _
    rw [hframe]
    rfl
  · have hself : ((takenIn s k p d).advanceSq k).qp k = _ := State.qp_setQp _ _ _
    rw [hself, hqp, takenIn_sqSize]
    rfl

/-! ### The checks -/

theorem decideD_bad {s : State} {k : Nat} {d : BitVec 1024} (h : s.badRequest k d = true) :
    s.decideD k d = s.reject k d Code.badRequest := by
  have hcount : s.countRoute k d = s := if_pos (.inl h)
  simp only [State.decideD, State.earlyReject, h, if_true, hcount]

section Admits
variable {s : State} {k p : Nat} {d : BitVec 1024} (hgood : s.badRequest k d = false) (hp : Rd.pavilion d = p)
  (hten : s.tenantOk (k / 16) (Rd.tenant d) = true) (hroute : s.route (k / 16) (Rd.tenant d) (Rd.model d) p = some (true, false))
include hgood hp hten hroute

theorem countRoute_no_tie : s.countRoute k d = s := by
  simp only [State.countRoute, hgood, hten, hp, hroute, Bool.false_eq_true, Bool.true_eq_false, or_self, if_false]

theorem earlyReject_none : s.earlyReject k d = none := by
  simp only [State.earlyReject, hgood, hten, hp, hroute, Bool.false_eq_true, Bool.true_eq_false, if_false]

theorem decideD_admits (hlater : s.laterReject (k / 16) p d = none) (hfull : s.fullPav p = false)
    (hevict : s.evictFor p (8 * 32768) (cdiv (Rd.promptLen d) 16) (s.evictable p) = s)
    (hroom : s.roomFor p (8 * 32768) (cdiv (Rd.promptLen d) 16) (if s.drafting p then cdiv (Rd.promptLen d) 16 else 0) = true)
    (hstrict : s.rd R.admitStrict p = 0) : s.decideD k d = s.admits k p d := by
  simp only [State.decideD, earlyReject_none hgood hp hten hroute, hp, hlater, State.takeIn, hfull, hevict, hroom, hstrict,
    countRoute_no_tie hgood hp hten hroute, Bool.false_eq_true, Bool.true_eq_false, Nat.zero_ne_one, false_and, if_false]

end Admits

/-! ### Cancelled decisions -/

theorem Tab.mem_keys_ins {α : Type} (t : Tab α) (k : Nat) (v : α) (j : Nat) :
    j ∈ (Tab.ins t k v).map Prod.fst ↔ j = k ∨ j ∈ t.map Prod.fst := by
  induction t with
  | nil => simp [Tab.ins]
  | cons e t ih =>
    simp only [Tab.ins]
    split
    · simp
    · split
      · next h => simp [h]
      · rw [List.map_cons, List.mem_cons, ih, List.map_cons, List.mem_cons]
        exact or_left_comm

theorem hasReq_iff (s : State) (i : Nat) : s.hasReq i = true ↔ i ∈ s.reqs.map Prod.fst := by
  simp only [State.hasReq, List.any_eq_true, beq_iff_eq, List.mem_map]

/-- A mark adds no request and takes none away. -/
theorem markEnd_hasReq (s : State) (i j status : Nat) : (s.markEnd i status).hasReq j = s.hasReq j := by
  unfold State.markEnd
  split
  · next h =>
    have hi : s.hasReq i = true := (Bool.and_eq_true_iff.1 h).1
    have hne : ({ s.req i with ending := some status } : Req) ≠ {} := fun he => Option.some_ne_none _ (congrArg Req.ending he)
    have hreqs : (s.setReq i { s.req i with ending := some status }).reqs =
        Tab.ins s.reqs i { s.req i with ending := some status } := if_neg hne
    rw [Bool.eq_iff_iff, hasReq_iff, hasReq_iff, hreqs, Tab.mem_keys_ins]
    exact or_iff_right_of_imp fun hj => hj ▸ (hasReq_iff s i).1 hi
  · rfl

theorem markEnd_req_other (s : State) {i j : Nat} (status : Nat) (h : j ≠ i) : (s.markEnd i status).req j = s.req j := by
  obtain ⟨_, _, _, hother⟩ := markEnd_keeps s i status
  exact hother j h

theorem markEnd_marks {s : State} {i : Nat} (status : Nat) (h : s.hasReq i = true) :
    ((s.markEnd i status).req i).ending.isSome = true := by
  unfold State.markEnd
  rw [h, Bool.true_and]
  split
  · rw [State.req_setReq]
    rfl
  · next hn => exact Option.isSome_iff_ne_none.2 fun hnone => hn (by rw [hnone]; rfl)

/-- Requests marked to end: each of a list that there is. -/
theorem foldl_markEnd_marks (status : Nat) (l : List Nat) {s : State} {i : Nat} (hi : s.hasReq i = true)
    (hmark : i ∈ l ∨ (s.req i).ending.isSome = true) :
    ((l.foldl (fun (t : State) i => t.markEnd i status) s).req i).ending.isSome = true := by
  induction l generalizing s with
  | nil => exact hmark.resolve_left List.not_mem_nil
  | cons x l ih =>
    refine ih ((markEnd_hasReq s x i status).trans hi) ?_
    by_cases hx : i = x
    · exact .inr (hx ▸ markEnd_marks status (hx ▸ hi))
    · rw [markEnd_req_other s status hx]
      exact hmark.imp_left fun h => (List.mem_cons.1 h).resolve_left hx

/-- And no other. -/
theorem foldl_markEnd_other (status : Nat) (l : List Nat) (s : State) {i : Nat} (hi : i ∉ l) :
    (l.foldl (fun (t : State) i => t.markEnd i status) s).req i = s.req i := by
  induction l generalizing s with
  | nil => rfl
  | cons x l ih =>
    obtain ⟨hx, hl⟩ := not_or.1 (mt List.mem_cons.2 hi)
    exact (ih _ hl).trans (markEnd_req_other s status hx)

/-- What a table in canonical order lists at an index is its value. -/
theorem Tab.get_of_mem {α : Type} {t : Tab α} {d v : α} {k : Nat} (h : Tab.Rises t) (hm : (k, v) ∈ t) : Tab.get d t k = v := by
  induction t with
  | nil => cases hm
  | cons e t ih =>
    obtain ⟨hlt, ht⟩ := List.pairwise_cons.1 h
    rcases List.mem_cons.1 hm with rfl | hm
    · exact if_pos rfl
    · have hne : e.1 ≠ k := Nat.ne_of_lt (hlt k (List.mem_map_of_mem (f := Prod.fst) hm))
      exact (if_neg hne).trans (ih ht hm)

theorem Tab.mem_of_key {α : Type} {t : Tab α} {d : α} {k : Nat} (h : Tab.Rises t) (hk : k ∈ t.map Prod.fst) :
    (k, Tab.get d t k) ∈ t := by
  obtain ⟨⟨j, v⟩, hm, rfl⟩ := List.mem_map.1 hk
  rw [Tab.get_of_mem h hm]
  exact hm

/-- What a decision in the tick of its cancel admits ends (R462). -/
theorem cancelSeq_effect {w : State} {n : Nat} (hr : Tab.Rises w.reqs) (hn : w.admitSeq ≠ n) :
    ChangesReqs w (w.cancelSeq n)
      ∧ (∀ i, w.hasReq i = true → (w.req i).seq = n → ((w.cancelSeq n).req i).ending.isSome = true)
      ∧ (∀ i, (w.req i).seq ≠ n → (w.cancelSeq n).req i = w.req i) := by
  have hdef : w.cancelSeq n = ((w.reqs.filter fun e => e.2.seq == n).map (·.1)).foldl
      (fun (t : State) i => t.markEnd i Code.cancelled) w := if_neg hn
  rw [hdef]
  refine ⟨ChangesReqs.foldl _ (fun t i => markEnd_changesReqs t i _) _ w, fun i hi hseq => ?_, fun i hseq => ?_⟩
  · have hmem := Tab.mem_of_key (d := {}) hr ((hasReq_iff w i).1 hi)
    exact foldl_markEnd_marks _ _ hi (.inl (List.mem_map.2 ⟨_, List.mem_filter.2 ⟨hmem, beq_iff_eq.2 hseq⟩, rfl⟩))
  · refine foldl_markEnd_other _ _ w fun hmem => hseq ?_
    obtain ⟨⟨j, r⟩, hr', rfl⟩ := List.mem_map.1 hmem
    obtain ⟨hin, hs⟩ := List.mem_filter.1 hr'
    rw [State.req, Tab.get_of_mem hr hin]
    exact beq_iff_eq.1 hs

/-! ### Settling admission -/

theorem rejection_eq {s : State} {fn q k : Nat} (hq : q < 16) (hk : k = fn * 16 + q) (d : BitVec 1024) (status : Nat) :
    rejection s k d status =
      .hostWrite fn (Rd.outAddr d) (finalRecord (Rd.reqId d) status {} 0 (BitVec.ofNat 64 (Rd.seed d)) s.time) := by
  have hfn : k / 16 = fn := by omega
  rw [rejection, hfn]

/-- A visit that rejects the descriptor counts in the function's turn. -/
theorem visited_rejected {s t : State} {k p : Nat} {d : BitVec 1024} {status : Nat} (h : Rejected s t k d status)
    (hn : 1 < s.rd R.sqSize k) : s.visited t k p = t.setPav p ((s.pav p).decided (k / 16)) := by
  have hpav : t.pav p = s.pav p := by
    rw [h.frame]
    rfl
  rw [visited_decided, hpav]
  rw [h.self]
  exact nextHead_ne hn _

/-- A function that has had 8 decided is not in turn while another one waits (R254). -/
theorem not_inTurn {s : State} {p fn g : Nat} (hfn : fn < 64) (hg : g < 64) (hgf : g ≠ fn) (hturn : (s.pav p).turnFn = fn)
    (hfull : (s.pav p).turnN = 8) (hwait : s.fnWaits p g = true) : s.inTurn p fn = false := by
  have hfar : turnsFrom fn fn = 64 := by
    unfold turnsFrom
    omega
  have hnear : ¬ turnsFrom fn fn ≤ turnsFrom fn g := by
    rw [hfar]
    unfold turnsFrom
    omega
  have hall : ((List.range 64).all fun h => !s.fnWaits p h || decide (turnsFrom fn fn ≤ turnsFrom fn h)) = false :=
    List.all_eq_false.2 ⟨g, List.mem_range.2 hg, by rw [hwait, decide_eq_false hnear]; exact Bool.false_ne_true⟩
  simp only [State.inTurn, hturn, hfull, hall, Nat.lt_irrefl, decide_false, Bool.and_false, Bool.or_self]

/-- Settles O39: a decision rejects, admits or holds the descriptor at the head, by the order of R445. -/
theorem admission : Obligations.Admission := by
  refine ⟨fun s fn q k p d hq hk hp hdec hbefore hd hload hgate hcancel hn => ⟨fun hbad => ?_,
      fun hgood hpav hten hroute hlater hfull hevict hroom hstrict hslots hseed => ?_⟩,
    fun s fn q k p d hq hk hq0 hlive hhead hp hload htime hcancel hd hearly hst => ?_,
    fun s fn q k d hk hdec hbefore hload hcancel hd hearly => ?_,
    fun s w fn q k c d hq hk hdec hbefore hc hcancel hd hn hw => ⟨fun hnow => ?_, fun hnow hrises hseq => ?_⟩,
    fun s fn q p g hfn hg hgf hq hp hturn hfull hwait => ?_⟩
  · obtain ⟨hlive, hserv⟩ := deciding_live hdec
    have hrej := reject_rejects d Code.badRequest hlive (serving_not_shuttered hserv)
    have hexec := admissionDecision_decides hk hdec hbefore
    rw [decideAt_live hd hcancel, decideLive_checks d (hp ▸ hload) hgate, decideD_bad hbad, ← hp,
      visited_rejected hrej hn] at hexec
    generalize s.reject k d Code.badRequest = t at hexec hrej
    have hfn : k / 16 = fn := by omega
    have hpavs : (t.setPav p ((s.pav p).decided (k / 16))).pav p = (s.pav p).decided fn := by rw [State.pav_setPav, hfn]
    have hself : (t.setPav p ((s.pav p).decided (k / 16))).qp k = rejectedQp s k d Code.badRequest := hrej.self
    refine ⟨_, hexec, ?_, by rw [hself]; rfl, by rw [hself]; rfl, by rw [hpavs]; exact (Pav.decided_turn _ _).1,
      by rw [hpavs]; exact (Pav.decided_turn _ _).2, hrej.others, ?_, ?_, ?_, ?_⟩
    · rw [← rejection_eq hq hk, hrej.frame]
      rfl
    all_goals
      rw [hrej.frame]
      rfl
  · have hfn : k / 16 = fn := by omega
    have hexec := admissionDecision_decides hk hdec hbefore
    rw [decideAt_live hd hcancel, decideLive_checks d (hp ▸ hload) hgate,
      decideD_admits hgood hpav (hfn.symm ▸ hten) (hfn.symm ▸ hroute) (hfn.symm ▸ hlater) hfull hevict hroom hstrict, ← hp] at hexec
    obtain ⟨t, ht, hreq, hothers, hadm, hout, hhead, hqps⟩ := admits_effect (s := s) (k := k) (p := p) hseed
    rw [ht, visited_decided (by rw [hhead]; exact nextHead_ne hn _), hfn] at hexec
    have hpavs : (t.setPav p ((t.pav p).decided fn)).pav p = (t.pav p).decided fn := State.pav_setPav _ _ _
    have hreq' : (t.setPav p ((t.pav p).decided fn)).req (s.pickD (s.freeSlotsOf p)) = admittedReq s k p d := hreq
    refine ⟨_, s.pickD (s.freeSlotsOf p), hexec, pickD_mem s hslots, ?_, ?_, ?_, hadm, ?_, ?seed, ?_, ?_, hhead,
      by rw [hpavs]; exact (Pav.decided_turn _ _).1, hout, hothers, hqps⟩
    case seed =>
      rw [hreq']
      exact if_pos hseed
    all_goals
      rw [hreq']
      rfl
  · have hfits : (q != 0 && (s.qp k).live && (s.qp k).sqHead != (s.qp k).sqTail && (s.pav (s.rd R.qpPavilion k)).st == .loading
        && s.passed (Tab.get 0 (s.qp k).posted (s.qp k).sqHead) (s.rd R.holdLimit (s.rd R.qpPavilion k))) = true := by
      rw [← hp, hlive, hload, bne_iff_ne.2 hq0, bne_iff_ne.2 hhead, State.passed, decide_eq_true htime]
      rfl
    have hexec : exec (.holdLimitExpiry fn q) s = .next ((s.countRoute k d).reject k d Code.pavilionNotOpen) := by
      show execHoldLimitExpiry fn q s = _
      simp only [execHoldLimitExpiry, ← hk, onlyIf, if_pos hfits, hcancel, ← hd, hearly, Option.getD_none,
        Bool.false_eq_true, if_false]
    obtain ⟨t, ht, hout, hself, hother, hreqs, hmem⟩ := countRoute_reject d Code.pavilionNotOpen hlive hst
    rw [ht] at hexec
    exact ⟨t, hexec, by rw [hout, rejection_eq hq hk], by rw [hself]; rfl, by rw [hself]; rfl, hother, hreqs, hmem⟩
  · have hexec := admissionDecision_decides hk hdec hbefore
    have hholds : s.decideLive k d = s := by simp only [State.decideLive, hload, if_true, hearly]
    rwa [decideAt_live hd hcancel, hholds, visited_waits] at hexec
  · obtain ⟨hlive, hserv⟩ := deciding_live hdec
    have hrej := reject_rejects d Code.cancelled hlive (serving_not_shuttered hserv)
    have hexec := admissionDecision_decides hk hdec hbefore
    have hdecide : s.decideAt k = s.reject k d Code.cancelled := by
      simp only [State.decideAt, ← hc, hcancel, hnow, ← hd, if_true, Bool.false_eq_true, if_false]
    rw [hdecide, visited_rejected hrej hn] at hexec
    generalize s.reject k d Code.cancelled = t at hexec hrej
    have hself : (t.setPav (s.rd R.qpPavilion k) ((s.pav (s.rd R.qpPavilion k)).decided (k / 16))).qp k =
        rejectedQp s k d Code.cancelled := hrej.self
    refine ⟨_, hexec, ?_, by rw [hself]; rfl, ?_, hrej.others, ?_, ?_, ?_⟩
    · rw [← rejection_eq hq hk, hrej.frame]
      rfl
    · rw [hrej.frame]
      exact Bool.eq_false_iff.2 fun hmem => bne_iff_ne.1 (List.mem_filter.1 (List.contains_iff_mem.1 hmem)).2 hc
    all_goals
      rw [hrej.frame]
      rfl
  · have hdecide : s.decideAt k = w.cancelSeq s.admitSeq := by
      simp only [State.decideAt, ← hc, hcancel, hnow, ← hd, if_true, ← hw]
    have hexec := admissionDecision_decides hk hdec hbefore
    rw [hdecide] at hexec
    obtain ⟨honly, hmarks, hother⟩ := cancelSeq_effect hrises hseq
    have hframe := visited_frame s (w.cancelSeq s.admitSeq) k (s.rd R.qpPavilion k)
    have hreq : ∀ i, (s.visited (w.cancelSeq s.admitSeq) k (s.rd R.qpPavilion k)).req i = (w.cancelSeq s.admitSeq).req i :=
      fun i => by
        rw [hframe]
        rfl
    refine ⟨_, hexec, ?_, ?_, fun i hi hs => by rw [hreq]; exact hmarks i hi hs, fun i hs => by rw [hreq]; exact hother i hs⟩
    · rw [hframe, honly]
    · rw [hframe, honly]
  · have hnot : s.deciding (fn * 16 + q) = false := by
      have hfn' : (fn * 16 + q) / 16 = fn := by omega
      rw [State.deciding, ← hp, hfn', not_inTurn hfn hg hgf hturn hfull hwait, Bool.and_false]
    show execAdmissionDecision fn q s = _
    simp only [execAdmissionDecision, hnot, Bool.false_eq_true, if_false, ok]

end Sys2Proof.Proofs

/-! PROOFS. The life of a request (R83, R258, R277, R446, R462, R464). -/
namespace Sys2Proof.Proofs
open Sys2Proof Sys2Proof.Machine Sys2Proof.Laws

/-! ### Taking pages -/

/-- What a request keeps while it is selected and takes pages. -/
def Req.kept (r q : Req) : Prop :=
  q.phase = r.phase ∧ q.prompt = r.prompt ∧ q.ending = r.ending ∧ q.spill = r.spill ∧ q.out = r.out

/-- From s to t a request was selected or took pages: of the requests it alone changed, and memory and outputs did not. -/
structure Grown (i : Nat) (s t : State) : Prop where
  frame : t = { s with reqs := t.reqs, pages := t.pages, regs := t.regs, freeCtr := t.freeCtr }
  others : ∀ j, j ≠ i → t.req j = s.req j
  self : Req.kept (s.req i) (t.req i)

theorem Req.kept_refl (r : Req) : Req.kept r r := ⟨rfl, rfl, rfl, rfl, rfl⟩

theorem Grown.of_reqs_eq {i : Nat} {s t : State} (hr : t.reqs = s.reqs)
    (h : t = { s with pages := t.pages, regs := t.regs, freeCtr := t.freeCtr }) : Grown i s t := by
  have hreq : ∀ j, t.req j = s.req j := fun j => by rw [State.req, State.req, hr]
  refine ⟨?_, fun j _ => hreq j, (hreq i).symm ▸ Req.kept_refl _⟩
  rw [hr]
  exact h

theorem Grown.refl (i : Nat) (s : State) : Grown i s s := Grown.of_reqs_eq rfl rfl

theorem Grown.trans {i : Nat} {s t u : State} (h : Grown i s t) (g : Grown i t u) : Grown i s u := by
  obtain ⟨a, b, c, d, e⟩ := h.self
  obtain ⟨a', b', c', d', e'⟩ := g.self
  exact ⟨by rw [g.frame, h.frame], fun j hj => (g.others j hj).trans (h.others j hj),
    a'.trans a, b'.trans b, c'.trans c, d'.trans d, e'.trans e⟩

theorem Grown.ite {i : Nat} {s t u : State} {c : Prop} [Decidable c] (h : Grown i s t) (g : Grown i s u) :
    Grown i s (if c then t else u) := by
  split
  · exact h
  · exact g

theorem setReq_grown {i : Nat} {s : State} {r : Req} (h : Req.kept (s.req i) r) : Grown i s (s.setReq i r) :=
  ⟨rfl, fun _ hj => State.req_setReq_other _ _ hj, by rw [State.req_setReq]; exact h⟩

/-- A change of the request's record in a state that has its record. -/
theorem Grown.setReq {i : Nat} {s t : State} (h : Grown i s t) {r : Req} (hr : Req.kept (s.req i) r) : Grown i s (t.setReq i r) := by
  refine h.trans (setReq_grown ?_)
  obtain ⟨a, b, c, d, e⟩ := h.self
  obtain ⟨a', b', c', d', e'⟩ := hr
  exact ⟨a'.trans a.symm, b'.trans b.symm, c'.trans c.symm, d'.trans d.symm, e'.trans e.symm⟩

theorem setPage_grown (i : Nat) (s : State) (g : Nat) (q : KvPage) : Grown i s (s.setPage g q) := Grown.of_reqs_eq rfl rfl

theorem evictFor_grown (i : Nat) (s : State) (p j n : Nat) (l : List Nat) : Grown i s (s.evictFor p j n l) := by
  induction l generalizing s with
  | nil => exact Grown.refl i s
  | cons g l ih =>
    rw [State.evictFor]
    split
    · exact Grown.refl i s
    · exact (setPage_grown i s g {}).trans (ih _)

theorem growPages_grown (i : Nat) (s : State) (draft : Bool) (n : Nat) : Grown i s (s.growPages i draft n) := by
  induction n generalizing s with
  | zero => exact Grown.refl i s
  | succ n ih =>
    rw [State.growPages]
    refine Grown.trans (Grown.setReq (t := (s.allocPage _ _ draft).2) ?_ ?_) (ih _)
    · exact Grown.of_reqs_eq rfl rfl
    · split <;> exact ⟨rfl, rfl, rfl, rfl, rfl⟩

theorem claim_grown (i : Nat) (s : State) (len : Nat) : Grown i s (s.claim i len) :=
  (growPages_grown i s false _).trans (growPages_grown i _ true _)

theorem matchPrompt_grown (i : Nat) (s : State) (n : Nat) : Grown i s (s.matchPrompt i n) := by
  induction n generalizing s with
  | zero => exact Grown.refl i s
  | succ n ih =>
    rw [State.matchPrompt]
    dsimp only
    split
    · exact Grown.refl i s
    · next g _ =>
      refine Grown.ite (Grown.trans ?_ (ih _)) (Grown.of_reqs_eq rfl rfl)
      exact (setPage_grown i s g _).setReq ⟨rfl, rfl, rfl, rfl, rfl⟩

theorem prefixMatch_grown (i : Nat) (s : State) : Grown i s (s.prefixMatch i) := by
  unfold State.prefixMatch
  dsimp only
  have honce : Grown i s (s.setReq i { s.req i with matchedOnce := true }) := setReq_grown ⟨rfl, rfl, rfl, rfl, rfl⟩
  split
  · exact honce
  · exact honce.trans (matchPrompt_grown i _ _)

/-- A request that may run is selected and takes its pages; one that may not is left as it is. -/
theorem tryRun_grown (i : Nat) (s : State) : Grown i s (s.tryRun i) := by
  unfold State.tryRun
  dsimp only
  have hdepth : Grown i s (s.setReq i { s.req i with sched := { (s.req i).sched with depth := s.depthOf (s.req i) } }) :=
    setReq_grown ⟨rfl, rfl, rfl, rfl, rfl⟩
  have hroom : ∀ (t : State) (len : Nat), Grown i t (t.stepRoom i len).2 := fun t len => evictFor_grown i t _ i _ _
  split
  · refine Grown.trans ?_ (setReq_grown ⟨rfl, rfl, rfl, rfl, rfl⟩)
    refine Grown.trans ?_ (claim_grown i _ _)
    split
    · exact (hdepth.trans (hroom _ _)).trans (prefixMatch_grown i _)
    · exact hdepth.trans (hroom _ _)
  · exact hdepth.trans (hroom _ _)

/-! ### Prompts -/

section Prompt
variable {s : State} {i : Nat} {tokens : List Word32} (hreq : s.hasReq i = true) (hph : (s.req i).phase = .fetching)

/-- The state in which the tokens of a prompt are in HBM. -/
def promptRead (s : State) (i : Nat) (tokens : List Word32) : State :=
  s.setReq i { s.req i with phase := .ready, prompt := (tokens.map (·.toNat)).take (Rd.promptLen (s.req i).desc) }

/-- The vocabulary of a request's model. -/
def vocabOf (s : State) (i : Nat) : Nat := ((s.model (s.req i).pav (s.req i).model).map (·.vocab)).getD 0

include hreq hph

theorem promptReadComplete_reads : exec (.promptReadComplete i tokens true) s = .next
    (if ((tokens.map (·.toNat)).take (Rd.promptLen (s.req i).desc)).length ≠ Rd.promptLen (s.req i).desc
        ∨ ((tokens.map (·.toNat)).take (Rd.promptLen (s.req i).desc)).any (fun x => decide (vocabOf s i ≤ x)) = true then
      (promptRead s i tokens).markEnd i Code.badPrompt
    else (promptRead s i tokens).tryRun i) := by
  show execPromptReadComplete i tokens true s = _
  simp only [execPromptReadComplete, hreq, hph, ne_eq, not_true_eq_false, Bool.true_eq_false, or_self, if_false]
  exact (apply_ite _ _ _ _).symm

theorem promptReadComplete_fails : exec (.promptReadComplete i tokens false) s = .next
    (State.failReq (s.setReq i { s.req i with phase := .ready }) i Code.hostDmaFail) := by
  show execPromptReadComplete i tokens false s = _
  simp only [execPromptReadComplete, hreq, hph, ne_eq, not_true_eq_false, Bool.true_eq_false, or_self, if_false, if_true, ok]

end Prompt

/-- A record that is not the default one is listed. -/
theorem setReq_hasReq {s : State} {i : Nat} {r : Req} (hr : r ≠ {}) : (s.setReq i r).hasReq i = true := by
  have hreqs : (s.setReq i r).reqs = Tab.ins s.reqs i r := if_neg hr
  rw [hasReq_iff, hreqs, Tab.mem_keys_ins]
  exact .inl rfl

theorem ready_ne_default {r : Req} (h : r.phase = .ready) : r ≠ {} := fun he => by
  rw [he] at h
  cases h

/-- The mark of a request that has none. -/
theorem markEnd_of_none {s : State} {i : Nat} (status : Nat) (h : s.hasReq i = true) (hn : (s.req i).ending = none) :
    s.markEnd i status = s.setReq i { s.req i with ending := some status } :=
  if_pos (by rw [h, hn]; rfl)

/-- The REQUEST error of a request. -/
def reqErr (s : State) (i ev d1 : Nat) : Err :=
  { cls := .request, event := ev, pav := some (s.req i).pav, unit := 3, inst := (s.req i).pav, d0 := (s.req i).id, d1 := d1 }

/-- A REQUEST error of a request that has not ended: it is marked with the error's code. -/
theorem failReq_effect {s : State} {i : Nat} (ev d1 : Nat) (h : s.hasReq i = true) (hn : (s.req i).ending = none) :
    ((s.failReq i ev d1).req i) = { s.req i with ending := some (Cls.request.code ev) }
      ∧ (∀ j, j ≠ i → (s.failReq i ev d1).req j = s.req j) ∧ (s.failReq i ev d1).mem = s.mem := by
  have hopen : (s.hasReq i && (s.req i).ending.isNone) = true := by rw [h, hn]; rfl
  have hraised := raise_onlyRaised s (e := reqErr s i ev d1) Cls.noConfusion rfl
  have hdef : s.failReq i ev d1 = (s.raise (reqErr s i ev d1)).markEnd i (Cls.request.code ev) := if_pos hopen
  rw [hdef]
  generalize s.raise (reqErr s i ev d1) = t at hraised
  have hreqs : t.reqs = s.reqs := by rw [hraised]
  have hreq : ∀ j, t.req j = s.req j := fun j => by rw [State.req, State.req, hreqs]
  have hhas : t.hasReq i = true := by rw [State.hasReq, hreqs]; exact h
  rw [markEnd_of_none _ hhas (by rw [hreq]; exact hn), hreq]
  exact ⟨State.req_setReq _ _ _, fun j hj => (State.req_setReq_other _ _ hj).trans (hreq j), hraised.mem⟩

/-! ### Cancels -/

/-- Of a list of requests that have not ended each is marked with the status. -/
theorem foldl_markEnd_req (status : Nat) (l : List Nat) {s : State} {i : Nat} (h : s.hasReq i = true)
    (hmark : i ∈ l ∧ (s.req i).ending = none ∨ (s.req i).ending = some status) :
    ((l.foldl (fun (t : State) i => t.markEnd i status) s).req i).ending = some status := by
  induction l generalizing s with
  | nil => exact hmark.resolve_left fun hm => List.not_mem_nil hm.1
  | cons x l ih =>
    refine ih ((markEnd_hasReq s x i status).trans h) ?_
    by_cases hx : i = x
    · subst hx
      refine .inr ?_
      show ((s.markEnd i status).req i).ending = some status
      rcases hmark with ⟨_, hn⟩ | hs
      · rw [markEnd_of_none status h hn, State.req_setReq]
      · have hkeep : s.markEnd i status = s := if_neg (by rw [hs]; simp)
        rw [hkeep]
        exact hs
    · show i ∈ l ∧ ((s.markEnd x status).req i).ending = none ∨ ((s.markEnd x status).req i).ending = some status
      rw [markEnd_req_other s status hx]
      exact hmark.imp_left fun hm => ⟨(List.mem_cons.1 hm.1).resolve_left hx, hm.2⟩

/-- The state in which a cancel has marked the requests and the undecided descriptors that it names (R462). -/
def cancelMarked (t : State) (rs us : List Nat) : State :=
  rs.foldl (fun (v : State) i => v.markEnd i Code.cancelled)
    { t with cancels := t.cancels ++ us, sdl := { t.sdl with cancelled := t.sdl.cancelled ++ us } }

theorem cancelMarked_frame (t : State) (rs us : List Nat) : cancelMarked t rs us = { t with
    reqs := (cancelMarked t rs us).reqs, cancels := t.cancels ++ us
    sdl := { t.sdl with cancelled := t.sdl.cancelled ++ us } } :=
  ChangesReqs.foldl _ (fun v i => markEnd_changesReqs v i _) rs
    { t with cancels := t.cancels ++ us, sdl := { t.sdl with cancelled := t.sdl.cancelled ++ us } }

/-- A cancel answers the number of what it names, and REQ_NOT_FOUND if that is nothing. -/
theorem reqCancel_answers {s t : State} {src : Nat} {cid : Word32} {a : AdminCmd} {rs us : List Nat}
    (hcmd : s.findCmd src cid 0x50 = some a) (ht : t = { s with accepted := markStarted src cid 0x50 s.accepted })
    (hrs : rs = (t.reqs.filter fun e => e.2.fn == src && e.2.id == byteAt a.img 24 8 && e.2.ending.isNone).map (·.1))
    (hus : us = (t.undecided src (byteAt a.img 24 8)).filter (fun x => !t.cancels.contains x)) :
    exec (.reqCancel src cid) s = .next ((cancelMarked t rs us).complete src cid
      (if rs = [] ∧ us = [] then Code.reqNotFound else 0) (rs.length + us.length)) := by
  show execReqCancel src cid s = _
  rw [execReqCancel, runCmd_of_found hcmd rfl, ← ht]
  simp only [← hrs, ← hus, Bool.and_eq_true, List.isEmpty_iff, ok]
  split
  · next h =>
    obtain ⟨hr, hu⟩ := h
    rw [hr, hu]
    rfl
  · rfl

/-- Settles O40: a prompt read, a failed read, aging, a deadline, a cancel. -/
theorem requestEvents : Obligations.RequestEvents := by
  refine ⟨fun s i tokens hreq hph hmodel hlen hin => ?_, fun s i tokens hreq hph hend hbad => ?_,
    fun s i tokens hreq hph hend => ?_, fun s i hreq hlim hcls hrow htime => ?_,
    fun s i d hreq hdl hle hend hmiss hbefore => ?_, fun s t src id cid a rs us hr hcmd ht hid hrs hus => ?_⟩
  · have hall : (tokens.map (·.toNat)).take (Rd.promptLen (s.req i).desc) = tokens.map (·.toNat) :=
      List.take_of_length_le (Nat.le_of_eq (by rw [List.length_map, hlen]))
    have hgood : ¬ (((tokens.map (·.toNat)).take (Rd.promptLen (s.req i).desc)).length ≠ Rd.promptLen (s.req i).desc
        ∨ ((tokens.map (·.toNat)).take (Rd.promptLen (s.req i).desc)).any (fun x => decide (vocabOf s i ≤ x)) = true) := by
      rw [hall, List.length_map, List.any_eq_true]
      rintro (hne | ⟨x, hx, hle⟩)
      · exact hne hlen
      · obtain ⟨w, hw, rfl⟩ := List.mem_map.1 hx
        exact absurd (of_decide_eq_true hle) (Nat.not_le.2 (hin w hw))
    have hexec := promptReadComplete_reads (tokens := tokens) hreq hph
    rw [if_neg hgood] at hexec
    have hgrown := tryRun_grown i (promptRead s i tokens)
    obtain ⟨hp, hpr, he, _, _⟩ := hgrown.self
    rw [promptRead, State.req_setReq] at hp hpr he
    exact ⟨_, hexec, hp, hpr.trans hall, he, fun j hj => (hgrown.others j hj).trans (State.req_setReq_other _ _ hj),
      by rw [hgrown.frame]; rfl, by rw [hgrown.frame]; rfl⟩
  · have hbad' : ((tokens.map (·.toNat)).take (Rd.promptLen (s.req i).desc)).length ≠ Rd.promptLen (s.req i).desc
        ∨ ((tokens.map (·.toNat)).take (Rd.promptLen (s.req i).desc)).any (fun x => decide (vocabOf s i ≤ x)) = true := by
      rcases hbad with hlt | ⟨x, hx, hle⟩
      · rw [List.length_take, List.length_map]
        exact .inl (by omega)
      · refine .inr (List.any_eq_true.2 ⟨x.toNat, ?_, decide_eq_true hle⟩)
        rw [← List.map_take]
        exact List.mem_map_of_mem hx
    have hexec := promptReadComplete_reads (tokens := tokens) hreq hph
    have hself : (promptRead s i tokens).req i = _ := State.req_setReq _ _ _
    rw [if_pos hbad', markEnd_of_none (s := promptRead s i tokens) _ (setReq_hasReq (ready_ne_default rfl))
      (by rw [hself]; exact hend)] at hexec
    exact ⟨_, hexec, by rw [State.req_setReq],
      fun j hj => (State.req_setReq_other _ _ hj).trans (State.req_setReq_other _ _ hj), rfl⟩
  · have hself : (s.setReq i { s.req i with phase := .ready }).req i = _ := State.req_setReq _ _ _
    obtain ⟨he, ho, hm⟩ := failReq_effect (s := s.setReq i { s.req i with phase := .ready }) (i := i) Code.hostDmaFail 0
      (setReq_hasReq (ready_ne_default rfl)) (by rw [hself]; exact hend)
    exact ⟨_, promptReadComplete_fails hreq hph, by rw [he],
      fun j hj => (ho j hj).trans (State.req_setReq_other _ _ hj), hm⟩
  · have hdue : (s.hasReq i && s.rd R.ageLimit (s.req i).pav != 0 && decide (2 ≤ Rd.cls (s.req i).desc)
        && !(s.stepReqs (s.req i).pav).contains i && s.passed (s.req i).sched.noRow (s.rd R.ageLimit (s.req i).pav)) = true := by
      rw [hreq, bne_iff_ne.2 hlim, decide_eq_true hcls, hrow, State.passed, decide_eq_true htime]
      rfl
    have hexec : exec (.aging i) s = .next (s.setReq i { s.req i with sched := { (s.req i).sched with
        cls := if (s.req i).sched.cls ≤ 1 then (s.req i).sched.cls else (s.req i).sched.cls - 1
        noRow := (s.req i).sched.noRow + s.rd R.ageLimit (s.req i).pav } }) := by
      show execAging i s = _
      simp only [execAging, onlyIf, if_pos hdue]
    exact ⟨_, hexec, by rw [State.req_setReq], by rw [State.req_setReq], fun j hj => State.req_setReq_other _ _ hj, rfl⟩
  · have hdue : s.deadlineDue i = true := by
      simp only [State.deadlineDue, hdl, hreq, decide_eq_true hle, hmiss, hend, Bool.not_false, Option.isNone_none, Bool.and_self]
    have hexec : exec (.deadlineExpiry i) s = .next (s.missDeadline i) := by
      show execDeadlineExpiry i s = _
      simp only [execDeadlineExpiry, onlyIf, hdue, if_true, hdl, Option.getD_some, State.settle, hbefore, List.foldl_nil,
        State.takeDue]
    by_cases haction : s.rd R.deadlineAction (s.req i).pav = 1
    · rw [State.missDeadline, if_pos haction] at hexec
      refine ⟨_, hexec, fun j hj => State.req_setReq_other _ _ hj, rfl, fun _ => ?_, fun h0 => ?_⟩
      · rw [State.req_setReq]
        exact ⟨rfl, hend, rfl⟩
      · rw [haction] at h0
        cases h0
    · rw [State.missDeadline, if_neg haction] at hexec
      obtain ⟨he, ho, hm⟩ := failReq_effect Code.deadlineMissed 0 hreq hend
      exact ⟨_, hexec, ho, hm, fun h1 => absurd h1 haction, fun _ => by rw [he]⟩
  · subst ht hid
    have hmemrs : ∀ i ∈ rs, s.hasReq i = true ∧ (s.req i).ending = none := by
      intro i hi
      rw [hrs] at hi
      obtain ⟨⟨j, r⟩, hm, rfl⟩ := List.mem_map.1 hi
      obtain ⟨hin, hcond⟩ := List.mem_filter.1 hm
      refine ⟨(hasReq_iff s j).2 (List.mem_map_of_mem (f := Prod.fst) hin), ?_⟩
      rw [State.req, Tab.get_of_mem hr hin]
      exact Option.isNone_iff_eq_none.1 (Bool.and_eq_true_iff.1 hcond).2
    have hreqs : (cancelMarked { s with accepted := markStarted src cid 0x50 s.accepted } rs us).req = fun i =>
        ((rs.foldl (fun (v : State) i => v.markEnd i Code.cancelled) (cancelMarked
          { s with accepted := markStarted src cid 0x50 s.accepted } [] us)).req i) := rfl
    have hframe := cancelMarked_frame { s with accepted := markStarted src cid 0x50 s.accepted } rs us
    refine ⟨_, reqCancel_answers hcmd rfl hrs hus, fun i hi => ?_, fun j hj => ?_, by rw [hframe], by rw [hframe], ?_⟩
    · obtain ⟨hhas, hnone⟩ := hmemrs i hi
      rw [hreqs]
      exact foldl_markEnd_req _ _ hhas (.inl ⟨hi, hnone⟩)
    · rw [hreqs]
      exact foldl_markEnd_other _ _ _ hj
    · rw [hframe]

end Sys2Proof.Proofs

/-! PROOFS. What leaves with a request and what a completion touches (R278, R316, R353, R443, R456). -/
namespace Sys2Proof.Proofs
open Sys2Proof Sys2Proof.Machine Sys2Proof.Laws

/-! ### Releases -/

/-- Nothing changed but what notifications, completions, and the release of pins and pages change. -/
def Released (s t : State) : Prop :=
  t = { s with
    regs := t.regs, errs := t.errs, msixPend := t.msixPend, out := t.out, qps := t.qps, accepted := t.accepted
    recs := t.recs, dir := t.dir, objs := t.objs, pages := t.pages, cfUsed := t.cfUsed }

theorem Released.refl (s : State) : Released s s := rfl

theorem Released.trans {s t u : State} (h : Released s t) (g : Released t u) : Released s u := by
  unfold Released at *
  rw [g, h]

theorem Released.foldl {α : Type} (f : State → α → State) (hf : ∀ s x, Released s (f s x)) (l : List α) (s : State) :
    Released s (l.foldl f s) := by
  induction l generalizing s with
  | nil => exact Released.refl s
  | cons x l ih => exact (hf s x).trans (ih _)

section
variable {s t : State} (h : Released s t)
include h

theorem Released.reqs : t.reqs = s.reqs := by rw [h]

theorem Released.pavs : t.pavs = s.pavs := by rw [h]

theorem Released.sdl : t.sdl = s.sdl := by rw [h]

theorem Released.mem : t.mem = s.mem := by rw [h]

theorem Released.terrs : t.terrs = s.terrs := by rw [h]

theorem Released.plots : t.plots = s.plots := by rw [h]

end

theorem OnlyNotes.released {s t : State} (h : OnlyNotes s t) : Released s t := by
  unfold OnlyNotes at h
  unfold Released
  rw [h]

theorem Pumped.released {k : Nat} {s t : State} (h : Pumped k s t) : Released s t := by
  unfold Released
  rw [h.frame]

theorem pumpAdmin_released (s : State) (src n : Nat) : Released s (s.pumpAdmin src n) := by
  by_cases h : src < 64
  · exact (pumpAdmin_pumped s h n).released
  · cases n with
    | zero => exact Released.refl s
    | succ n =>
      have hstays : s.pumpAdmin src (n + 1) = s := if_neg fun hc => h hc.1
      rw [hstays]
      exact Released.refl s

theorem wr_released (s : State) (f : Field) (v i k : Nat) : Released s (s.wr f v i k) := rfl

theorem svcComplete_released (s : State) (w : BitVec 128) (more : Bool) : Released s (s.svcComplete w more) := by
  have hwords : Released s ((List.range 4).foldl (fun (u : State) i => u.wr R.svcCpl (bits w (32 * i) 32) 0 i) s) :=
    Released.foldl _ (fun u i => wr_released u R.svcCpl (bits w (32 * i) 32) 0 i) _ s
  have hdone : Released s (((List.range 4).foldl (fun (u : State) i => u.wr R.svcCpl (bits w (32 * i) 32) 0 i) s).wr R.svcDone 1) :=
    hwords.trans rfl
  unfold State.svcComplete
  dsimp only
  split
  · exact hdone
  · exact hdone.trans rfl

theorem deliver_released (s : State) (src : Nat) (cid : Word32) (status result : Nat) (more : Bool) :
    Released s (s.deliver src cid status result more) := by
  unfold State.deliver
  split
  · exact svcComplete_released s _ _
  · exact (putEvent_pumped s _ _).released

/-- A completion reaches its source and lets the next command in. -/
theorem complete_released (s : State) (src : Nat) (cid : Word32) (status result : Nat) (more : Bool) :
    Released s (s.complete src cid status result more) := by
  unfold State.complete
  split
  · refine Released.trans (t := if more then s else { s with accepted := dropStarted src cid s.accepted }) ?_
      ((deliver_released _ src cid status result more).trans (pumpAdmin_released _ src 256))
    split <;> rfl
  · exact Released.refl s

theorem settleEntry_released (s : State) (slot : Nat) : Released s (s.settleEntry slot) := by
  unfold State.settleEntry
  split
  · dsimp only
    split
    · rfl
    · exact Released.trans (t := { s with dir := s.dir.filter fun x => x.1 != slot }) rfl (complete_released _ _ _ _ _ _)
  · exact Released.refl s

theorem freeRec_released (s : State) (i status : Nat) : Released s (s.freeRec i status) := by
  have hdrop : Released s ((s.dropRec i).settleEntry (s.adrec i).slot) :=
    Released.trans (t := s.dropRec i) rfl (settleEntry_released _ _)
  unfold State.freeRec
  dsimp only
  split
  · exact hdrop
  · exact hdrop.trans (complete_released _ _ _ _ _ _)

theorem maybeFree_released (s : State) (i : Nat) : Released s (s.maybeFree i) := by
  unfold State.maybeFree
  dsimp only
  split
  · exact Released.refl s
  · split
    · exact freeRec_released s i 0
    · exact freeRec_released s i 0
    · split
      · exact freeRec_released s i 0
      · exact Released.refl s
    · exact Released.refl s

theorem unpinRec_released (s : State) (i : Nat) : Released s (s.unpinRec i) :=
  Released.trans (t := s.setAdrec i { s.adrec i with pins := (s.adrec i).pins - 1 }) rfl (maybeFree_released _ i)

theorem freeObj_released (s : State) (h : Nat) : Released s (s.freeObj h) := by
  have hdrop : Released s { s with objs := s.objs.filter fun e => e.1 != h } := rfl
  unfold State.freeObj
  dsimp only
  split
  · have htold := hdrop.trans (OnlyNotes.released
      (notify_notes { s with objs := s.objs.filter fun e => e.1 != h } (s.obj h).fn 4))
    split
    · exact htold
    · exact htold.trans (complete_released _ _ _ _ _ _)
  · exact hdrop

theorem unpinObj_released (s : State) (h : Nat) : Released s (s.unpinObj h) := by
  unfold State.unpinObj
  split
  · exact Released.refl s
  · dsimp only
    have hpin : Released s (s.setObj h { s.obj h with pins := (s.obj h).pins - 1 }) := rfl
    split
    · exact hpin.trans (freeObj_released _ h)
    · exact hpin

theorem setPage_released (s : State) (g : Nat) (q : KvPage) : Released s (s.setPage g q) := rfl

theorem releasePage_released (s : State) (g : Nat) : Released s (s.releasePage g) := by
  unfold State.releasePage
  dsimp only
  split <;> split <;> exact setPage_released s g _

theorem hostOut_released (s : State) (fn addr : Nat) (bs : List Byte) : Released s (s.hostOut fn addr bs) := by
  unfold State.hostOut
  split <;> rfl

theorem report_released (s : State) (k : Nat) (d : BitVec 1024) (status : Nat) (p : Report) (n : Nat) (seed : Word64) :
    Released s (s.report k d status p n seed) := by
  unfold State.report
  split
  · exact (hostOut_released s _ _ _).trans (putEvent_pumped _ _ _).released
  · exact Released.refl s

/-! ### Requests that leave -/

theorem Tab.mem_keys_put_other {α : Type} [DecidableEq α] (d : α) (t : Tab α) {k j : Nat} (v : α) (h : j ≠ k) :
    j ∈ (Tab.put d t k v).map Prod.fst ↔ j ∈ t.map Prod.fst := by
  unfold Tab.put
  split
  · simp only [List.mem_map, List.mem_filter]
    refine ⟨fun ⟨e, he, hj⟩ => ⟨e, he.1, hj⟩, fun ⟨e, he, hj⟩ => ⟨e, ⟨he, ?_⟩, hj⟩⟩
    exact bne_iff_ne.2 (hj ▸ h)
  · rw [Tab.mem_keys_ins]
    exact or_iff_right h

/-- Nothing changed but releases and requests. -/
def LetGo (s t : State) : Prop :=
  t = { s with
    regs := t.regs, errs := t.errs, msixPend := t.msixPend, out := t.out, qps := t.qps, accepted := t.accepted
    recs := t.recs, dir := t.dir, objs := t.objs, pages := t.pages, cfUsed := t.cfUsed, reqs := t.reqs }

theorem LetGo.trans {s t u : State} (h : LetGo s t) (g : LetGo t u) : LetGo s u := by
  unfold LetGo at *
  rw [g, h]

theorem Released.letGo {s t : State} (h : Released s t) : LetGo s t := by
  unfold Released at h
  unfold LetGo
  rw [h]

theorem setReq_letGo (s : State) (i : Nat) (r : Req) : LetGo s (s.setReq i r) := rfl

section
variable {s t : State} (h : LetGo s t)
include h

theorem LetGo.pavs : t.pavs = s.pavs := by rw [h]

theorem LetGo.sdl : t.sdl = s.sdl := by rw [h]

theorem LetGo.mem : t.mem = s.mem := by rw [h]

theorem LetGo.terrs : t.terrs = s.terrs := by rw [h]

theorem LetGo.plots : t.plots = s.plots := by rw [h]

end

/-- From s to t a request left, and of the requests nothing else changed. -/
structure Left (i : Nat) (s t : State) : Prop where
  frame : LetGo s t
  gone : t.hasReq i = false
  others : ∀ j, j ≠ i → t.req j = s.req j
  listed : ∀ j, j ≠ i → t.hasReq j = s.hasReq j

/-- The state in which a request has given up its pages. -/
def pagesDropped (s : State) (i : Nat) : State :=
  let r := s.req i
  let t := (r.pages ++ r.draftPages).foldl (fun (u : State) o => match o with | none => u | some g => u.releasePage g) s
  { t with cfUsed := Tab.put 0 t.cfUsed r.pav (Tab.get 0 t.cfUsed r.pav -
    r.spill.foldl (fun (n : Nat) g => n + g.size / 4096) (if r.phase = .spilling then s.spillCost i else 0)) }

theorem dropPages_eq (s : State) (i : Nat) : s.dropPages i = (pagesDropped s i).setReq i { (pagesDropped s i).req i with
    pages := [], draftPages := [], spill := [], toMove := 0, reserved := 0, expiry := none } := rfl

theorem pagesDropped_released (s : State) (i : Nat) : Released s (pagesDropped s i) := by
  have hpage : ∀ (u : State) (o : Option Nat), Released u (match o with | none => u | some g => u.releasePage g) := by
    intro u o
    cases o
    · exact Released.refl u
    · exact releasePage_released u _
  exact (Released.foldl _ hpage ((s.req i).pages ++ (s.req i).draftPages) s).trans rfl

/-- A request as it gives up its pages. -/
def withoutPages (r : Req) : Req :=
  { r with pages := [], draftPages := [], spill := [], toMove := 0, reserved := 0, expiry := none }

/-- A request that leaves (R278). -/
theorem finish_left (s : State) (i status : Nat) : Left i s (s.finish i status) := by
  have hdrop := pagesDropped_released s i
  have hpages : (s.dropPages i).reqs = Tab.put {} s.reqs i (withoutPages (s.req i)) := by
    have hreq : (pagesDropped s i).req i = s.req i := by rw [State.req, hdrop.reqs]; rfl
    rw [dropPages_eq, hreq]
    show Tab.put {} (pagesDropped s i).reqs i _ = _
    rw [hdrop.reqs]
    rfl
  have hpins : Released (s.dropPages i)
      (((recsIn (s.req i).res).foldl State.unpinRec (s.dropPages i)).unpinObj (Rd.handle (s.req i).desc)) :=
    (Released.foldl _ unpinRec_released _ _).trans (unpinObj_released _ _)
  generalize hu : ((recsIn (s.req i).res).foldl State.unpinRec (s.dropPages i)).unpinObj (Rd.handle (s.req i).desc) = u at hpins
  have hlast : Released { u with reqs := u.reqs.filter fun e => e.1 != i } (s.finish i status) := by
    unfold State.finish
    dsimp only
    rw [hu]
    split
    · exact Released.refl _
    · exact report_released _ _ _ _ _ _ _
  have hreqs : (s.finish i status).reqs = (Tab.put {} s.reqs i (withoutPages (s.req i))).filter fun e => e.1 != i := by
    rw [hlast.reqs, hpins.reqs, hpages]
  refine ⟨?_, ?_, fun j hj => ?_, fun j hj => ?_⟩
  · have hset : LetGo s (s.dropPages i) := by
      rw [dropPages_eq]
      exact hdrop.letGo.trans (setReq_letGo _ _ _)
    have hfilter : LetGo u { u with reqs := u.reqs.filter fun e => e.1 != i } := rfl
    exact ((hset.trans hpins.letGo).trans hfilter).trans hlast.letGo
  · rw [State.hasReq, hreqs, List.any_eq_false]
    intro e he
    simpa using (List.mem_filter.1 he).2
  · rw [State.req, hreqs, Tab.get_filter_other hj, Tab.get_put_other _ hj]
    rfl
  · rw [Bool.eq_iff_iff, hasReq_iff, hasReq_iff, hreqs, ← Tab.mem_keys_put_other {} s.reqs (withoutPages (s.req i)) hj]
    simp only [List.mem_map, List.mem_filter]
    refine ⟨fun ⟨e, he, hje⟩ => ⟨e, he.1, hje⟩, fun ⟨e, he, hje⟩ => ⟨e, ⟨he, bne_iff_ne.2 (hje ▸ hj)⟩, hje⟩⟩

end Sys2Proof.Proofs

/-! PROOFS. KV pages: spills, page-ins and their expiry (R84, R274, R313, R327 to R330). -/
namespace Sys2Proof.Proofs
open Sys2Proof Sys2Proof.Machine Sys2Proof.Laws

/-! ### Moving bytes to the cold frame -/

theorem sub_length (bs : List Byte) (off n : Nat) : (sub bs off n).length = n := by
  have hlen : ((bs.drop off).take n).length ≤ n := List.length_take_le _ _
  simp only [sub, List.length_append, List.length_replicate]
  omega

theorem sub_getD {bs : List Byte} {n k : Nat} (hk : k < n) : (sub bs 0 n).getD k 0 = bs.getD k 0 := by
  simp only [sub, List.drop_zero, List.getD_eq_getElem?_getD]
  by_cases hl : k < bs.length
  · rw [List.getElem?_append_left (by rw [List.length_take]; omega), List.getElem?_take_of_lt hk]
  · rw [List.getElem?_append_right (by rw [List.length_take]; omega), List.getElem?_replicate,
      List.getElem?_eq_none (by omega)]
    split <;> rfl

/-- Neither port of the cold frame is lost. -/
def PortsUp (s : State) : Prop := s.cfm.port0.lost = false ∧ s.cfm.port1.lost = false

theorem PortsUp.port {s : State} (h : PortsUp s) (i : Nat) : (s.cfm.port i).lost = false := by
  unfold CfmS.port
  split
  · exact h.1
  · exact h.2

/-- Nothing changed but memory and the cold frame. -/
def OnlyMoved (s t : State) : Prop := t = { s with mem := t.mem, poison := t.poison, cfm := t.cfm }

theorem OnlyMoved.trans {s t u : State} (h : OnlyMoved s t) (g : OnlyMoved t u) : OnlyMoved s u := by
  unfold OnlyMoved at *
  rw [g, h]

theorem sealPage_frame (s : State) (page : Nat) (bs : List Byte) : ∃ c e, s.sealPage page bs =
    { s with cfm := { s.cfm with cipher := c, entry := e } } := by
  unfold State.sealPage
  split
  · exact ⟨s.cfm.cipher, s.cfm.entry, rfl⟩
  · exact ⟨_, _, rfl⟩

/-- A page is written whole. -/
theorem movePage_effect {s : State} (page : Nat) (bs : List Byte) (h : PortsUp s) :
    OnlyMoved s (s.movePage page bs) ∧ (s.movePage page bs).mem = Mem.write s.mem (coldBase + page * 4096) (sub bs 0 4096)
      ∧ PortsUp (s.movePage page bs) := by
  have hport := h.port (s.coldPort (page * 4096))
  unfold State.movePage
  rw [hport]
  simp only [Bool.false_eq_true, if_false]
  obtain ⟨c, e, hs⟩ := sealPage_frame { s.homeWrite (coldBase + page * 4096) (sub bs 0 4096) with
    cfm := { (s.homeWrite (coldBase + page * 4096) (sub bs 0 4096)).cfm with
      ctr := Tab.put 0 (s.homeWrite (coldBase + page * 4096) (sub bs 0 4096)).cfm.ctr page
        (Tab.get 0 (s.homeWrite (coldBase + page * 4096) (sub bs 0 4096)).cfm.ctr page + 1)
      buf := (s.homeWrite (coldBase + page * 4096) (sub bs 0 4096)).cfm.buf.filter (· != page)
      badPages := (s.homeWrite (coldBase + page * 4096) (sub bs 0 4096)).cfm.badPages.filter (· != page) } } page (sub bs 0 4096)
  rw [hs]
  exact ⟨rfl, rfl, h⟩

/-- The pages written so far: each byte of them is the one at its place. -/
theorem foldl_movePage (p0 : Nat) (bs : List Byte) (m : Nat) {s : State} (h : PortsUp s) :
    ∃ t, (List.range m).foldl (fun (t : State) i => t.movePage (p0 + i) (bs.drop (4096 * i))) s = t ∧ OnlyMoved s t ∧ PortsUp t
      ∧ ∀ k, k < 4096 * m → Mem.rd t.mem (coldBase + p0 * 4096 + k) = bs.getD k 0 := by
  induction m with
  | zero => exact ⟨s, rfl, rfl, h, fun k hk => absurd hk (Nat.not_lt_zero k)⟩
  | succ m ih =>
    obtain ⟨t, ht, honly, hup, hbytes⟩ := ih
    obtain ⟨hframe, hmem, hup'⟩ := movePage_effect (p0 + m) (bs.drop (4096 * m)) hup
    refine ⟨t.movePage (p0 + m) (bs.drop (4096 * m)), by rw [List.range_succ, List.foldl_append, ht]; rfl,
      honly.trans hframe, hup', fun k hk => ?_⟩
    rw [hmem]
    by_cases hlt : k < 4096 * m
    · rw [Mem.rd_write_other _ _ (.inl (by omega))]
      exact hbytes k hlt
    · have hat : coldBase + p0 * 4096 + k = coldBase + (p0 + m) * 4096 + (k - 4096 * m) := by omega
      have hin : k - 4096 * m < 4096 := by omega
      rw [hat, Mem.rd_write _ _ _ _ (by rw [sub_length]; exact hin), sub_getD hin]
      simp only [List.getD_eq_getElem?_getD, List.getElem?_drop]
      congr 2
      omega

/-- Bytes are written to the cold frame from a page boundary. -/
theorem moveOut_effect {s : State} {page : Nat} (bs : List Byte) (h : PortsUp s) :
    OnlyMoved s (s.moveOut (coldBase + page * 4096) bs)
      ∧ ∀ k, k < bs.length → Mem.rd (s.moveOut (coldBase + page * 4096) bs).mem (coldBase + page * 4096 + k) = bs.getD k 0 := by
  have hpage : (coldBase + page * 4096 - coldBase) / 4096 = page := by omega
  obtain ⟨t, ht, honly, _, hbytes⟩ := foldl_movePage page bs (cdiv bs.length 4096) h
  have hdef : s.moveOut (coldBase + page * 4096) bs = t := by
    rw [State.moveOut, hpage]
    exact ht
  rw [hdef]
  refine ⟨honly, fun k hk => hbytes k ?_⟩
  have hall : bs.length ≤ 4096 * cdiv bs.length 4096 := by
    unfold cdiv
    omega
  omega

theorem coldFits_page {s : State} {n a : Nat} (h : a ∈ s.coldFits n) : ∃ page, a = coldBase + page * 4096 := by
  obtain ⟨k, _, rfl⟩ := List.mem_map.1 (List.mem_filter.1 h).1
  exact ⟨k, rfl⟩

/-! ### Spills -/

/-- Nothing changed but bytes of memory. -/
def OnlyWritten (s t : State) : Prop := t = { s with mem := t.mem, poison := t.poison }

theorem homeWrite_onlyWritten (s : State) (a : Nat) (bs : List Byte) : OnlyWritten s (s.homeWrite a bs) := rfl

theorem OnlyWritten.trans {s t u : State} (h : OnlyWritten s t) (g : OnlyWritten t u) : OnlyWritten s u := by
  unfold OnlyWritten at *
  rw [g, h]

theorem OnlyWritten.ite {s t u : State} {c : Prop} [Decidable c] (h : OnlyWritten s t) (g : OnlyWritten s u) :
    OnlyWritten s (if c then t else u) := by
  split
  · exact h
  · exact g

theorem writePt_onlyWritten (s : State) (i : Nat) : OnlyWritten s (s.writePt i) :=
  OnlyWritten.ite ((homeWrite_onlyWritten s _ _).trans (homeWrite_onlyWritten _ _ _)) (homeWrite_onlyWritten s _ _)

/-- The end of a spill changes the request alone. -/
theorem spillDone_effect (s : State) (i : Nat) : ChangesReqs s (s.spillDone i)
    ∧ (∀ k, k ≠ i → (s.spillDone i).req k = s.req k)
    ∧ (s.spillDone i).req i = (match (s.req i).nextSpill with
      | some _ => s.req i
      | none => { s.req i with phase := .spilled, toMove := 0, expiry := s.expiryTick (s.req i).pav }) := by
  cases hnext : (s.req i).nextSpill with
  | some x =>
    have hdef : s.spillDone i = s := by simp only [State.spillDone, hnext]
    rw [hdef]
    exact ⟨rfl, fun _ _ => rfl, rfl⟩
  | none =>
    have hdef : s.spillDone i = s.setReq i { s.req i with
        phase := .spilled, toMove := 0, expiry := s.expiryTick (s.req i).pav } := by
      simp only [State.spillDone, hnext]
    rw [hdef]
    exact ⟨rfl, fun k hk => State.req_setReq_other _ _ hk, State.req_setReq _ _ _⟩

/-- The record of a page in the cold frame. -/
def spilledPage (s : State) (i j g n a : Nat) (d : Bool) : SpPage :=
  { j := j, draft := d, coldAt := a, size := n, key := if d then none else (s.req i).keys[j]?, swapMade := (s.page g).swapMade }

/-- A request whose page j has gone to the cold frame. -/
def spilledReq (s : State) (i j g n a : Nat) (d : Bool) : Req :=
  { (if d then { s.req i with draftPages := (s.req i).draftPages.set j none }
      else { s.req i with pages := (s.req i).pages.set j none }) with
    spill := (s.req i).spill ++ [spilledPage s i j g n a d], toMove := (s.req i).toMove - 1 }

/-- The state in which the page is in the cold frame and the request's record says so, before its page table is written. -/
def spilled (s : State) (i j g n a : Nat) (d : Bool) : State :=
  ((s.tickFree.moveOut a (Mem.read s.mem (s.pageAddr g) n)).releasePage g).setReq i (spilledReq s i j g n a d)

theorem spillPageWrite_spills {s0 s : State} {evs : List (Nat × MemEvent)} {i j g n : Nat} {d : Bool} (hs : s = s0.hbmEvents evs)
    (hph : (s.req i).phase = .spilling) (hnext : (s.req i).nextSpill = some (j, d, g))
    (hn : n = s.poolPageBytes (s.req i).pav d) (hpoison : s.poisoned (s.pageAddr g) n = false)
    (hwait : s.spanWaits (s.pageAddr g) n = false) (hgate : s.gate.errorState = false) (hfits : s.coldFits n ≠ []) :
    exec (.spillPageWrite i true evs) s0 =
      .next (State.spillDone ((spilled s i j g n (s.pickD (s.coldFits n)) d).writePt i) i) := by
  have hpage : (if (s.req i).phase = .spilling then (s.req i).nextSpill else none) = some (j, d, g) := (if_pos hph).trans hnext
  show execSpillPageWrite i true evs s0 = _
  simp only [execSpillPageWrite, ← hs, hpage, ← hn, hwait, hpoison, hgate, List.isEmpty_eq_false_iff.2 hfits,
    Bool.false_eq_true, if_false, Bool.not_false, Bool.and_self, if_true, ok]
  rfl

/-- A reference to a page that is released changes the pages alone. -/
theorem releasePage_onlyPages (s : State) (g : Nat) : s.releasePage g = { s with pages := (s.releasePage g).pages } := by
  unfold State.releasePage
  dsimp only
  split <;> split <;> rfl

/-- What a page that is spilled leaves. -/
theorem spilled_effect {s : State} {i j g n a : Nat} {d : Bool} (hup : PortsUp s) (ha : a ∈ s.coldFits n) :
    (∀ k < n, Mem.rd (spilled s i j g n a d).mem (a + k) = Mem.rd s.mem (s.pageAddr g + k))
      ∧ (spilled s i j g n a d).req i = spilledReq s i j g n a d
      ∧ (∀ k, k ≠ i → (spilled s i j g n a d).req k = s.req k) ∧ (spilled s i j g n a d).plots = s.plots
      ∧ (spilled s i j g n a d).regs = s.regs ∧ (spilled s i j g n a d).time = s.time := by
  obtain ⟨page, rfl⟩ := coldFits_page ha
  obtain ⟨honly, hbytes⟩ := moveOut_effect (s := s.tickFree) (page := page) (Mem.read s.mem (s.pageAddr g) n) hup
  have hrel := releasePage_onlyPages (s.tickFree.moveOut (coldBase + page * 4096) (Mem.read s.mem (s.pageAddr g) n)) g
  have hself : (spilled s i j g n (coldBase + page * 4096) d).req i = _ := State.req_setReq _ _ _
  have hother : ∀ k, k ≠ i → (spilled s i j g n (coldBase + page * 4096) d).req k = _ := fun k hk =>
    State.req_setReq_other _ _ hk
  unfold spilled at hself hother ⊢
  generalize (s.tickFree.moveOut (coldBase + page * 4096) (Mem.read s.mem (s.pageAddr g) n)).releasePage g = u at *
  generalize s.tickFree.moveOut (coldBase + page * 4096) (Mem.read s.mem (s.pageAddr g) n) = t at *
  refine ⟨fun k hk => ?_, hself, fun k hk => (hother k hk).trans ?_, ?_, ?_, ?_⟩
  · have hlen : k < (Mem.read s.mem (s.pageAddr g) n).length := by
      rw [Mem.read_length]
      exact hk
    have hmem : (u.setReq i (spilledReq s i j g n (coldBase + page * 4096) d)).mem = t.mem := by
      rw [State.setReq_mem, hrel]
    rw [hmem, hbytes k hlen, read_eq_map, List.getD_eq_getElem?_getD, List.getElem?_map, List.getElem?_range hk]
    rfl
  · rw [State.req, hrel, honly]
    rfl
  · show u.plots = _
    rw [hrel, honly]
    rfl
  · show u.regs = _
    rw [hrel, honly]
    rfl
  · show u.time = _
    rw [hrel, honly]
    rfl

/-! ### Page-ins -/

theorem indexFrom_grown (i : Nat) (s : State) (lo : Nat) : Grown i s (s.indexFrom i lo) := by
  have hkeys : Grown i s (s.setReq i { s.req i with keys := s.keysUpTo (s.req i) ((s.req i).commitLen / 16) }) :=
    setReq_grown ⟨rfl, rfl, rfl, rfl, rfl⟩
  have hfold : ∀ (f : State → Nat → State), (∀ u x, Grown i u (f u x)) → ∀ (l : List Nat) (u : State),
      Grown i u (l.foldl f u) := by
    intro f hf l
    induction l with
    | nil => exact fun u => Grown.refl i u
    | cons x l ih => exact fun u => (hf u x).trans (ih _)
  unfold State.indexFrom
  dsimp only
  refine Grown.ite hkeys (hkeys.trans (hfold _ (fun u x => ?_) _ _))
  split
  · exact Grown.ite (setPage_grown i u _ _) (Grown.refl i u)
  · exact Grown.refl i u

/-- A page-in with nothing left returns the request to PAUSED. -/
theorem pageInRead_ends {s : State} {i : Nat} (hreq : s.hasReq i = true) (hph : (s.req i).phase = .pagingIn)
    (hnone : (s.req i).spill = []) : exec (.pageInRead i) s =
      .next (State.tryRun ((s.setReq i { s.req i with phase := .paused }).indexFrom i 0) i) := by
  show execPageInRead i s = _
  simp only [execPageInRead, hreq, hph, hnone, Bool.true_eq_false, ne_eq, not_true_eq_false, or_self, if_false, ok]

/-- With free pages enough, nothing is evicted. -/
theorem evictFor_enough {s : State} {p i n : Nat} (l : List Nat) (h : n + s.reservedBut p i ≤ (s.freePages p false).length) :
    s.evictFor p i n l = s := by
  cases l with
  | nil => rfl
  | cons g l => exact if_pos h

/-- A page-in with more than one page left reads the next one back. -/
theorem pageInRead_reads {s : State} {i : Nat} {e : SpPage} {rest : List SpPage} (hreq : s.hasReq i = true)
    (hph : (s.req i).phase = .pagingIn) (hspill : (s.req i).spill = e :: rest) (hrest : rest ≠ [])
    (hpoison : s.poisoned e.coldAt e.size = false) (hfree : s.freePages (s.req i).pav e.draft ≠ [])
    (hroom : e.draft = false → 1 + s.reservedBut (s.req i).pav i ≤ (s.freePages (s.req i).pav false).length) :
    exec (.pageInRead i) s = .next (s.readBack i e) := by
  have hnone : (if e.draft then s else s.evictFor (s.req i).pav i 1 (s.evictable (s.req i).pav)) = s := by
    split
    · rfl
    · next hd => exact evictFor_enough _ (hroom (Bool.eq_false_iff.2 hd))
  show execPageInRead i s = _
  simp only [execPageInRead, hreq, hph, hspill, Bool.true_eq_false, ne_eq, not_true_eq_false, or_self, if_false, hpoison,
    Bool.false_eq_true, hnone, List.isEmpty_eq_false_iff.2 hfree, List.isEmpty_eq_false_iff.2 hrest, ok]

/-- The state in which the page is back in HBM and the request's record says so, before its page table is written. -/
def readBackTo (s : State) (i g : Nat) (e : SpPage) : State :=
  let t := ((s.tickFree.setPage g { st := .owned, refs := 1, j := e.j }).coldOpen e.coldAt e.size).homeWrite (s.pageAddr g)
    (Mem.read s.mem e.coldAt e.size)
  let t := t.setPage g { t.page g with swapMade := e.swapMade }
  State.dropCopy (t.setReq i (if e.draft then { s.req i with draftPages := (s.req i).draftPages.set e.j (some g) }
    else { s.req i with pages := (s.req i).pages.set e.j (some g), reserved := (s.req i).reserved - 1 })) i e

theorem readBack_eq (s : State) (i : Nat) (e : SpPage) : s.readBack i e =
    (readBackTo s i (s.pickD (s.freePages (s.req i).pav e.draft)) e).writePt i := rfl

/-- The request with a page back in HBM. -/
def readBackReq (r : Req) (g : Nat) (e : SpPage) : Req :=
  { (if e.draft then { r with draftPages := r.draftPages.set e.j (some g) }
      else { r with pages := r.pages.set e.j (some g), reserved := r.reserved - 1 }) with
    spill := r.spill.filter (· != e), toMove := r.toMove - 1 }

theorem readBackTo_effect (s : State) (i g : Nat) (e : SpPage) :
    (readBackTo s i g e).mem = Mem.write s.mem (s.pageAddr g) (Mem.read s.mem e.coldAt e.size)
      ∧ (readBackTo s i g e).req i = readBackReq (s.req i) g e ∧ (∀ j, j ≠ i → (readBackTo s i g e).req j = s.req j)
      ∧ (readBackTo s i g e).page g = { st := .owned, refs := 1, j := e.j, swapMade := e.swapMade }
      ∧ (∀ k, k ≠ g → (readBackTo s i g e).page k = s.page k) := by
  have hopen := coldOpen_frame (s.tickFree.setPage g { st := .owned, refs := 1, j := e.j }) e.coldAt e.size
  unfold readBackTo State.dropCopy
  dsimp only
  generalize (s.tickFree.setPage g { st := .owned, refs := 1, j := e.j }).coldOpen e.coldAt e.size = u at hopen
  have hreqs : u.reqs = s.reqs := by
    rw [hopen]
    rfl
  have hmem : u.mem = s.mem := by
    rw [hopen]
    rfl
  have hpages : u.pages = (s.tickFree.setPage g { st := .owned, refs := 1, j := e.j }).pages := by rw [hopen]
  have hpage : ∀ k, u.page k = (s.tickFree.setPage g { st := .owned, refs := 1, j := e.j }).page k := fun k => by
    rw [State.page, hpages]
    rfl
  refine ⟨by rw [← hmem]; rfl, ?_, fun j hj => ?_, ?_, fun k hk => ?_⟩
  · refine (State.req_setReq _ _ _).trans ?_
    rw [State.req_setReq]
    unfold readBackReq
    split <;> rfl
  · refine (State.req_setReq_other _ _ hj).trans ((State.req_setReq_other _ _ hj).trans ?_)
    rw [State.req, State.req, ← hreqs]
    rfl
  · refine (State.page_setPage _ _ _).trans ?_
    have hg : (u.homeWrite (s.pageAddr g) (Mem.read s.mem e.coldAt e.size)).page g =
        { st := .owned, refs := 1, j := e.j } := (hpage g).trans (State.page_setPage _ _ _)
    rw [hg]
  · exact (State.page_setPage_other _ _ hk).trans ((hpage k).trans (State.page_setPage_other _ _ hk))

/-! ### Expiry -/

theorem goPav_sdl (s : State) (p : Nat) (st : PavState) : (s.goPav p st).sdl = s.sdl := by
  unfold State.goPav
  split
  · rfl
  · rw [notifyAll_notes (s.setPav p { s.pav p with st := st, since := s.time }) 2]
    rfl

theorem goDev_sdl (s : State) (d : DevState) : (s.goDev d).sdl = s.sdl := by
  unfold State.goDev
  split
  · rfl
  · rw [notifyAll_notes]

theorem settleDev_sdl (s : State) : s.settleDev.sdl = s.sdl := by
  unfold State.settleDev
  dsimp only
  split
  · split
    · exact goDev_sdl _ _
    · rfl
  · split
    · rfl
    · exact goDev_sdl _ _
  · rfl

/-- A pavilion is to be closed with no resident request left. -/
def drainedNow (s : State) (p : Nat) : Prop := (s.pav p).st = .draining ∧ s.residents p = []

/-- A DRAINING pavilion without a resident closes; requests and the other pavilions stay. -/
theorem drained_effect (s : State) (p : Nat) : (s.drained p).reqs = s.reqs ∧ (s.drained p).sdl = s.sdl
    ∧ (∀ j, j ≠ p → (s.drained p).pav j = s.pav j) ∧ (drainedNow s p → ((s.drained p).pav p).st = .closed)
    ∧ (¬ drainedNow s p → s.drained p = s) := by
  by_cases h : drainedNow s p
  · obtain ⟨hst, hres⟩ := h
    have hdef : s.drained p = s.closePav p := if_pos ⟨hst, by rw [hres]; rfl⟩
    obtain ⟨hclosed, hother, _, _, _, hreqs⟩ := closePav_keeps s p
    have hsdl : (s.closePav p).sdl = s.sdl := by
      rw [State.closePav, hres]
      exact (settleDev_sdl _).trans (goPav_sdl s p .closed)
    rw [hdef]
    exact ⟨hreqs hres, hsdl, hother, fun _ => hclosed, fun hn => absurd ⟨hst, hres⟩ hn⟩
  · have hdef : s.drained p = s := if_neg fun hc => h ⟨hc.1, List.isEmpty_iff.1 hc.2⟩
    rw [hdef]
    exact ⟨rfl, rfl, fun _ _ => rfl, fun hd => absurd hd h, fun _ => rfl⟩

/-- Of the pavilions in a list each that is DRAINING without a resident closes. -/
theorem foldl_drained (l : List Nat) (s : State) : (l.foldl State.drained s).reqs = s.reqs ∧ (l.foldl State.drained s).sdl = s.sdl
    ∧ (∀ p, ¬ drainedNow s p → ((l.foldl State.drained s).pav p).st = (s.pav p).st)
    ∧ (∀ p, p ∈ l → drainedNow s p → ((l.foldl State.drained s).pav p).st = .closed) := by
  induction l generalizing s with
  | nil => exact ⟨rfl, rfl, fun _ _ => rfl, fun p hp => absurd hp List.not_mem_nil⟩
  | cons x l ih =>
    obtain ⟨hreqs, hsdl, hother, hclose, hkeep⟩ := drained_effect s x
    obtain ⟨ihreqs, ihsdl, ihkeep, ihclose⟩ := ih (s.drained x)
    have hres : ∀ p, (s.drained x).residents p = s.residents p := fun p => by rw [State.residents, hreqs]; rfl
    have hsame : ∀ p, p ≠ x → (drainedNow (s.drained x) p ↔ drainedNow s p) := fun p hp => by
      rw [drainedNow, drainedNow, hother p hp, hres]
    refine ⟨ihreqs.trans hreqs, ihsdl.trans hsdl, fun p hn => ?_, fun p hp hd => ?_⟩
    · by_cases hx : p = x
      · subst hx
        rw [hkeep hn] at ihkeep
        rw [List.foldl_cons, hkeep hn]
        exact ihkeep p hn
      · exact (ihkeep p (mt (hsame p hx).1 hn)).trans (congrArg Pav.st (hother p hx))
    · by_cases hx : p = x
      · subst hx
        have hclosed := hclose hd
        refine (ihkeep p fun h => ?_).trans hclosed
        exact absurd (h.1.symm.trans hclosed) (by decide)
      · exact ihclose p ((List.mem_cons.1 hp).resolve_left hx) ((hsame p hx).2 hd)

/-- The expiry tick of a spilled request has come. -/
def expired (now : Nat) (q : Req) : Prop := q.phase = .spilled ∧ ∃ x, q.expiry = some x ∧ x ≤ now

/-- One request at the TTL check. -/
def expire (now : Nat) (u : State) (e : Nat × Req) : State :=
  match e.2.expiry with
  | none => u
  | some x => if e.2.phase = .spilled ∧ x ≤ now then u.finish e.1 (e.2.ending.getD Code.kvExpired) else u

theorem expire_of_expired {now : Nat} (u : State) {e : Nat × Req} (h : expired now e.2) :
    expire now u e = u.finish e.1 (e.2.ending.getD Code.kvExpired) := by
  obtain ⟨hph, x, hx, hle⟩ := h
  simp only [expire, hx, hph, hle, and_self, if_true]

theorem expire_of_not {now : Nat} (u : State) {e : Nat × Req} (h : ¬ expired now e.2) : expire now u e = u := by
  unfold expire
  split
  · rfl
  · next x hx => exact if_neg fun hc => h ⟨hc.1, x, hx, hc.2⟩

/-- The requests of a list whose expiry has come leave, and no others. -/
theorem foldl_expire (now : Nat) (l : List (Nat × Req)) (u : State) :
    (l.foldl (expire now) u).pavs = u.pavs ∧ (l.foldl (expire now) u).sdl = u.sdl
      ∧ (∀ j, ((∃ e ∈ l, e.1 = j ∧ expired now e.2) ∨ u.hasReq j = false) → (l.foldl (expire now) u).hasReq j = false)
      ∧ (∀ j, (∀ e ∈ l, e.1 = j → ¬ expired now e.2) → (l.foldl (expire now) u).req j = u.req j) := by
  induction l generalizing u with
  | nil =>
    exact ⟨rfl, rfl, fun j h => h.resolve_left fun ⟨e, he, _⟩ => List.not_mem_nil he, fun _ _ => rfl⟩
  | cons e l ih =>
    obtain ⟨ihpavs, ihsdl, ihgone, ihkept⟩ := ih (expire now u e)
    by_cases h : expired now e.2
    · have hleft := finish_left u e.1 (e.2.ending.getD Code.kvExpired)
      rw [List.foldl_cons]
      rw [expire_of_expired u h] at ihpavs ihsdl ihgone ihkept ⊢
      refine ⟨ihpavs.trans hleft.frame.pavs, ihsdl.trans hleft.frame.sdl, fun j hj => ihgone j ?_, fun j hj => ?_⟩
      · by_cases hje : j = e.1
        · exact .inr (hje ▸ hleft.gone)
        · rcases hj with ⟨x, hx, hxj, hxe⟩ | hj
          · refine .inl ⟨x, (List.mem_cons.1 hx).resolve_left fun hxe' => hje ?_, hxj, hxe⟩
            rw [← hxj, hxe']
          · exact .inr ((hleft.listed j hje).trans hj)
      · have hje : j ≠ e.1 := fun hje => hj e List.mem_cons_self hje.symm h
        exact (ihkept j fun x hx => hj x (List.mem_cons_of_mem e hx)).trans (hleft.others j hje)
    · rw [List.foldl_cons]
      rw [expire_of_not u h] at ihpavs ihsdl ihgone ihkept ⊢
      refine ⟨ihpavs, ihsdl, fun j hj => ihgone j (hj.imp_left fun ⟨x, hx, hxj, hxe⟩ => ?_),
        fun j hj => ihkept j fun x hx => hj x (List.mem_cons_of_mem e hx)⟩
      exact ⟨x, (List.mem_cons.1 hx).resolve_left fun hxe' => h (hxe' ▸ hxe), hxj, hxe⟩

theorem ttlCheck_eq (s : State) : s.ttlCheck = (List.range 8).foldl State.drained (s.reqs.foldl (expire s.time)
    { s with sdl := { s.sdl with ttlDone := true, owed := { s.sdl.owed with ttl := false } } }) := rfl

/-- A TTL check with nothing due before it. -/
theorem kvTtlCheck_checks {s : State} (hdue : s.ttlDue = true) (hbefore : s.before (turnAt s.time 7 0) = []) :
    exec .kvTtlCheck s = .next s.ttlCheck := by
  show execKvTtlCheck s = _
  simp only [execKvTtlCheck, onlyIf, hdue, if_true, State.settle, hbefore, List.foldl_nil, State.takeDue]

/-- What a TTL check leaves (R84, R274, R330). -/
theorem ttlCheck_effect {s : State} (hr : Tab.Rises s.reqs) : s.ttlCheck.sdl.ttlDone = true ∧ s.ttlCheck.sdl.owed.ttl = false
    ∧ (∀ j q, (j, q) ∈ s.reqs → expired s.time q → s.ttlCheck.hasReq j = false)
    ∧ (∀ j q, (j, q) ∈ s.reqs → ¬ expired s.time q → s.ttlCheck.req j = q)
    ∧ (∀ p, ¬ ((s.pav p).st = .draining ∧ s.ttlCheck.residents p = []) → (s.ttlCheck.pav p).st = (s.pav p).st)
    ∧ (∀ p < 8, (s.pav p).st = .draining → s.ttlCheck.residents p = [] → (s.ttlCheck.pav p).st = .closed) := by
  rw [ttlCheck_eq]
  generalize hs : ({ s with sdl := { s.sdl with ttlDone := true, owed := { s.sdl.owed with ttl := false } } } : State) = s'
  obtain ⟨hpavs, hsdl, hgone, hkept⟩ := foldl_expire s.time s.reqs s'
  generalize s.reqs.foldl (expire s.time) s' = u at hpavs hsdl hgone hkept
  obtain ⟨hreqs, hsdl', hstay, hclose⟩ := foldl_drained (List.range 8) u
  generalize (List.range 8).foldl State.drained u = t at hreqs hsdl' hstay hclose
  have hpav : ∀ p, u.pav p = s.pav p := fun p => by
    rw [State.pav, hpavs, ← hs]
    rfl
  have hreq : ∀ j, t.req j = u.req j := fun j => by rw [State.req, State.req, hreqs]
  have hres : ∀ p, t.residents p = u.residents p := fun p => by rw [State.residents, State.residents, hreqs]
  refine ⟨by rw [hsdl', hsdl, ← hs], by rw [hsdl', hsdl, ← hs], fun j q hm he => ?_, fun j q hm he => ?_, fun p hn => ?_,
    fun p hp hst hnone => ?_⟩
  · rw [State.hasReq, hreqs]
    exact hgone j (.inl ⟨(j, q), hm, rfl, he⟩)
  · have hq : s.req j = q := Tab.get_of_mem hr hm
    rw [hreq, hkept j fun e he' hje => ?_, ← hs]
    · exact hq
    · have he2 : e.2 = q := by
        rw [← hq, ← hje]
        exact (Tab.get_of_mem hr he').symm
      rw [he2]
      exact he
  · refine (hstay p fun hd => hn ?_).trans (congrArg Pav.st (hpav p))
    rw [← hpav, hres]
    exact hd
  · refine hclose p (List.mem_range.2 hp) ?_
    rw [drainedNow, hpav, ← hres]
    exact ⟨hst, hnone⟩

/-- Settles O41: a page that is spilled, a page that is read back, the end of a page-in, and the TTL check. -/
theorem kvPages : Obligations.KvPages := by
  refine ⟨fun s0 s evs i j g n d hs hph hnext hn hpoison hwait hgate hfits hp0 hp1 => ?_, fun s i hreq hph hnone => ?_,
    fun s i e rest hreq hph hspill hrest hnot hpoison hfree hroom => ?_, fun s hr hdue hbefore => ?_⟩
  · have ha := pickD_mem s hfits
    have hexec := spillPageWrite_spills hs hph hnext hn hpoison hwait hgate hfits
    generalize s.pickD (s.coldFits n) = a at ha hexec
    obtain ⟨hbytes, hself, hother, hplots, hregs, htime⟩ := spilled_effect (i := i) (j := j) (g := g) (d := d) ⟨hp0, hp1⟩ ha
    generalize spilled s i j g n a d = w at hexec hbytes hself hother hplots hregs htime
    have hpt := writePt_onlyWritten w i
    obtain ⟨honly, hothers, hdone⟩ := spillDone_effect (w.writePt i) i
    have hreq : ∀ k, (w.writePt i).req k = w.req k := fun k => by
      rw [hpt]
      rfl
    have hexpiry : (w.writePt i).expiryTick (w.req i).pav = s.expiryTick (w.req i).pav := by
      have hr : (w.writePt i).regs = s.regs := by rw [hpt]; exact hregs
      have ht : (w.writePt i).time = s.time := by rw [hpt]; exact htime
      unfold State.expiryTick State.rd
      rw [hr, ht]
    have hpav : (w.req i).pav = (s.req i).pav := by
      rw [hself]
      unfold spilledReq
      split <;> rfl
    have hstay : (w.req i).phase = (s.req i).phase ∧ (w.req i).toMove = (s.req i).toMove - 1 := by
      rw [hself]
      unfold spilledReq
      split <;> exact ⟨rfl, rfl⟩
    rw [hreq] at hdone
    refine ⟨w, _, a, spilledPage s i j g n a d, hexec, ha, hbytes, by rw [honly], rfl, rfl, rfl, rfl, ?_, ?_, ?_, ?_, ?_, ?_,
      fun hnone => ?_, fun hsome => ?_, fun k hk => (hothers k hk).trans ((hreq k).trans (hother k hk)), ?_⟩
    · rw [hself]
      unfold spilledReq
      split <;> rfl
    · rw [hself]
      unfold spilledReq
      split <;> rfl
    · rw [hself]
      unfold spilledReq
      split <;> rfl
    · rw [hdone]
      split <;> rfl
    · rw [hdone]
      split <;> rfl
    · rw [hdone]
      split <;> rfl
    · rw [hdone, hnone]
      exact ⟨rfl, hexpiry.trans (congrArg s.expiryTick hpav)⟩
    · obtain ⟨x, hx⟩ := Option.ne_none_iff_exists'.1 hsome
      rw [hdone, hx]
      exact ⟨hstay.1.trans hph, hstay.2⟩
    · rw [honly, hpt]
      exact hplots
  · have hstart : Grown i (s.setReq i { s.req i with phase := .paused })
        (State.tryRun ((s.setReq i { s.req i with phase := .paused }).indexFrom i 0) i) :=
      (indexFrom_grown i _ 0).trans (tryRun_grown i _)
    obtain ⟨hp, _, _, hsp, ho⟩ := hstart.self
    rw [State.req_setReq] at hp hsp ho
    exact ⟨_, pageInRead_ends hreq hph hnone, hp, hsp.trans hnone, ho,
      fun j hj => (hstart.others j hj).trans (State.req_setReq_other _ _ hj), by rw [hstart.frame]; rfl, by rw [hstart.frame]; rfl⟩
  · have hexec := pageInRead_reads hreq hph hspill hrest hpoison hfree hroom
    have hg := pickD_mem s hfree
    rw [readBack_eq] at hexec
    generalize s.pickD (s.freePages (s.req i).pav e.draft) = g at hg hexec
    obtain ⟨hmem, hself, hother, hpage, hpages⟩ := readBackTo_effect s i g e
    generalize readBackTo s i g e = w at hexec hmem hself hother hpage hpages
    have hpt := writePt_onlyWritten w i
    have hreq' : ∀ k, (w.writePt i).req k = w.req k := fun k => by
      rw [hpt]
      rfl
    have hpg : ∀ k, (w.writePt i).page k = w.page k := fun k => by
      rw [hpt]
      rfl
    have hrest' : (s.req i).spill.filter (· != e) = rest := by
      rw [hspill, List.filter_cons_of_neg (by simp), List.filter_eq_self]
      exact fun x hx => bne_iff_ne.2 fun hxe => hnot (hxe ▸ hx)
    refine ⟨w, _, g, hexec, hg, hmem, rfl, ?_, ?_, ?_, ?_, ?_, by rw [hpg, hpage], by rw [hpg, hpage],
      fun k hk => (hreq' k).trans (hother k hk), fun k hk => (hpg k).trans (hpages k hk)⟩
    · rw [hreq', hself]
      unfold readBackReq
      split <;> rfl
    · rw [hreq', hself]
      unfold readBackReq
      split <;> rfl
    · rw [hreq', hself, readBackReq]
      exact hrest'
    · rw [hreq', hself]
      unfold readBackReq
      split <;> rfl
    · rw [hreq', hself]
      unfold readBackReq
      split <;> exact hph
  · obtain ⟨hdone, howed, hgone, hkept, hstay, hclose⟩ := ttlCheck_effect hr
    exact ⟨_, kvTtlCheck_checks hdue hbefore, hdone, howed, hgone, hkept, fun p hp => hstay p fun h => hp h.1, hclose,
      fun p hp => hstay p fun h => hp h.2⟩

end Sys2Proof.Proofs

/-! PROOFS. Rows of logits and commit points (R289, R297 to R306, R335, R364, R365, R450). -/
namespace Sys2Proof.Proofs
open Sys2Proof Sys2Proof.Machine Sys2Proof.Laws

/-! ### Rows -/

/-- A request whose row ends a pass runs, so that its record is not the default one. -/
theorem ends_running {s : State} {r : Req} (h : s.ends r = true) : r.phase = .running := by
  simp only [State.ends, Bool.and_eq_true, beq_iff_eq] at h
  exact h.1.1.1

theorem running_ne_default {r : Req} (h : r.phase = .running) : r ≠ {} := fun he => by
  rw [he] at h
  cases h

section Row
variable {s : State} {i : Nat} (logits : List Word32) (hreq : s.hasReq i = true) (hends : s.ends (s.req i) = true)
include hreq hends

section Target
variable (hmask : (s.req i).maskEmpty = false) (hopen : (s.req i).decided (s.stopsOf (s.req i)) = false)
include hmask hopen

/-- A target row of a round that is open, its selection object being lost. -/
theorem selection_lost (hobj : Rd.handle (s.req i).desc ≠ 0 ∧ s.poisoned (s.obj (Rd.handle (s.req i).desc)).addr
    (s.obj (Rd.handle (s.req i).desc)).size = true) :
    exec (.selection i false logits) s = .next (s.objLost (Rd.handle (s.req i).desc)) := by
  show execSelection i false logits s = _
  simp only [execSelection, hreq, hends, Bool.true_eq_false, or_self, if_false, Bool.false_eq_true, hmask, hopen, Bool.or_self, if_pos hobj]

variable (hobj : ¬ (Rd.handle (s.req i).desc ≠ 0 ∧ s.poisoned (s.obj (Rd.handle (s.req i).desc)).addr
  (s.obj (Rd.handle (s.req i).desc)).size = true))
include hobj

/-- A target row is drawn. -/
theorem selection_drawn {t : Nat} (ht : s.choose (s.req i) (s.req i).draws 1 logits = some t) :
    exec (.selection i false logits) s = .next (s.setReq i { s.req i with draws := (s.req i).draws ++ [t] }) := by
  show execSelection i false logits s = _
  simp only [execSelection, hreq, hends, Bool.true_eq_false, or_self, if_false, Bool.false_eq_true, hmask, hopen, Bool.or_self, if_neg hobj, ht]

/-- A mask that leaves no token. -/
theorem selection_empty (ht : s.choose (s.req i) (s.req i).draws 1 logits = none) : exec (.selection i false logits) s =
    .next (State.failReq (s.setReq i { s.req i with maskEmpty := true }) i Code.maskEmpty) := by
  show execSelection i false logits s = _
  simp only [execSelection, hreq, hends, Bool.true_eq_false, or_self, if_false, Bool.false_eq_true, hmask, hopen, Bool.or_self, if_neg hobj, ht]

end Target

/-- A draft row of a round that drafts gives a draft. -/
theorem selection_draft {t : Nat} (hdraws : (s.req i).draws = []) (hgo : (s.req i).draftStopped = false)
    (hroom : (s.req i).drafts.length < (s.req i).sched.depth)
    (hobj : ¬ (Rd.handle (s.req i).desc ≠ 0 ∧ s.poisoned (s.obj (Rd.handle (s.req i).desc)).addr
      (s.obj (Rd.handle (s.req i).desc)).size = true)) (ht : s.choose (s.req i) (s.req i).drafts 2 logits = some t) :
    exec (.selection i true logits) s = .next (s.setReq i { s.req i with drafts := (s.req i).drafts ++ [t], draftIn := [t] }) := by
  have hdrafts : ((s.req i).draws.isEmpty && !(s.req i).draftStopped && decide ((s.req i).drafts.length < (s.req i).sched.depth))
      = true := by
    rw [hdraws, hgo, decide_eq_true hroom]
    rfl
  show execSelection i true logits s = _
  simp only [execSelection, hreq, hends, Bool.true_eq_false, or_self, if_false, if_true, hdrafts, if_neg hobj, ht]

end Row

/-! ### Lost objects -/

/-- A user of a lost object draws no more, unless its round is decided. -/
def stopDraws (s v : State) (i : Nat) : State :=
  if (v.req i).decided (s.stopsOf (v.req i)) then v else v.setReq i { v.req i with maskEmpty := true }

/-- What the loss of an object does to one user of it. -/
def loseUser (s : State) (h : Nat) (u : State) (e : Nat × Req) : State :=
  if Rd.handle e.2.desc = h then stopDraws s (u.failReq e.1 Code.grammarLost) e.1 else u

theorem objLost_eq (s : State) (h : Nat) :
    s.objLost h = s.reqs.foldl (loseUser s h) (s.setObj h { s.obj h with lost := true }) := rfl

/-- A listed request stays listed under a record that is not the default one. -/
theorem setReq_lists {v : State} {i j : Nat} {r : Req} (hr : r ≠ {}) (hj : v.hasReq j = true) : (v.setReq i r).hasReq j = true := by
  have hreqs : (v.setReq i r).reqs = Tab.ins v.reqs i r := if_neg hr
  rw [hasReq_iff, hreqs, Tab.mem_keys_ins]
  exact .inr ((hasReq_iff v j).1 hj)

theorem stopDraws_effect (s v : State) (i : Nat) : (stopDraws s v i).objs = v.objs
    ∧ (∀ j, v.hasReq j = true → (stopDraws s v i).hasReq j = true)
    ∧ (∀ j, j ≠ i → (stopDraws s v i).req j = v.req j) ∧ ((stopDraws s v i).req i).draws = (v.req i).draws
    ∧ ((stopDraws s v i).req i).ending = (v.req i).ending := by
  unfold stopDraws
  split
  · exact ⟨rfl, fun _ h => h, fun _ _ => rfl, rfl, rfl⟩
  · have hne : ({ v.req i with maskEmpty := true } : Req) ≠ {} := fun he => Bool.noConfusion (congrArg Req.maskEmpty he)
    exact ⟨rfl, fun j hj => setReq_lists hne hj, fun j hj => State.req_setReq_other _ _ hj, by rw [State.req_setReq],
      by rw [State.req_setReq]⟩

/-- A REQUEST error leaves the objects, the requests that there are and what they have drawn. -/
theorem failReq_keeps (s : State) (i ev : Nat) : (s.failReq i ev).objs = s.objs
    ∧ (∀ j, (s.failReq i ev).hasReq j = s.hasReq j) ∧ (∀ j, j ≠ i → (s.failReq i ev).req j = s.req j)
    ∧ ((s.failReq i ev).req i).draws = (s.req i).draws
    ∧ (s.hasReq i = true → ((s.failReq i ev).req i).ending.isSome = true)
    ∧ ((s.req i).ending.isSome = true → ((s.failReq i ev).req i).ending.isSome = true) := by
  by_cases h : (s.hasReq i && (s.req i).ending.isNone) = true
  · obtain ⟨hhas, hnone⟩ := Bool.and_eq_true_iff.1 h
    have hraised := raise_onlyRaised s (e := reqErr s i ev 0) Cls.noConfusion rfl
    obtain ⟨hself, hother, _⟩ := failReq_effect ev 0 hhas (Option.isNone_iff_eq_none.1 hnone)
    have hdef : s.failReq i ev = (s.raise (reqErr s i ev 0)).markEnd i (Cls.request.code ev) := if_pos h
    refine ⟨?_, fun j => ?_, hother, by rw [hself], fun _ => by rw [hself]; rfl, fun _ => by rw [hself]; rfl⟩
    · rw [hdef, markEnd_changesReqs, hraised]
    · rw [hdef, markEnd_hasReq, State.hasReq, hraised]
      rfl
  · have hdef : s.failReq i ev = s := if_neg h
    rw [hdef]
    refine ⟨rfl, fun _ => rfl, fun _ _ => rfl, rfl, fun hhas => ?_, fun h => h⟩
    rw [hhas, Bool.true_and] at h
    exact Option.isSome_iff_ne_none.2 fun hn => h (by rw [hn]; rfl)

/-- One user of the object: it is marked to end, and its draws stand. -/
theorem loseUser_effect (s : State) (h : Nat) (u : State) (e : Nat × Req) : (loseUser s h u e).objs = u.objs
    ∧ (∀ j, u.hasReq j = true → (loseUser s h u e).hasReq j = true)
    ∧ (∀ j, ((loseUser s h u e).req j).draws = (u.req j).draws)
    ∧ (∀ j, (j ≠ e.1 ∨ Rd.handle e.2.desc ≠ h) → (loseUser s h u e).req j = u.req j)
    ∧ (∀ j, u.hasReq j = true → (e.1 = j ∧ Rd.handle e.2.desc = h ∨ (u.req j).ending.isSome = true) →
      ((loseUser s h u e).req j).ending.isSome = true) := by
  by_cases hh : Rd.handle e.2.desc = h
  · obtain ⟨hobjs, hhas, hother, hdraws, hmark, hkeep⟩ := failReq_keeps u e.1 Code.grammarLost
    obtain ⟨sobjs, shas, sother, sdraws, sending⟩ := stopDraws_effect s (u.failReq e.1 Code.grammarLost) e.1
    have hdef : loseUser s h u e = stopDraws s (u.failReq e.1 Code.grammarLost) e.1 := if_pos hh
    rw [hdef]
    refine ⟨sobjs.trans hobjs, fun j hj => shas j ((hhas j).trans hj), fun j => ?_, fun j hj => ?_, fun j hj hm => ?_⟩
    · by_cases hje : j = e.1
      · rw [hje, sdraws, hdraws]
      · rw [sother j hje, hother j hje]
    · have hje := hj.resolve_right fun hn => hn hh
      rw [sother j hje, hother j hje]
    · by_cases hje : j = e.1
      · subst hje
        rw [sending]
        exact hm.elim (fun _ => hmark hj) hkeep
      · rw [sother j hje, hother j hje]
        exact hm.resolve_left fun hc => hje hc.1.symm
  · have hdef : loseUser s h u e = u := if_neg hh
    rw [hdef]
    exact ⟨rfl, fun _ hj => hj, fun _ => rfl, fun _ _ => rfl, fun j _ hj => hj.resolve_left fun hc => hh hc.2⟩

/-- The users of the object in a list. -/
theorem foldl_loseUser (s : State) (h : Nat) (l : List (Nat × Req)) (u : State) :
    (l.foldl (loseUser s h) u).objs = u.objs
      ∧ (∀ j, ((l.foldl (loseUser s h) u).req j).draws = (u.req j).draws)
      ∧ (∀ j, (∀ e ∈ l, e.1 = j → Rd.handle e.2.desc ≠ h) → (l.foldl (loseUser s h) u).req j = u.req j)
      ∧ (∀ j, u.hasReq j = true → ((∃ e ∈ l, e.1 = j ∧ Rd.handle e.2.desc = h) ∨ (u.req j).ending.isSome = true) →
        ((l.foldl (loseUser s h) u).req j).ending.isSome = true) := by
  induction l generalizing u with
  | nil =>
    exact ⟨rfl, fun _ => rfl, fun _ _ => rfl, fun _ _ hm => hm.resolve_left fun ⟨_, he, _⟩ => List.not_mem_nil he⟩
  | cons e l ih =>
    obtain ⟨hobjs, hhas, hdraws, hother, hmark⟩ := loseUser_effect s h u e
    obtain ⟨ihobjs, ihdraws, ihother, ihmark⟩ := ih (loseUser s h u e)
    refine ⟨ihobjs.trans hobjs, fun j => (ihdraws j).trans (hdraws j), fun j hj => ?_, fun j hj hm => ihmark j (hhas j hj) ?_⟩
    · refine (ihother j fun x hx => hj x (List.mem_cons_of_mem e hx)).trans (hother j ?_)
      by_cases hje : j = e.1
      · exact .inr (hj e List.mem_cons_self hje.symm)
      · exact .inl hje
    · rcases hm with ⟨x, hx, hxj, hxh⟩ | hm
      · rcases List.mem_cons.1 hx with rfl | hx
        · exact .inr (hmark j hj (.inl ⟨hxj, hxh⟩))
        · exact .inl ⟨x, hx, hxj, hxh⟩
      · exact .inr (hmark j hj (.inr hm))

theorem not_lost_of {s : State} {h : Nat} {a n : Nat} (hor : h = 0 ∨ s.poisoned a n = false) :
    ¬ (h ≠ 0 ∧ s.poisoned a n = true) := by
  rintro ⟨hh, hp⟩
  rcases hor with h0 | hf
  · exact hh h0
  · exact absurd (hp.symm.trans hf) (by decide)

/-- Settles O42: a row that is drawn, a draft, an empty mask, and a lost object. -/
theorem selectionRows : Obligations.SelectionRows := by
  refine ⟨fun s i t logits hreq hends hmask hopen hobj ht => ?_, fun s i t logits hreq hends hdraws hgo hroom hobj ht => ?_,
    fun s i logits hreq hends hmask hopen hobj ht hend => ?_, fun s i h logits hr hreq hends hmask hopen hh hne hlost => ?_⟩
  · exact ⟨_, selection_drawn logits hreq hends hmask hopen (not_lost_of hobj) ht, by rw [State.req_setReq], by rw [State.req_setReq],
      by rw [State.req_setReq], fun j hj => State.req_setReq_other _ _ hj, rfl⟩
  · exact ⟨_, selection_draft logits hreq hends hdraws hgo hroom (not_lost_of hobj) ht, by rw [State.req_setReq],
      by rw [State.req_setReq], by rw [State.req_setReq]; exact hdraws, fun j hj => State.req_setReq_other _ _ hj, rfl⟩
  · have hself : (s.setReq i { s.req i with maskEmpty := true }).req i = _ := State.req_setReq _ _ _
    obtain ⟨he, ho, _⟩ := failReq_effect (s := s.setReq i { s.req i with maskEmpty := true }) (i := i) Code.maskEmpty 0
      (setReq_hasReq (running_ne_default (ends_running hends))) (by rw [hself]; exact hend)
    rw [hself] at he
    exact ⟨_, selection_empty logits hreq hends hmask hopen (not_lost_of hobj) ht, by rw [he], by rw [he], by rw [he],
      fun j hj => (ho j hj).trans (State.req_setReq_other _ _ hj)⟩
  · subst hh
    have hexec := selection_lost logits hreq hends hmask hopen ⟨hne, hlost⟩
    rw [objLost_eq] at hexec
    generalize Rd.handle (s.req i).desc = h at hexec
    obtain ⟨hobjs, hdraws, hother, hmark⟩ := foldl_loseUser s h s.reqs (s.setObj h { s.obj h with lost := true })
    have hobj : ∀ k, (s.reqs.foldl (loseUser s h) (s.setObj h { s.obj h with lost := true })).obj k =
        (s.setObj h { s.obj h with lost := true }).obj k := fun k => by rw [State.obj, hobjs]; rfl
    refine ⟨_, hexec, by rw [hobj, State.obj_setObj], fun k hk => (hobj k).trans (State.obj_setObj_other _ _ hk),
      fun j hj hjh => ⟨hmark j hj (.inl ?_), hdraws j⟩, fun j hj => hother j fun e he hje => ?_⟩
    · exact ⟨(j, s.req j), Tab.mem_of_key hr ((hasReq_iff s j).1 hj), rfl, hjh⟩
    · have hval : s.req j = e.2 := by
        rw [← hje]
        exact Tab.get_of_mem hr he
      rw [← hval]
      exact hj

/-! ### The tokens of a commit point -/

/-- Settles O43, by the recursion of `commitOf`: a token is committed while there is room and none before it has stopped. -/
theorem committedTokens : Obligations.CommittedTokens := by
  intro stops draws room
  induction draws generalizing room with
  | nil => cases room <;> exact ⟨Nat.zero_le _, List.prefix_rfl, nofun⟩
  | cons t ts ih =>
    cases room with
    | zero => exact ⟨Nat.le_refl _, List.nil_prefix, nofun⟩
    | succ n =>
      by_cases hstop : stops.contains t = true
      · have hdef : commitOf stops (t :: ts) (n + 1) = [t] := if_pos hstop
        rw [hdef]
        exact ⟨Nat.succ_le_succ (Nat.zero_le n), ⟨ts, rfl⟩, nofun⟩
      · have hdef : commitOf stops (t :: ts) (n + 1) = t :: commitOf stops ts n := if_neg hstop
        obtain ⟨hlen, hpre, hlast⟩ := ih n
        rw [hdef]
        refine ⟨Nat.succ_le_succ hlen, (List.cons_prefix_cons).2 ⟨rfl, hpre⟩, fun x hx => ?_⟩
        cases hrest : commitOf stops ts n with
        | nil => rw [hrest] at hx; cases hx
        | cons y ys =>
          rw [hrest] at hx hlast
          rcases List.mem_cons.1 hx with rfl | hx
          · exact Bool.eq_false_iff.2 hstop
          · exact hlast x hx

/-! ### What a commit point tells the host -/

/-- The write of token j of a commit point. -/
def tokenWrite (r : Req) (toks : List Nat) (j : Nat) : Out :=
  .hostWrite r.fn (Rd.outAddr r.desc + 64 + 4 * (r.out.length + j)) (leBytes 4 (toks.getD j 0))

/-- The TOKEN event of token j of a commit point. -/
def tokenEv (r : Req) (toks : List Nat) (j : Nat) : Ev :=
  { w := tokenEvent r.id (toks.getD j 0) (r.out.length + j) (j + 1 == toks.length) }

/-- Token j is told to the host. -/
def tellToken (r : Req) (toks : List Nat) (u : State) (j : Nat) : State :=
  let v := u.hostOut r.fn (Rd.outAddr r.desc + 64 + 4 * (r.out.length + j)) (leBytes 4 (toks.getD j 0))
  if Rd.finalOnly r.desc then v else v.putEvent r.queue (tokenEv r toks j)

theorem putEvent_live {s : State} {k : Nat} (e : Ev) (h : (s.qp k).live = true) :
    s.putEvent k e = s.setQp k { s.qp k with evbuf := (s.qp k).evbuf ++ [e] } := if_pos h

/-- The first n tokens have been told. -/
theorem foldl_tellToken (r : Req) (toks : List Nat) (n : Nat) {s : State} (hlive : (s.qp r.queue).live = true)
    (hst : s.dev.st ≠ .shuttered) : ∃ t, (List.range n).foldl (tellToken r toks) s = t
      ∧ t = { s with out := t.out, qps := t.qps } ∧ t.out = s.out ++ (List.range n).map (tokenWrite r toks)
      ∧ t.qp r.queue = { s.qp r.queue with evbuf := (s.qp r.queue).evbuf ++
          (if Rd.finalOnly r.desc then [] else (List.range n).map (tokenEv r toks)) } := by
  induction n with
  | zero => exact ⟨s, rfl, rfl, (List.append_nil _).symm, by simp⟩
  | succ n ih =>
    obtain ⟨t, ht, hframe, hout, hqp⟩ := ih
    have hst' : t.dev.st ≠ .shuttered := by
      rw [hframe]
      exact hst
    have hsaid : t.hostOut r.fn (Rd.outAddr r.desc + 64 + 4 * (r.out.length + n)) (leBytes 4 (toks.getD n 0)) =
        t.emit (tokenWrite r toks n) := if_neg hst'
    have hstep : (List.range (n + 1)).foldl (tellToken r toks) s = tellToken r toks t n := by
      rw [List.range_succ, List.foldl_append, ht]
      rfl
    rw [hstep, tellToken, hsaid]
    have houts : (t.emit (tokenWrite r toks n)).out = s.out ++ (List.range (n + 1)).map (tokenWrite r toks) := by
      rw [List.range_succ, List.map_append, ← List.append_assoc, ← hout]
      rfl
    by_cases hfinal : Rd.finalOnly r.desc = true
    · simp only [hfinal, if_true] at hqp ⊢
      refine ⟨_, rfl, ?_, houts, hqp⟩
      rw [hframe]
      rfl
    · simp only [hfinal, Bool.false_eq_true, if_false] at hqp ⊢
      have hlive' : ((t.emit (tokenWrite r toks n)).qp r.queue).live = true := by
        show (t.qp r.queue).live = true
        rw [hqp]
        exact hlive
      rw [putEvent_live _ hlive']
      refine ⟨_, rfl, ?_, houts, (State.qp_setQp _ _ _).trans ?_⟩
      · rw [hframe]
        rfl
      · show ({ t.qp r.queue with evbuf := (t.qp r.queue).evbuf ++ [tokenEv r toks n] } : Qp) = _
        rw [hqp, List.range_succ, List.map_append, ← List.append_assoc]
        rfl

theorem emitTokens_silent {s : State} {r : Req} (toks : List Nat) (h : r.cut = true ∨ (s.qp r.queue).live = false) :
    s.emitTokens r toks = s := if_pos h

theorem emitTokens_tells {s : State} {r : Req} (toks : List Nat) (hcut : r.cut = false) (hlive : (s.qp r.queue).live = true) :
    s.emitTokens r toks = (List.range toks.length).foldl (tellToken r toks) s :=
  if_neg fun h => h.elim (fun hc => Bool.noConfusion (hc.symm.trans hcut)) fun hl => Bool.noConfusion (hl.symm.trans hlive)

/-- A commit point tells the host before it changes any request. -/
theorem emitTokens_frame (s : State) (r : Req) (toks : List Nat) :
    s.emitTokens r toks = { s with out := (s.emitTokens r toks).out, qps := (s.emitTokens r toks).qps } := by
  have hone : ∀ (u : State) (j : Nat), tellToken r toks u j = { u with
      out := (tellToken r toks u j).out, qps := (tellToken r toks u j).qps } := by
    intro u j
    unfold tellToken State.putEvent State.hostOut
    dsimp only
    split <;> split <;> (try split) <;> rfl
  have hall : ∀ (l : List Nat) (u : State), l.foldl (tellToken r toks) u = { u with
      out := (l.foldl (tellToken r toks) u).out, qps := (l.foldl (tellToken r toks) u).qps } := by
    intro l
    induction l with
    | nil => exact fun u => rfl
    | cons j l ih =>
      intro u
      rw [List.foldl_cons, ih, hone u j]
  unfold State.emitTokens
  split
  · rfl
  · exact hall _ s

/-! ### What follows a commit -/

/-- What a commit point has put in a request's record. -/
def committedAs (r q : Req) : Prop :=
  q.out = r.out ∧ q.committed = r.committed ∧ q.draws = r.draws ∧ q.drafts = r.drafts ∧ q.commitLen = r.commitLen
    ∧ q.ending = r.ending

/-- From s to t the commit went on: neither the host nor any other request saw anything of it. -/
structure Follows (i : Nat) (s t : State) : Prop where
  out : t.out = s.out
  qps : t.qps = s.qps
  others : ∀ j, j ≠ i → t.req j = s.req j
  self : committedAs (s.req i) (t.req i)

theorem committedAs_refl (r : Req) : committedAs r r := ⟨rfl, rfl, rfl, rfl, rfl, rfl⟩

theorem Follows.trans {i : Nat} {s t u : State} (h : Follows i s t) (g : Follows i t u) : Follows i s u := by
  obtain ⟨a, b, c, d, e, f⟩ := h.self
  obtain ⟨a', b', c', d', e', f'⟩ := g.self
  exact ⟨g.out.trans h.out, g.qps.trans h.qps, fun j hj => (g.others j hj).trans (h.others j hj),
    a'.trans a, b'.trans b, c'.trans c, d'.trans d, e'.trans e, f'.trans f⟩

theorem Follows.of_reqs_eq {i : Nat} {s t : State} (ho : t.out = s.out) (hq : t.qps = s.qps) (hr : t.reqs = s.reqs) :
    Follows i s t := by
  have hreq : ∀ j, t.req j = s.req j := fun j => by rw [State.req, State.req, hr]
  exact ⟨ho, hq, fun j _ => hreq j, (hreq i).symm ▸ committedAs_refl _⟩

theorem setReq_follows {i : Nat} {s : State} {r : Req} (h : committedAs (s.req i) r) : Follows i s (s.setReq i r) :=
  ⟨rfl, rfl, fun _ hj => State.req_setReq_other _ _ hj, by rw [State.req_setReq]; exact h⟩

theorem Follows.foldl {i : Nat} {α : Type} (f : State → α → State) (hf : ∀ s x, Follows i s (f s x)) (l : List α) (s : State) :
    Follows i s (l.foldl f s) := by
  induction l generalizing s with
  | nil => exact Follows.of_reqs_eq rfl rfl rfl
  | cons x l ih => exact (hf s x).trans (ih _)

theorem writePt_follows (i : Nat) (s : State) : Follows i s (s.writePt i) := by
  have hpt := writePt_onlyWritten s i
  exact Follows.of_reqs_eq (by rw [hpt]) (by rw [hpt]) (by rw [hpt])

theorem moveGrammar_follows (i : Nat) (s : State) (toks : List Nat) : Follows i s (s.moveGrammar i toks) := by
  unfold State.moveGrammar
  dsimp only
  split
  · refine Follows.foldl _ (fun u t => ?_) toks s
    have hgram : ∀ g, Follows i u (u.setReq i { u.req i with gram := g }) := fun g =>
      setReq_follows ⟨rfl, rfl, rfl, rfl, rfl, rfl⟩
    split
    · exact (hgram _).trans (Follows.of_reqs_eq rfl rfl rfl)
    · exact hgram _
  · exact Follows.of_reqs_eq rfl rfl rfl

theorem indexFrom_follows (i : Nat) (s : State) (lo : Nat) : Follows i s (s.indexFrom i lo) := by
  have hkeys : Follows i s (s.setReq i { s.req i with keys := s.keysUpTo (s.req i) ((s.req i).commitLen / 16) }) :=
    setReq_follows ⟨rfl, rfl, rfl, rfl, rfl, rfl⟩
  have hsame : ∀ u : State, Follows i u u := fun u => Follows.of_reqs_eq rfl rfl rfl
  have hpage : ∀ (u : State) (g : Nat) (q : KvPage), Follows i u (u.setPage g q) := fun u g q => Follows.of_reqs_eq rfl rfl rfl
  unfold State.indexFrom
  dsimp only
  split
  · exact hkeys
  · refine hkeys.trans (Follows.foldl _ (fun u j => ?_) _ _)
    split
    · split
      · exact hpage u _ _
      · exact hsame u
    · exact hsame u

theorem countCommit_follows (i : Nat) (s : State) (p d a : Nat) : Follows i s (s.countCommit p d a) := by
  unfold State.countCommit
  dsimp only
  split <;> exact Follows.of_reqs_eq rfl rfl rfl

/-- A request whose record is not the default one is listed. -/
theorem hasReq_of_ne {s : State} {i : Nat} (h : s.req i ≠ {}) : s.hasReq i = true := by
  have hnone : ∀ t : Tab Req, i ∉ t.map Prod.fst → Tab.get {} t i = {} := by
    intro t
    induction t with
    | nil => exact fun _ => rfl
    | cons e t ih =>
      intro hn
      obtain ⟨hne, ht⟩ := not_or.1 (mt List.mem_cons.2 hn)
      exact (if_neg (Ne.symm hne)).trans (ih ht)
  refine Decidable.byContradiction fun hc => ?_
  exact h (hnone s.reqs fun hm => hc ((hasReq_iff s i).2 hm))

/-! ### The commit -/

/-- A request's record as its commit point leaves it. -/
def committedReq (s : State) (r : Req) (toks : List Nat) : Req :=
  let out := r.out ++ toks
  let stop := toks.any fun t => (s.stopsOf r).contains t
  let c := r.prompt.length + r.out.length
  { r with
    out := out, commitLen := c + toks.length - 1
    draftLen := min (c + toks.length - 1)
      (if r.prefill then c else if r.drafts.isEmpty then r.draftLen else c + r.drafts.length - 1)
    committed := true, drafts := [], draws := [], draftStopped := false
    report := { r.report with
      stop := r.report.stop || stop, maxed := r.report.maxed || (decide (Rd.maxTokens r.desc ≤ out.length) && !stop)
      drafted := r.report.drafted + r.sched.depth
      accepted := r.report.accepted + (if r.sched.depth = 0 then 0 else (if r.maskEmpty then toks.length else toks.length - 1)) } }

/-- A commit point stops the request: a token stops it, or it has reached its limit (R298). -/
def stopsNow (s : State) (r : Req) (toks : List Nat) : Bool :=
  toks.any (fun t => (s.stopsOf r).contains t) || decide (Rd.maxTokens r.desc ≤ (r.out ++ toks).length)

/-- The state in which the tokens are told, committed and indexed. -/
def afterCommit (s : State) (i : Nat) (toks : List Nat) : State :=
  let r := s.req i
  let s3 := (((((s.emitTokens r toks).setReq i (committedReq s r toks)).writePt i).moveGrammar i toks).indexPages i)
  if r.prefill then s3
  else s3.countCommit r.pav r.sched.depth (if r.maskEmpty then toks.length else toks.length - 1)

theorem commit_eq (s : State) (i : Nat) (toks : List Nat) : s.commit i toks =
    if stopsNow s (s.req i) toks then (afterCommit s i toks).markEnd i 0 else afterCommit s i toks := by
  have hreq : (s.emitTokens (s.req i) toks).req i = s.req i := by
    rw [emitTokens_frame]
    rfl
  unfold State.commit
  dsimp only
  rw [hreq]
  rfl

theorem afterCommit_follows (s : State) (i : Nat) (toks : List Nat) :
    Follows i ((s.emitTokens (s.req i) toks).setReq i (committedReq s (s.req i) toks)) (afterCommit s i toks) := by
  have hindex := ((writePt_follows i ((s.emitTokens (s.req i) toks).setReq i (committedReq s (s.req i) toks))).trans
    (moveGrammar_follows i _ toks)).trans (indexFrom_follows i _ ((((s.emitTokens (s.req i) toks).setReq i
      (committedReq s (s.req i) toks)).writePt i).moveGrammar i toks |>.req i).keys.length)
  unfold afterCommit
  dsimp only
  split
  · exact hindex
  · exact hindex.trans (countCommit_follows i _ _ _ _)

/-- A commit point of a decided round, with no draft missing. -/
theorem commitPoint_commits {s : State} {i : Nat} (hreq : s.hasReq i = true) (hends : s.ends (s.req i) = true)
    (hopen : (s.pav (s.req i).pav).st ≠ .closed) (hgood : (s.req i).poisoned = false)
    (hdec : (s.req i).decided (s.stopsOf (s.req i)) = true)
    (hfull : (s.req i).sched.depth ≤ (s.req i).drafts.length ∨ (s.req i).prefill = true) :
    exec (.commitPoint i) s = .next (s.commit i (commitOf (s.stopsOf (s.req i)) (s.req i).draws
      (Rd.maxTokens (s.req i).desc - (s.req i).out.length))) := by
  have hshort : (decide ((s.req i).drafts.length < (s.req i).sched.depth) && !(s.req i).prefill) = false := by
    rcases hfull with h | h
    · rw [decide_eq_false (Nat.not_lt.2 h), Bool.false_and]
    · rw [h, Bool.not_true, Bool.and_false]
  show execCommitPoint i s = _
  simp only [execCommitPoint, hreq, hends, hopen, Bool.true_eq_false, or_self, if_false, hshort, hgood, hdec, Bool.or_true,
    if_true, Bool.false_eq_true, ok]

/-- Nothing that raising an error changes, but a request's record. -/
theorem commitPoint_poisoned {s : State} {i : Nat} (hreq : s.hasReq i = true) (hends : s.ends (s.req i) = true)
    (hopen : (s.pav (s.req i).pav).st ≠ .closed) (hbad : (s.req i).poisoned = true) :
    ∃ u, OnlyRaised s u ∧ exec (.commitPoint i) s = .next (u.setReq i { s.req i with
      committed := true, drafts := [], draws := [], draftStopped := false }) := by
  refine ⟨if decide ((s.req i).drafts.length < (s.req i).sched.depth) && !(s.req i).prefill then
      s.raise { cls := .corrected, event := Code.draftShort, pav := some (s.req i).pav, unit := 3, inst := (s.req i).pav,
                d0 := (s.req i).id } else s, ?_, ?_⟩
  · split
    · exact raise_onlyRaised s Cls.noConfusion rfl
    · rfl
  · show execCommitPoint i s = _
    simp only [execCommitPoint, hreq, hends, hopen, Bool.true_eq_false, or_self, if_false, hbad, if_true, ok]

/-- Marking a request's end changes no more than the mark of its record. -/
theorem markEnd_mark {s : State} {i : Nat} (status : Nat) (h : s.hasReq i = true) :
    (s.markEnd i status).out = s.out ∧ (s.markEnd i status).qps = s.qps ∧ (∀ j, j ≠ i → (s.markEnd i status).req j = s.req j)
      ∧ ∃ e : Nat, (s.markEnd i status).req i = { s.req i with ending := some e } := by
  cases he : (s.req i).ending with
  | none =>
    rw [markEnd_of_none status h he]
    exact ⟨rfl, rfl, fun j hj => State.req_setReq_other _ _ hj, status, State.req_setReq _ _ _⟩
  | some e =>
    have hsame : s.markEnd i status = s := if_neg (by rw [h, he]; exact Bool.false_ne_true)
    rw [hsame]
    refine ⟨rfl, rfl, fun _ _ => rfl, e, ?_⟩
    rw [← he]

theorem stopsNow_iff {s : State} {r : Req} {toks : List Nat} : stopsNow s r toks = true ↔
    (∃ x ∈ toks, (s.stopsOf r).contains x = true) ∨ Rd.maxTokens r.desc ≤ (r.out ++ toks).length := by
  rw [stopsNow, Bool.or_eq_true, List.any_eq_true, decide_eq_true_eq]

/-- What a commit point has told the host before it changes a record. -/
theorem emitTokens_said (s : State) (r : Req) (toks : List Nat) :
    (r.cut = false → (s.qp r.queue).live = true → s.dev.st ≠ .shuttered →
      (s.emitTokens r toks).out = s.out ++ (List.range toks.length).map (tokenWrite r toks)
      ∧ ((s.emitTokens r toks).qp r.queue).evbuf = (s.qp r.queue).evbuf ++
          (if Rd.finalOnly r.desc then [] else (List.range toks.length).map (tokenEv r toks)))
    ∧ ((r.cut = true ∨ (s.qp r.queue).live = false) →
      (s.emitTokens r toks).out = s.out ∧ (s.emitTokens r toks).qps = s.qps) := by
  refine ⟨fun hcut hlive hst => ?_, fun h => ?_⟩
  · obtain ⟨t, ht, _, hout, hqp⟩ := foldl_tellToken r toks toks.length hlive hst
    rw [emitTokens_tells toks hcut hlive, ht, hqp]
    exact ⟨hout, rfl⟩
  · rw [emitTokens_silent toks h]
    exact ⟨rfl, rfl⟩

/-- What a commit leaves, in the terms of the state in which its tokens have been told. -/
theorem commit_effect (s : State) (i : Nat) (toks : List Nat) :
    (s.commit i toks).out = (s.emitTokens (s.req i) toks).out ∧ (s.commit i toks).qps = (s.emitTokens (s.req i) toks).qps
      ∧ (∀ j, j ≠ i → (s.commit i toks).req j = s.req j)
      ∧ ((s.commit i toks).req i).out = (s.req i).out ++ toks ∧ ((s.commit i toks).req i).committed = true
      ∧ ((s.commit i toks).req i).draws = [] ∧ ((s.commit i toks).req i).drafts = []
      ∧ ((s.commit i toks).req i).commitLen = (s.req i).prompt.length + (s.req i).out.length + toks.length - 1
      ∧ (stopsNow s (s.req i) toks = true → ((s.commit i toks).req i).ending.isSome = true)
      ∧ (¬ stopsNow s (s.req i) toks = true → ((s.commit i toks).req i).ending = (s.req i).ending) := by
  have hfol := afterCommit_follows s i toks
  have hstart : ((s.emitTokens (s.req i) toks).setReq i (committedReq s (s.req i) toks)).req i = _ := State.req_setReq _ _ _
  obtain ⟨hout, hcom, hdraws, hdrafts, hlen, hend⟩ := hfol.self
  rw [hstart] at hout hcom hdraws hdrafts hlen hend
  have hothers : ∀ j, j ≠ i → (afterCommit s i toks).req j = s.req j := fun j hj => by
    refine (hfol.others j hj).trans ((State.req_setReq_other _ _ hj).trans ?_)
    rw [emitTokens_frame]
    rfl
  have hlisted : (afterCommit s i toks).hasReq i = true := hasReq_of_ne fun he => by
    rw [he] at hcom
    cases hcom
  have hsaid : (afterCommit s i toks).out = (s.emitTokens (s.req i) toks).out := hfol.out
  have hqps : (afterCommit s i toks).qps = (s.emitTokens (s.req i) toks).qps := hfol.qps
  rw [commit_eq]
  by_cases hstop : stopsNow s (s.req i) toks = true
  · obtain ⟨ho, hq, hj, e, he⟩ := markEnd_mark 0 hlisted
    rw [if_pos hstop, he, ho, hq]
    exact ⟨hsaid, hqps, fun j hne => (hj j hne).trans (hothers j hne), hout, hcom, hdraws, hdrafts, hlen, fun _ => rfl,
      fun hn => absurd hstop hn⟩
  · rw [if_neg hstop]
    exact ⟨hsaid, hqps, hothers, hout, hcom, hdraws, hdrafts, hlen, fun h => absurd h hstop, fun _ => hend⟩

/-- Settles O44: a poisoned request commits nothing; any other tells its tokens and takes them in. -/
theorem commitPoints : Obligations.CommitPoints := by
  refine ⟨fun s i hreq hends hopen hbad => ?_, fun s i r toks hreq hr hends hopen hgood hdec hfull htoks => ?_⟩
  · obtain ⟨u, hu, hexec⟩ := commitPoint_poisoned hreq hends hopen hbad
    have hothers : ∀ j, u.req j = s.req j := fun j => by
      rw [hu]
      rfl
    exact ⟨_, hexec, by rw [State.req_setReq], by rw [State.req_setReq], by rw [State.req_setReq], by rw [State.req_setReq],
      fun j hj => (State.req_setReq_other _ _ hj).trans (hothers j), hu.mem, by rw [State.setReq_qps, hu]⟩
  · subst hr
    have hexec := commitPoint_commits hreq hends hopen hgood hdec hfull
    rw [← htoks] at hexec
    obtain ⟨hout, hqps, hothers, hself, hcom, hdraws, hdrafts, hlen, hstop, hgo⟩ := commit_effect s i toks
    obtain ⟨htell, hsilent⟩ := emitTokens_said s (s.req i) toks
    refine ⟨_, hexec, hself, hcom, hdraws, hdrafts, hlen, fun h => hstop (stopsNow_iff.2 h), fun h => hgo (mt stopsNow_iff.1 h),
      hothers, fun hcut hlive hst => ?_, fun h => ?_⟩
    · rw [hout, State.qp, hqps]
      exact htell hcut hlive hst
    · rw [hout, hqps]
      exact hsilent h

end Sys2Proof.Proofs

/-! PROOFS. The pavilion commands and what closes a pavilion. -/
namespace Sys2Proof.Proofs
open Sys2Proof Sys2Proof.Machine Sys2Proof.Laws

theorem onlyIf_of {c : Bool} {s t : State} (h : c = true) : onlyIf c s t = .next t := congrArg Host.Outcome.next (if_pos h)

theorem onlyIf_not {c : Bool} {s t : State} (h : c = false) : onlyIf c s t = .next s :=
  congrArg Host.Outcome.next (if_neg (by rw [h]; exact Bool.false_ne_true))

/-! ### What a notice leaves of the registers -/

/-- A field whose register no notice to a function changes. -/
def Quiet (f : Field) (inst i : Nat) : Prop := ∀ fn, fn < 64 → f.key inst i ≠ R.fnNotify.key fn 0

theorem notifyAll_rd (s : State) (bit : Nat) {f : Field} {inst i : Nat} (h : Quiet f inst i) :
    (s.notifyAll bit).rd f inst i = s.rd f inst i := by
  have hall : ∀ (l : List Nat) (u : State), (∀ fn ∈ l, fn < 64) →
      (l.foldl (fun t fn => t.notify fn bit) u).rd f inst i = u.rd f inst i := by
    intro l
    induction l with
    | nil => exact fun _ _ => rfl
    | cons fn l ih =>
      intro u hl
      exact (ih (u.notify fn bit) fun x hx => hl x (List.mem_cons_of_mem fn hx)).trans
        (notify_rd u fn bit f inst i (h fn (hl fn List.mem_cons_self)))
  unfold State.notifyAll
  split
  · exact hall _ s fun fn hfn => List.mem_range.1 hfn
  · rfl

theorem goPav_rd (s : State) (p : Nat) (st : PavState) {f : Field} {inst i : Nat} (h : Quiet f inst i) :
    (s.goPav p st).rd f inst i = s.rd f inst i := by
  unfold State.goPav
  split
  · rfl
  · exact notifyAll_rd _ 2 h

/-- The terraces of a pavilion stand in a register of their own. -/
theorem terraces_quiet {p : Nat} (hp : p < 8) : Quiet R.terraces p 0 := by
  intro fn hfn hk
  simp only [Field.key, R.terraces, R.fnNotify] at hk
  omega

theorem servTerrs_congr {s t : State} {p : Nat} (hrd : t.rd R.terraces p = s.rd R.terraces p) (hterrs : t.terrs = s.terrs) :
    t.servTerrs p = s.servTerrs p := by
  unfold State.servTerrs State.terr
  rw [hrd, hterrs]

theorem goPav_self (s : State) (p : Nat) (st : PavState) : ((s.goPav p st).pav p).st = st := by
  rw [goPav_pav]
  by_cases h : (s.pav p).st = st
  · rw [if_neg fun hc => hc.2 h]
    exact h
  · rw [if_pos ⟨rfl, h⟩]

theorem goPav_other (s : State) {p j : Nat} (st : PavState) (h : j ≠ p) : (s.goPav p st).pav j = s.pav j := by
  rw [goPav_pav, if_neg fun hc => h hc.1]

/-! ### PAV_OPEN and PAV_DRAIN -/

/-- A privileged command of a source without the PF's rights is refused. -/
theorem runCmd_of_refused {s : State} {src op : Nat} {cid : Word32} {a : AdminCmd} {act : BitVec 1024 → State → State}
    (h : s.findCmd src cid op = some a) (hpriv : privileged op = true) (hsrc : pfRights src = false) :
    s.runCmd src cid op act = ({ s with accepted := markStarted src cid op s.accepted } : State).complete src cid
      Code.notPermitted := by
  simp only [State.runCmd, h, hpriv, hsrc, Bool.not_false, Bool.and_self, if_true]

theorem granted {src : Nat} (op : Nat) (h : pfRights src = true) : (privileged op && !pfRights src) = false := by
  rw [h, Bool.not_true, Bool.and_false]

/-- PAV_OPEN of a pavilion that may be opened has begun. -/
def loadingAgain (t : State) (p : Nat) : State :=
  { t.goPav p .loading with
    wgts := Tab.mapAll {} (fun k g => if k / 16 = p then g.retried else g) (t.goPav p .loading).wgts }

theorem pavOpen_closed {t : State} {p src : Nat} {cid : Word32} (hp : p < 8) (hst : (t.pav p).st = .closed)
    (hdef : t.defined p = true) (hterr : (t.servTerrs p).isEmpty = false) :
    t.pavOpen p src cid = (loadingAgain t p).complete src cid 0 := by
  have hserv : (loadingAgain t p).servTerrs p = t.servTerrs p :=
    servTerrs_congr (goPav_rd t p .loading (terraces_quiet hp)) (goPav_keeps t p .loading).2.2
  have hempty : ¬ ((loadingAgain t p).servTerrs p).isEmpty = true := by
    rw [hserv, hterr]
    exact Bool.false_ne_true
  rw [State.pavOpen, hst]
  exact (if_pos hdef).trans (congrArg (fun u : State => u.complete src cid 0) (if_neg hempty))

/-- PAV_OPEN and PAV_DRAIN are their meaning when their source has the PF's rights. -/
theorem exec_pavOpen {s : State} {src : Nat} {cid : Word32} {a : AdminCmd} (h : s.findCmd src cid 0x40 = some a)
    (hsrc : pfRights src = true) : exec (.pavOpen src cid) s =
      .next (if 8 ≤ byteAt a.img 24 1
        then ({ s with accepted := markStarted src cid 0x40 s.accepted } : State).complete src cid Code.pavUndefined
        else ({ s with accepted := markStarted src cid 0x40 s.accepted } : State).pavOpen (byteAt a.img 24 1) src cid) :=
  congrArg Host.Outcome.next (runCmd_of_found h (granted 0x40 hsrc))

theorem exec_pavDrain {s : State} {src : Nat} {cid : Word32} {a : AdminCmd} (h : s.findCmd src cid 0x41 = some a)
    (hsrc : pfRights src = true) (hp : byteAt a.img 24 1 < 8) : exec (.pavDrain src cid) s =
      .next (if (s.pav (byteAt a.img 24 1)).st = .opened
        then ((({ s with accepted := markStarted src cid 0x41 s.accepted } : State).goPav (byteAt a.img 24 1) .draining).drained
          (byteAt a.img 24 1)).complete src cid 0
        else ({ s with accepted := markStarted src cid 0x41 s.accepted } : State).complete src cid Code.pavBadState) := by
  refine congrArg Host.Outcome.next ((runCmd_of_found h (granted 0x41 hsrc)).trans ?_)
  by_cases hst : (s.pav (byteAt a.img 24 1)).st = .opened
  · rw [if_pos hst]
    exact if_pos ⟨hp, hst⟩
  · rw [if_neg hst]
    exact if_neg fun hc => hst hc.2

theorem residents_congr {s t : State} (h : t.reqs = s.reqs) (p : Nat) : t.residents p = s.residents p := by
  unfold State.residents
  rw [h]

/-- Draining a pavilion without residents closes it. -/
theorem drain_effect {t : State} {p : Nat} :
    (t.residents p ≠ [] → (t.goPav p .draining).drained p = t.goPav p .draining)
    ∧ (t.residents p = [] → (((t.goPav p .draining).drained p).pav p).st = .closed
      ∧ (∀ j, j ≠ p → ((t.goPav p .draining).drained p).pav j = t.pav j)
      ∧ ((t.goPav p .draining).drained p).mem = t.mem ∧ ((t.goPav p .draining).drained p).reqs = t.reqs) := by
  obtain ⟨hmem, hreqs, _⟩ := goPav_keeps t p .draining
  have hres := residents_congr hreqs p
  refine ⟨fun hne => if_neg fun hc => hne ?_, fun hnil => ?_⟩
  · rw [← hres]
    exact List.isEmpty_iff.1 hc.2
  · rw [hnil] at hres
    have hclose : (t.goPav p .draining).drained p = (t.goPav p .draining).closePav p :=
      if_pos ⟨goPav_self t p .draining, by rw [hres]; rfl⟩
    obtain ⟨hst, hother, hm, _, _, hr⟩ := closePav_keeps (t.goPav p .draining) p
    rw [hclose]
    exact ⟨hst, fun j hj => (hother j hj).trans (goPav_other t .draining hj), hm.trans hmem, (hr hres).trans hreqs⟩

/-- Settles O45: the two commands by the state that they find, their refusal, and the two other ways into CLOSED. -/
theorem pavilionStates : Obligations.PavilionStates := by
  refine ⟨fun s t src p cid a hcmd hsrc ht hp => ?_, fun s t src p cid a hcmd hsrc ht hp hlt => ?_,
    fun s c src op cid a hc hcmd hsrc => ?_, fun s p hst hdue => ?_, fun s p st => ?_⟩
  · have hexec := exec_pavOpen hcmd hsrc
    rw [← ht, ← hp] at hexec
    refine ⟨fun h8 => ?_, fun h8 hst hdef => ?_, fun h8 hst hdef hterr => ?_, fun h8 hst => ?_, fun h8 hst => ?_⟩
    · rw [hexec, if_pos h8]
    · rw [hexec, if_neg (Nat.not_le.2 h8), State.pavOpen, hst]
      have hno : ¬ t.defined p = true := by
        rw [hdef]
        exact Bool.false_ne_true
      exact congrArg Host.Outcome.next (if_neg hno)
    · rw [if_neg (Nat.not_le.2 h8), pavOpen_closed h8 hst hdef hterr] at hexec
      obtain ⟨hmem, hreqs, _⟩ := goPav_keeps t p .loading
      refine ⟨_, hexec, goPav_self t p .loading, fun j hj => ?_, hmem.trans (by rw [ht]), hreqs.trans (by rw [ht])⟩
      refine (goPav_other t .loading hj).trans ?_
      rw [ht]
      rfl
    · rw [hexec, if_neg (Nat.not_le.2 h8), State.pavOpen, hst]
    · rw [hexec, if_neg (Nat.not_le.2 h8), State.pavOpen]
      rcases hst with hst | hst | hst <;> rw [hst]
  · have hexec := exec_pavDrain hcmd hsrc (hp ▸ hlt)
    rw [← ht, ← hp] at hexec
    have hpav : (t.pav p).st = (s.pav p).st := by
      rw [ht]
      rfl
    rw [← hpav] at hexec
    obtain ⟨hbusy, hfree⟩ := drain_effect (t := t) (p := p)
    refine ⟨fun hst hres => ?_, fun hst hres => ?_, fun hst => ?_⟩
    · rw [hexec, if_pos hst, hbusy hres]
    · rw [if_pos hst] at hexec
      obtain ⟨hclosed, hother, hmem, hreqs⟩ := hfree hres
      refine ⟨_, hexec, hclosed, fun j hj => (hother j hj).trans ?_, hmem.trans (by rw [ht]), hreqs.trans (by rw [ht])⟩
      rw [ht]
      rfl
    · rw [hexec, if_neg hst]
  · rcases List.mem_cons.1 hc with h | h
    · cases h
      exact congrArg Host.Outcome.next (runCmd_of_refused hcmd rfl hsrc)
    · cases List.mem_singleton.1 h
      exact congrArg Host.Outcome.next (runCmd_of_refused hcmd rfl hsrc)
  · obtain ⟨hclosed, hother, hmem, _, hreq, _⟩ := closePav_keeps s p
    have hdue' : ((s.pav p).st == .draining && s.passed (s.pav p).since (s.rd R.drainLimit p)) = true := by
      rw [hst, State.passed, Bool.and_eq_true]
      exact ⟨rfl, decide_eq_true hdue⟩
    exact ⟨s.closePav p, onlyIf_of hdue', hclosed, hother, hmem, hreq⟩
  · exact ⟨goPav_self s p st, (goPav_keeps s p st).1, fun j hj => goPav_other s st hj⟩

end Sys2Proof.Proofs

/-! PROOFS. The boundaries: what a step boundary and a cadence boundary do in order, and what no part of them touches. -/
namespace Sys2Proof.Proofs
open Sys2Proof Sys2Proof.Machine Sys2Proof.Laws

/-! ### The clock of a state: what no part of a cadence boundary changes once the boundary is marked done -/

/-- From s to t neither the timebase nor the weight keys, installed or pending, changed. -/
structure SameClock (s t : State) : Prop where
  sdl : t.sdl = s.sdl
  time : t.time = s.time
  pending : t.keyPending = s.keyPending
  keys : t.nvm.weightKeys = s.nvm.weightKeys

theorem SameClock.refl (s : State) : SameClock s s := ⟨rfl, rfl, rfl, rfl⟩

theorem SameClock.trans {s t u : State} (h : SameClock s t) (g : SameClock t u) : SameClock s u :=
  ⟨g.sdl.trans h.sdl, g.time.trans h.time, g.pending.trans h.pending, g.keys.trans h.keys⟩

theorem SameClock.ite {s t u : State} {c : Prop} [Decidable c] (h : SameClock s t) (g : SameClock s u) :
    SameClock s (if c then t else u) := by
  split
  · exact h
  · exact g

theorem SameClock.foldl {α : Type} (f : State → α → State) (hf : ∀ s x, SameClock s (f s x)) (l : List α) (s : State) :
    SameClock s (l.foldl f s) := by
  induction l generalizing s with
  | nil => exact .refl s
  | cons x l ih => exact (hf s x).trans (ih _)

theorem setReq_sameClock (s : State) (i : Nat) (r : Req) : SameClock s (s.setReq i r) := ⟨rfl, rfl, rfl, rfl⟩

theorem setPage_sameClock (s : State) (g : Nat) (q : KvPage) : SameClock s (s.setPage g q) := ⟨rfl, rfl, rfl, rfl⟩

theorem setPav_sameClock (s : State) (p : Nat) (x : Pav) : SameClock s (s.setPav p x) := ⟨rfl, rfl, rfl, rfl⟩

theorem setTerr_sameClock (s : State) (k : Nat) (x : Terr) : SameClock s (s.setTerr k x) := ⟨rfl, rfl, rfl, rfl⟩

theorem setPlot_sameClock (s : State) (k : Nat) (x : Plot) : SameClock s (s.setPlot k x) := ⟨rfl, rfl, rfl, rfl⟩

theorem inc_sameClock (s : State) (f : Field) (i k : Nat) : SameClock s (s.inc f i k) := ⟨rfl, rfl, rfl, rfl⟩

theorem onlyRaised_sameClock {s t : State} (h : OnlyRaised s t) : SameClock s t := by
  rw [h]
  exact ⟨rfl, rfl, rfl, rfl⟩

theorem onlyNotes_sameClock {s t : State} (h : OnlyNotes s t) : SameClock s t := by
  rw [h]
  exact ⟨rfl, rfl, rfl, rfl⟩

theorem onlyWritten_sameClock {s t : State} (h : OnlyWritten s t) : SameClock s t := by
  rw [h]
  exact ⟨rfl, rfl, rfl, rfl⟩

theorem changesReqs_sameClock {s t : State} (h : ChangesReqs s t) : SameClock s t := by
  rw [h]
  exact ⟨rfl, rfl, rfl, rfl⟩

theorem goPav_sameClock (s : State) (p : Nat) (st : PavState) : SameClock s (s.goPav p st) := by
  unfold State.goPav
  exact .ite (.refl s) ((setPav_sameClock s p _).trans (onlyNotes_sameClock (notifyAll_notes _ 2)))

theorem goDev_sameClock (s : State) (d : DevState) : SameClock s (s.goDev d) := by
  have hset : SameClock s { s with dev := { s.dev with st := d, everOpen := s.dev.everOpen || d == .opened } } := ⟨rfl, rfl, rfl, rfl⟩
  unfold State.goDev
  exact .ite (.refl s) (hset.trans (onlyNotes_sameClock (notifyAll_notes _ 1)))

theorem settleDev_sameClock (s : State) : SameClock s s.settleDev := by
  unfold State.settleDev
  dsimp only
  split
  · exact .ite (goDev_sameClock s _) (.refl s)
  · exact .ite (.refl s) (goDev_sameClock s _)
  · exact .refl s

theorem closePav_sameClock (s : State) (p : Nat) : SameClock s (s.closePav p) := by
  have hend : ∀ (u : State) (i : Nat), SameClock u
      (State.markEnd (u.setReq i { (u.req i).discard with dropped := true }) i Code.pavilionClosed) := fun u i =>
    (setReq_sameClock u i _).trans (changesReqs_sameClock (markEnd_changesReqs _ i _))
  exact ((goPav_sameClock s p .closed).trans (SameClock.foldl _ hend _ _)).trans (settleDev_sameClock _)

/-! ### Pages -/

theorem writePt_sameClock (s : State) (i : Nat) : SameClock s (s.writePt i) := onlyWritten_sameClock (writePt_onlyWritten s i)

theorem evictFor_sameClock (s : State) (p i n : Nat) (l : List Nat) : SameClock s (s.evictFor p i n l) := by
  induction l generalizing s with
  | nil => exact .refl s
  | cons g l ih => exact .ite (.refl s) ((setPage_sameClock s g {}).trans (ih _))

theorem growPages_sameClock (s : State) (i : Nat) (draft : Bool) (n : Nat) : SameClock s (s.growPages i draft n) := by
  induction n generalizing s with
  | zero => exact .refl s
  | succ n ih =>
    unfold State.growPages
    refine SameClock.trans ?_ (ih _)
    exact ⟨rfl, rfl, rfl, rfl⟩

theorem claim_sameClock (s : State) (i len : Nat) : SameClock s (s.claim i len) :=
  (growPages_sameClock s i false _).trans (growPages_sameClock _ i true _)

theorem matchPrompt_sameClock (s : State) (i n : Nat) : SameClock s (s.matchPrompt i n) := by
  induction n generalizing s with
  | zero => exact .refl s
  | succ n ih =>
    unfold State.matchPrompt
    dsimp only
    split
    · exact .refl s
    · exact .ite (((setPage_sameClock s _ _).trans (setReq_sameClock _ i _)).trans (ih _)) (inc_sameClock s _ _ _)

theorem prefixMatch_sameClock (s : State) (i : Nat) : SameClock s (s.prefixMatch i) := by
  unfold State.prefixMatch
  exact .ite (setReq_sameClock s i _) ((setReq_sameClock s i _).trans (matchPrompt_sameClock _ i _))

theorem spillFor_sameClock (s : State) (p n m : Nat) : SameClock s (s.spillFor p n m) := by
  have hstart : ∀ i, SameClock s (s.spillStart i) := fun i => ⟨rfl, rfl, rfl, rfl⟩
  unfold State.spillFor
  split
  · exact .refl s
  · split
    · exact .refl s
    · exact hstart _

theorem matchSpill_sameClock (s : State) (i : Nat) (l : List SpPage) : SameClock s (s.matchSpill i l) := by
  induction l generalizing s with
  | nil => exact .refl s
  | cons e l ih =>
    unfold State.matchSpill
    split
    · exact .refl s
    · have hcopy : ∀ u : State, SameClock u (u.dropCopy i e) := fun u => ⟨rfl, rfl, rfl, rfl⟩
      exact ((((setPage_sameClock s _ _).trans (setReq_sameClock _ i _)).trans (hcopy _)).trans (writePt_sameClock _ i)).trans (ih _)

theorem pageInStart_sameClock (s : State) (i : Nat) : SameClock s (s.pageInStart i) :=
  (setReq_sameClock s i _).trans (matchSpill_sameClock _ i _)

theorem pageInTry_sameClock (s : State) (i len : Nat) : SameClock s (s.pageInTry i len).2 := by
  unfold State.pageInTry
  dsimp only
  split
  · exact ((pageInStart_sameClock s i).trans (evictFor_sameClock _ _ _ _ _)).trans (setReq_sameClock _ i _)
  · exact (evictFor_sameClock s _ _ _ _).trans (spillFor_sameClock _ _ _ _)

theorem stepRoom_sameClock (s : State) (i len : Nat) : SameClock s (s.stepRoom i len).2 := evictFor_sameClock s _ _ _ _

/-! ### Batch formation -/

theorem rosterGo_sameClock (s : State) (p bp bd : Nat) (sel l : List Nat) : SameClock s (s.rosterGo p bp bd sel l) := by
  induction l generalizing s bp bd sel with
  | nil => exact .refl s
  | cons i l ih =>
    have hmatch : ∀ u : State, SameClock u (if (s.req i).prefill = true then u.prefixMatch i else u) := fun u =>
      .ite (prefixMatch_sameClock u i) (.refl u)
    have hroom := stepRoom_sameClock s i ((s.req i).len + s.rowsNeeded (s.req i))
    unfold State.rosterGo
    refine .ite (.ite ((pageInTry_sameClock s i _).trans (ih _ _ _ _)) (.ite ?_ ?_)) (ih s bp bd sel)
    · exact (((hroom.trans (hmatch _)).trans (claim_sameClock _ i _)).trans (setReq_sameClock _ i _)).trans (ih _ _ _ _)
    · exact (hroom.trans (spillFor_sameClock _ _ _ _)).trans (ih _ _ _ _)

theorem roster_sameClock (s : State) (p : Nat) : SameClock s (s.roster p) :=
  (SameClock.foldl _ (fun u i => setReq_sameClock u i _) _ s).trans (rosterGo_sameClock _ p _ _ _ _)

theorem setDepths_sameClock (s : State) (p : Nat) : SameClock s (s.setDepths p) :=
  SameClock.foldl _ (fun u i => setReq_sameClock u i _) _ s

theorem markSlices_sameClock (s : State) (p : Nat) : SameClock s (s.markSlices p) :=
  SameClock.foldl _ (fun u i => setReq_sameClock u i _) _ s

theorem rebalance_sameClock (s : State) (p : Nat) : SameClock s (s.rebalance p) :=
  .ite (.refl s) (setPav_sameClock s p _)

theorem markSwapMade_sameClock (s : State) (i : Nat) : SameClock s (s.markSwapMade i) :=
  SameClock.foldl _ (fun u k => setPage_sameClock u k _) _ s

theorem swapEnter_sameClock (s : State) (p : Nat) : SameClock s (s.swapEnter p) := by
  unfold State.swapEnter
  dsimp only
  split
  · exact .refl s
  · exact .ite (((setPav_sameClock s p _).trans (goPav_sameClock _ p .swapping)).trans
      (SameClock.foldl _ markSwapMade_sameClock _ _)) (.refl s)

theorem openPav_sameClock (s : State) (p : Nat) : SameClock s (s.openPav p) :=
  ((setPav_sameClock s p _).trans (goPav_sameClock _ p .opened)).trans (settleDev_sameClock _)

/-! ### Withdrawals and repairs -/

theorem withdrawTerr_sameClock (s : State) (k : Nat) : SameClock s (s.withdrawTerr k) := ⟨rfl, rfl, rfl, rfl⟩

theorem raise_sameClock (s : State) {e : Err} (hc : e.cls ≠ .device) (hi : e.inHandler = false) : SameClock s (s.raise e) :=
  onlyRaised_sameClock (raise_onlyRaised s hc hi)

theorem noTerrace_sameClock (s : State) (p : Nat) : SameClock s (s.noTerrace p) := by
  have hraise := raise_sameClock s (e := { cls := .pavilion, event := Code.pavilionNoTerrace, pav := some p, unit := 3, inst := p })
    Cls.noConfusion rfl
  exact .ite (.ite hraise (hraise.trans (closePav_sameClock _ p))) (.refl s)

theorem clampNp_sameClock (s : State) (p : Nat) : SameClock s (s.clampNp p) := .ite (.refl s) (setPav_sameClock s p _)

theorem withdrawals_sameClock (s : State) (p : Nat) : SameClock s (s.withdrawals p) := by
  have hall := SameClock.foldl State.withdrawTerr withdrawTerr_sameClock
    ((s.maskTerrs p).filter fun t => (s.terr t).withdrawDue) s
  exact .ite (.refl s) (.ite (hall.trans (noTerrace_sameClock _ p)) (hall.trans (clampNp_sameClock _ p)))

theorem noSpare_sameClock (s : State) (q : Nat) : SameClock s (s.noSpare q) := by
  have hraise := raise_sameClock s (e := { cls := .pavilion, event := Code.plotNoSpare, pav := s.plotPav q, unit := 1, inst := q })
    Cls.noConfusion rfl
  unfold State.noSpare
  dsimp only
  split
  · exact .refl s
  · split
    · exact hraise.trans (setTerr_sameClock _ _ _)
    · exact hraise.trans (withdrawTerr_sameClock _ _)

theorem trigger_sameClock (s : State) (q : Nat) : SameClock s (s.trigger q) :=
  .ite (setPlot_sameClock s q _) (noSpare_sameClock s q)

theorem repairRow_sameClock (s : State) (q row : Nat) : SameClock s (s.repairRow q row) := by
  unfold State.repairRow
  dsimp only
  split
  · refine SameClock.trans ?_ (raise_sameClock _ Cls.noConfusion rfl)
    exact ⟨rfl, rfl, rfl, rfl⟩
  · exact (setPlot_sameClock s q _).trans (trigger_sameClock _ q)

theorem repairRows_sameClock (s : State) (owner : Option Nat) : SameClock s (s.repairRows owner) := by
  have hrows : ∀ (u : State) (e : Nat × Plot), SameClock u (e.2.rowRepair.foldl (fun (v : State) row => v.repairRow e.1 row) u) :=
    fun u e => SameClock.foldl _ (fun v row => repairRow_sameClock v e.1 row) _ u
  unfold State.repairRows
  refine SameClock.foldl _ (fun u e => ?_) _ s
  exact .ite (hrows u e) (.refl u)

/-- A pavilion's part of a cadence boundary. -/
theorem cadPav_sameClock (s : State) (p : Nat) : SameClock s (s.cadPav p) := by
  have hdrop : ∀ u : State, SameClock u u.dropPoisoned := fun u => ⟨rfl, rfl, rfl, rfl⟩
  have hwith : SameClock s (if (s.pav p).st.active = true then s else s.withdrawals p) := .ite (.refl s) (withdrawals_sameClock s p)
  unfold State.cadPav
  split
  · exact .refl s
  · dsimp only
    generalize (if (s.pav p).st.active = true then s else s.withdrawals p) = t at hwith ⊢
    have hopen : SameClock s (if (t.pav p).st = .loading ∧ t.opens p = true then t.openPav p else t) :=
      hwith.trans (.ite (openPav_sameClock t p) (.refl t))
    generalize (if (t.pav p).st = .loading ∧ t.opens p = true then t.openPav p else t) = u at hopen ⊢
    have hswap := hopen.trans (swapEnter_sameClock u p)
    exact .ite (((((hswap.trans (hdrop _)).trans (setDepths_sameClock _ p)).trans (markSlices_sameClock _ p)).trans
      (rebalance_sameClock _ p)).trans (roster_sameClock _ p)) hswap

/-! ### The clock's step -/

theorem askRaise_sameClock (s : State) (cur : Nat) : SameClock s (s.askRaise cur) := .ite ⟨rfl, rfl, rfl, rfl⟩ (.refl s)

theorem setRate_sameClock (s : State) (mhz : Nat) : SameClock s (s.setRate mhz) := ⟨rfl, rfl, rfl, rfl⟩

theorem limitsStep_sameClock (s : State) : SameClock s s.limitsStep := by
  have hinc : SameClock s (if s.pwr.thermDown = true then s.inc R.throttles else s) := .ite (inc_sameClock s _ _ _) (.refl s)
  exact hinc.trans ⟨rfl, rfl, rfl, rfl⟩

theorem rateStep_sameClock (s : State) : SameClock s s.rateStep := by
  unfold State.rateStep
  dsimp only
  generalize (if s.pwr.fastCapped = true then 2 * s.rd R.devPlotMhz else s.rd R.devPlotMhz) = cur
  have hlim : SameClock s (if s.dev.recovery = true then { s with pwr := { s.pwr with fastCapped := false } } else s.limitsStep) :=
    .ite ⟨rfl, rfl, rfl, rfl⟩ (limitsStep_sameClock s)
  generalize (if s.dev.recovery = true then { s with pwr := { s.pwr with fastCapped := false } } else s.limitsStep) = t at hlim ⊢
  have hwr : SameClock s (t.wr R.devPlotMhz cur) := hlim.trans ⟨rfl, rfl, rfl, rfl⟩
  refine .ite hwr (.ite (hwr.trans (setRate_sameClock _ _)) ?_)
  split
  · exact hwr.trans (askRaise_sameClock _ _)
  · refine .ite (hwr.trans (setRate_sameClock _ _)) (.ite (hwr.trans ?_) hwr)
    refine SameClock.trans ?_ (askRaise_sameClock _ _)
    exact ⟨rfl, rfl, rfl, rfl⟩

/-! ### Cadence boundaries -/

/-- A cadence boundary that is due takes effect when nothing is due before it. -/
theorem exec_cadenceBoundary {s : State} (hserv : s.serving = true) (hdue : s.cadDue = true)
    (hbefore : s.before (turnAt s.time 3 0) = []) : exec .cadenceBoundary s = .next s.boundary := by
  have hboth : (s.serving && s.cadDue) = true := by rw [hserv, hdue, Bool.and_self]
  have hsettle : s.settle (turnAt s.time 3 0) = s := by
    unfold State.settle
    rw [hbefore]
    rfl
  show execCadenceBoundary s = _
  rw [execCadenceBoundary, hsettle]
  exact (onlyIf_of hboth).trans (congrArg Host.Outcome.next (if_pos hboth))

/-- A cadence boundary has been marked as done. -/
def cadMarked (s : State) : State :=
  { s with sdl := { s.sdl with cadDone := true, owed := { s.sdl.owed with cad := false } } }

/-- A boundary's parts, while steward 0 is not in its pause. -/
theorem boundary_eq {s : State} (hhand : (cadMarked s).bcastRetry.handing 0 = false) : s.boundary =
    (((List.range 8).foldl State.cadPav (cadMarked s).bcastRetry.dirBoundary.installKeys.ringsAgain).repairRows
      none).freeTerrs.oldRecords.settleDev.rateStep := by
  have hno : ¬ (cadMarked s).bcastRetry.handing 0 = true := by
    rw [hhand]
    exact Bool.false_ne_true
  have hdir : (if (cadMarked s).bcastRetry.handing 0 = true then (cadMarked s).bcastRetry.oweDir
      else (cadMarked s).bcastRetry.dirBoundary) = (cadMarked s).bcastRetry.dirBoundary := if_neg hno
  unfold State.boundary
  exact congrArg (fun u : State => (((List.range 8).foldl State.cadPav u.installKeys.ringsAgain).repairRows
    none).freeTerrs.oldRecords.settleDev.rateStep) hdir

theorem oldRecords_sameClock (s : State) : SameClock s s.oldRecords := .ite ⟨rfl, rfl, rfl, rfl⟩ (.refl s)

/-- What follows the installation of the keys changes neither the timebase nor a weight key. -/
theorem afterKeys_sameClock (s : State) : SameClock s (((List.range 8).foldl State.cadPav s.ringsAgain).repairRows
    none).freeTerrs.oldRecords.settleDev.rateStep := by
  have hrings : SameClock s s.ringsAgain := ⟨rfl, rfl, rfl, rfl⟩
  have hfree : ∀ u : State, SameClock u u.freeTerrs := fun u => ⟨rfl, rfl, rfl, rfl⟩
  exact (((((hrings.trans (SameClock.foldl _ cadPav_sameClock _ _)).trans (repairRows_sameClock _ none)).trans
    (hfree _)).trans (oldRecords_sameClock _)).trans (settleDev_sameClock _)).trans (rateStep_sameClock _)

/-! ### The streak of a rebalancing -/

theorem rebalance_np (x : Pav) {target hold : Nat} (h : 2 ≤ hold) :
    ((x.rebalance target hold).np = x.np ∨ (x.rebalance target hold).np + 1 = x.np ∨ (x.rebalance target hold).np = x.np + 1)
      ∧ (x.streak = 0 → (x.rebalance target hold).np = x.np) ∧ (x.np = target → (x.rebalance target hold).np = x.np) := by
  unfold Pav.rebalance
  dsimp only
  generalize hsg : (if x.np < target then (1 : Int) else if target < x.np then -1 else 0) = sg
  have hsign : sg = 1 ∨ sg = -1 ∧ target < x.np ∨ sg = 0 := by
    rw [← hsg]
    split
    · exact .inl rfl
    · split
      · next hlt => exact .inr (.inl ⟨rfl, hlt⟩)
      · exact .inr (.inr rfl)
  have hzero : x.np = target → sg = 0 := fun ht => by
    rw [← hsg, if_neg (by omega), if_neg (by omega)]
  generalize hn : (if sg = 0 then 0 else if sg = x.streakSign then x.streak + 1 else if x.streakSign = 0 then 1 else 0) = n
  have hlen : x.streak = 0 → n ≤ 1 := fun hs => by
    rw [← hn, hs]
    repeat' split
    all_goals omega
  split
  · next hc =>
    obtain ⟨hne, hle⟩ := hc
    rw [Int.ofNat_eq_natCast]
    refine ⟨?_, fun hs => ?_, fun ht => absurd (hzero ht) hne⟩
    · omega
    · have := hlen hs
      omega
  · exact ⟨.inl rfl, fun _ => rfl, fun _ => rfl⟩

/-! ### Step boundaries -/

/-- A step boundary in its order: the requests that are ending leave (a), advances (b), what is due of the terraces and the swap (c),
pauses, a drained pavilion closes (e) and those it ends leave (f). -/
theorem stepBoundary_runs {s a b c e f : State} {p : Nat} (mpf mdec : Nat) (lens : List Word32)
    (tiling : List (Nat × Nat × Nat × BitVec 256)) (hserv : s.serving = true) (hdef : s.defined p = true)
    (hact : (s.pav p).st.active = true ∨ s.residents p ≠ []) (ha : a = (s.endStep p mpf mdec).endRequests p)
    (hb : b = (a.residents p).foldl State.advanceReq a)
    (hc : c = (((b.withdrawals p).repairRows (some p)).holdTerrs p).swapHold p)
    (he : e = ((c.residents p).foldl State.pauseReq c).drained p) (hf : f = if (e.pav p).st = .closed then e.endRequests p else e) :
    exec (.stepBoundary p mpf mdec lens tiling) s =
      .next ((if f.mayStep p = true then f.startStep p lens tiling else f).markRows p) := by
  subst ha hb hc he hf
  refine if_neg ?_
  rintro (h | h | ⟨h, hnil⟩)
  · exact Bool.noConfusion (hserv.symm.trans h)
  · exact Bool.noConfusion (hdef.symm.trans h)
  · rcases hact with ha | hres
    · exact Bool.noConfusion (ha.symm.trans h)
    · exact hres (List.isEmpty_iff.1 hnil)

theorem drained_if (s : State) (p : Nat) :
    (if (s.pav p).st = .draining ∧ s.residents p = [] then s.closePav p else s) = s.drained p := by
  unfold State.drained
  simp only [List.isEmpty_iff]

theorem endRequests_of_none {s : State} {p : Nat} (h : s.residents p = []) : s.endRequests p = s := by
  unfold State.endRequests
  rw [h]
  rfl

theorem endStep_of_idle {s : State} {p mpf mdec : Nat} (h : s.stepReqs p = []) : s.endStep p mpf mdec = s :=
  if_pos (by rw [h]; rfl)

theorem markRows_of_none {s : State} {p : Nat} (h : s.residents p = []) : s.markRows p = s := by
  unfold State.markRows
  rw [h]
  rfl

theorem holdTerrs_effect (s : State) (p : Nat) : s.holdTerrs p = { s with terrs := (s.holdTerrs p).terrs }
    ∧ ∀ k, ((s.holdTerrs p).terr k).rows = (s.terr k).rows := by
  unfold State.holdTerrs
  generalize s.servTerrs p = l
  induction l generalizing s with
  | nil => exact ⟨rfl, fun _ => rfl⟩
  | cons t l ih =>
    rw [List.foldl_cons]
    dsimp only
    generalize (((List.range 64).any fun k => (s.plot (plotAt t k)).retire) && !(s.terr t).held) = x
    obtain ⟨hframe, hrows⟩ := ih (s.setTerr t { s.terr t with took := false, held := x })
    refine ⟨?_, fun k => (hrows k).trans ?_⟩
    · rw [hframe]
      rfl
    · by_cases hk : k = t
      · rw [hk, State.terr_setTerr]
      · rw [State.terr_setTerr_other _ _ hk]

theorem settleDev_plots (s : State) : s.settleDev.plots = s.plots := by
  have hgo : ∀ d, (s.goDev d).plots = s.plots := fun d => by
    unfold State.goDev
    split
    · rfl
    · rw [notifyAll_notes]
  unfold State.settleDev
  dsimp only
  split
  · split
    · exact hgo _
    · rfl
  · split
    · rfl
    · exact hgo _
  · rfl

theorem closePav_plots {s : State} {p : Nat} (h : s.residents p = []) : (s.closePav p).plots = s.plots := by
  have hgo : (s.goPav p .closed).plots = s.plots := by
    unfold State.goPav
    split
    · rfl
    · rw [notifyAll_notes (s.setPav p { s.pav p with st := .closed, since := s.time }) 2]
      rfl
  unfold State.closePav
  rw [h]
  exact (settleDev_plots _).trans hgo

/-- The boundary of a DRAINING pavilion without residents, when nothing else is due at it: it is CLOSED. -/
theorem stepBoundary_closes {s : State} {p : Nat} (mpf mdec : Nat) (lens : List Word32)
    (tiling : List (Nat × Nat × Nat × BitVec 256)) (hserv : s.serving = true) (hdef : s.defined p = true)
    (hst : (s.pav p).st = .draining) (hres : s.residents p = []) (hidle : s.stepReqs p = []) (hwith : s.withdrawals p = s)
    (hrep : s.repairRows (some p) = s) (hswap : (s.pav p).swap = none) :
    exec (.stepBoundary p mpf mdec lens tiling) s = .next ((s.holdTerrs p).closePav p) := by
  obtain ⟨hheld, -⟩ := holdTerrs_effect s p
  have hresH : (s.holdTerrs p).residents p = [] := by
    rw [hheld]
    exact hres
  have hpavH : (s.holdTerrs p).pav p = s.pav p := by
    rw [hheld]
    rfl
  have hswapH : (s.holdTerrs p).swapHold p = s.holdTerrs p := by
    unfold State.swapHold
    simp only [hpavH, hswap]
  have hdrained : (s.holdTerrs p).drained p = (s.holdTerrs p).closePav p :=
    if_pos ⟨by rw [hpavH]; exact hst, by rw [hresH]; rfl⟩
  obtain ⟨hclosed, _, _, _, _, hreqs⟩ := closePav_keeps (s.holdTerrs p) p
  have hresC : ((s.holdTerrs p).closePav p).residents p = [] := (residents_congr (hreqs hresH) p).trans hresH
  have hstay : ((s.holdTerrs p).closePav p).mayStep p = false := by
    rw [State.mayStep, hclosed]
    rfl
  have ha : s = (s.endStep p mpf mdec).endRequests p := by rw [endStep_of_idle hidle, endRequests_of_none hres]
  have hb : s = (s.residents p).foldl State.advanceReq s := by
    rw [hres]
    rfl
  have hc : s.holdTerrs p = (((s.withdrawals p).repairRows (some p)).holdTerrs p).swapHold p := by rw [hwith, hrep, hswapH]
  have he : (s.holdTerrs p).closePav p = (((s.holdTerrs p).residents p).foldl State.pauseReq (s.holdTerrs p)).drained p := by
    rw [hresH]
    exact hdrained.symm
  have hf : (s.holdTerrs p).closePav p = if (((s.holdTerrs p).closePav p).pav p).st = .closed
      then ((s.holdTerrs p).closePav p).endRequests p else (s.holdTerrs p).closePav p := by
    rw [if_pos hclosed, endRequests_of_none hresC]
  rw [stepBoundary_runs mpf mdec lens tiling hserv hdef (.inl (by rw [hst]; rfl)) ha hb hc he hf, hstay,
    if_neg Bool.false_ne_true, markRows_of_none hresC]

/-- Settles O46: the two kinds of boundary in their orders, and what the special ones leave. -/
theorem boundaries : Obligations.Boundaries := by
  refine ⟨fun s a b c d e f p mpf mdec lens tiling hserv hdef hact ha hb hc hd he hf => ?_,
    fun s p mpf mdec lens tiling hserv hdef hst hres hidle hwith hrep hswap => ?_,
    fun s a b hserv hdue hbefore ha hhand hb => ?_, fun s hserv hdue hbefore hretry hhand hacts => ?_, fun s hno => ?_,
    fun x target hold h => rebalance_np x h⟩
  · rw [drained_if, hd] at he
    have hrun := stepBoundary_runs mpf mdec lens tiling hserv hdef hact ha hb hc he hf
    refine ⟨fun hmay => ?_, fun hmay => ?_⟩
    · rw [hrun, if_pos hmay]
    · rw [hrun, hmay, if_neg Bool.false_ne_true]
  · obtain ⟨hheld, hrows⟩ := holdTerrs_effect s p
    have hresH : (s.holdTerrs p).residents p = [] := by
      rw [hheld]
      exact hres
    obtain ⟨hclosed, hother, hmem, hterrs, _, hreqs⟩ := closePav_keeps (s.holdTerrs p) p
    refine ⟨_, stepBoundary_closes mpf mdec lens tiling hserv hdef hst hres hidle hwith hrep hswap, hclosed, fun j hj => ?_,
      hmem.trans (by rw [hheld]), (hreqs hresH).trans (by rw [hheld]), (closePav_plots hresH).trans (by rw [hheld]), fun k => ?_⟩
    · refine (hother j hj).trans ?_
      rw [hheld]
      rfl
    · rw [State.terr, hterrs]
      exact hrows k
  · have ha' : a = (cadMarked s).bcastRetry := ha
    rw [exec_cadenceBoundary hserv hdue hbefore, boundary_eq (by rw [← ha']; exact hhand), ← ha', ← hb]
  · have hquiet : (cadMarked s).bcastRetry = cadMarked s := if_neg fun h => hretry h.1
    have hdir : (cadMarked s).dirBoundary = { cadMarked s with dirOps := [] } := by
      have hacts' : (cadMarked s).dirActs = [] := hacts
      rw [State.dirBoundary, hacts']
      rfl
    have heq : s.boundary = _ := boundary_eq (by rw [hquiet]; exact hhand)
    rw [hquiet, hdir] at heq
    obtain ⟨hsdl, htime, hpend, hkeys⟩ := afterKeys_sameClock (State.installKeys { cadMarked s with dirOps := [] })
    refine ⟨_, exec_cadenceBoundary hserv hdue hbefore, ?_, ?_, ?_, ?_, ?_⟩ <;> rw [heq]
    · rw [hsdl]
      rfl
    · rw [hsdl]
      rfl
    · rw [hpend]
      rfl
    · rw [htime]
      rfl
    · rw [hkeys]
      rfl
  · refine onlyIf_not ?_
    rw [hno, Bool.and_false]

end Sys2Proof.Proofs

/-! PROOFS. Resets of functions, and the ports that become ready. -/
namespace Sys2Proof.Proofs
open Sys2Proof Sys2Proof.Machine Sys2Proof.Laws

/-! ### A function that has been reset -/

/-- A function has no queue pair in use and no command accepted. -/
structure Bare (fn : Nat) (s : State) : Prop where
  qps : ∀ k, k / 16 = fn → s.qp k = {}
  accepted : ∀ a ∈ s.accepted, a.src ≠ fn

theorem Bare.of_eq {fn : Nat} {s t : State} (h : Bare fn s) (hq : t.qps = s.qps) (ha : t.accepted = s.accepted) : Bare fn t :=
  ⟨fun k hk => by rw [State.qp, hq]; exact h.qps k hk, fun a hm => h.accepted a (ha ▸ hm)⟩

theorem Bare.foldl {fn : Nat} {α : Type} (f : State → α → State) (hf : ∀ s x, Bare fn s → Bare fn (f s x)) (l : List α) {s : State}
    (h : Bare fn s) : Bare fn (l.foldl f s) := by
  induction l generalizing s with
  | nil => exact h
  | cons x l ih => exact ih (hf s x h)

theorem Bare.putEvent {fn : Nat} {s : State} (h : Bare fn s) (k : Nat) (e : Ev) : Bare fn (s.putEvent k e) := by
  unfold State.putEvent
  split
  · next hlive =>
    refine ⟨fun j hj => ?_, h.accepted⟩
    by_cases hjk : j = k
    · rw [← hjk, h.qps j hj] at hlive
      exact Bool.noConfusion hlive
    · exact (State.qp_setQp_other _ _ hjk).trans (h.qps j hj)
  · exact h

theorem Bare.setQp {fn k : Nat} {s : State} (h : Bare fn s) (hk : k / 16 ≠ fn) (x : Qp) : Bare fn (s.setQp k x) :=
  ⟨fun j hj => (State.qp_setQp_other _ _ fun hjk : j = k => hk (hjk ▸ hj)).trans (h.qps j hj), h.accepted⟩

theorem svcComplete_bare {fn : Nat} {s : State} (h : Bare fn s) (w : BitVec 128) (more : Bool) : Bare fn (s.svcComplete w more) := by
  have hwr : ∀ (u : State) (f : Field) (v i k : Nat), Bare fn u → Bare fn (u.wr f v i k) := fun u f v i k hu => hu.of_eq rfl rfl
  have hdone : Bare fn (((List.range 4).foldl (fun (u : State) i => u.wr R.svcCpl (bits w (32 * i) 32) 0 i) s).wr R.svcDone 1) :=
    hwr _ _ _ _ _ (Bare.foldl _ (fun u i hu => hwr u _ _ _ _ hu) _ h)
  unfold State.svcComplete
  dsimp only
  split
  · exact hdone
  · exact hwr _ _ _ _ _ hdone

theorem Bare.deliver {fn : Nat} {s : State} (h : Bare fn s) (src : Nat) (cid : Word32) (status result : Nat) (more : Bool) :
    Bare fn (s.deliver src cid status result more) := by
  unfold State.deliver
  split
  · exact svcComplete_bare h _ _
  · exact h.putEvent _ _

/-- A command is accepted only for a function whose queue pair is in use. -/
theorem Bare.acceptHead {fn src : Nat} {s : State} (h : Bare fn s) (hne : src ≠ fn) : Bare fn (s.acceptHead src) := by
  have hhead := h.setQp (k := src * 16) (by rw [Nat.mul_div_cancel src (by decide)]; exact hne) { s.qp (src * 16) with
    sqHead := if s.rd R.sqSize (src * 16) ≤ (s.qp (src * 16)).sqHead + 1 then 0 else (s.qp (src * 16)).sqHead + 1 }
  unfold State.acceptHead
  dsimp only
  split
  · exact hhead.deliver _ _ _ _ _
  · refine ⟨hhead.qps, fun a ha => ?_⟩
    rcases List.mem_append.1 ha with ha | ha
    · exact hhead.accepted a ha
    · rw [List.mem_singleton.1 ha]
      exact hne

theorem Bare.pumpAdmin {fn : Nat} {s : State} (h : Bare fn s) (src n : Nat) : Bare fn (s.pumpAdmin src n) := by
  induction n generalizing s with
  | zero => exact h
  | succ n ih =>
    rw [State.pumpAdmin]
    split
    · next hgo =>
      refine ih (h.acceptHead fun hsrc => ?_)
      obtain ⟨_, hlive, _⟩ := hgo
      rw [h.qps (src * 16) (by rw [Nat.mul_div_cancel src (by decide)]; exact hsrc)] at hlive
      exact Bool.noConfusion hlive
    · exact h

theorem mem_of_mem_dropStarted {src : Nat} {cid : Word32} {l : List AdminCmd} {a : AdminCmd} (h : a ∈ dropStarted src cid l) : a ∈ l := by
  induction l with
  | nil => exact h
  | cons x l ih =>
    unfold dropStarted at h
    split at h
    · exact List.mem_cons_of_mem x h
    · rcases List.mem_cons.1 h with rfl | h
      · exact List.mem_cons_self
      · exact List.mem_cons_of_mem x (ih h)

theorem Bare.complete {fn : Nat} {s : State} (h : Bare fn s) (src : Nat) (cid : Word32) (status result : Nat) (more : Bool) :
    Bare fn (s.complete src cid status result more) := by
  have hdrop : Bare fn (if more = true then s else { s with accepted := dropStarted src cid s.accepted }) := by
    split
    · exact h
    · exact ⟨h.qps, fun a ha => h.accepted a (mem_of_mem_dropStarted ha)⟩
  unfold State.complete
  split
  · exact (hdrop.deliver _ _ _ _ _).pumpAdmin _ _
  · exact h

/-! ### The reset of one function -/

theorem deleteObj_released (s : State) (h : Nat) (by' : Option (Nat × Word32)) : Released s (s.deleteObj h by') := by
  unfold State.deleteObj
  split
  · exact freeObj_released s h
  · rfl

theorem deleteObj_bare {fn : Nat} {s : State} (hs : Bare fn s) (h : Nat) (by' : Option (Nat × Word32)) :
    Bare fn (s.deleteObj h by') := by
  have hdrop : Bare fn { s with objs := s.objs.filter fun e => e.1 != h } := hs.of_eq rfl rfl
  unfold State.deleteObj
  split
  · unfold State.freeObj
    dsimp only
    split
    · have htold : Bare fn (State.notify { s with objs := s.objs.filter fun e => e.1 != h } (s.obj h).fn 4) :=
        hdrop.of_eq (by rw [notify_notes]) (by rw [notify_notes])
      split
      · exact htold
      · exact htold.complete _ _ _ _ _
    · exact hdrop
  · exact hs.of_eq rfl rfl

/-- The requests of a function are cut off. -/
def cutAll (s : State) (fn : Nat) : State :=
  ((s.reqs.filter fun e => e.2.fn == fn).map (·.1)).foldl (fun (u : State) i => u.cutReq i Code.functionReset false) s

/-- The objects of a function are deleted. -/
def objsGone (s : State) (fn : Nat) : State :=
  ((s.objs.filter fun e => e.2.fn == fn && !e.2.retiring).map (·.1)).foldl (fun (u : State) h => u.deleteObj h none) s

theorem cutAll_changesReqs (s : State) (fn : Nat) : ChangesReqs s (cutAll s fn) :=
  ChangesReqs.foldl _ (fun u i => cutReq_changesReqs u i Code.functionReset) _ s

theorem objsGone_released (s : State) (fn : Nat) : Released s (objsGone s fn) :=
  Released.foldl _ (fun u h => deleteObj_released u h none) _ s

theorem resetQpRegs_onlyRegs (s : State) (fn : Nat) : ∃ g, s.resetQpRegs fn = { s with regs := g } := by
  have hfields : ∀ (l : List Field) (q : Nat) (u : State),
      ∃ g, l.foldl (fun (u : State) f => u.wr f f.reset (fn * 16 + q)) u = { u with regs := g } := by
    intro l q
    induction l with
    | nil => exact fun u => ⟨u.regs, rfl⟩
    | cons f l ih =>
      intro u
      obtain ⟨g, hg⟩ := ih (u.wr f f.reset (fn * 16 + q))
      exact ⟨g, hg⟩
  unfold State.resetQpRegs
  generalize List.range 16 = l
  induction l generalizing s with
  | nil => exact ⟨s.regs, rfl⟩
  | cons q l ih =>
    obtain ⟨g, hg⟩ := hfields fieldsQp q s
    rw [List.foldl_cons, hg]
    exact ih { s with regs := g }

/-- The registers of a function are reset. -/
def regsGone (s : State) (fn : Nat) : State := (s.resetQpRegs fn).wr R.fnNotify 0 fn

theorem regsGone_onlyRegs (s : State) (fn : Nat) : ∃ g, regsGone s fn = { s with regs := g } := by
  obtain ⟨g, hg⟩ := resetQpRegs_onlyRegs s fn
  rw [regsGone, hg]
  exact ⟨_, rfl⟩

theorem regsGone_notify (s : State) (fn : Nat) : (regsGone s fn).rd R.fnNotify fn = 0 := State.rd_wr _ R.fnNotify 0 fn 0

/-- The tables of a function are emptied. -/
def tablesGone (s : State) (fn : Nat) : State :=
  { s with
    qps := s.qps.filter fun e => e.1 / 16 != fn
    cancels := s.cancels.filter fun x => x / 4096 != fn
    accepted := s.accepted.filter fun a => a.src != fn
    msixTab := s.msixTab.filter fun e => e.1 / 128 != fn
    msixPend := s.msixPend.filter fun e => e.1 / 32 != fn
    acc := { s.acc with
      chsel := s.acc.chsel.filter fun e => e.1 % 73 != fn
      latch := s.acc.latch.filter fun e => e.1 % 73 != fn } }

theorem resetFn_eq (s : State) (fn : Nat) : s.resetFn fn = tablesGone (regsGone (objsGone (cutAll s fn) fn) fn) fn := rfl

/-- A lookup in a table of which the entries of some keys are kept. -/
theorem Tab.get_filter_key {α : Type} {d : α} (p : Nat → Bool) (t : Tab α) (k : Nat) :
    Tab.get d (t.filter fun e => p e.1) k = if p k = true then Tab.get d t k else d := by
  induction t with
  | nil => exact (ite_self d).symm
  | cons e t ih =>
    obtain ⟨j, v⟩ := e
    by_cases hp : p j = true
    · rw [List.filter_cons_of_pos (by exact hp)]
      by_cases hk : j = k
      · rw [Tab.get, Tab.get, if_pos hk, if_pos hk, if_pos (hk ▸ hp)]
      · rw [Tab.get, Tab.get, if_neg hk, if_neg hk, ih]
    · rw [List.filter_cons_of_neg (by exact hp), ih]
      by_cases hk : j = k
      · rw [if_neg (hk ▸ hp), if_neg (hk ▸ hp)]
      · rw [Tab.get, if_neg hk]

theorem tablesGone_qp (s : State) (fn k : Nat) : (tablesGone s fn).qp k = if k / 16 = fn then {} else s.qp k := by
  refine (Tab.get_filter_key (fun j => j / 16 != fn) s.qps k).trans ?_
  by_cases h : k / 16 = fn
  · rw [if_pos h, if_neg (by simpa using h)]
  · rw [if_neg h, if_pos (by simpa using h)]
    rfl

theorem tablesGone_bare (s : State) (fn : Nat) : Bare fn (tablesGone s fn) :=
  ⟨fun k hk => by rw [tablesGone_qp, if_pos hk], fun a ha => bne_iff_ne.1 (List.mem_filter.1 ha).2⟩

theorem tablesGone_keeps_bare {s : State} {f : Nat} (h : Bare f s) (fn : Nat) : Bare f (tablesGone s fn) := by
  refine ⟨fun k hk => ?_, fun a ha => h.accepted a (List.mem_filter.1 ha).1⟩
  rw [tablesGone_qp, h.qps k hk, ite_self]

theorem resetFn_bare (s : State) (fn : Nat) : Bare fn (s.resetFn fn) := by
  rw [resetFn_eq]
  exact tablesGone_bare _ fn

/-- A function that has been reset stays so while others are. -/
theorem resetFn_keeps_bare {s : State} {f : Nat} (h : Bare f s) (fn : Nat) : Bare f (s.resetFn fn) := by
  have hcut : Bare f (cutAll s fn) := by
    have hc := cutAll_changesReqs s fn
    exact h.of_eq (by rw [hc]) (by rw [hc])
  have hobjs : Bare f (objsGone (cutAll s fn) fn) := Bare.foldl _ (fun u k hu => deleteObj_bare hu k none) _ hcut
  have hregs : Bare f (regsGone (objsGone (cutAll s fn) fn) fn) := by
    obtain ⟨g, hg⟩ := regsGone_onlyRegs (objsGone (cutAll s fn) fn) fn
    rw [hg]
    exact hobjs.of_eq rfl rfl
  rw [resetFn_eq]
  exact tablesGone_keeps_bare hregs fn

theorem foldl_resetFn_bare (l : List Nat) (s : State) {fn : Nat} (h : fn ∈ l ∨ Bare fn s) : Bare fn (l.foldl State.resetFn s) := by
  induction l generalizing s with
  | nil => exact h.resolve_left List.not_mem_nil
  | cons x l ih =>
    rw [List.foldl_cons]
    refine ih _ ?_
    rcases h with h | h
    · rcases List.mem_cons.1 h with rfl | h
      · exact .inr (resetFn_bare s fn)
      · exact .inl h
    · exact .inr (resetFn_keeps_bare h x)

/-- A reset reaches no memory and no plot, and of the requests it changes only the function's own. -/
theorem resetFn_keeps (s : State) (fn : Nat) : (s.resetFn fn).mem = s.mem ∧ (s.resetFn fn).plots = s.plots
    ∧ (s.resetFn fn).reqs = (cutAll s fn).reqs ∧ (s.resetFn fn).rd R.fnNotify fn = 0 := by
  have hc := cutAll_changesReqs s fn
  have ho := objsGone_released (cutAll s fn) fn
  have hzero := regsGone_notify (objsGone (cutAll s fn) fn) fn
  obtain ⟨g, hg⟩ := regsGone_onlyRegs (objsGone (cutAll s fn) fn) fn
  rw [resetFn_eq]
  rw [hg] at hzero ⊢
  refine ⟨ho.mem.trans ?_, ho.plots.trans ?_, ho.reqs, hzero⟩
  · rw [hc]
  · rw [hc]

theorem foldl_resetFn_keeps (l : List Nat) (s : State) : (l.foldl State.resetFn s).mem = s.mem
    ∧ (l.foldl State.resetFn s).plots = s.plots := by
  induction l generalizing s with
  | nil => exact ⟨rfl, rfl⟩
  | cons x l ih =>
    obtain ⟨hm, hp⟩ := ih (s.resetFn x)
    obtain ⟨hm', hp', -, -⟩ := resetFn_keeps s x
    rw [List.foldl_cons]
    exact ⟨hm.trans hm', hp.trans hp'⟩

/-- After the reset of every function no queue pair is in use, and only the service port's commands are accepted. -/
theorem allReset_effect (s : State) : (∀ k < 1024, ((List.range 64).foldl State.resetFn s).qp k = {})
    ∧ (∀ a ∈ ((List.range 64).foldl State.resetFn s).accepted, 64 ≤ a.src) := by
  have hbare : ∀ fn, fn < 64 → Bare fn ((List.range 64).foldl State.resetFn s) := fun fn hfn =>
    foldl_resetFn_bare _ s (.inl (List.mem_range.2 hfn))
  refine ⟨fun k hk => (hbare (k / 16) (by omega)).qps k rfl, fun a ha => ?_⟩
  refine Nat.le_of_not_lt fun hlt => ?_
  exact (hbare a.src (by omega)).accepted a ha rfl

/-! ### The requests of a function that is reset -/

theorem cutReq_hasReq {s : State} (i : Nat) {j : Nat} (status : Nat) (h : s.hasReq j = true) :
    (s.cutReq i status false).hasReq j = true := by
  have hm : (s.markEnd i status).hasReq j = true := (markEnd_hasReq s i j status).trans h
  have hne : ({ (s.markEnd i status).req i with cut := true } : Req) ≠ {} := fun he => Bool.noConfusion (congrArg Req.cut he)
  by_cases hj : j = i
  · subst hj
    exact setReq_hasReq hne
  · refine (hasReq_iff _ j).2 ((Tab.mem_keys_put_other _ _ _ hj).2 ?_)
    exact (hasReq_iff _ j).1 hm

theorem cutReq_other (s : State) {i j : Nat} (status : Nat) (h : j ≠ i) : (s.cutReq i status false).req j = s.req j :=
  (State.req_setReq_other _ _ h).trans (markEnd_req_other s status h)

theorem cutReq_self {s : State} {i : Nat} (status : Nat) (h : s.hasReq i = true) :
    ((s.cutReq i status false).req i).ending.isSome = true ∧ ((s.cutReq i status false).req i).cut = true := by
  have hself : (s.cutReq i status false).req i = { (s.markEnd i status).req i with cut := true } := State.req_setReq _ _ _
  rw [hself]
  exact ⟨markEnd_marks status h, rfl⟩

theorem foldl_cutReq (status : Nat) (l : List Nat) (s : State) {i : Nat} :
    (i ∉ l → (l.foldl (fun (u : State) j => u.cutReq j status false) s).req i = s.req i)
    ∧ (s.hasReq i = true → i ∈ l ∨ (s.req i).ending.isSome = true ∧ (s.req i).cut = true →
      ((l.foldl (fun (u : State) j => u.cutReq j status false) s).req i).ending.isSome = true
      ∧ ((l.foldl (fun (u : State) j => u.cutReq j status false) s).req i).cut = true) := by
  induction l generalizing s with
  | nil => exact ⟨fun _ => rfl, fun _ h => h.resolve_left List.not_mem_nil⟩
  | cons x l ih =>
    obtain ⟨hout, hin⟩ := ih (s.cutReq x status false)
    refine ⟨fun hi => ?_, fun hreq hm => hin (cutReq_hasReq x status hreq) ?_⟩
    · obtain ⟨hx, hl⟩ := not_or.1 (mt List.mem_cons.2 hi)
      exact (hout hl).trans (cutReq_other s status hx)
    · by_cases hx : i = x
      · subst hx
        exact .inr (cutReq_self status hreq)
      · rcases hm with hm | hm
        · exact .inl ((List.mem_cons.1 hm).resolve_left hx)
        · exact .inr (by rw [cutReq_other s status hx]; exact hm)

/-- The requests of a function end cut off; the others stay. -/
theorem cutAll_effect {s : State} (hr : Tab.Rises s.reqs) (fn : Nat) (i : Nat) :
    (s.hasReq i = true → (s.req i).fn = fn → ((cutAll s fn).req i).ending.isSome = true ∧ ((cutAll s fn).req i).cut = true)
    ∧ ((s.req i).fn ≠ fn → (cutAll s fn).req i = s.req i) := by
  obtain ⟨hout, hin⟩ := foldl_cutReq Code.functionReset ((s.reqs.filter fun e => e.2.fn == fn).map (·.1)) s (i := i)
  refine ⟨fun hreq hfn => hin hreq (.inl ?_), fun hfn => hout fun hm => ?_⟩
  · exact List.mem_map.2 ⟨(i, s.req i), List.mem_filter.2 ⟨Tab.mem_of_key hr ((hasReq_iff s i).1 hreq), beq_iff_eq.2 hfn⟩, rfl⟩
  · obtain ⟨e, he, rfl⟩ := List.mem_map.1 hm
    obtain ⟨hmem, hf⟩ := List.mem_filter.1 he
    have hval : s.req e.1 = e.2 := Tab.get_of_mem hr hmem
    rw [hval] at hfn
    exact hfn (beq_iff_eq.1 hf)

/-! ### The service port -/

section
variable {s t u : State} {r i : Nat} {c : BitVec 1024}

/-- A command of the service mailbox that its source may issue and that is well formed is accepted; another is refused. -/
theorem devSvcCtlGo_runs (htarget : s.target r 0 0x190 .service = some i) (ht : t = s.dropLatch r 0) (hc : c = t.svcImage)
    (hfree : t.rd R.svcBusy = 0) (hu : u = t.wr R.svcBusy 1) : exec (.devSvcCtlGo r) s = .next (
      if privileged (Ad.opcode c) = false ∨ Ad.dataLen c ≠ 0 then u.deliver 64 (Ad.cid c) Code.notPermitted 0 false
      else if Ad.wellFormed c = false then u.deliver 64 (Ad.cid c) Code.badCommand 0 false
      else { u with accepted := u.accepted ++ [{ src := 64, img := c }] }) := by
  subst hu hc ht
  have hbusy : ¬ (s.dropLatch r 0).rd R.svcBusy = 1 := by
    rw [hfree]
    decide
  show execDevSvcCtlGo r s = _
  unfold execDevSvcCtlGo
  rw [own_target htarget]
  exact congrArg Host.Outcome.next (if_neg hbusy)

end

theorem svcPrivateWrite_runs {s : State} {data : List Byte} (hready : s.dev.svcReady = true) (hzero : zeros data 5 3 = true)
    (hoff : fld data 0 4 % 4 = 0) : exec (.svcPrivateWrite data) s = .next (
      if data.length = 8 ∧ fld data 4 1 = 0 then
        (s.busRead 64 (fld data 0 4)).2.setSvcRead (some (BitVec.ofNat 32 (s.busRead 64 (fld data 0 4)).1))
      else if data.length = 12 ∧ fld data 4 1 = 1 then
        (s.regWrite 64 (fld data 0 4) 4 (BitVec.ofNat 64 (fld data 8 4))).setSvcRead none
      else s.setSvcRead none) := by
  have hgood : ¬ (zeros data 5 3 = false ∨ fld data 0 4 % 4 ≠ 0) := by
    rw [hzero, hoff]
    decide
  show execSvcPrivateWrite data s = _
  unfold execSvcPrivateWrite
  rw [hready]
  dsimp only
  rw [if_neg (by decide), if_neg hgood]
  split
  · rfl
  · split <;> rfl

/-- Settles O47: a function's reset part by part, every function's by what stays reset, and the events of the ports. -/
theorem resetsAndReadiness : Obligations.ResetsAndReadiness := by
  refine ⟨fun s fn hr hup hfn => ?_, fun s hup => ?_, fun s => ?_, fun s hperst => onlyIf_of hperst, fun s hserv => ?_, fun s hst => ?_,
    fun s t u r i c htarget ht hc hfree hu => ?_, fun s data hready hzero hoff => ?_⟩
  · obtain ⟨hmem, hplots, hreqs, hnotify⟩ := resetFn_keeps s fn
    have hbare := resetFn_bare s fn
    have hreq : ∀ i, (s.resetFn fn).req i = (cutAll s fn).req i := fun i => by rw [State.req, State.req, hreqs]
    refine ⟨s.resetFn fn, (onlyIf_of hup).trans (congrArg Host.Outcome.next (if_neg hfn)), hbare.qps, hbare.accepted, fun i => ?_,
      fun i => ?_, hnotify, hmem, hplots⟩
    · rw [hreq]
      exact (cutAll_effect hr fn i).1
    · rw [hreq]
      exact (cutAll_effect hr fn i).2
  · obtain ⟨hqps, hacc⟩ := allReset_effect s
    obtain ⟨hmem, hplots⟩ := foldl_resetFn_keeps (List.range 64) s
    exact ⟨_, (onlyIf_of hup).trans (congrArg Host.Outcome.next (if_pos rfl)), hqps, hacc, hmem, hplots⟩
  · obtain ⟨hqps, hacc⟩ := allReset_effect s
    obtain ⟨hmem, hplots⟩ := foldl_resetFn_keeps (List.range 64) s
    have hexec : exec .perstAssert s = execPerstAssert s := rfl
    rw [hexec, execPerstAssert]
    generalize (List.range 64).foldl State.resetFn s = u at hqps hacc hmem hplots ⊢
    exact ⟨_, rfl, hqps, hacc, rfl, hmem, hplots⟩
  · have hready : (s.serving || s.dev.st == .shuttered) = true := by rw [hserv, Bool.true_or]
    exact ⟨onlyIf_of hready, onlyIf_of hready⟩
  · exact onlyIf_of (bne_iff_ne.2 hst)
  · have hexec := devSvcCtlGo_runs htarget ht hc hfree hu
    refine ⟨fun hpriv hlen hwf => ?_, fun hpriv => ?_⟩
    · rw [hexec, hpriv, hlen, hwf, if_neg (by decide), if_neg (by decide)]
    · rw [hexec, if_pos (.inl hpriv)]
  · have hexec := svcPrivateWrite_runs hready hzero hoff
    refine ⟨fun hlen hop => ?_, fun hlen hop => ?_⟩
    · rw [hexec, if_pos ⟨hlen, hop⟩]
    · rw [hexec, if_neg (by rw [hlen]; exact fun h => absurd h.1 (by decide)), if_pos ⟨hlen, hop⟩]

end Sys2Proof.Proofs

/-! PROOFS. Loading weights: manifests, shards, and the broadcast. -/
namespace Sys2Proof.Proofs
open Sys2Proof Sys2Proof.Machine Sys2Proof.Laws

/-! ### Manifests -/

/-- A model's weights after the manifest of its load has been read from flash. -/
def loadedAs (s : State) (p m : Nat) (b : List Byte) : Wgt :=
  if s.manifestGood p m b then
    (match s.placement p m b with
      | some t => { tried := true, named := b, manifest := b, good := true, shards := t }
      | none => { tried := true, named := b, manifest := b })
  else { s.wgt (wgtIx p m) with tried := true }

/-- From s to t an error may have been raised, and the weights at an index are those given. -/
structure Loads (ix : Nat) (s t : State) (g : Wgt) : Prop where
  self : t.wgt ix = g
  others : ∀ j, j ≠ ix → t.wgt j = s.wgt j

theorem setWgt_loads (s : State) (ix : Nat) (g : Wgt) : Loads ix s (s.setWgt ix g) g :=
  ⟨State.wgt_setWgt s ix g, fun _ hj => State.wgt_setWgt_other _ _ hj⟩

theorem Loads.raised {ix : Nat} {s t u : State} {g : Wgt} (h : Loads ix s t g) (hr : OnlyRaised t u) : Loads ix s u g := by
  have hw : ∀ j, u.wgt j = t.wgt j := fun j => by
    rw [hr]
    rfl
  exact ⟨(hw ix).trans h.self, fun j hj => (hw j).trans (h.others j hj)⟩

theorem Loads.setWgt {ix : Nat} {s t : State} {g : Wgt} (h : Loads ix s t g) (g' : Wgt) : Loads ix s (t.setWgt ix g') g' :=
  ⟨State.wgt_setWgt t ix g', fun j hj => (State.wgt_setWgt_other t g' hj).trans (h.others j hj)⟩

/-- A manifest read from flash for a LOADING pavilion, the first one of its load. -/
theorem manifestRead_loads {s : State} {p m : Nat} (b : List Byte) (hflash : s.rd R.fabricLoad = 0)
    (hmodel : (s.model p m).isSome = true) (hst : (s.pav p).st = .loading) (htried : (s.wgt (wgtIx p m)).tried = false)
    (hswap : (s.pav p).swap = none) : s.manifestRead p m b =
      if s.manifestGood p m b = true
        then (s.startLoad p m b).2.setWgt (wgtIx p m) { (s.startLoad p m b).2.wgt (wgtIx p m) with named := b }
        else (s.setWgt (wgtIx p m) { s.wgt (wgtIx p m) with tried := true }).raise (wgtErr .pavilion Code.weightManifestBad p) := by
  have hsome : ¬ (s.model p m).isNone = true := by
    rw [Option.isNone_iff_eq_none]
    exact fun h => Bool.noConfusion (hmodel.symm.trans (congrArg Option.isSome h))
  unfold State.manifestRead
  rw [if_neg hsome]
  simp only [hswap, hst, htried, and_self, if_true, hflash]

theorem startLoad_fits {s : State} {p m : Nat} {b : List Byte} {t : Tab Shard} (h : s.placement p m b = some t) :
    (s.startLoad p m b).2 = s.setWgt (wgtIx p m)
      { tried := true, named := (s.wgt (wgtIx p m)).named, manifest := b, good := true, shards := t } := by
  unfold State.startLoad
  rw [h]

theorem startLoad_noRoom {s : State} {p m : Nat} {b : List Byte} (h : s.placement p m b = none) :
    (s.startLoad p m b).2 = (s.setWgt (wgtIx p m)
      { tried := true, named := (s.wgt (wgtIx p m)).named, manifest := b }).raise (wgtErr .pavilion Code.weightNoRoom p) := by
  unfold State.startLoad
  rw [h]

theorem wgtErr_raised (s : State) (event p : Nat) : OnlyRaised s (s.raise (wgtErr .pavilion event p)) :=
  raise_onlyRaised s Cls.noConfusion rfl

/-- Every outcome of a first manifest. -/
theorem manifestRead_effect {s : State} {p m : Nat} (b : List Byte) (hflash : s.rd R.fabricLoad = 0)
    (hmodel : (s.model p m).isSome = true) (hst : (s.pav p).st = .loading) (htried : (s.wgt (wgtIx p m)).tried = false)
    (hswap : (s.pav p).swap = none) : Loads (wgtIx p m) s (s.manifestRead p m b) (loadedAs s p m b)
      ∧ (s.manifestGood p m b = true ∧ (s.placement p m b).isSome = true →
        s.manifestRead p m b = { s with wgts := (s.manifestRead p m b).wgts }) := by
  have hread := manifestRead_loads b hflash hmodel hst htried hswap
  unfold loadedAs
  by_cases hgood : s.manifestGood p m b = true
  · rw [if_pos hgood] at hread ⊢
    cases hplace : s.placement p m b with
    | some t =>
      rw [startLoad_fits hplace, State.wgt_setWgt] at hread
      rw [hread]
      exact ⟨(setWgt_loads s _ _).setWgt _, fun _ => rfl⟩
    | none =>
      rw [startLoad_noRoom hplace] at hread
      have hload := (setWgt_loads s (wgtIx p m)
        { tried := true, named := (s.wgt (wgtIx p m)).named, manifest := b }).raised (wgtErr_raised _ Code.weightNoRoom p)
      rw [hload.self] at hread
      rw [hread]
      exact ⟨hload.setWgt _, fun h => absurd h.2 Bool.false_ne_true⟩
  · rw [if_neg hgood] at hread ⊢
    rw [hread]
    exact ⟨(setWgt_loads s _ _).raised (wgtErr_raised _ Code.weightManifestBad p), fun h => absurd h.1 hgood⟩

/-! ### Shards -/

theorem judged_good {h : Shard} {b : List Byte} {i : Nat} {d : List Byte} (hgood : d.length = Man.size b i ∧
    rootOf (shardLeaves (Man.id b i) (Man.leaves b i) d) = Man.root b i) :
    h.judged b i d = { h with verified := true, leaves := shardLeaves (Man.id b i) (Man.leaves b i) d, data := d } := if_pos hgood

theorem judged_bad {h : Shard} {b : List Byte} {i : Nat} {d : List Byte} (hbad : ¬ (d.length = Man.size b i ∧
    rootOf (shardLeaves (Man.id b i) (Man.leaves b i) d) = Man.root b i)) :
    h.judged b i d = { h with reads := h.reads + 1 } := if_neg hbad

/-- A shard read from flash for its pavilion's load is judged. -/
theorem shardVerify_judges {s : State} {p m i : Nat} {h : Shard} {b data : List Byte} (hserv : s.serving = true)
    (hflash : s.rd R.fabricLoad = 0) (hstage : s.stages p m i = none) (hh : h = s.shard p m i)
    (hb : b = (s.wgt (wgtIx p m)).manifest) (hloads : s.loads p m i = true) (hreads : h.reads < 3) :
    exec (.shardVerify p m i data) s = .next ((s.setShard p m i (h.judged b i data)).digestFail p ((h.judged b i data).reads == 3)) := by
  subst hh hb
  have hgo : ¬ (s.serving = false ∨ s.rd R.fabricLoad = 1) := by
    rw [hserv, hflash]
    decide
  have htake : ¬ (s.loads p m i = false ∨ 3 ≤ (s.shard p m i).reads) := by
    rw [hloads]
    exact fun h => h.elim (fun h => Bool.noConfusion h) fun h => absurd h (Nat.not_le.2 hreads)
  show execShardVerify p m i data s = _
  unfold execShardVerify
  rw [if_neg hgo, hstage]
  exact if_neg htake

/-! ### The broadcast -/

/-- The start of a broadcast takes effect when nothing is due before it. -/
theorem fabricBroadcastStart_runs {s : State} (hserv : s.serving = true) (hst : s.bcast.st = .announced)
    (hdue : s.bcast.start ≤ s.time) (hbefore : s.before (turnAt s.bcast.start 2 0) = []) :
    exec .fabricBroadcastStart s = .next s.bcastStart := by
  have hb : s.bcastDue = true := by
    rw [State.bcastDue, hserv, hst, decide_eq_true hdue]
    rfl
  have hsettle : s.settle (turnAt s.bcast.start 2 0) = s := by
    unfold State.settle
    rw [hbefore]
    rfl
  show execFabricBroadcastStart s = _
  rw [execFabricBroadcastStart, hsettle, onlyIf_of hb]
  exact congrArg Host.Outcome.next (if_pos hb)

theorem bcastStart_valid {s : State} (h : s.sdl.st.valid = true) : s.bcastStart = s.bcastRun :=
  if_neg fun hc => Bool.noConfusion (h.symm.trans hc)

/-- A receiver takes an item while the broadcast runs, and the broadcast ends on it when nothing is left to take. -/
theorem broadcastLeaf_takes {s u : State} {x : BcastItem} (hserv : s.serving = true) (hload : s.rd R.fabricLoad = 1)
    (hst : s.bcast.st = .running) (hu : u = s.takeItem x) : exec (.broadcastLeaf x) s =
      .next (if u.bcastWants then u else { u with bcast := { u.bcast with st := .idle } }) := by
  subst hu
  refine onlyIf_of ?_
  rw [hserv, hload, hst]
  rfl

theorem shardEndMarker_asks {s : State} {p m i : Nat} {h : Shard} {b : List Byte} (hserv : s.serving = true)
    (hload : s.rd R.fabricLoad = 1) (hst : s.bcast.st = .running) (hshard : s.bcastShard p m i = some (h, b, none)) :
    exec (.shardEndMarker p m i) s = .next (
      if h.rounds < 3 then (s.setShard p m i { h with rounds := h.rounds + 1 }).emit
        (.repairRequest p m (Man.id b i) (missingLeaves h b i))
      else if h.rounds = 3 then
        ((s.setShard p m i { h with rounds := 4, reads := 3 }).raise (wgtErr .pavilion Code.weightDigestFail p)).bcastEnds
      else s) := by
  have hgo : ¬ (s.serving = false ∨ s.rd R.fabricLoad = 0 ∨ s.bcast.st ≠ .running) := by
    rw [hserv, hload, hst]
    decide
  show execShardEndMarker p m i s = _
  unfold execShardEndMarker
  rw [if_neg hgo, hshard]
  dsimp only
  split
  · rfl
  · split <;> rfl

/-- Settles O48: a manifest, a shard's verification and placement, the broadcast's announcement and start, and what a receiver
takes. -/
theorem weightLoading : Obligations.WeightLoading := by
  refine ⟨fun s p m b hserv hflash hgate hmodel hst htried hswap => ?_,
    fun s p m i data h b hserv hflash hstage hh hb hloads hreads => ?_, fun s t p m i h hh hst hver hplace ht => ?_,
    fun s start n hserv hroot hn => ?_, fun s start hserv hroot hload => ?_, fun s hserv hst hdue hbefore => ?_,
    fun s u p m i k d b h hserv hload hst hshard hlen hhash hu => ?_,
    fun s u p m i hs b h hserv hload hst hshard hlen hu => ?_, fun s u p m i b h hserv hload hst hshard => ?_⟩
  · obtain ⟨⟨hself, hothers⟩, hframe⟩ := manifestRead_effect b hflash hmodel hst htried hswap
    have hgo : (s.serving && s.rd R.fabricLoad == 0 && !s.upd.gateDown) = true := by
      rw [hserv, hflash, hgate]
      rfl
    exact ⟨_, onlyIf_of hgo, hself, hothers, hframe⟩
  · have hexec := shardVerify_judges (data := data) hserv hflash hstage hh hb hloads hreads
    refine ⟨fun hsize hroot => ?_, fun hbad hfew => ?_, fun hbad htwo => ?_⟩
    · have hfirst : (h.reads == 3) = false := beq_eq_false_iff_ne.2 (Nat.ne_of_lt hreads)
      rw [hexec, judged_good ⟨hsize, hroot⟩]
      exact congrArg Host.Outcome.next (if_neg (by rw [hfirst]; exact Bool.false_ne_true))
    · have hfirst : (h.reads + 1 == 3) = false := beq_eq_false_iff_ne.2 (by omega)
      rw [hexec, judged_bad hbad]
      exact congrArg Host.Outcome.next (if_neg (by rw [hfirst]; exact Bool.false_ne_true))
    · rw [hexec, judged_bad hbad, htwo]
      rfl
  · subst hh
    have hshard : t.shard p m i = { s.shard p m i with
        inPlace := true, data := [], leaves := [], got := [], reads := 0, rounds := 0 } := by
      rw [ht, shard_setShard]
    refine ⟨?_, by rw [hshard], by rw [hshard]; exact hver⟩
    subst ht
    exact if_pos ⟨hst, hver, hplace⟩
  · subst hn
    show execBroadcastAnnounce start s = _
    simp only [execBroadcastAnnounce, hserv, hroot, Bool.true_eq_false, if_false, if_true]
    rfl
  · show execBroadcastAnnounce start s = _
    simp only [execBroadcastAnnounce, hserv, hroot, hload, Bool.true_eq_false, Nat.zero_ne_one, if_false, if_true, ok]
  · have hexec := fabricBroadcastStart_runs hserv hst hdue hbefore
    refine ⟨fun hval => ?_, fun hval hroot => ?_, fun hval hroot => ?_⟩
    · rw [hexec]
      exact congrArg Host.Outcome.next (if_pos hval)
    · rw [hexec, bcastStart_valid hval, State.bcastRun, if_neg (by rw [hroot]; decide)]
    · rw [hexec, bcastStart_valid hval, State.bcastRun, if_pos hroot]
  · have htake : u = s.takeItem (.leaf p m i k d) := by
      show u = s.takeLeaf p m i k d
      unfold State.takeLeaf
      rw [hshard, hu]
      exact (if_pos ⟨hlen, hhash⟩).symm
    refine ⟨broadcastLeaf_takes hserv hload hst htake, ?_⟩
    rw [hu, shard_setShard]
  · have htake : u = s.takeItem (.leafTable p m i hs) := by
      show u = s.takeTable p m i hs
      unfold State.takeTable
      rw [hshard, hu]
      by_cases hroot : rootOf hs = Man.root b i
      · rw [if_pos hroot]
        exact (if_pos ⟨hlen, hroot⟩).symm
      · rw [if_neg hroot]
        exact (if_neg fun hc => hroot hc.2).symm
    exact broadcastLeaf_takes hserv hload hst htake
  · have hexec := shardEndMarker_asks hserv hload hst hshard
    refine ⟨fun hfew => ?_, fun hthree hu => ?_⟩
    · rw [hexec, if_pos hfew]
      rfl
    · rw [hexec, if_neg (by omega), if_pos hthree, ← hu]
      rfl

end Sys2Proof.Proofs

/-! PROOFS. Weight swaps: the generation of a swap that is done.

The registers lie in one table of keys, and a register number is part of its key. The generation of the pavilion number
`noticePav` has the key of FN_NOTIFY of function 0: the end of a swap writes the generation there, and the notice that the
pavilion is OPEN again sets a bit in it. -/
namespace Sys2Proof.Proofs
open Sys2Proof Sys2Proof.Machine Sys2Proof.Laws

/-- The last unit's copy ends the swap. -/
theorem swapUnitCopied_last {s : State} {p : Nat} {w : Swap} (hswap : (s.pav p).swap = some w) (hst : w.stage = .copying)
    (hback : w.back = false) (hlast : (Man.units w.manifest).find? (fun u => decide (w.unit < u)) = none) :
    exec (.swapUnitCopied p []) s = .next (((s.unitShards p w).foldl (fun (u : State) i => u.copyShard p w w.manifest i) s).swapDone p
      { w with copied := w.copied ++ [w.unit] }) := by
  have hman : s.stagedManifest p w = w.manifest := if_neg (by rw [hback]; exact Bool.false_ne_true)
  show execSwapUnitCopied p [] s = _
  unfold execSwapUnitCopied
  simp only [hswap, hst, hback, State.hbmEvents, List.foldl_nil, ne_eq, not_true_eq_false, if_false, Bool.false_eq_true, hman,
    hlast, ok]

/-- A completion to a function changes no register. -/
theorem complete_regs (s : State) {src : Nat} (h : src < 64) (cid : Word32) (status result : Nat) (more : Bool) :
    (s.complete src cid status result more).regs = s.regs := by
  unfold State.complete
  split
  · have hdeliver : ∀ t : State, (t.deliver src cid status result more).regs = t.regs := fun t => by
      rw [State.deliver, if_neg (Nat.ne_of_lt h), (putEvent_pumped _ _ _).frame]
    dsimp only
    rw [(pumpAdmin_pumped _ h 256).frame]
    refine (hdeliver _).trans ?_
    split <;> rfl
  · rfl

/-- The pavilion number whose generation has the key of the PF's notices. -/
def noticePav : Nat := R.fnNotify.key 0 0 - R.wgtGen.key 0 0

/-- The copy of the only unit of a swap, whose manifest is empty: its generation is 0. -/
def lateSwap : Swap := { model := 0, stage := .copying, src := 5 }

/-- A device whose functions are answered, with that swap in a SWAPPING pavilion. -/
def lateState : State := { dev := { cfgReady := true }, pavs := [(noticePav, { st := .swapping, swap := some lateSwap })] }

/-- The generation that the swap leaves. -/
theorem lateState_gen : ((((lateState.unitShards noticePav lateSwap).foldl (fun (u : State) i =>
    u.copyShard noticePav lateSwap lateSwap.manifest i) lateState).swapDone noticePav
      { lateSwap with copied := lateSwap.copied ++ [lateSwap.unit] }).rd R.wgtGen noticePav lateSwap.model) = 4 := by
  decide +kernel

/-- Refutes O49: the generation of the pavilion number `noticePav` is the PF's register of notices, and the end of its swap
leaves there not the generation 0 but the bit of PAVILION_STATE. -/
theorem not_swapsAndScrub : ¬ Obligations.SwapsAndScrub := by
  intro h
  obtain ⟨_, _, _, _, hcopied, _⟩ := h
  have hpav : (lateState.pav noticePav).swap = some lateSwap := by decide +kernel
  have hlast : (Man.units lateSwap.manifest).find? (fun u => decide (lateSwap.unit < u)) = none := by decide +kernel
  obtain ⟨u, hexec, _, _, _, _, hgen, _⟩ := (hcopied lateState lateState _ noticePav lateSwap [] hpav rfl rfl rfl rfl).1 hlast
  rw [swapUnitCopied_last hpav rfl rfl hlast] at hexec
  have hregs := congrArg State.regs (Host.Outcome.next.inj hexec)
  rw [complete_regs u (by decide)] at hregs
  have hfour := lateState_gen
  rw [rd_of_regs hregs, hgen] at hfour
  exact absurd hfour (by decide +kernel)

end Sys2Proof.Proofs

/-! PROOFS. Raising an error: what is said stays said, repairs stay pending, and no register changes but the PF's notices. -/
namespace Sys2Proof.Proofs
open Sys2Proof Sys2Proof.Machine Sys2Proof.Laws

/-- From s to t errors were noted: nothing said is lost, the pending repairs stay as they are, and of the registers only the PF's
notices changed. -/
structure Noted (s t : State) : Prop where
  frame : OnlyRaised s t
  out : s.out <+: t.out
  repair : t.errs.repairPending = s.errs.repairPending
  regs : ∀ (f : Field) (inst i : Nat), f.key inst i ≠ R.fnNotify.key 0 0 → t.rd f inst i = s.rd f inst i

theorem Noted.refl (s : State) : Noted s s := ⟨rfl, List.prefix_rfl, rfl, fun _ _ _ _ => rfl⟩

theorem Noted.trans {s t u : State} (h : Noted s t) (g : Noted t u) : Noted s u := by
  refine ⟨?_, h.out.trans g.out, g.repair.trans h.repair, fun f inst i hk => (g.regs f inst i hk).trans (h.regs f inst i hk)⟩
  have hf := h.frame
  have gf := g.frame
  unfold OnlyRaised at *
  rw [gf, hf]

/-- Error records other than pending repairs changed, and nothing else. -/
theorem Noted.of_errs {s : State} {e : Errs} (h : e.repairPending = s.errs.repairPending) : Noted s { s with errs := e } :=
  ⟨rfl, List.prefix_rfl, h, fun _ _ _ _ => rfl⟩

theorem setBank_repairPending (e : Errs) (c : Cls) (b : ErrBank) : (e.setBank c b).repairPending = e.repairPending := by
  cases c <;> rfl

theorem fire_noted (s : State) (fn vec : Nat) : Noted s (s.fire fn vec) := by
  unfold State.fire
  split
  · exact .refl s
  · split
    · exact ⟨rfl, List.prefix_rfl, rfl, fun _ _ _ _ => rfl⟩
    · exact ⟨rfl, List.prefix_append _ _, rfl, fun _ _ _ _ => rfl⟩

theorem notify_noted (s : State) (bit : Nat) : Noted s (s.notify 0 bit) := by
  unfold State.notify
  split
  · exact .refl s
  · have hwr : Noted s (s.wr R.fnNotify (s.rd R.fnNotify 0 + 2 ^ bit) 0) :=
      ⟨rfl, List.prefix_rfl, rfl, fun f inst i hk => State.rd_wr_other _ hk⟩
    exact hwr.trans (fire_noted _ 0 31)

theorem countErr_noted (s : State) (c : Cls) : Noted s ((s.countErr c).nextSeq) := .of_errs (setBank_repairPending s.errs c _)

theorem ringPut_noted (s : State) (c : Cls) (r : BitVec 256) : Noted s (s.ringPut c r) := .of_errs (setBank_repairPending s.errs c _)

theorem ringOnly_noted (s : State) (e : Err) (early : Bool) (c : Cls) (r : BitVec 256) : Noted s (s.ringOnly e early c r) := by
  unfold State.ringOnly
  dsimp only
  split
  · exact (ringPut_noted s c r).trans (.of_errs rfl)
  · exact ringPut_noted s c r

theorem preempt_noted (s : State) : Noted s s.preempt := by
  unfold State.preempt
  split
  · exact .refl s
  · exact .of_errs (setBank_repairPending s.errs _ _)

theorem putPrimary_noted (s : State) (c : Cls) (r : BitVec 256) : Noted s (s.putPrimary c r) := by
  unfold State.putPrimary
  dsimp only
  split
  · refine Noted.trans (.of_errs ?_) (notify_noted _ 3)
    cases c <;> rfl
  · refine .of_errs ?_
    cases c <;> rfl

theorem primaryIn_noted (s : State) (e : Err) (c : Cls) (r : BitVec 256) : Noted s (s.primaryIn e c r) := by
  have hput := (preempt_noted s).trans (putPrimary_noted _ c r)
  unfold State.primaryIn
  dsimp only
  split
  · exact hput.trans (.of_errs rfl)
  · exact hput

theorem enter_noted (s : State) {e : Err} (hc : e.cls ≠ .device) (hi : e.inHandler = false) : Noted s (s.enter e) := by
  have hcount := countErr_noted s e.cls
  have hsame : ∀ t : State, t.trialCause e.cls = t := fun t => if_neg fun h => hc h.1
  unfold State.enter
  simp only [hi, Bool.false_and, Bool.false_eq_true, if_false, hc, false_and, hsame]
  split
  · exact hcount.trans (ringOnly_noted _ _ _ _ _)
  · split
    · exact hcount.trans (ringOnly_noted _ _ _ _ _)
    · exact hcount.trans (primaryIn_noted _ _ _ _)

/-- An error of a class under DEVICE, raised outside a handler. -/
theorem raise_noted (s : State) {e : Err} (hc : e.cls ≠ .device) (hi : e.inHandler = false) : Noted s (s.raise e) := by
  unfold State.raise
  split
  · exact .refl s
  · exact ⟨rfl, List.prefix_rfl, rfl, fun _ _ _ _ => rfl⟩
  · exact ⟨rfl, List.prefix_rfl, rfl, fun _ _ _ _ => rfl⟩
  · exact enter_noted s hc hi

theorem corrErr_noted (s : State) (event unit inst d0 d1 : Nat) : Noted s (s.raise (corrErr event unit inst d0 d1)) :=
  raise_noted s Cls.noConfusion rfl

section
variable {s t : State} (h : Noted s t)
include h

theorem Noted.port (i : Nat) : t.port i = s.port i := by
  rw [h.frame]
  rfl

theorem Noted.nvm : t.nvm = s.nvm := by rw [h.frame]

theorem Noted.mem : t.mem = s.mem := by rw [h.frame]

end

end Sys2Proof.Proofs

/-! PROOFS. The Torvol link: what sending on a port leaves, and what a port going DOWN leaves (R398 to R404, R425 to R427). -/
namespace Sys2Proof.Proofs
open Sys2Proof Sys2Proof.Machine Sys2Proof.Laws

/-! ### Sending on a port -/

/-- From s to t a port sent: of the ports only it changed, and of it only what numbered codewords need; of the lane maps only its
transmit direction's. -/
structure Sends (i : Nat) (s t : State) : Prop where
  ports : OnlyPorts s t
  others : ∀ j, j ≠ i → t.port j = s.port j
  self : t.port i = { s.port i with
    txSeq := (t.port i).txSeq, replay := (t.port i).replay, held := (t.port i).held, txSwap := (t.port i).txSwap }
  repair : t.nvm.repair = { s.nvm.repair with tvlLane := t.nvm.repair.tvlLane }
  lanes : ∀ k, k ≠ i * 2 → Tab.get none t.nvm.repair.tvlLane k = Tab.get none s.nvm.repair.tvlLane k

theorem Sends.refl (i : Nat) (s : State) : Sends i s s := ⟨.refl s, fun _ _ => rfl, rfl, rfl, fun _ _ => rfl⟩

theorem Sends.trans {i : Nat} {s t u : State} (h : Sends i s t) (g : Sends i t u) : Sends i s u := by
  refine ⟨h.ports.trans g.ports, fun j hj => (g.others j hj).trans (h.others j hj), ?_, ?_, fun k hk => (g.lanes k hk).trans (h.lanes k hk)⟩
  · rw [g.self, h.self]
  · rw [g.repair, h.repair]

theorem Sends.mem {i : Nat} {s t : State} (h : Sends i s t) : t.mem = s.mem := by rw [h.ports.1]

theorem Sends.mbox {i : Nat} {s t : State} (h : Sends i s t) : t.mbox = s.mbox := by rw [h.ports.1]

theorem Sends.regs {i : Nat} {s t : State} (h : Sends i s t) : t.regs = s.regs := by rw [h.ports.1]

theorem Sends.state {i : Nat} {s t : State} (h : Sends i s t) : (t.port i).st = (s.port i).st := h.ports.2.2.2 i

theorem Sends.out {i : Nat} {s t : State} (h : Sends i s t) : s.out <+: t.out := h.ports.2.1

theorem emit_sends (i : Nat) (s : State) (o : Out) : Sends i s (s.emit o) :=
  ⟨⟨rfl, List.prefix_append _ _, id, fun _ => rfl⟩, fun _ _ => rfl, rfl, rfl, fun _ _ => rfl⟩

theorem putCw_sends (i : Nat) (s : State) (c : Cw) : Sends i s (s.putCw i c) :=
  ⟨putCw_ports s i c, fun _ _ => rfl, rfl, rfl, fun _ _ => rfl⟩

/-- A port's codewords and its announced swap change. -/
theorem setPort_sends {i : Nat} {s : State} {p : Port} (h : p = { s.port i with
    txSeq := p.txSeq, replay := p.replay, held := p.held, txSwap := p.txSwap }) : Sends i s (s.setPort i p) := by
  refine ⟨setPort_ports s i p (by rw [h]), fun j hj => State.port_setPort_other _ _ hj, ?_, rfl, fun _ _ => rfl⟩
  rw [State.port_setPort]
  exact h

theorem switchLane_lane (s : State) (i dir lane k : Nat) : Tab.get none (s.switchLane i dir lane).nvm.repair.tvlLane k =
    if k = i * 2 + dir then some lane else Tab.get none s.nvm.repair.tvlLane k := by
  have hdef : (s.switchLane i dir lane).nvm.repair.tvlLane = Tab.put none s.nvm.repair.tvlLane (i * 2 + dir) (some lane) := rfl
  rw [hdef]
  by_cases hk : k = i * 2 + dir
  · rw [if_pos hk, hk, Tab.get_put]
  · rw [if_neg hk, Tab.get_put_other _ hk]

/-- A lane swap of the transmit direction takes effect. -/
theorem switchLane_sends (i : Nat) (s : State) (lane : Nat) : Sends i s (s.switchLane i 0 lane) :=
  ⟨(OnlyPorts.refl s).switch i 0 lane, fun _ _ => rfl, rfl, rfl, fun k hk => by
    rw [switchLane_lane, Nat.add_zero, if_neg hk]⟩

/-- The codeword that takes a port's next SEQ. -/
def nextCw (p : Port) (slots : List Slot) : Cw :=
  { seq := p.txSeq, slots := slots ++ List.replicate (10 - slots.length) (symSlot 0 []) }

/-- A port after it has numbered a codeword. -/
def numbered (p : Port) (slots : List Slot) : Port :=
  { p with txSeq := p.txSeq + 1, replay := p.replay ++ [nextCw p slots], txSwap := p.txSwap.filter fun e => e.1 != p.txSeq }

theorem number_eq (s : State) (i : Nat) (slots : List Slot) : s.number i slots = match (s.port i).txSwap with
    | some (x, lane) => if x = (s.port i).txSeq
        then ((s.setPort i (numbered (s.port i) slots)).switchLane i 0 lane).putCw i (nextCw (s.port i) slots)
        else (s.setPort i (numbered (s.port i) slots)).putCw i (nextCw (s.port i) slots)
    | none => (s.setPort i (numbered (s.port i) slots)).putCw i (nextCw (s.port i) slots) := rfl

/-- A codeword is numbered: the announced swap whose SEQ it has takes effect, and no other. -/
theorem number_effect (s : State) (i : Nat) (slots : List Slot) : Sends i s (s.number i slots)
    ∧ (s.number i slots).port i = numbered (s.port i) slots
    ∧ (∀ lane, (s.port i).txSwap = some ((s.port i).txSeq, lane) →
      Tab.get none (s.number i slots).nvm.repair.tvlLane (i * 2) = some lane)
    ∧ ((∀ e, (s.port i).txSwap = some e → e.1 ≠ (s.port i).txSeq) → (s.number i slots).nvm.repair = s.nvm.repair) := by
  have hset : Sends i s (s.setPort i (numbered (s.port i) slots)) := setPort_sends rfl
  have hport : (s.setPort i (numbered (s.port i) slots)).port i = numbered (s.port i) slots := State.port_setPort _ _ _
  have hplain := hset.trans (putCw_sends i _ (nextCw (s.port i) slots))
  rw [number_eq]
  cases hswap : (s.port i).txSwap with
  | none => exact ⟨hplain, hport, nofun, fun _ => rfl⟩
  | some e =>
    obtain ⟨x, lane⟩ := e
    by_cases hx : x = (s.port i).txSeq
    · simp only [if_pos hx]
      refine ⟨(hset.trans (switchLane_sends i _ lane)).trans (putCw_sends i _ _), hport, fun l hl => ?_, fun h => absurd hx (h _ rfl)⟩
      cases hl
      exact (switchLane_lane _ i 0 lane (i * 2)).trans (if_pos rfl)
    · simp only [if_neg hx]
      exact ⟨hplain, hport, fun l hl => absurd (congrArg Prod.fst (Option.some.inj hl)) hx, fun _ => rfl⟩

/-- The port has room for a numbered codeword. -/
def hasRoom (p : Port) : Prop := p.held = [] ∧ p.replay.length < 128

theorem sendSlots_number {s : State} {i : Nat} (slots : List Slot) (h : hasRoom (s.port i)) : s.sendSlots i slots = s.number i slots :=
  if_pos (by rw [h.1, decide_eq_true h.2]; rfl)

theorem sendSlots_holds {s : State} {i : Nat} (slots : List Slot) (h : ¬ hasRoom (s.port i)) :
    s.sendSlots i slots = s.setPort i { s.port i with held := (s.port i).held ++ [slots] } :=
  if_neg fun hc => h (by
    obtain ⟨hheld, hlen⟩ := Bool.and_eq_true_iff.1 hc
    exact ⟨List.isEmpty_iff.1 hheld, of_decide_eq_true hlen⟩)

theorem sendSlots_sends (s : State) (i : Nat) (slots : List Slot) : Sends i s (s.sendSlots i slots) := by
  by_cases h : hasRoom (s.port i)
  · rw [sendSlots_number slots h]
    exact (number_effect s i slots).1
  · rw [sendSlots_holds slots h]
    exact setPort_sends rfl

theorem sendSym_sends (s : State) (i typ : Nat) (body : List Byte) : Sends i s (s.sendSym i typ body) :=
  (emit_sends i s _).trans (sendSlots_sends _ i _)

/-! ### A port goes DOWN -/

/-- From s to t a port went DOWN for a cause. -/
structure Downed (i reason : Nat) (s t : State) : Prop where
  self : t.port i = (s.port i).dropped ((s.port i).reason reason) s.time
  others : ∀ j, j ≠ i → t.port j = s.port j
  mem : t.mem = s.mem
  half : t.nvm.repair.tvlHalf = s.nvm.repair.tvlHalf
  repair : s.errs.repairPending = true → t.errs.repairPending = true
  attempts : i < 12 → t.rd R.attempts i = 0

theorem portDown_downed {s : State} {i : Nat} (reason : Nat) (send : Bool) (h : (s.port i).st ≠ .down) :
    Downed i reason s (s.portDown i reason send) := by
  have hsent : Sends i s (if send then s.sendDown i reason else s) := by
    split
    · unfold State.sendDown
      split
      · exact sendSym_sends _ _ _ _
      · exact .refl i s
    · exact .refl i s
  rw [State.portDown, if_neg h]
  dsimp only
  generalize (if send = true then s.sendDown i reason else s) = u at hsent ⊢
  generalize hv : (u.setPort i ((s.port i).dropped ((s.port i).reason reason) s.time)).wr R.attempts 0 i = v
  have hr := corrErr_noted v Code.tvlLinkDown 6 i 0 ((s.port i).reason reason)
  refine ⟨(hr.port i).trans ?_, fun j hj => (hr.port j).trans ?_, hr.mem.trans ?_, ?_, fun hp => hr.repair.trans ?_, fun hi => ?_⟩
  · rw [← hv]
    exact State.port_setPort _ _ _
  · rw [← hv]
    exact (State.port_setPort_other _ _ hj).trans (hsent.others j hj)
  · rw [← hv]
    exact hsent.mem
  · rw [hr.nvm, ← hv]
    show u.nvm.repair.tvlHalf = _
    rw [hsent.repair]
  · rw [← hv]
    exact hsent.ports.2.2.1 hp
  · rw [hr.regs R.attempts i 0 ?_, ← hv]
    · exact State.rd_wr _ R.attempts 0 i 0
    · simp only [Field.key, R.attempts, R.fnNotify]
      omega

/-- DOWN is sent on the way. -/
theorem portDown_says {s : State} {i : Nat} (reason : Nat) (h : (s.port i).linkedUp = true) :
    Out.symbol i 0x0E [BitVec.ofNat 8 reason] ∈ (s.portDown i reason true).out := by
  have hst : (s.port i).st ≠ .down := fun hd => by
    rw [Port.linkedUp, hd] at h
    cases h
  have hsent : Out.symbol i 0x0E [BitVec.ofNat 8 reason] ∈ (s.sendDown i reason).out := by
    rw [State.sendDown, if_pos h]
    exact (sendSym_ports _ _ _ _).2
  rw [State.portDown, if_neg hst]
  exact (corrErr_noted _ _ _ _ _ _).out.subset hsent

end Sys2Proof.Proofs

/-! PROOFS. Codewords, their acknowledgement and replay, and the control symbols of a link (R398 to R404, R416, R419, R425, R426,
R503). -/
namespace Sys2Proof.Proofs
open Sys2Proof Sys2Proof.Machine Sys2Proof.Laws

/-! ### A codeword accepted -/

/-- From s to t only a port's counts of corrected symbols and registers changed. -/
structure Fixed (i : Nat) (s t : State) : Prop where
  self : t.port i = { s.port i with lanes := (t.port i).lanes }
  others : ∀ j, j ≠ i → t.port j = s.port j
  frame : t = { s with ports := t.ports, regs := t.regs }

theorem countFixed_fixed (s : State) (i : Nat) (errs : List Nat) : Fixed i s (s.countFixed i errs) := by
  have hself : (s.countFixed i errs).port i = _ := State.port_setPort s i _
  refine ⟨?_, fun j hj => State.port_setPort_other s _ hj, rfl⟩
  rw [hself]

/-- A port that has taken a numbered codeword. -/
def tookCw (p : Port) : Port := { p with rxSeq := p.rxSeq + 1, nakSent := false, acked := (p.acked + 1) % 32 }

/-- A codeword is counted, and a lane swap whose switch SEQ it has takes effect (R425). -/
def swapTaken (s : State) (i : Nat) (c : Cw) : State :=
  match (s.port i).swapAt with
  | some (x, lane) =>
    if x = c.seq then
      ((s.setPort i { tookCw (s.port i) with swapAt := none }).switchLane i 1 lane).raise (corrErr Code.tvlLaneSpared 6 i)
    else s.setPort i (tookCw (s.port i))
  | none => s.setPort i (tookCw (s.port i))

/-- A codeword is acknowledged if it is the 32nd (R402). -/
def ackTaken (s : State) (i : Nat) (c : Cw) : State :=
  if (s.port i).acked + 1 = 32 then (swapTaken s i c).sendSym i 0x04 [c.seq] else swapTaken s i c

theorem acceptCw_eq (s : State) (i : Nat) (at' : Word64) (rep : Bool) (c : Cw) :
    s.acceptCw i at' rep c = c.slots.foldl (fun u sl => u.takeSlot i at' rep sl) (ackTaken s i c) := rfl

/-- From s to t a codeword has been taken on a port. -/
structure Took (i : Nat) (c : Cw) (s t : State) : Prop where
  seq : (t.port i).rxSeq = (s.port i).rxSeq + 1
  nak : (t.port i).nakSent = false
  acked : (t.port i).acked = ((s.port i).acked + 1) % 32
  swap : ∀ lane, (s.port i).swapAt = some (c.seq, lane) →
    Tab.get none t.nvm.repair.tvlLane (i * 2 + 1) = some lane ∧ (t.port i).swapAt = none
  others : ∀ j, j ≠ i → t.port j = s.port j
  out : s.out <+: t.out
  mem : t.mem = s.mem
  mbox : t.mbox = s.mbox

theorem swapTaken_took (s : State) (i : Nat) (c : Cw) : Took i c s (swapTaken s i c) := by
  have hplain : (∀ lane, (s.port i).swapAt ≠ some (c.seq, lane)) → Took i c s (s.setPort i (tookCw (s.port i))) := fun hno => by
    have hself : (s.setPort i (tookCw (s.port i))).port i = tookCw (s.port i) := State.port_setPort _ _ _
    exact ⟨by rw [hself]; rfl, by rw [hself]; rfl, by rw [hself]; rfl, fun lane hl => absurd hl (hno lane),
      fun j hj => State.port_setPort_other _ _ hj, List.prefix_rfl, rfl, rfl⟩
  unfold swapTaken
  split
  · next x lane hswap =>
    split
    · next hx =>
      generalize hv : (s.setPort i { tookCw (s.port i) with swapAt := none }).switchLane i 1 lane = v
      have hr := corrErr_noted v Code.tvlLaneSpared 6 i 0 0
      have hself : v.port i = { tookCw (s.port i) with swapAt := none } := by
        rw [← hv]
        exact State.port_setPort _ _ _
      have hlane : Tab.get none v.nvm.repair.tvlLane (i * 2 + 1) = some lane := by
        rw [← hv]
        exact (switchLane_lane _ i 1 lane (i * 2 + 1)).trans (if_pos rfl)
      refine ⟨by rw [hr.port, hself]; rfl, by rw [hr.port, hself]; rfl, by rw [hr.port, hself]; rfl, fun l hl => ⟨?_, ?_⟩,
        fun j hj => (hr.port j).trans ?_, List.IsPrefix.trans ?_ hr.out, hr.mem.trans ?_, ?_⟩
      · rw [hr.nvm, hlane]
        rw [hswap] at hl
        rw [(Prod.mk.inj (Option.some.inj hl)).2]
      · rw [hr.port, hself]
      · rw [← hv]
        exact State.port_setPort_other _ _ hj
      · rw [← hv]
        exact List.prefix_rfl
      · rw [← hv]
        rfl
      · rw [hr.frame, ← hv]
        rfl
    · next hx =>
      refine hplain fun l hl => hx ?_
      rw [hswap] at hl
      exact (Prod.mk.inj (Option.some.inj hl)).1
  · next hswap => exact hplain fun l hl => Option.some_ne_none _ (hl.symm.trans hswap)

theorem Took.sends {i : Nat} {c : Cw} {s t u : State} (h : Took i c s t) (g : Sends i t u) : Took i c s u := by
  refine ⟨?_, ?_, ?_, fun lane hl => ⟨(g.lanes _ (by omega)).trans (h.swap lane hl).1, ?_⟩,
    fun j hj => (g.others j hj).trans (h.others j hj), h.out.trans g.out, g.mem.trans h.mem, g.mbox.trans h.mbox⟩
  · rw [g.self]
    exact h.seq
  · rw [g.self]
    exact h.nak
  · rw [g.self]
    exact h.acked
  · rw [g.self]
    exact (h.swap lane hl).2

theorem ackTaken_took (s : State) (i : Nat) (c : Cw) : Took i c s (ackTaken s i c)
    ∧ ((s.port i).acked = 31 → Out.symbol i 0x04 [c.seq] ∈ (ackTaken s i c).out) := by
  have htook := swapTaken_took s i c
  unfold ackTaken
  split
  · exact ⟨htook.sends (sendSym_sends _ _ _ _), fun _ => (sendSym_ports _ _ _ _).2⟩
  · next hno => exact ⟨htook, fun h => absurd (by rw [h]) hno⟩

theorem Took.of_fixed {i : Nat} {c : Cw} {s t u : State} (h : Fixed i s t) (g : Took i c t u) : Took i c s u := by
  have hmem : t.mem = s.mem := by rw [h.frame]
  have hmbox : t.mbox = s.mbox := by rw [h.frame]
  have hout : t.out = s.out := by rw [h.frame]
  refine ⟨g.seq.trans ?_, g.nak, g.acked.trans ?_, fun lane hl => g.swap lane ?_, fun j hj => (g.others j hj).trans (h.others j hj),
    hout ▸ g.out, g.mem.trans hmem, g.mbox.trans hmbox⟩ <;> rw [h.self]
  exact hl

/-- A codeword of IDLE symbols leaves nothing to take. -/
theorem foldl_takeSlot_idle (i : Nat) (at' : Word64) (rep : Bool) (l : List Slot) (s : State)
    (h : ∀ sl ∈ l, sl.ctrl = true ∧ fld sl.bytes 0 1 = 0) : l.foldl (fun u sl => u.takeSlot i at' rep sl) s = s := by
  induction l with
  | nil => rfl
  | cons sl l ih =>
    obtain ⟨hctrl, hidle⟩ := h sl List.mem_cons_self
    have hone : s.takeSlot i at' rep sl = s := by
      unfold State.takeSlot State.takeSym
      simp only [hctrl, hidle, if_true, ite_self]
    rw [List.foldl_cons, hone]
    exact ih fun x hx => h x (List.mem_cons_of_mem sl hx)

/-! ### Codewords that arrive -/

section
variable {s : State} {i : Nat} {prev : BitVec 58} {msg : BitVec 5140} {errs bad : List Nat} {at' : Word64} {rep : Bool} {c : Cw}

theorem numberedCodeword_runs (hup : (s.port i).linkedUp = true) (hbad : bad = (errs.filter (· < 544)).eraseDups)
    (hc : c = Cw.ofMessage (descrambled prev msg)) : ∃ t, Fixed i s t ∧ exec (.numberedCodeword i prev msg errs at' rep) s = .next (
      if c.noseq = true then t
      else if (correctable bad && c.seq == (s.port i).rxSeq) = true then t.acceptCw i at' rep c
      else if (s.port i).nakSent = true then t
      else (t.setPort i { t.port i with nakSent := true }).sendSym i 0x05 [(s.port i).rxSeq]) := by
  subst hbad hc
  refine ⟨if correctable (errs.filter (· < 544)).eraseDups then s.countFixed i (errs.filter (· < 544)).eraseDups else s, ?_, ?_⟩
  · split
    · exact countFixed_fixed s i _
    · exact ⟨rfl, fun _ _ => rfl, rfl⟩
  · show execNumberedCodeword i prev msg errs at' rep s = _
    unfold execNumberedCodeword
    simp only [hup, Bool.true_eq_false, if_false]
    generalize (if correctable (errs.filter (· < 544)).eraseDups = true
      then s.countFixed i (errs.filter (· < 544)).eraseDups else s) = t
    split
    · rfl
    · split
      · rfl
      · split <;> rfl

/-- A codeword that is discarded is answered with one LINK_NAK. -/
theorem nak_effect {t : State} (h : Fixed i s t) (q : Byte) (u : State)
    (hu : u = if (s.port i).nakSent = true then t else (t.setPort i { t.port i with nakSent := true }).sendSym i 0x05 [q]) :
    (u.port i).rxSeq = (s.port i).rxSeq ∧ (u.port i).nakSent = true ∧ ((s.port i).nakSent = true → u.out = s.out)
      ∧ ((s.port i).nakSent = false → Out.symbol i 0x05 [q] ∈ u.out) ∧ (∀ j, j ≠ i → u.port j = s.port j) ∧ u.mem = s.mem
      ∧ u.mbox = s.mbox := by
  have hmem : t.mem = s.mem := by rw [h.frame]
  have hmbox : t.mbox = s.mbox := by rw [h.frame]
  by_cases hsent : (s.port i).nakSent = true
  · rw [if_pos hsent] at hu
    subst hu
    refine ⟨by rw [h.self], by rw [h.self]; exact hsent, fun _ => by rw [h.frame], fun hn => Bool.noConfusion (hn.symm.trans hsent),
      h.others, hmem, hmbox⟩
  · rw [if_neg hsent] at hu
    subst hu
    have hsends := sendSym_sends (t.setPort i { t.port i with nakSent := true }) i 0x05 [q]
    have hport : (t.setPort i { t.port i with nakSent := true }).port i = { t.port i with nakSent := true } := State.port_setPort _ _ _
    refine ⟨?_, ?_, fun hs => absurd hs hsent, fun _ => (sendSym_ports _ _ _ _).2, fun j hj => ?_, hsends.mem.trans hmem,
      hsends.mbox.trans hmbox⟩
    · rw [hsends.self, hport, h.self]
    · rw [hsends.self, hport]
    · exact (hsends.others j hj).trans ((State.port_setPort_other _ _ hj).trans (h.others j hj))

end

/-! ### Acknowledgement and replay -/

theorem Port.rxBuf_nil {p : Port} (h : p.rxBuf = []) : { p with rxBuf := [] } = p := by
  rw [← h]

theorem Port.held_nil {p : Port} (h : p.held = []) : { p with held := [] } = p := by
  rw [← h]

/-- A port set to what it is: every port reads as before. -/
theorem setPort_same {s : State} {i : Nat} {p : Port} (h : p = s.port i) (j : Nat) : (s.setPort i p).port j = s.port j := by
  by_cases hj : j = i
  · rw [hj, State.port_setPort, h]
  · exact State.port_setPort_other _ _ hj

theorem drainRx_idle {s : State} {i : Nat} (h : (s.port i).rxBuf = []) :
    (∀ j, (s.drainRx i).port j = s.port j) ∧ (s.drainRx i).out = s.out := by
  have hdef : s.drainRx i = s.setPort i { s.port i with rxBuf := [] } := by
    rw [State.drainRx, h]
    rfl
  rw [hdef]
  exact ⟨setPort_same (Port.rxBuf_nil h), rfl⟩

theorem foldl_drainRx_idle (l : List Nat) (s : State) (h : ∀ j ∈ l, (s.port j).rxBuf = []) :
    (∀ j, (l.foldl State.drainRx s).port j = s.port j) ∧ (l.foldl State.drainRx s).out = s.out := by
  induction l generalizing s with
  | nil => exact ⟨fun _ => rfl, rfl⟩
  | cons x l ih =>
    obtain ⟨hports, hout⟩ := drainRx_idle (h x List.mem_cons_self)
    obtain ⟨ihports, ihout⟩ := ih (s.drainRx x) fun j hj => by
      rw [hports]
      exact h j (List.mem_cons_of_mem x hj)
    exact ⟨fun j => (ihports j).trans (hports j), ihout.trans hout⟩

/-- With nothing that waits, the link going on changes no port and says nothing. -/
theorem linkGoOn_idle {s : State} {i : Nat} (hdue : s.tvlDue = []) (hheld : (s.port i).held = [])
    (hrx : ∀ j < 12, (s.port j).rxBuf = []) : (∀ j, (s.linkGoOn i).port j = s.port j) ∧ (s.linkGoOn i).out = s.out := by
  have hsend : s.sendHeld i = s.setPort i { s.port i with held := [] } := by
    unfold State.sendHeld
    dsimp only
    rw [hheld]
    rfl
  have hport : ∀ j, (s.sendHeld i).port j = s.port j := fun j => by
    rw [hsend]
    exact setPort_same (Port.held_nil hheld) j
  have hdue' : (s.sendHeld i).tvlDue = [] := by
    rw [hsend]
    exact hdue
  have hflush : (s.sendHeld i).flushDue = { s.sendHeld i with tvlDue := [] } := by
    unfold State.flushDue
    rw [hdue']
    rfl
  have hrest := foldl_drainRx_idle (List.range 12) (s.sendHeld i).flushDue fun j hj => by
    rw [hflush]
    show ((s.sendHeld i).port j).rxBuf = []
    rw [hport]
    exact hrx j (List.mem_range.1 hj)
  unfold State.linkGoOn
  refine ⟨fun j => (hrest.1 j).trans ?_, hrest.2.trans ?_⟩
  · rw [hflush]
    exact hport j
  · rw [hflush, hsend]
    rfl

/-- Codewords are sent again, each under the next free start of the scrambler. -/
theorem foldl_putCw (i : Nat) (l : List Cw) (s : State) : (l.foldl (fun (u : State) c => u.putCw i c) s).out = s.out ++
      (List.range l.length).map (fun k => Out.codeword i (s.onLanes i
        (scrambled ((Config.freeWord (s.freeCtr + k)).setWidth 58) ((l.map Cw.message).getD k 0))))
    ∧ l.foldl (fun (u : State) c => u.putCw i c) s = { s with
        out := (l.foldl (fun (u : State) c => u.putCw i c) s).out
        freeCtr := (l.foldl (fun (u : State) c => u.putCw i c) s).freeCtr } := by
  induction l generalizing s with
  | nil => exact ⟨(List.append_nil _).symm, rfl⟩
  | cons c l ih =>
    obtain ⟨hout, hframe⟩ := ih (s.putCw i c)
    refine ⟨?_, ?_⟩
    · have hone : (s.putCw i c).out = s.out ++ [Out.codeword i (s.onLanes i
          (scrambled ((Config.freeWord s.freeCtr).setWidth 58) c.message))] := rfl
      have hlanes : ∀ m, (s.putCw i c).onLanes i m = s.onLanes i m := fun _ => rfl
      have hshift : ∀ k, (s.putCw i c).freeCtr + k = s.freeCtr + (k + 1) := fun k => Nat.add_right_comm s.freeCtr 1 k
      rw [List.foldl_cons, hout, hone, List.append_assoc, List.length_cons, List.range_succ_eq_map, List.map_cons, List.map_map,
        List.map_cons, List.singleton_append]
      simp only [hlanes, hshift, List.getD_cons_zero, List.getD_cons_succ, Nat.add_zero, Function.comp_def, Nat.succ_eq_add_one]
    · rw [List.foldl_cons, hframe]
      rfl

theorem linkNak_runs {s : State} {i : Nat} {q : Byte} {again : List Cw} {fails : Nat} (hup : (s.port i).linkedUp = true)
    (hagain : again = (s.port i).replay.dropWhile (fun c => c.seq != q)) (hne : again ≠ [])
    (hfails : fails = if (s.port i).nakSeq = some q then (s.port i).replayFails + 1 else 0) : exec (.linkNak i q) s = .next (
      if 8 ≤ fails then s.portDown i 1 true
      else again.foldl (fun (u : State) c => u.putCw i c)
        ((s.setPort i { s.port i with nakSeq := some q, replayFails := fails }).inc R.tvlReplays i)) := by
  subst hagain hfails
  have hgo : ¬ ((s.port i).linkedUp = false ∨ ((s.port i).replay.dropWhile fun c => c.seq != q).isEmpty = true) := by
    rw [hup, List.isEmpty_iff]
    exact fun h => h.elim (fun h => Bool.noConfusion h) hne
  show execLinkNak i q s = _
  unfold execLinkNak
  rw [if_neg hgo]
  dsimp only
  split <;> split <;> rfl

/-! ### Control symbols -/

/-- A symbol sent on a port with room takes the next SEQ. -/
theorem sendSym_numbers {s : State} {i : Nat} (typ : Nat) (body : List Byte) (h : hasRoom (s.port i)) :
    (s.sendSym i typ body).port i = numbered (s.port i) [symSlot typ body]
      ∧ (∀ lane, (s.port i).txSwap = some ((s.port i).txSeq, lane) →
        Tab.get none (s.sendSym i typ body).nvm.repair.tvlLane (i * 2) = some lane)
      ∧ ((∀ e, (s.port i).txSwap = some e → e.1 ≠ (s.port i).txSeq) → (s.sendSym i typ body).nvm.repair = s.nvm.repair) := by
  have hdef : s.sendSym i typ body = (s.emit (.symbol i typ body)).number i [symSlot typ body] := sendSlots_number _ h
  obtain ⟨_, hself, hlane, hrep⟩ := number_effect (s.emit (.symbol i typ body)) i [symSlot typ body]
  rw [hdef]
  exact ⟨hself, hlane, hrep⟩

/-- Without room it waits. -/
theorem sendSym_waits {s : State} {i : Nat} (typ : Nat) (body : List Byte) (h : ¬ hasRoom (s.port i)) :
    (s.sendSym i typ body).port i = { s.port i with held := (s.port i).held ++ [[symSlot typ body]] }
      ∧ (s.sendSym i typ body).nvm.repair = s.nvm.repair := by
  have hdef : s.sendSym i typ body = (s.emit (.symbol i typ body)).setPort i
      { s.port i with held := (s.port i).held ++ [[symSlot typ body]] } := sendSlots_holds _ h
  rw [hdef]
  exact ⟨State.port_setPort _ _ _, rfl⟩

/-- A swap announced for a SEQ that is not the next one stands when a symbol is sent, and no lane changes. -/
theorem sendSym_keeps_swap {s : State} {i : Nat} {x : Byte} {lane : Nat} (typ : Nat) (body : List Byte)
    (hswap : (s.port i).txSwap = some (x, lane)) (hx : x ≠ (s.port i).txSeq) :
    ((s.sendSym i typ body).port i).txSwap = some (x, lane) ∧ (s.sendSym i typ body).nvm.repair = s.nvm.repair := by
  by_cases h : hasRoom (s.port i)
  · obtain ⟨hself, _, hrep⟩ := sendSym_numbers typ body h
    refine ⟨?_, hrep fun e he => ?_⟩
    · rw [hself]
      show (s.port i).txSwap.filter (fun e => e.1 != (s.port i).txSeq) = _
      rw [hswap]
      exact if_pos (bne_iff_ne.2 hx)
    · rw [hswap] at he
      rw [← Option.some.inj he]
      exact hx
  · obtain ⟨hself, hrep⟩ := sendSym_waits typ body h
    rw [hself]
    exact ⟨hswap, hrep⟩

/-- What a symbol sent on a port leaves, as O50 tells it. -/
theorem sendSym_told (s : State) (i typ : Nat) (body : List Byte) :
    s.out <+: (s.sendSym i typ body).out ∧ Out.symbol i typ body ∈ (s.sendSym i typ body).out
      ∧ ((s.sendSym i typ body).port i).st = (s.port i).st
      ∧ ((s.port i).held = [] → (s.port i).replay.length < 128 →
        ((s.sendSym i typ body).port i).txSeq = (s.port i).txSeq + 1
          ∧ ((s.sendSym i typ body).port i).replay = (s.port i).replay
            ++ [{ seq := (s.port i).txSeq, slots := symSlot typ body :: List.replicate 9 (symSlot 0 []) }]
          ∧ (∀ lane, (s.port i).txSwap = some ((s.port i).txSeq, lane) →
            Tab.get none (s.sendSym i typ body).nvm.repair.tvlLane (i * 2) = some lane))
      ∧ (128 ≤ (s.port i).replay.length → ((s.sendSym i typ body).port i).txSeq = (s.port i).txSeq
        ∧ ((s.sendSym i typ body).port i).replay = (s.port i).replay
        ∧ ((s.sendSym i typ body).port i).held = (s.port i).held ++ [[symSlot typ body]])
      ∧ (∀ j, j ≠ i → (s.sendSym i typ body).port j = s.port j) ∧ (s.sendSym i typ body).mem = s.mem := by
  have hsends := sendSym_sends s i typ body
  refine ⟨hsends.out, (sendSym_ports _ _ _ _).2, hsends.state, fun hheld hlen => ?_, fun hfull => ?_, hsends.others, hsends.mem⟩
  · obtain ⟨hself, hlane, _⟩ := sendSym_numbers typ body (show hasRoom (s.port i) from ⟨hheld, hlen⟩)
    rw [hself]
    exact ⟨rfl, rfl, hlane⟩
  · obtain ⟨hself, _⟩ := sendSym_waits typ body (show ¬ hasRoom (s.port i) from fun h => absurd h.2 (Nat.not_lt.2 hfull))
    rw [hself]
    exact ⟨rfl, rfl, rfl⟩

/-! ### Lanes -/

theorem laneWindowEnd_runs {s : State} {i lane count n : Nat} {q : Port} (hup : (s.port i).linkedUp = true)
    (hn : n = Tab.get 0 (s.port i).lanes lane + count)
    (hq : q = { s.port i with lanes := Tab.put 0 (s.port i).lanes lane 0, lanesPast := Tab.put 0 (s.port i).lanesPast lane n }) :
    exec (.laneWindowEnd i lane count) s = .next (
      if n ≤ s.rd R.tvlLaneThresh ∨ (s.port i).swapAt.isSome = true then (s.setPort i q).inc R.tvlCorrected i count
      else if (Tab.get none s.nvm.repair.tvlLane (i * 2 + 1)).isSome = true then
        ((s.setPort i q).inc R.tvlCorrected i count).narrow i 1 q.laneCount
      else ((s.setPort i q).inc R.tvlCorrected i count).sendSym i 0x0B [BitVec.ofNat 8 lane]) := by
  subst hn hq
  show execLaneWindowEnd i lane count s = _
  unfold execLaneWindowEnd
  simp only [hup, Bool.true_eq_false, if_false]
  split
  · rfl
  · split <;> rfl

/-- A port narrows: it is DOWN, trains, and carries one direction on four lanes (R426). -/
theorem narrow_effect {s : State} {i dir : Nat} (f : Nat → Nat) (hup : (s.port i).linkedUp = true) :
    ((s.narrow i dir f).port i).st = .training ∧ Out.symbol i 0x0E [4] ∈ (s.narrow i dir f).out
      ∧ Tab.get [] (s.narrow i dir f).nvm.repair.tvlHalf (i * 2 + dir)
        = (fourLowest f (s.laneMap i dir).length).map (fun k => (s.laneMap i dir).getD k 0)
      ∧ (s.narrow i dir f).errs.repairPending = true ∧ (∀ j, j ≠ i → (s.narrow i dir f).port j = s.port j)
      ∧ (s.narrow i dir f).mem = s.mem := by
  have hst : (s.port i).st ≠ .down := fun hd => by
    rw [Port.linkedUp, hd] at hup
    cases hup
  have hdown := portDown_downed 4 true hst
  have hsays := portDown_says 4 hup
  unfold State.narrow
  dsimp only
  generalize s.portDown i 4 true = t at hdown hsays ⊢
  generalize ((fourLowest f (s.laneMap i dir).length).map fun k => (s.laneMap i dir).getD k 0) = four
  generalize hv : ({ t.setPort i { t.port i with st := .training } with
    nvm := { t.nvm with repair := { s.nvm.repair with
      tvlHalf := Tab.put [] s.nvm.repair.tvlHalf (i * 2 + dir) four
      tvlLane := Tab.put none s.nvm.repair.tvlLane (i * 2 + dir) (four.findIdx? (· == 8)) } }
    errs := { t.errs with repairPending := true } } : State) = v
  have hr := corrErr_noted v Code.tvlDegraded 6 i 0 0
  refine ⟨?_, hr.out.subset ?_, ?_, hr.repair.trans ?_, fun j hj => (hr.port j).trans ?_, hr.mem.trans ?_⟩
  · rw [hr.port, ← hv]
    show ((t.setPort i { t.port i with st := .training }).port i).st = _
    rw [State.port_setPort]
  · rw [← hv]
    exact hsays
  · rw [hr.nvm, ← hv]
    exact Tab.get_put _ _
  · rw [← hv]
  · rw [← hv]
    show (t.setPort i { t.port i with st := .training }).port j = _
    rw [State.port_setPort_other _ _ hj, hdown.others j hj]
  · rw [← hv]
    exact hdown.mem

/-- With nothing held, due or received, a port that is set goes on without more. -/
theorem linkGoOn_quiet {s u : State} {i : Nat} {p : Port} (hu : u = s.setPort i p) (hheld : p.held = [])
    (hrxi : p.rxBuf = (s.port i).rxBuf) (hdue : s.tvlDue = []) (hrx : ∀ j < 12, (s.port j).rxBuf = []) :
    (u.linkGoOn i).port i = p ∧ (u.linkGoOn i).out = s.out ∧ ∀ j, j ≠ i → (u.linkGoOn i).port j = s.port j := by
  have hself : u.port i = p := by rw [hu, State.port_setPort]
  have hother : ∀ j, j ≠ i → u.port j = s.port j := fun j hj => by rw [hu, State.port_setPort_other _ _ hj]
  have hdue' : u.tvlDue = [] := by
    rw [hu]
    exact hdue
  have hrx' : ∀ j < 12, (u.port j).rxBuf = [] := fun j hj => by
    by_cases hji : j = i
    · rw [hji, hself, hrxi]
      exact hrx i (hji ▸ hj)
    · rw [hother j hji]
      exact hrx j hj
  obtain ⟨hports, hout⟩ := linkGoOn_idle hdue' (by rw [hself]; exact hheld) hrx'
  refine ⟨(hports i).trans hself, hout.trans ?_, fun j hj => (hports j).trans (hother j hj)⟩
  rw [hu]
  rfl

/-- Every codeword from a SEQ on is sent again, while the SEQ has not failed for the eighth time (R402, R427). -/
theorem linkNak_resends {s : State} {i : Nat} {q : Byte} {again : List Cw} (hup : (s.port i).linkedUp = true)
    (hagain : again = (s.port i).replay.dropWhile (fun c => c.seq != q)) (hne : again ≠ [])
    (hfew : (s.port i).nakSeq ≠ some q ∨ (s.port i).replayFails < 7) : ∃ t : State, exec (.linkNak i q) s = .next t
      ∧ (t.port i).nakSeq = some q ∧ (t.port i).replayFails = (if (s.port i).nakSeq = some q then (s.port i).replayFails + 1 else 0)
      ∧ t.rd R.tvlReplays i = (s.inc R.tvlReplays i).rd R.tvlReplays i ∧ (t.port i).replay = (s.port i).replay
      ∧ t.out = s.out ++ (List.range again.length).map (fun k => Out.codeword i (s.onLanes i
          (scrambled ((Config.freeWord (s.freeCtr + k)).setWidth 58) ((again.map Cw.message).getD k 0))))
      ∧ (∀ j, j ≠ i → t.port j = s.port j) ∧ t.mem = s.mem := by
  have hexec := linkNak_runs hup hagain hne rfl
  have hlt : ¬ 8 ≤ (if (s.port i).nakSeq = some q then (s.port i).replayFails + 1 else 0) := by
    split
    · next h =>
      rcases hfew with hn | hn
      · exact absurd h hn
      · omega
    · omega
  rw [if_neg hlt] at hexec
  generalize hv : (s.setPort i { s.port i with
    nakSeq := some q, replayFails := if (s.port i).nakSeq = some q then (s.port i).replayFails + 1 else 0 }).inc R.tvlReplays i = v
    at hexec
  obtain ⟨hout, hframe⟩ := foldl_putCw i again v
  have hports : ∀ j, (again.foldl (fun (u : State) c => u.putCw i c) v).port j = v.port j := fun j => by
    rw [hframe]
    rfl
  have hself : v.port i = { s.port i with
      nakSeq := some q, replayFails := if (s.port i).nakSeq = some q then (s.port i).replayFails + 1 else 0 } := by
    rw [← hv]
    exact State.port_setPort s i _
  refine ⟨_, hexec, by rw [hports, hself], by rw [hports, hself], ?_, by rw [hports, hself], hout.trans ?_, fun j hj => ?_, ?_⟩
  · rw [hframe, ← hv]
    rfl
  · rw [← hv]
    rfl
  · rw [hports, ← hv]
    exact State.port_setPort_other s _ hj
  · rw [hframe, ← hv]
    rfl

/-- The eighth consecutive failure of one SEQ takes the port DOWN (R402, R427). -/
theorem linkNak_eighth {s : State} {i : Nat} {q : Byte} {again : List Cw} (hup : (s.port i).linkedUp = true)
    (hagain : again = (s.port i).replay.dropWhile (fun c => c.seq != q)) (hne : again ≠ [])
    (hsame : (s.port i).nakSeq = some q) (h7 : 7 ≤ (s.port i).replayFails) : ∃ t : State, exec (.linkNak i q) s = .next t
      ∧ (t.port i).st = .down ∧ Out.symbol i 0x0E [1] ∈ t.out ∧ (∀ j, j ≠ i → t.port j = s.port j) ∧ t.mem = s.mem := by
  have hexec := linkNak_runs hup hagain hne rfl
  rw [if_pos hsame, if_pos (by omega)] at hexec
  have hst : (s.port i).st ≠ .down := fun hd => by
    rw [Port.linkedUp, hd] at hup
    cases hup
  have hdown := portDown_downed 1 true hst
  exact ⟨_, hexec, by rw [hdown.self]; rfl, portDown_says 1 hup, hdown.others, hdown.mem⟩

section
variable {s : State} {i lane count n : Nat} {q : Port} (hup : (s.port i).linkedUp = true)
  (hn : n = Tab.get 0 (s.port i).lanes lane + count)
  (hq : q = { s.port i with lanes := Tab.put 0 (s.port i).lanes lane 0, lanesPast := Tab.put 0 (s.port i).lanesPast lane n })
  (hmany : s.rd R.tvlLaneThresh < n) (hfree : (s.port i).swapAt = none)
include hup hn hq hmany hfree

/-- A lane over its threshold: a swap is asked for, or the direction narrows (R425, R426). -/
theorem laneWindowEnd_over : exec (.laneWindowEnd i lane count) s = .next (
    if (Tab.get none s.nvm.repair.tvlLane (i * 2 + 1)).isSome then
      ((s.setPort i q).inc R.tvlCorrected i count).narrow i 1 q.laneCount
    else ((s.setPort i q).inc R.tvlCorrected i count).sendSym i 0x0B [BitVec.ofNat 8 lane]) := by
  have hover : ¬ (n ≤ s.rd R.tvlLaneThresh ∨ (s.port i).swapAt.isSome = true) := by
    rw [hfree]
    exact fun h => h.elim (Nat.not_le.2 hmany) (fun h => Bool.noConfusion h)
  rw [laneWindowEnd_runs hup hn hq, if_neg hover]

/-- A lane over its threshold with the spare free: a swap is asked for (R425). -/
theorem laneWindowEnd_spares (hspare : Tab.get none s.nvm.repair.tvlLane (i * 2 + 1) = none) :
    ∃ t : State, exec (.laneWindowEnd i lane count) s = .next t ∧ Out.symbol i 0x0B [BitVec.ofNat 8 lane] ∈ t.out
      ∧ Tab.get 0 (t.port i).lanes lane = 0 ∧ Tab.get 0 (t.port i).lanesPast lane = n ∧ (t.port i).st = (s.port i).st
      ∧ (∀ j, j ≠ i → t.port j = s.port j) ∧ t.mem = s.mem := by
  have hexec := laneWindowEnd_over hup hn hq hmany hfree
  rw [hspare, if_neg (by exact Bool.false_ne_true)] at hexec
  have hself : ((s.setPort i q).inc R.tvlCorrected i count).port i = q := State.port_setPort s i q
  have hsends := sendSym_sends ((s.setPort i q).inc R.tvlCorrected i count) i 0x0B [BitVec.ofNat 8 lane]
  refine ⟨_, hexec, (sendSym_ports _ _ _ _).2, ?_, ?_, hsends.state.trans ?_, fun j hj => (hsends.others j hj).trans
    (State.port_setPort_other s q hj), hsends.mem⟩
  · rw [hsends.self, hself, hq, Tab.get_put]
  · rw [hsends.self, hself, hq, Tab.get_put]
  · rw [hself, hq]

/-- A lane over its threshold with the spare in use: the direction narrows, and the port trains again (R426). -/
theorem laneWindowEnd_narrows (hspare : (Tab.get none s.nvm.repair.tvlLane (i * 2 + 1)).isSome = true) :
    ∃ t : State, exec (.laneWindowEnd i lane count) s = .next t ∧ (t.port i).st = .training ∧ Out.symbol i 0x0E [4] ∈ t.out
      ∧ Tab.get [] t.nvm.repair.tvlHalf (i * 2 + 1) =
        (fourLowest q.laneCount (s.laneMap i 1).length).map (fun k => (s.laneMap i 1).getD k 0)
      ∧ t.errs.repairPending = true ∧ (∀ j, j ≠ i → t.port j = s.port j) ∧ t.mem = s.mem := by
  have hexec := laneWindowEnd_over hup hn hq hmany hfree
  rw [if_pos hspare] at hexec
  have hup' : (((s.setPort i q).inc R.tvlCorrected i count).port i).linkedUp = true := by
    have hport : ((s.setPort i q).inc R.tvlCorrected i count).port i = q := State.port_setPort s i q
    rw [hport, hq]
    exact hup
  obtain ⟨hst, hsays, hhalf, hpend, hothers, hmem⟩ := narrow_effect (dir := 1) q.laneCount hup'
  exact ⟨_, hexec, hst, hsays, hhalf, hpend, fun j hj => (hothers j hj).trans (State.port_setPort_other s q hj), hmem⟩

end

/-- LANE_SWAP_REQ with the spare free: the swap is in force 16 codewords on, and the peer is told (R425). -/
theorem laneSwapReq_effect {s : State} {i : Nat} {lane : Byte} (hup : (s.port i).linkedUp = true) (hfree : (s.port i).txSwap = none)
    (hspare : Tab.get none s.nvm.repair.tvlLane (i * 2) = none) :
    ∃ t : State, exec (.laneSwapReq i lane) s = .next t ∧ (t.port i).txSwap = some ((s.port i).txSeq - 1 + 16, lane.toNat % 8)
      ∧ Out.symbol i 0x0C [lane, (s.port i).txSeq - 1 + 16] ∈ t.out ∧ t.nvm.repair = s.nvm.repair
      ∧ (∀ j, j ≠ i → t.port j = s.port j) ∧ t.mem = s.mem := by
  generalize hv : s.setPort i { s.port i with txSwap := some ((s.port i).txSeq - 1 + 16, lane.toNat % 8) } = v
  have hr := corrErr_noted v Code.tvlLaneSpared 6 i 0 0
  have hexec : exec (.laneSwapReq i lane) s = .next ((v.raise (corrErr Code.tvlLaneSpared 6 i)).sendSym i 0x0C
      [lane, (s.port i).txSeq - 1 + 16]) := by
    rw [← hv]
    show execLaneSwapReq i lane s = _
    unfold execLaneSwapReq
    simp only [hup, hfree, hspare, Bool.true_eq_false, Option.isSome_none, Bool.false_eq_true, or_self, if_false, ok]
  have hport : (v.raise (corrErr Code.tvlLaneSpared 6 i)).port i =
      { s.port i with txSwap := some ((s.port i).txSeq - 1 + 16, lane.toNat % 8) } := by
    rw [hr.port, ← hv, State.port_setPort]
  have hne : (s.port i).txSeq - 1 + 16 ≠ ((v.raise (corrErr Code.tvlLaneSpared 6 i)).port i).txSeq := by
    rw [hport]
    show (s.port i).txSeq - 1 + 16 ≠ (s.port i).txSeq
    generalize (s.port i).txSeq = x
    intro h
    have := congrArg BitVec.toNat h
    bv_omega
  obtain ⟨hswap, hrep⟩ := sendSym_keeps_swap 0x0C [lane, (s.port i).txSeq - 1 + 16] (congrArg Port.txSwap hport) hne
  have hsends := sendSym_sends (v.raise (corrErr Code.tvlLaneSpared 6 i)) i 0x0C [lane, (s.port i).txSeq - 1 + 16]
  refine ⟨_, hexec, hswap, (sendSym_ports _ _ _ _).2, ?_, fun j hj => ?_, hsends.mem.trans (hr.mem.trans ?_)⟩
  · rw [hrep, hr.nvm, ← hv]
    rfl
  · rw [hsends.others j hj, hr.port, ← hv, State.port_setPort_other _ _ hj]
  · rw [← hv]
    rfl

/-- Settles O50: the codewords by whether they are accepted, their acknowledgement and replay, then the symbols one by one. -/
theorem torvolLink : Obligations.TorvolLink := by
  refine ⟨fun s i prev msg errs bad at' rep c hup hbad hlen hc hnum hseq => ?_,
    fun s i prev msg errs bad at' rep c hup hbad hc hnum hdrop => ?_, fun s i prev msg errs at' rep hup hno => ?_,
    fun s u i q l hup hafter hu => ?_, fun s i q again hup hagain hne => ?_, fun s i typ body c hup hsym => ?_,
    fun s i t1 t2 t3 t4 l hup hl => ?_, fun s i lane count n q map hup hn hmap hq => ?_, fun s i lane hup hfree hspare => ?_,
    fun s i lane q hup hspare => ?_, fun s i fmk salt hst hfmk hsalt => ?_, fun s i typ hup htyp => ?_⟩
  · obtain ⟨t, hfix, hexec⟩ := numberedCodeword_runs (at' := at') (rep := rep) hup hbad hc
    have hgood : (correctable bad && c.seq == (s.port i).rxSeq) = true := by
      rw [correctable, decide_eq_true hlen, hseq, beq_self_eq_true, Bool.and_self]
    rw [if_neg (by rw [hnum]; exact Bool.false_ne_true), if_pos hgood, acceptCw_eq] at hexec
    obtain ⟨htook, hack⟩ := ackTaken_took t i c
    have hall := Took.of_fixed hfix htook
    refine ⟨ackTaken t i c, hexec, hall.seq, hall.nak, hall.acked, hall.out, fun h31 => hack ?_, hall.swap, hall.others, hall.mem,
      hall.mbox, fun hidle => foldl_takeSlot_idle i at' rep c.slots _ hidle⟩
    rw [hfix.self]
    exact h31
  · obtain ⟨t, hfix, hexec⟩ := numberedCodeword_runs (at' := at') (rep := rep) hup hbad hc
    have hbadcw : ¬ (correctable bad && c.seq == (s.port i).rxSeq) = true := fun h => by
      obtain ⟨hcorr, hs⟩ := Bool.and_eq_true_iff.1 h
      rcases hdrop with hlen | hne
      · exact absurd (of_decide_eq_true hcorr) (Nat.not_le.2 hlen)
      · exact hne (beq_iff_eq.1 hs)
    rw [if_neg (by rw [hnum]; exact Bool.false_ne_true), if_neg hbadcw] at hexec
    exact ⟨_, hexec, nak_effect hfix (s.port i).rxSeq _ rfl⟩
  · obtain ⟨t, hfix, hexec⟩ := numberedCodeword_runs (prev := prev) (msg := msg) (errs := errs) (at' := at') (rep := rep) hup rfl rfl
    rw [if_pos hno] at hexec
    refine ⟨t, hexec, by rw [hfix.self], by rw [hfix.self], by rw [hfix.frame], hfix.others, by rw [hfix.frame]⟩
  · refine ⟨?_, fun hdue hheld hrx => ?_⟩
    · show execLinkAck i q s = _
      unfold execLinkAck
      simp only [hup, Bool.true_eq_false, if_false, hafter, hu, ok]
    · obtain ⟨hport, hout, hothers⟩ := linkGoOn_quiet hu hheld rfl hdue hrx
      exact ⟨congrArg Port.replay hport, hout, hothers⟩
  · exact ⟨fun hfew => linkNak_resends hup hagain hne hfew, fun hsame h7 => linkNak_eighth hup hagain hne hsame h7⟩
  · have hexec : exec c s = .next (s.sendSym i typ body) := by
      rcases hsym with ⟨t1, t2, t3, rfl, rfl, rfl⟩ | ⟨t1, rfl, rfl, rfl⟩
      · exact onlyIf_of hup
      · exact onlyIf_of hup
    exact ⟨_, hexec, sendSym_told s i typ body⟩
  · have hlen : max l.length 1 = l.length := by
      rw [hl, List.take_succ_cons, List.length_cons]
      omega
    subst hl
    refine (onlyIf_of hup).trans ?_
    dsimp only
    rw [meanOf, hlen]
  · subst hmap
    refine ⟨fun hfew => ?_, fun hmany hfree hspare => laneWindowEnd_spares hup hn hq hmany hfree hspare,
      fun hmany hfree hspare => laneWindowEnd_narrows hup hn hq hmany hfree hspare⟩
    rw [laneWindowEnd_runs hup hn hq, if_pos hfew]
  · exact laneSwapReq_effect hup hfree hspare
  · refine onlyIf_of ?_
    rw [hup, hspare]
    rfl
  · subst hsalt
    have hgo : ((s.port i).st == .ready && (s.port i).rxEpoch + 1 == (s.port i).rxEpoch + 1) = true := by
      rw [hst]
      exact Bool.and_eq_true_iff.2 ⟨rfl, beq_self_eq_true _⟩
    show execKeyRoll i ((s.port i).rxEpoch + 1) s = _
    unfold execKeyRoll
    simp only [hfmk]
    exact onlyIf_of hgo
  · refine onlyIf_of ?_
    rw [hup, decide_eq_true htyp]
    rfl

end Sys2Proof.Proofs

/-! PROOFS. The states of a Torvol port: training, READY, DOWN (R404, R421 to R424, R427, R428, R501). -/
namespace Sys2Proof.Proofs
open Sys2Proof Sys2Proof.Machine Sys2Proof.Laws

/-! ### Training -/

/-- A port of the list starts to train, if it may and is DOWN. -/
def startsTraining (s : State) (t : State) (i : Nat) : State :=
  if s.mayTrain i && (s.port i).st == .down then t.setPort i { t.port i with st := .training } else t

theorem foldl_startsTraining (s : State) (l : List Nat) (u : State) : (l.foldl (startsTraining s) u = { u with
      ports := (l.foldl (startsTraining s) u).ports })
    ∧ ∀ i, (l.foldl (startsTraining s) u).port i =
        if i ∈ l ∧ s.mayTrain i = true ∧ (s.port i).st = .down then { u.port i with st := .training } else u.port i := by
  induction l generalizing u with
  | nil => exact ⟨rfl, fun i => (if_neg fun h => List.not_mem_nil h.1).symm⟩
  | cons x l ih =>
    obtain ⟨hframe, hport⟩ := ih (startsTraining s u x)
    have hone : startsTraining s u x = { u with ports := (startsTraining s u x).ports } := by
      unfold startsTraining
      split <;> rfl
    have hself : ∀ i, (startsTraining s u x).port i =
        if i = x ∧ s.mayTrain i = true ∧ (s.port i).st = .down then { u.port i with st := .training } else u.port i := by
      intro i
      unfold startsTraining
      by_cases hgo : s.mayTrain x = true ∧ (s.port x).st = .down
      · rw [if_pos (by rw [hgo.1, hgo.2]; rfl)]
        by_cases hi : i = x
        · rw [hi, State.port_setPort, if_pos ⟨rfl, hgo⟩]
        · rw [State.port_setPort_other _ _ hi, if_neg fun h => hi h.1]
      · have hno : ¬ (s.mayTrain x && (s.port x).st == .down) = true := fun h => hgo (by
          obtain ⟨h1, h2⟩ := Bool.and_eq_true_iff.1 h
          exact ⟨h1, beq_iff_eq.1 h2⟩)
        rw [if_neg hno, if_neg]
        rintro ⟨rfl, h⟩
        exact hgo h
    refine ⟨?_, fun i => ?_⟩
    · rw [List.foldl_cons, hframe, hone]
    · rw [List.foldl_cons, hport, hself]
      simp only [List.mem_cons]
      by_cases hgo : s.mayTrain i = true ∧ (s.port i).st = .down
      · simp only [hgo, and_self, and_true]
        by_cases hx : i = x
        · simp only [hx, if_true, true_or, ite_self]
        · simp only [hx, if_false, false_or]
      · simp only [hgo, and_false, if_false]

/-! ### A port is LINKED -/

/-- A port has drawn its salt for READY. -/
def salted (s : State) (i : Nat) : State :=
  s.random128.2.setPort i { s.random128.2.port i with txSalt := s.random128.1, sentReady := true }

theorem salted_port (s : State) (i : Nat) :
    (salted s i).port i = { s.random128.2.port i with txSalt := s.random128.1, sentReady := true } := State.port_setPort _ _ _

/-- READY goes out on a LINKED port of a device that may send it. -/
theorem sendReady_sends {s : State} {i : Nat} (hserv : s.serving = true) (hst : (s.port i).st = .linked)
    (hnew : (s.port i).sentReady = false) (hrcvd : (s.port i).rcvdReady = false) (hkey : s.gate.fmk.isSome = true)
    (hgate : s.gate.errorState = false) : ∃ body, s.sendReady i = (salted s i).sendSym i 0x06 body := by
  have hdef : s.sendReady i = ((salted s i).sendSym i 0x06 ((salted s i).readyBody i s.random128.1)).tryReady i :=
    if_pos ⟨hserv, hst, hnew, hkey, hgate⟩
  generalize (salted s i).readyBody i s.random128.1 = body at hdef
  refine ⟨body, hdef.trans ?_⟩
  have hno : (((salted s i).sendSym i 0x06 body).port i).rcvdReady = false := by
    rw [(sendSym_sends (salted s i) i 0x06 body).self, salted_port]
    exact hrcvd
  unfold State.tryReady
  dsimp only
  split
  · rfl
  · exact if_neg fun h => Bool.noConfusion (hno.symm.trans h.2.2)

/-- A port whose training is complete. -/
def linkedPort (p : Port) : Port := { ({} : Port) with st := .linked, delays := p.delays }

theorem linkUp_effect {s : State} (i : Nat) : ((s.linkUp i).port i).st = .linked ∧ (s.linkUp i).rd R.attempts i = 0
    ∧ (s.serving = true → s.gate.fmk.isSome = true → s.gate.errorState = false →
      ((s.linkUp i).port i).sentReady = true ∧ ∃ body, Out.symbol i 0x06 body ∈ (s.linkUp i).out)
    ∧ (∀ j, j ≠ i → (s.linkUp i).port j = s.port j) ∧ (s.linkUp i).mem = s.mem := by
  generalize hv : (s.setPort i (linkedPort (s.port i))).wr R.attempts 0 i = v
  have hport : v.port i = linkedPort (s.port i) := by
    rw [← hv]
    show (s.setPort i (linkedPort (s.port i))).port i = _
    rw [State.port_setPort]
  have hother : ∀ j, j ≠ i → v.port j = s.port j := fun j hj => by
    rw [← hv]
    show (s.setPort i (linkedPort (s.port i))).port j = _
    rw [State.port_setPort_other _ _ hj]
  have hmem : v.mem = s.mem := by
    rw [← hv]
    rfl
  have hzero : v.rd R.attempts i = 0 := by
    rw [← hv]
    exact State.rd_wr _ R.attempts 0 i 0
  have hdef : s.linkUp i = v.sendReady i := by
    rw [← hv]
    rfl
  rw [hdef]
  by_cases hgo : v.serving = true ∧ v.gate.fmk.isSome = true ∧ v.gate.errorState = false
  · obtain ⟨hserv, hkey, hgate⟩ := hgo
    obtain ⟨body, hready⟩ := sendReady_sends hserv (by rw [hport]; rfl) (by rw [hport]; rfl) (by rw [hport]; rfl) hkey hgate
    have hsends := sendSym_sends (salted v i) i 0x06 body
    have hself := salted_port v i
    rw [hready]
    refine ⟨hsends.state.trans ?_, (rd_of_regs hsends.regs _ _ _).trans hzero, fun _ _ _ => ⟨?_, body, (sendSym_ports _ _ _ _).2⟩,
      fun j hj => (hsends.others j hj).trans ?_, hsends.mem.trans hmem⟩
    · rw [hself]
      show (v.port i).st = _
      rw [hport]
      rfl
    · rw [hsends.self, hself]
    · exact (State.port_setPort_other _ _ hj).trans (hother j hj)
  · have hsame : v.sendReady i = v := if_neg fun h => hgo ⟨h.1, h.2.2.2.1, h.2.2.2.2⟩
    rw [hsame]
    refine ⟨by rw [hport]; rfl, hzero, fun hserv hkey hgate => ?_, hother, hmem⟩
    have hsame' : v.serving = s.serving ∧ v.gate = s.gate := by
      rw [← hv]
      exact ⟨rfl, rfl⟩
    exact absurd ⟨hsame'.1.trans hserv, by rw [hsame'.2]; exact hkey, by rw [hsame'.2]; exact hgate⟩ hgo

/-! ### READY from the peer -/

/-- A port that has kept what its peer announces. -/
def heardReady (p : Port) (dom : BitVec 16) (dev pp : Byte) (c0 c1 c2 : BitVec 16) (e : Byte) (salt : BitVec 128) : Port :=
  { p with
    rcvdReady := true, peerDomain := dom, peerId := dev, peerPort := pp
    cr0 := c0.toNat, cr1 := c1.toNat, cr2 := c2.toNat, rxEpoch := e, rxSalt := salt }

theorem tryReady_enters {s : State} {i : Nat} {fmk : List Byte} (hst : (s.port i).st = .linked) (hsent : (s.port i).sentReady = true)
    (hrcvd : (s.port i).rcvdReady = true) (hkey : s.gate.fmk = some fmk) (hdom : (s.port i).peerDomain.toNat = s.rd R.domain)
    (hdev : (s.port i).peerId.toNat ≠ s.rd R.devId) : s.tryReady i = s.enterReady i fmk := by
  unfold State.tryReady
  dsimp only
  rw [hkey]
  dsimp only
  rw [if_pos ⟨hst, hsent, hrcvd⟩, if_neg (not_or.2 ⟨Decidable.not_not.2 hdom, hdev⟩)]

theorem ready_heard {s : State} {i : Nat} {dom : BitVec 16} {dev pp e : Byte} {c0 c1 c2 : BitVec 16} {salt : BitVec 128}
    (hst : (s.port i).st = .linked) : exec (.ready i dom dev pp c0 c1 c2 e salt) s =
      .next ((s.setPort i (heardReady (s.port i) dom dev pp c0 c1 c2 e salt)).tryReady i) :=
  onlyIf_of (by rw [hst]; rfl)

/-- Settles O51: training, the keys at READY, and the ways into DOWN. -/
theorem torvolPortStates : Obligations.TorvolPortStates := by
  refine ⟨fun s => ?_, fun s i c hi hmay hc => ?_, fun s i hst hmay hfew hdue => ?_,
    fun s i dom dev pp e c0 c1 c2 salt fmk hst hsent hkey hdom hdev => ?_, fun s i c reason hc hup hi => ?_,
    fun s t r i htarget ht hmay => ?_⟩
  · obtain ⟨hframe, hport⟩ := foldl_startsTraining s (List.range 12) s
    refine ⟨_, rfl, hframe, fun i => (hport i).trans ?_⟩
    simp only [List.mem_range]
  · have hexec : exec c s = .next (s.linkUp i) := by
      rcases hc with ⟨hst, rfl⟩ | ⟨hst, hfew, hdue, rfl⟩
      · refine onlyIf_of ?_
        rw [hst, hmay]
        rfl
      · refine onlyIf_of ?_
        rw [hst, hmay, decide_eq_true hfew, State.passed, decide_eq_true hdue]
        rfl
    exact ⟨_, hexec, linkUp_effect i⟩
  · refine onlyIf_of ?_
    rw [hst, hmay, decide_eq_true hfew, State.passed, decide_eq_true hdue]
    rfl
  · have hself : (s.setPort i (heardReady (s.port i) dom dev pp c0 c1 c2 e salt)).port i =
        heardReady (s.port i) dom dev pp c0 c1 c2 e salt := State.port_setPort _ _ _
    have hexec := ready_heard (dom := dom) (dev := dev) (pp := pp) (e := e) (c0 := c0) (c1 := c1) (c2 := c2) (salt := salt) hst
    rw [tryReady_enters (s := s.setPort i (heardReady (s.port i) dom dev pp c0 c1 c2 e salt)) (i := i) (by rw [hself]; exact hst) (by rw [hself]; exact hsent) (by rw [hself]; rfl) hkey (by rw [hself]; exact hdom)
      (by rw [hself]; exact hdev), State.enterReady, hself] at hexec
    refine ⟨_, hexec, rfl, ?_, ?_, ?_, ?_, ?_, ?_, ?_, fun j hj => ?_⟩
    case refine_8 => exact (State.port_setPort_other _ _ hj).trans (State.port_setPort_other _ _ hj)
    all_goals rw [State.port_setPort]
    all_goals rfl
  · have hst : (s.port i).st ≠ .down := fun hd => by
      rw [Port.linkedUp, hd] at hup
      cases hup
    have hexec : exec c s = .next (s.portDown i reason.toNat false) := by
      rcases List.mem_cons.1 hc with h | h
      · cases h
        exact onlyIf_of hup
      · cases List.mem_singleton.1 h
        exact onlyIf_of hup
    have hdown := portDown_downed reason.toNat false hst
    refine ⟨_, hexec, by rw [hdown.self]; rfl, ?_, hdown.attempts hi, hdown.others, hdown.mem⟩
    rw [hdown.self]
    exact if_pos hup
  · have hport : ∀ j, t.port j = s.port j := fun j => by
      rw [ht]
      rfl
    have hdown : (∀ j, j ≠ i → (t.portDown i 5 true).port j = s.port j) ∧ (t.portDown i 5 true).mem = s.mem := by
      by_cases hst : (t.port i).st = .down
      · have hsame : t.portDown i 5 true = t := if_pos hst
        rw [hsame]
        refine ⟨fun j _ => hport j, ?_⟩
        rw [ht]
        rfl
      · have h := portDown_downed 5 true hst
        refine ⟨fun j hj => (h.others j hj).trans (hport j), h.mem.trans ?_⟩
        rw [ht]
        rfl
    have hexec : exec (.tvlPortRetrain r) s = .next (((t.portDown i 5 true).wr R.attempts 0 i).setPort i
        { ((t.portDown i 5 true).wr R.attempts 0 i).port i with st := .training }) := by
      subst ht
      show execTvlPortRetrain r s = _
      unfold execTvlPortRetrain
      rw [own_target htarget]
      exact congrArg Host.Outcome.next (if_pos hmay)
    refine ⟨_, hexec, by rw [State.port_setPort], ?_, fun hup => ?_, fun j hj => ?_, hdown.2⟩
    · exact State.rd_wr (t.portDown i 5 true) R.attempts 0 i 0
    · exact portDown_says 5 (by rw [hport]; exact hup)
    · exact (State.port_setPort_other _ _ hj).trans (hdown.1 j hj)

end Sys2Proof.Proofs

/-! PROOFS. Torvol packets: what a packet sent, or that waits, leaves; what one that arrives leaves (R405 to R417, R423). -/
namespace Sys2Proof.Proofs
open Sys2Proof Sys2Proof.Machine Sys2Proof.Laws

/-! ### What carrying packets leaves -/

/-- From s to t packets went out or waited: memory, mailboxes and transactions stand, no port changed its state, and of the
registers only the PF's notices changed. -/
structure Carries (s t : State) : Prop where
  frame : t = { s with
    out := t.out, freeCtr := t.freeCtr, ports := t.ports, nvm := t.nvm, errs := t.errs, regs := t.regs, msixPend := t.msixPend
    boot := t.boot, tvlDue := t.tvlDue }
  out : s.out <+: t.out
  states : ∀ j, (t.port j).st = (s.port j).st
  regs : ∀ (f : Field) (inst i : Nat), f.key inst i ≠ R.fnNotify.key 0 0 → t.rd f inst i = s.rd f inst i

theorem Carries.refl (s : State) : Carries s s := ⟨rfl, List.prefix_rfl, fun _ => rfl, fun _ _ _ _ => rfl⟩

theorem Carries.trans {s t u : State} (h : Carries s t) (g : Carries t u) : Carries s u := by
  refine ⟨?_, h.out.trans g.out, fun j => (g.states j).trans (h.states j), fun f inst i hk =>
    (g.regs f inst i hk).trans (h.regs f inst i hk)⟩
  rw [g.frame, h.frame]

theorem Carries.foldl {α : Type} (f : State → α → State) (hf : ∀ s x, Carries s (f s x)) (l : List α) (s : State) :
    Carries s (l.foldl f s) := by
  induction l generalizing s with
  | nil => exact .refl s
  | cons x l ih => exact (hf s x).trans (ih _)

section
variable {s t : State} (h : Carries s t)
include h

theorem Carries.mem : t.mem = s.mem := by rw [h.frame]

theorem Carries.mbox : t.mbox = s.mbox := by rw [h.frame]

theorem Carries.xacts : t.xacts = s.xacts := by rw [h.frame]

end

theorem Sends.carries {i : Nat} {s t : State} (h : Sends i s t) : Carries s t := by
  refine ⟨?_, h.out, h.ports.2.2.2, fun f inst k _ => rd_of_regs h.regs f inst k⟩
  rw [h.ports.1]

theorem Noted.carries {s t : State} (h : Noted s t) : Carries s t := by
  refine ⟨?_, h.out, fun j => by rw [h.port], h.regs⟩
  rw [h.frame]

theorem setPort_carries {s : State} {i : Nat} {p : Port} (h : p.st = (s.port i).st) : Carries s (s.setPort i p) :=
  ⟨rfl, List.prefix_rfl, (setPort_ports s i p h).2.2.2, fun _ _ _ _ => rfl⟩

theorem emit_carries (s : State) (o : Out) : Carries s (s.emit o) :=
  ⟨rfl, List.prefix_append _ _, fun _ => rfl, fun _ _ _ _ => rfl⟩

theorem tvlDue_carries (s : State) (l : List TvlDue) : Carries s { s with tvlDue := l } :=
  ⟨rfl, List.prefix_rfl, fun _ => rfl, fun _ _ _ _ => rfl⟩

/-! ### A packet goes out -/

theorem afterNonce_carries (s : State) (i : Nat) : Carries s (s.afterNonce i) := by
  unfold State.afterNonce
  dsimp only
  split
  · split
    · unfold State.rollKey
      refine Carries.trans (setPort_carries ?_) (sendSym_sends _ _ _ _).carries
      rfl
    · exact .refl s
  · exact .refl s

theorem debit_st (p : Port) (vc n : Nat) : (p.debit vc n).st = p.st := by
  unfold Port.debit
  split
  · rfl
  · split <;> rfl

/-- A port as a packet of n slots leaves it. -/
def spent (p : Port) (vc n : Nat) : Port := { p.debit vc n with nonce := p.nonce + 1 }

theorem foldl_sendSlots_sends (i : Nat) (l : List (List Slot)) (s : State) :
    Sends i s (l.foldl (fun (u : State) x => u.sendSlots i x) s) := by
  induction l generalizing s with
  | nil => exact .refl i s
  | cons x l ih => exact (sendSlots_sends s i x).trans (ih _)

/-- The packet as it leaves on a port under its key. -/
def packetOut (s : State) (i : Nat) (h : BitVec 512) (payload : List Byte) (crc : Word32) (stomp : Bool) (key : BitVec 256) : Out :=
  let iv := linkNonce (s.rd R.devId) i (s.port i).nonce
  let head := sealHead h (s.port i).nonce
  let ct := Config.gcmSeal key iv payload
  .packet i head ct (Config.gcmTag key iv (bvBytes 60 head) ct) stomp crc

/-- A packet that leaves: its port pays, and codewords carry it; then the key may roll. -/
theorem sendPacket_eq {s : State} {i : Nat} (h : BitVec 512) (payload : List Byte) (crc : Word32) (stomp : Bool) {key : BitVec 256}
    (hkey : (s.port i).txKey = some key) (hroom : (s.port i).nonce + 1 < 2 ^ 32) :
    ∃ u, Sends i ((s.setPort i (spent (s.port i) (Hd.vc h) (Hd.len h + 2))).emit (packetOut s i h payload crc stomp key)) u
      ∧ s.sendPacket i h payload crc stomp = u.afterNonce i := by
  have hslots := foldl_sendSlots_sends i (tens (cdiv (slotsOf (Hd.len h)) 10) (packetSlots (sealHead h (s.port i).nonce)
    (Config.gcmSeal key (linkNonce (s.rd R.devId) i (s.port i).nonce) payload)
    (Config.gcmTag key (linkNonce (s.rd R.devId) i (s.port i).nonce) (bvBytes 60 (sealHead h (s.port i).nonce))
      (Config.gcmSeal key (linkNonce (s.rd R.devId) i (s.port i).nonce) payload)) stomp crc))
    ((s.setPort i (spent (s.port i) (Hd.vc h) (Hd.len h + 2))).emit (packetOut s i h payload crc stomp key))
  refine ⟨_, hslots, ?_⟩
  unfold State.sendPacket
  simp only [hkey, Nat.not_le.2 hroom, if_false]
  rfl

theorem sendPacket_carries (s : State) (i : Nat) (h : BitVec 512) (payload : List Byte) (crc : Word32) (stomp : Bool) :
    Carries s (s.sendPacket i h payload crc stomp) := by
  cases hkey : (s.port i).txKey with
  | none =>
    have hsame : s.sendPacket i h payload crc stomp = s := by
      unfold State.sendPacket
      simp only [hkey]
    rw [hsame]
    exact .refl s
  | some key =>
    by_cases hroom : (s.port i).nonce + 1 < 2 ^ 32
    · obtain ⟨u, hu, heq⟩ := sendPacket_eq h payload crc stomp hkey hroom
      rw [heq]
      have hspent : Carries s (s.setPort i (spent (s.port i) (Hd.vc h) (Hd.len h + 2))) := setPort_carries (debit_st _ _ _)
      exact ((hspent.trans (emit_carries _ _)).trans hu.carries).trans (afterNonce_carries u i)
    · have hstop : s.sendPacket i h payload crc stomp =
          (s.setPort i { s.port i with keyStopped := true }).raise (corrErr Code.tvlKeyExhausted 6 i) := by
        unfold State.sendPacket
        simp only [hkey, Nat.not_lt.1 hroom, if_true]
      rw [hstop]
      refine Carries.trans (setPort_carries ?_) (corrErr_noted _ _ _ _ _ _).carries
      rfl

/-- The packet is said. -/
theorem sendPacket_says {s : State} {i : Nat} (h : BitVec 512) (payload : List Byte) (crc : Word32) (stomp : Bool) {key : BitVec 256}
    (hkey : (s.port i).txKey = some key) (hroom : (s.port i).nonce + 1 < 2 ^ 32) :
    packetOut s i h payload crc stomp key ∈ (s.sendPacket i h payload crc stomp).out := by
  obtain ⟨u, hu, heq⟩ := sendPacket_eq h payload crc stomp hkey hroom
  rw [heq]
  refine (afterNonce_carries u i).out.subset (hu.out.subset ?_)
  exact List.mem_append_right _ (List.mem_singleton.2 rfl)

/-! ### Launching -/

theorem launch_carries (s : State) (h : BitVec 512) (payload : List Byte) (crc : Word32) : Carries s (s.launch h payload crc) := by
  unfold State.launch
  dsimp only
  split
  · split
    · exact Carries.foldl _ (fun u i => sendPacket_carries u i h payload crc false) _ s
    · exact tvlDue_carries s _
  · split
    · exact .refl s
    · split
      · exact sendPacket_carries s _ h payload crc false
      · exact tvlDue_carries s _

/-- A unicast packet whose port cannot take it waits. -/
theorem launch_waits {s : State} {h : BitVec 512} {i : Nat} (payload : List Byte) (crc : Word32) (hm : Hd.mcast h = false)
    (hroute : s.routeTo (Hd.dest h) = some i) (hcan : s.canSend i (Hd.vc h) (Hd.len h) = false) :
    s.launch h payload crc = { s with tvlDue := s.tvlDue ++ [{ head := h, payload := payload, crc := crc }] } := by
  unfold State.launch
  simp only [hm, hroute, hcan, Bool.and_false, Bool.false_eq_true, if_false]

/-- One whose port can take it goes out, when nothing waits before it. -/
theorem launch_goes {s : State} {h : BitVec 512} {i : Nat} (payload : List Byte) (crc : Word32) (hm : Hd.mcast h = false)
    (hroute : s.routeTo (Hd.dest h) = some i) (hdue : s.tvlDue = []) (hcan : s.canSend i (Hd.vc h) (Hd.len h) = true) :
    s.launch h payload crc = s.sendPacket i h payload crc false := by
  have hfirst : s.waitsBefore h = false := by
    unfold State.waitsBefore
    rw [hdue]
    rfl
  unfold State.launch
  simp only [hm, hroute, hcan, hfirst, Bool.not_false, Bool.and_self, Bool.false_eq_true, if_false, if_true]

theorem canSend_key {s : State} {i vc len : Nat} (h : s.canSend i vc len = true) : ∃ key, (s.port i).txKey = some key := by
  unfold State.canSend at h
  simp only [Bool.and_eq_true] at h
  obtain ⟨⟨⟨⟨_, hkey⟩, _⟩, _⟩, _⟩ := h
  exact Option.isSome_iff_exists.1 hkey

/-- A packet that goes out is said. -/
theorem launch_says {s : State} {h : BitVec 512} {i : Nat} (payload : List Byte) (crc : Word32) (hm : Hd.mcast h = false)
    (hroute : s.routeTo (Hd.dest h) = some i) (hdue : s.tvlDue = []) (hcan : s.canSend i (Hd.vc h) (Hd.len h) = true)
    (hnonce : (s.port i).nonce + 1 < 2 ^ 32) :
    ∃ hd ct tag, Out.packet i hd ct tag false crc ∈ (s.launch h payload crc).out := by
  obtain ⟨key, hkey⟩ := canSend_key hcan
  rw [launch_goes payload crc hm hroute hdue hcan]
  exact ⟨_, _, _, sendPacket_says h payload crc false hkey hnonce⟩

/-! ### A source sends -/

/-- A transaction as its first packet starts it. -/
def firstSend (s : State) (h : BitVec 512) (payload : List Byte) : Xact :=
  { head := h, payload := payload, sends := 1, sentAt := s.time }

/-- A packet is kept until its ACK. -/
def kept (s : State) (h : BitVec 512) (payload : List Byte) : State :=
  { s with xacts := Tab.ins (s.xacts.filter fun e => e.1 != (Hd.xid h).toNat) (Hd.xid h).toNat (firstSend s h payload) }

section
variable {s : State} {head h : BitVec 512} {payload : List Byte} (hserv : s.serving = true)
  (hh : h = BitVec.ofNat 512 (putBits head.toNat 24 6 (s.rd R.devId))) (hgood : headGood h = true)
  (hlen : payload.length = 64 * Hd.len h) (hm : Hd.mcast h = false) (hvc : Hd.vc h = 0)
include hserv hh hgood hlen hm hvc

theorem packetSend_runs (hop : Hd.op h ≠ 2) : exec (.packetSend head payload) s = .next (
    if Hd.dest h = s.rd R.devId then
      (s.tvlDeliver h payload (endCrc payload)).2.emit (.acked (Hd.xid h) (s.tvlDeliver h payload (endCrc payload)).1)
    else (kept s h payload).launch h payload (endCrc payload)) := by
  have hfits : fits64 h payload = true := beq_iff_eq.2 hlen
  subst hh
  show execPacketSend head payload s = _
  unfold execPacketSend
  simp only [hserv, hgood, hfits, hm, hvc, hop, Bool.true_eq_false, or_self, ne_eq, not_true_eq_false, Bool.false_eq_true, if_false]
  split <;> rfl

end

theorem tvlDeliver_msg {s : State} {h : BitVec 512} (payload : List Byte) (hop : Hd.op h = 1) :
    s.tvlDeliver h payload (endCrc payload) = (0, s.deliverMsg h payload) := by
  unfold State.tvlDeliver
  simp only [ne_eq, not_true_eq_false, if_false, hop, if_true]

theorem tvlDeliver_put {s : State} {h : BitVec 512} (payload : List Byte) (hop : Hd.op h = 0) :
    s.tvlDeliver h payload (endCrc payload) = if s.inWindow h = true then (0, s.putWrite h payload) else (2, s) := by
  unfold State.tvlDeliver
  simp only [ne_eq, not_true_eq_false, if_false, hop, Nat.zero_ne_one]
  by_cases hw : s.inWindow h = true
  · rw [if_neg fun hc => Bool.noConfusion (hw.symm.trans hc), if_pos hw]
  · rw [if_pos (Bool.eq_false_iff.2 hw), if_neg hw]

theorem foldl_emit (f : Nat → Out) (l : List Nat) (s : State) : l.foldl (fun (u : State) k => u.emit (f k)) s =
    { s with out := (l.foldl (fun (u : State) k => u.emit (f k)) s).out }
    ∧ s.out <+: (l.foldl (fun (u : State) k => u.emit (f k)) s).out := by
  induction l generalizing s with
  | nil => exact ⟨rfl, List.prefix_rfl⟩
  | cons k l ih =>
    obtain ⟨hframe, hout⟩ := ih (s.emit (f k))
    refine ⟨?_, (List.prefix_append _ _).trans hout⟩
    rw [List.foldl_cons, hframe]
    rfl

theorem resend_says (s : State) (dest p m shard : Nat) (ks : List Nat) : s.resend dest p m shard ks =
    { s with out := (s.resend dest p m shard ks).out } ∧ s.out <+: (s.resend dest p m shard ks).out := by
  unfold State.resend
  dsimp only
  split
  · exact foldl_emit _ _ s
  · exact ⟨rfl, List.prefix_rfl⟩

/-- A message's delivery enters a mailbox; what is resent is only said. -/
theorem deliverMsg_effect (s : State) (h : BitVec 512) (payload : List Byte) :
    (s.deliverMsg h payload).mbox = s.mbox ++ [(Hd.addr h % 8, payload)]
      ∧ s.deliverMsg h payload = { s with mbox := (s.deliverMsg h payload).mbox, out := (s.deliverMsg h payload).out }
      ∧ s.out <+: (s.deliverMsg h payload).out := by
  unfold State.deliverMsg
  dsimp only
  split
  · split
    · obtain ⟨hframe, hout⟩ := resend_says { s with mbox := s.mbox ++ [(Hd.addr h % 8, payload)] } (Hd.src h) _ _ _ _
      rw [hframe]
      exact ⟨rfl, rfl, hout⟩
    · exact ⟨rfl, rfl, List.prefix_rfl⟩
  · exact ⟨rfl, rfl, List.prefix_rfl⟩

end Sys2Proof.Proofs

/-! PROOFS. Torvol packets that arrive, and the whole of O52 (R405 to R410, R414, R415, R417, R423). -/
namespace Sys2Proof.Proofs
open Sys2Proof Sys2Proof.Machine Sys2Proof.Laws

/-! ### The receive buffer -/

/-- A port's receive buffer is set. -/
def buffered (s : State) (i : Nat) (l : List Pkt) : State := s.setPort i { s.port i with rxBuf := l }

theorem buffered_port (s : State) (i : Nat) (l : List Pkt) (j : Nat) : ∃ x, (buffered s i l).port j = { s.port j with rxBuf := x } := by
  by_cases hj : j = i
  · subst hj
    exact ⟨l, State.port_setPort _ _ _⟩
  · exact ⟨(s.port j).rxBuf, State.port_setPort_other _ _ hj⟩

theorem buffered_carries (s : State) (i : Nat) (l : List Pkt) : Carries s (buffered s i l) := by
  refine setPort_carries ?_
  rfl

theorem buffered_routeTo (s : State) (i : Nat) (l : List Pkt) (dest : Nat) : (buffered s i l).routeTo dest = s.routeTo dest := by
  unfold State.routeTo
  simp only [(buffered_carries s i l).states]
  rfl

theorem buffered_canSend (s : State) (i : Nat) (l : List Pkt) (e vc len : Nat) :
    (buffered s i l).canSend e vc len = s.canSend e vc len := by
  obtain ⟨x, hx⟩ := buffered_port s i l e
  unfold State.canSend
  rw [hx]
  rfl

theorem buffered_rd (s : State) (i : Nat) (l : List Pkt) (f : Field) (a b : Nat) : (buffered s i l).rd f a b = s.rd f a b := rfl

theorem buffered_inWindow (s : State) (i : Nat) (l : List Pkt) (h : BitVec 512) : (buffered s i l).inWindow h = s.inWindow h := rfl

/-- A packet has left a port's receive buffer, the last one in it: its credits are returned. -/
def leaves (s : State) (i : Nat) (h : BitVec 512) : State :=
  buffered (s.returnCredits i (Hd.vc h) (Hd.len h + 2)) i []

theorem leaves_effect (s : State) (i : Nat) (h : BitVec 512) : Carries s (leaves s i h) ∧ ((leaves s i h).port i).rxBuf = []
    ∧ (leaves s i h).tvlDue = s.tvlDue
    ∧ Out.symbol i 0x03 ([0] ++ leBytes 2 (if Hd.vc h = 0 then Hd.len h + 2 else 0)
        ++ leBytes 2 (if Hd.vc h = 1 then Hd.len h + 2 else 0) ++ leBytes 2 (if Hd.vc h = 2 then Hd.len h + 2 else 0))
      ∈ (leaves s i h).out := by
  have hsends : Sends i s (s.returnCredits i (Hd.vc h) (Hd.len h + 2)) := sendSym_sends _ _ _ _
  refine ⟨hsends.carries.trans (buffered_carries _ i []), ?_, ?_, (sendSym_ports _ _ _ _).2⟩
  · exact congrArg Port.rxBuf (State.port_setPort _ _ _)
  · show (s.returnCredits i (Hd.vc h) (Hd.len h + 2)).tvlDue = _
    rw [hsends.ports.1]

/-- The only packet of a buffer leaves it. -/
theorem drainRx_takes {s t : State} {i : Nat} {k : Pkt} (hst : (s.port i).st = .ready) (hbuf : (s.port i).rxBuf = [k])
    (htake : s.takePkt i k = some t) : s.drainRx i = leaves t i k.head := by
  have hkeep : ¬ (s.port i).st ≠ .ready := fun h => h hst
  rw [State.drainRx, hbuf, State.drainGo, if_neg hkeep, htake]
  rfl

/-- A packet that arrives at a READY port whose buffer is empty enters it alone. -/
theorem tvlArrive_enters {s v t : State} {i : Nat} {h : BitVec 512} {data : List Byte} {tag : BitVec 128} {stomp : Bool} {crc : Word32}
    {k : Pkt} (hst : (s.port i).st = .ready) (hcrc : headCrcGood h = true)
    (hv : v = if (s.opened i h data tag).1 = true then s else s.tagFail i) (hvst : (v.port i).st = .ready)
    (hbuf : (v.port i).rxBuf = [])
    (hk : k = { head := h, payload := (s.opened i h data tag).2, tagOk := (s.opened i h data tag).1, stomp := stomp, crc := crc })
    (htake : (buffered v i [k]).takePkt i k = some t) : s.tvlArrive i h data tag stomp crc = leaves t i h := by
  have hbst : ((buffered v i [k]).port i).st = .ready := ((buffered_carries v i [k]).states i).trans hvst
  have hbbuf : ((buffered v i [k]).port i).rxBuf = [k] := congrArg Port.rxBuf (State.port_setPort _ _ _)
  have hdrain := drainRx_takes hbst hbbuf htake
  have hhead : k.head = h := by rw [hk]
  rw [hhead] at hdrain
  rw [← hdrain]
  unfold State.tvlArrive
  rw [if_neg fun hc => Bool.noConfusion (hcrc.symm.trans hc), hst]
  dsimp only
  rw [← hv, ← hk, if_pos hvst, hbuf]
  rfl

/-! ### A packet at its destination -/

section
variable {s : State} {i : Nat} {k : Pkt} (hgood : headGood k.head = true) (hlen : k.payload.length = 64 * Hd.len k.head)
include hgood hlen

theorem takePkt_unicast (hm : Hd.mcast k.head = false) : s.takePkt i k = s.unicast k := by
  have hfits : fits64 k.head k.payload = true := beq_iff_eq.2 hlen
  unfold State.takePkt
  simp only [hgood, hfits, hm, Bool.true_eq_false, or_self, if_false, Bool.false_eq_true]

theorem takePkt_multicast (hm : Hd.mcast k.head = true) : s.takePkt i k = s.multicast i k := by
  have hfits : fits64 k.head k.payload = true := beq_iff_eq.2 hlen
  unfold State.takePkt
  simp only [hgood, hfits, hm, Bool.true_eq_false, or_self, if_false, if_true]

end

theorem unicast_here {s : State} {k : Pkt} (hdest : Hd.dest k.head = s.rd R.devId) (hop : Hd.op k.head ≠ 2) :
    s.unicast k = some (s.takeUnicast k) := by
  unfold State.unicast
  simp only [hdest, if_true, hop, if_false]

theorem unicast_ack {s : State} {k : Pkt} (hdest : Hd.dest k.head = s.rd R.devId) (hop : Hd.op k.head = 2) (hwhole : k.whole = true) :
    s.unicast k = some (s.takeAck k.head) := by
  unfold State.unicast
  simp only [hdest, if_true, hop, hwhole]

/-- The ACK of a packet that has been taken. -/
theorem ackPacket_carries (s : State) (h : BitVec 512) (status : Nat) : Carries s (s.ackPacket h status) := launch_carries _ _ _ _

theorem takeUnicast_put {s : State} {k : Pkt} (hwhole : k.whole = true) (hop : Hd.op k.head = 0) (hcrc : Config.crc32c k.payload = k.crc)
    (hwin : s.inWindow k.head = true) : s.takeUnicast k = (s.putWrite k.head k.payload).ackPacket k.head 0 := by
  have hput := tvlDeliver_put (s := s) k.payload hop
  rw [if_pos hwin] at hput
  have hend : endCrc k.payload = k.crc := hcrc
  rw [hend] at hput
  unfold State.takeUnicast
  rw [if_pos hwhole, hput]

theorem takeUnicast_msg {s : State} {k : Pkt} (hwhole : k.whole = true) (hop : Hd.op k.head = 1) (hcrc : Config.crc32c k.payload = k.crc) :
    s.takeUnicast k = (s.deliverMsg k.head k.payload).ackPacket k.head 0 := by
  have hmsg := tvlDeliver_msg (s := s) k.payload hop
  have hend : endCrc k.payload = k.crc := hcrc
  rw [hend] at hmsg
  unfold State.takeUnicast
  rw [if_pos hwhole, hmsg]

theorem takeAck_ends {s : State} {h : BitVec 512} {x : Nat} {q : Xact} (hx : x = (Hd.xid h).toNat) (hone : s.xacts = [(x, q)])
    (hstatus : Hd.status h ≠ 1) : s.takeAck h = { s with xacts := [], out := s.out ++ [.acked (Hd.xid h) (Hd.status h)] } := by
  subst hx
  unfold State.takeAck
  simp only [hone, List.find?_cons, beq_self_eq_true, ne_eq, hstatus, not_false_eq_true, if_true, List.filter_cons, bne_self_eq_false,
    Bool.false_eq_true, if_false, List.filter_nil]
  rfl

/-- A multicast packet of a valid tree from its UP_PORT where nothing is to be forwarded (R414). -/
theorem multicast_leaf {s : State} {i : Nat} {k : Pkt}
    (hok : ¬ (s.rd R.treeUp 0 (Hd.tree k.head) ≠ i ∨ s.rd R.treeValid 0 (Hd.tree k.head) = 0))
    (hdown : s.downPorts (Hd.tree k.head) = []) : s.multicast i k =
      some (if s.rd R.treeLocal 0 (Hd.tree k.head) = 1 ∧ k.whole = true ∧ endCrc k.payload = k.crc ∧ s.inWindow k.head = true
        then s.putWrite k.head k.payload else s) := by
  unfold State.multicast
  refine (if_neg hok).trans ?_
  rw [hdown]
  rfl

/-! ### Tags that fail -/

/-- A tag that fails under the port's limit is counted and raised, and the port stays. -/
theorem tagFail_effect {s : State} {i : Nat}
    (hlim : ((s.port i).authTimes.filter fun x => tkFrom x s.time < 1000000).length + 1 < s.rd R.authLimit) :
    ∃ times, Noted ((s.setPort i { s.port i with authTimes := times }).inc R.authFails i) (s.tagFail i) := by
  refine ⟨s.time :: (s.port i).authTimes.filter fun x => tkFrom x s.time < 1000000, ?_⟩
  have hstay : ¬ s.rd R.authLimit ≤ (s.time :: (s.port i).authTimes.filter fun x => tkFrom x s.time < 1000000).length :=
    Nat.not_le.2 hlim
  unfold State.tagFail
  dsimp only
  rw [if_neg hstay]
  exact corrErr_noted _ _ _ _ _ _

/-! ### A packet before READY -/

theorem refuse_effect (s : State) (i : Nat) : (s.refuse i).rd R.earlyPkt = (s.inc R.earlyPkt).rd R.earlyPkt
    ∧ (∃ body, Out.symbol i 0x07 body ∈ (s.refuse i).out) ∧ (s.refuse i).mem = s.mem ∧ (s.refuse i).mbox = s.mbox
    ∧ ((s.refuse i).port i).st = (s.port i).st := by
  have hsends : Sends i (s.inc R.earlyPkt) (s.refuse i) := sendSym_sends _ _ _ _
  exact ⟨rd_of_regs hsends.regs _ _ _, ⟨_, (sendSym_ports _ _ _ _).2⟩, hsends.mem, hsends.mbox, hsends.state⟩

/-! ### Timeouts -/

theorem e2eTimeout_runs {s : State} {xid : Word32} {q : Xact} (hone : s.xacts = [(xid.toNat, q)])
    (hdue : (s.rd R.e2eTimeout : Int) ≤ tkFrom q.sentAt s.time) : exec (.e2eTimeout xid) s = .next (
      if Hd.op q.head = 0 ∧ q.sends < 3 then
        State.launch { s with xacts := [(xid.toNat, { q with sends := q.sends + 1, sentAt := s.time })] } q.head q.payload
          (Config.crc32c q.payload)
      else { s with xacts := [], out := s.out ++ [.unreachable xid] }) := by
  have hpassed : s.passed q.sentAt (s.rd R.e2eTimeout) = true := decide_eq_true hdue
  show execE2eTimeout xid s = _
  unfold execE2eTimeout
  simp only [hone, List.find?_cons, beq_self_eq_true, hpassed, Bool.true_eq_false, if_false, List.filter_cons, bne_self_eq_false,
    Bool.false_eq_true, List.filter_nil]
  split <;> rfl

/-! ### O52 -/

/-- A PUT or MSG of this device to itself, to another, and one that has to wait. -/
theorem packetSend_effect {s : State} {head h : BitVec 512} {payload : List Byte} (hserv : s.serving = true)
    (hh : h = BitVec.ofNat 512 (putBits head.toNat 24 6 (s.rd R.devId))) (hgood : headGood h = true)
    (hlen : payload.length = 64 * Hd.len h) (hm : Hd.mcast h = false) (hvc : Hd.vc h = 0) :
    (Hd.op h = 1 → Hd.dest h = s.rd R.devId → s.rd R.wgtRoot = 0 → exec (.packetSend head payload) s =
        .next { s with mbox := s.mbox ++ [(Hd.addr h % 8, payload)], out := s.out ++ [.acked (Hd.xid h) 0] })
    ∧ (Hd.op h = 0 → Hd.dest h = s.rd R.devId → ∃ t : State, exec (.packetSend head payload) s = .next t
        ∧ t.out = s.out ++ [.acked (Hd.xid h) (if s.inWindow h then 0 else 2)]
        ∧ t.mem = (if s.inWindow h then Mem.write s.mem (s.rd R.rxBase + Hd.addr h) payload else s.mem) ∧ t.ports = s.ports)
    ∧ (∀ i key iv hd ct, Hd.op h = 0 → Hd.dest h ≠ s.rd R.devId → s.routeTo (Hd.dest h) = some i → s.tvlDue = [] →
        s.canSend i 0 (Hd.len h) = true → (s.port i).txKey = some key → (s.port i).nonce + 1 < 0xFFF00000 →
        iv = linkNonce (s.rd R.devId) i (s.port i).nonce → hd = sealHead h (s.port i).nonce → ct = Config.gcmSeal key iv payload →
        ∃ t : State, exec (.packetSend head payload) s = .next t
          ∧ Out.packet i hd ct (Config.gcmTag key iv (bvBytes 60 hd) ct) false (Config.crc32c payload) ∈ t.out
          ∧ (t.port i).nonce = (s.port i).nonce + 1 ∧ (t.port i).cr0 = (s.port i).cr0 - (Hd.len h + 2)
          ∧ t.xacts = Tab.ins (s.xacts.filter fun e => e.1 != (Hd.xid h).toNat) (Hd.xid h).toNat
            { head := h, payload := payload, sends := 1, sentAt := s.time }
          ∧ (∀ j, j ≠ i → t.port j = s.port j) ∧ t.mem = s.mem ∧ t.tvlDue = [])
    ∧ (∀ i, Hd.op h = 0 → Hd.dest h ≠ s.rd R.devId → s.routeTo (Hd.dest h) = some i → s.canSend i 0 (Hd.len h) = false →
        ∃ t : State, exec (.packetSend head payload) s = .next t ∧ t.ports = s.ports ∧ t.out = s.out
          ∧ t.tvlDue = s.tvlDue ++ [{ head := h, payload := payload, crc := Config.crc32c payload }]) := by
  refine ⟨fun hop hdest hroot => ?_, fun hop hdest => ?_, fun i key iv hd ct hop hdest hroute hdue hcan hkey hnonce hiv hhd hct => ?_,
    fun i hop hdest hroute hcan => ?_⟩
  · rw [packetSend_runs hserv hh hgood hlen hm hvc (by rw [hop]; decide), if_pos hdest, tvlDeliver_msg payload hop]
    have hplain : s.deliverMsg h payload = { s with mbox := s.mbox ++ [(Hd.addr h % 8, payload)] } := by
      unfold State.deliverMsg
      dsimp only
      split
      · refine if_neg fun hc => ?_
        exact absurd (hc.symm.trans hroot) (by decide)
      · rfl
    rw [hplain]
    rfl
  · refine ⟨_, packetSend_runs hserv hh hgood hlen hm hvc (by rw [hop]; decide), ?_⟩
    rw [if_pos hdest, tvlDeliver_put payload hop]
    by_cases hw : s.inWindow h = true
    · rw [if_pos hw, if_pos hw, if_pos hw]
      exact ⟨rfl, rfl, rfl⟩
    · rw [if_neg hw, if_neg hw, if_neg hw]
      exact ⟨rfl, rfl, rfl⟩
  · subst hiv hhd hct
    have hbound : ((kept s h payload).port i).nonce + 1 < 2 ^ 32 := Nat.lt_trans hnonce (by decide)
    obtain ⟨u, hu, heq⟩ := sendPacket_eq (s := kept s h payload) h payload (Config.crc32c payload) false hkey hbound
    have hport : ((((kept s h payload).setPort i (spent ((kept s h payload).port i) (Hd.vc h) (Hd.len h + 2))).emit
        (packetOut (kept s h payload) i h payload (Config.crc32c payload) false key)).port i) =
        spent (s.port i) (Hd.vc h) (Hd.len h + 2) := State.port_setPort _ _ _
    have hself := hu.self
    rw [hport] at hself
    have hsame : u.afterNonce i = u := by
      refine if_neg fun hc => absurd hc.1 ?_
      rw [hself]
      exact Nat.not_le.2 hnonce
    rw [hsame] at heq
    have hexec := packetSend_runs hserv hh hgood hlen hm hvc (by rw [hop]; decide)
    rw [if_neg hdest] at hexec
    rw [launch_goes (s := kept s h payload) payload (endCrc payload) hm hroute hdue (by rw [hvc]; exact hcan)] at hexec
    have hexec' : exec (.packetSend head payload) s = .next u := hexec.trans (congrArg Host.Outcome.next heq)
    refine ⟨u, hexec', ?_, ?_, ?_, ?_, fun j hj => (hu.others j hj).trans (State.port_setPort_other _ _ hj), hu.mem, ?_⟩
    · exact hu.out.subset (List.mem_append_right _ (List.mem_singleton.2 rfl))
    · rw [hself]
      rfl
    · rw [hself, hvc]
      rfl
    · rw [hu.ports.1]
      rfl
    · rw [hu.ports.1]
      exact hdue
  · have hexec := packetSend_runs hserv hh hgood hlen hm hvc (by rw [hop]; decide)
    rw [if_neg hdest, launch_waits (s := kept s h payload) payload (endCrc payload) hm hroute (by rw [hvc]; exact hcan)] at hexec
    exact ⟨_, hexec, rfl, rfl, rfl⟩

/-- A packet that arrives whole at a READY port with an empty buffer. -/
structure Whole (s : State) (i : Nat) (h : BitVec 512) (data payload : List Byte) (tag : BitVec 128) (crc : Word32) : Prop where
  st : (s.port i).st = .ready
  buf : (s.port i).rxBuf = []
  headCrc : headCrcGood h = true
  good : headGood h = true
  len : payload.length = 64 * Hd.len h
  opened : s.opened i h data tag = (true, payload)
  crc : Config.crc32c payload = crc

/-- The packet as it enters the buffer. -/
def wholePkt (h : BitVec 512) (payload : List Byte) (crc : Word32) : Pkt :=
  { head := h, payload := payload, tagOk := true, stomp := false, crc := crc }

/-- It is taken out of the buffer, and leaves it. -/
theorem Whole.arrives {s t : State} {i : Nat} {h : BitVec 512} {data payload : List Byte} {tag : BitVec 128} {crc : Word32}
    (w : Whole s i h data payload tag crc)
    (htake : (buffered s i [wholePkt h payload crc]).takePkt i (wholePkt h payload crc) = some t) :
    s.tvlArrive i h data tag false crc = leaves t i h := by
  have hopened := w.opened
  refine tvlArrive_enters (k := wholePkt h payload crc) w.st w.headCrc ?_ w.st w.buf ?_ htake
  · rw [hopened]
    rfl
  · rw [hopened]
    rfl

/-- The ACK that a destination sends. -/
def ackHead (s : State) (h : BitVec 512) : BitVec 512 := Hd.mk 1 (Hd.src h) (s.rd R.devId) 0 2 1 0 (Hd.xid h) 0

/-- A PUT into the receive window. -/
theorem put_effect {s : State} {i : Nat} {h : BitVec 512} {data payload : List Byte} {tag : BitVec 128} {crc : Word32}
    (w : Whole s i h data payload tag crc) (hm : Hd.mcast h = false) (hdest : Hd.dest h = s.rd R.devId) (hop : Hd.op h = 0)
    (hwin : s.inWindow h = true) : ∃ t : State, exec (.put i h data tag false crc) s = .next t
      ∧ t.mem = Mem.write s.mem (s.rd R.rxBase + Hd.addr h) payload ∧ t.mbox = s.mbox ∧ (t.port i).rxBuf = []
      ∧ Out.symbol i 0x03 ([0] ++ leBytes 2 (if Hd.vc h = 0 then Hd.len h + 2 else 0)
          ++ leBytes 2 (if Hd.vc h = 1 then Hd.len h + 2 else 0) ++ leBytes 2 (if Hd.vc h = 2 then Hd.len h + 2 else 0)) ∈ t.out
      ∧ t.xacts = s.xacts
      ∧ (∀ a e, a = ackHead s h → Hd.mcast a = false → s.routeTo (Hd.dest a) = some e →
          (s.canSend e (Hd.vc a) (Hd.len a) = false →
            t.tvlDue = s.tvlDue ++ [{ head := a, payload := List.replicate 64 0, crc := Config.crc32c (List.replicate 64 0) }])
          ∧ (s.canSend e (Hd.vc a) (Hd.len a) = true → s.tvlDue = [] → (s.port e).nonce + 1 < 2 ^ 32 →
            ∃ hd ct tg, Out.packet e hd ct tg false (Config.crc32c (List.replicate 64 0)) ∈ t.out)) := by
  have htake : (buffered s i [wholePkt h payload crc]).takePkt i (wholePkt h payload crc) = some
      (((buffered s i [wholePkt h payload crc]).putWrite h payload).ackPacket h 0) := by
    have hto : Hd.dest (wholePkt h payload crc).head = (buffered s i [wholePkt h payload crc]).rd R.devId := hdest
    have hop2 : Hd.op (wholePkt h payload crc).head ≠ 2 := fun h2 => absurd (hop.symm.trans h2) (by decide)
    have hwin' : (buffered s i [wholePkt h payload crc]).inWindow (wholePkt h payload crc).head = true := hwin
    exact (takePkt_unicast (k := wholePkt h payload crc) w.good w.len hm).trans ((unicast_here hto hop2).trans (congrArg some
      (takeUnicast_put (k := wholePkt h payload crc) rfl hop w.crc hwin')))
  have hexec : exec (.put i h data tag false crc) s = .next (s.tvlArrive i h data tag false crc) := onlyIf_of (by simp [hop, hm])
  rw [w.arrives htake] at hexec
  generalize hu : (buffered s i [wholePkt h payload crc]).putWrite h payload = u at hexec
  have hack := ackPacket_carries u h 0
  obtain ⟨hleaves, hbuf, hdue, hsays⟩ := leaves_effect (u.ackPacket h 0) i h
  refine ⟨_, hexec, hleaves.mem.trans (hack.mem.trans ?_), hleaves.mbox.trans (hack.mbox.trans ?_), hbuf, hsays,
    hleaves.xacts.trans (hack.xacts.trans ?_), fun a e ha hma hroute => ?_⟩
  · rw [← hu]
    rfl
  · rw [← hu]
    rfl
  · rw [← hu]
    rfl
  · have hlaunch : u.ackPacket h 0 = u.launch a (List.replicate 64 0) (Config.crc32c (List.replicate 64 0)) := by
      rw [ha, ← hu]
      rfl
    have hroute' : u.routeTo (Hd.dest a) = some e := by
      rw [← hu]
      exact (buffered_routeTo s i _ _).trans hroute
    have hcan' : u.canSend e (Hd.vc a) (Hd.len a) = s.canSend e (Hd.vc a) (Hd.len a) := by
      rw [← hu]
      exact buffered_canSend s i _ _ _ _
    refine ⟨fun hcan => ?_, fun hcan hempty hnonce => ?_⟩
    · rw [hdue, hlaunch, launch_waits _ _ hma hroute' (hcan'.trans hcan), ← hu]
      rfl
    · have hempty' : u.tvlDue = [] := by
        rw [← hu]
        exact hempty
      have hnonce' : (u.port e).nonce + 1 < 2 ^ 32 := by
        have hport : u.port e = (buffered s i [wholePkt h payload crc]).port e := by
          rw [← hu]
          rfl
        obtain ⟨x, hx⟩ := buffered_port s i [wholePkt h payload crc] e
        rw [hport, hx]
        exact hnonce
      obtain ⟨hd, ct, tg, hout⟩ := launch_says (List.replicate 64 0) (Config.crc32c (List.replicate 64 0)) hma hroute' hempty'
        (hcan'.trans hcan) hnonce'
      exact ⟨hd, ct, tg, hleaves.out.subset (hlaunch ▸ hout)⟩

/-- A MSG enters a mailbox. -/
theorem msg_effect {s : State} {i : Nat} {h : BitVec 512} {data payload : List Byte} {tag : BitVec 128} {crc : Word32}
    (w : Whole s i h data payload tag crc) (hm : Hd.mcast h = false) (hdest : Hd.dest h = s.rd R.devId) (hop : Hd.op h = 1) :
    ∃ t : State, exec (.msg i h data tag false crc) s = .next t
      ∧ t.mbox = s.mbox ++ [(Hd.addr h % 8, payload)] ∧ t.mem = s.mem ∧ (t.port i).rxBuf = [] ∧ t.xacts = s.xacts
      ∧ Out.symbol i 0x03 ([0] ++ leBytes 2 (if Hd.vc h = 0 then Hd.len h + 2 else 0)
          ++ leBytes 2 (if Hd.vc h = 1 then Hd.len h + 2 else 0) ++ leBytes 2 (if Hd.vc h = 2 then Hd.len h + 2 else 0)) ∈ t.out := by
  have htake : (buffered s i [wholePkt h payload crc]).takePkt i (wholePkt h payload crc) = some
      (((buffered s i [wholePkt h payload crc]).deliverMsg h payload).ackPacket h 0) := by
    have hto : Hd.dest (wholePkt h payload crc).head = (buffered s i [wholePkt h payload crc]).rd R.devId := hdest
    have hop2 : Hd.op (wholePkt h payload crc).head ≠ 2 := fun h2 => absurd (hop.symm.trans h2) (by decide)
    exact (takePkt_unicast (k := wholePkt h payload crc) w.good w.len hm).trans ((unicast_here hto hop2).trans (congrArg some
      (takeUnicast_msg (k := wholePkt h payload crc) rfl hop w.crc)))
  have hexec : exec (.msg i h data tag false crc) s = .next (s.tvlArrive i h data tag false crc) := onlyIf_of (by simp [hop, hm])
  rw [w.arrives htake] at hexec
  obtain ⟨hmbox, hframe, _⟩ := deliverMsg_effect (buffered s i [wholePkt h payload crc]) h payload
  generalize (buffered s i [wholePkt h payload crc]).deliverMsg h payload = u at hexec hmbox hframe
  have hack := ackPacket_carries u h 0
  obtain ⟨hleaves, hbuf, _, hsays⟩ := leaves_effect (u.ackPacket h 0) i h
  refine ⟨_, hexec, hleaves.mbox.trans (hack.mbox.trans hmbox), hleaves.mem.trans (hack.mem.trans ?_), hbuf,
    hleaves.xacts.trans (hack.xacts.trans ?_), hsays⟩
  · rw [hframe]
    rfl
  · rw [hframe]
    rfl

/-- An ACK ends its transaction. -/
theorem ack_effect {s : State} {i x : Nat} {q : Xact} {h : BitVec 512} {data payload : List Byte} {tag : BitVec 128} {crc : Word32}
    (w : Whole s i h data payload tag crc) (hm : Hd.mcast h = false) (hdest : Hd.dest h = s.rd R.devId) (hop : Hd.op h = 2)
    (hx : x = (Hd.xid h).toNat) (hone : s.xacts = [(x, q)]) (hstatus : Hd.status h ≠ 1) :
    ∃ t : State, exec (.ack i h data tag false crc) s = .next t ∧ t.xacts = [] ∧ Out.acked (Hd.xid h) (Hd.status h) ∈ t.out
      ∧ (t.port i).rxBuf = [] ∧ t.mem = s.mem ∧ t.mbox = s.mbox := by
  have htake := takePkt_unicast (s := buffered s i [wholePkt h payload crc]) (i := i) (k := wholePkt h payload crc) w.good w.len hm
  have hto : Hd.dest (wholePkt h payload crc).head = (buffered s i [wholePkt h payload crc]).rd R.devId := hdest
  have hone' : (buffered s i [wholePkt h payload crc]).xacts = [(x, q)] := hone
  have hends := takeAck_ends (h := (wholePkt h payload crc).head) hx hone' hstatus
  have htake := htake.trans ((unicast_ack hto hop rfl).trans (congrArg some hends))
  have hexec : exec (.ack i h data tag false crc) s = .next (s.tvlArrive i h data tag false crc) := by
    refine onlyIf_of ?_
    rw [hop, hm]
    rfl
  rw [w.arrives htake] at hexec
  refine ⟨_, hexec, ?_⟩
  generalize hu : ({ buffered s i [wholePkt h payload crc] with
    xacts := [], out := (buffered s i [wholePkt h payload crc]).out ++ [.acked (Hd.xid (wholePkt h payload crc).head)
      (Hd.status (wholePkt h payload crc).head)] } : State) = u
  obtain ⟨hleaves, hbuf, _, _⟩ := leaves_effect u i h
  refine ⟨hleaves.xacts.trans ?_, hleaves.out.subset ?_, hbuf, hleaves.mem.trans ?_, hleaves.mbox.trans ?_⟩
  · rw [← hu]
  · rw [← hu]
    exact List.mem_append_right _ (List.mem_singleton.2 rfl)
  · rw [← hu]
    rfl
  · rw [← hu]
    rfl

/-- A PUT whose tag fails, under the port's limit: it is counted, and no memory changes. -/
theorem put_bad_effect {s : State} {i : Nat} {h : BitVec 512} {data : List Byte} {tag : BitVec 128} (stomp : Bool) (crc : Word32)
    (hst : (s.port i).st = .ready) (hbuf : (s.port i).rxBuf = []) (hcrc : headCrcGood h = true) (hop : Hd.op h = 0)
    (hm : Hd.mcast h = false) (hdest : Hd.dest h = s.rd R.devId) (hopened : (s.opened i h data tag).1 = false)
    (hlim : ((s.port i).authTimes.filter fun x => tkFrom x s.time < 1000000).length + 1 < s.rd R.authLimit) (hi : i < 12) :
    ∃ t : State, exec (.put i h data tag stomp crc) s = .next t ∧ t.mem = s.mem ∧ t.mbox = s.mbox
      ∧ t.rd R.authFails i = (s.inc R.authFails i).rd R.authFails i ∧ (t.port i).st = .ready := by
  obtain ⟨times, hnoted⟩ := tagFail_effect hlim
  have hport : (s.tagFail i).port i = { s.port i with authTimes := times } := (hnoted.port i).trans (State.port_setPort s i _)
  have hquiet : R.authFails.key i 0 ≠ R.fnNotify.key 0 0 := by
    simp only [Field.key, R.authFails, R.fnNotify]
    omega
  have hcount : (s.tagFail i).rd R.authFails i = (s.inc R.authFails i).rd R.authFails i := hnoted.regs R.authFails i 0 hquiet
  have hid : (s.tagFail i).rd R.devId = s.rd R.devId := by
    refine (hnoted.regs R.devId 0 0 (by decide)).trans (State.rd_wr_other (s.setPort i { s.port i with authTimes := times }) ?_)
    simp only [Field.key, R.authFails, R.devId]
    omega
  generalize hk : ({ head := h, payload := (s.opened i h data tag).2, tagOk := (s.opened i h data tag).1, stomp := stomp
                     crc := crc } : Pkt) = k
  have hhead : k.head = h := by rw [← hk]
  have htake : ∃ t, (buffered (s.tagFail i) i [k]).takePkt i k = some t ∧ Carries (buffered (s.tagFail i) i [k]) t := by
    unfold State.takePkt
    rw [hhead, hm]
    split
    · exact ⟨_, rfl, .refl _⟩
    · rw [if_neg Bool.false_ne_true, unicast_here (by rw [hhead]; exact hdest.trans hid.symm) (by rw [hhead, hop]; decide)]
      have hpoor : ¬ k.whole = true := by
        rw [Pkt.whole, ← hk, hopened]
        exact Bool.false_ne_true
      refine ⟨_, rfl, ?_⟩
      unfold State.takeUnicast
      rw [if_neg hpoor]
      exact ackPacket_carries _ _ _
  obtain ⟨t, ht, hcarries⟩ := htake
  have hno : ¬ (s.opened i h data tag).1 = true := by
    rw [hopened]
    exact Bool.false_ne_true
  have harrive := tvlArrive_enters hst hcrc (if_neg hno).symm (by rw [hport]; exact hst) (by rw [hport]; exact hbuf) hk.symm ht
  have hexec : exec (.put i h data tag stomp crc) s = .next (s.tvlArrive i h data tag stomp crc) := by
    refine onlyIf_of ?_
    rw [hop, hm]
    rfl
  rw [harrive] at hexec
  obtain ⟨hleaves, _, _, _⟩ := leaves_effect t i h
  have hall := (((buffered_carries (s.tagFail i) i [k]).trans hcarries).trans hleaves)
  refine ⟨_, hexec, hall.mem.trans hnoted.mem, hall.mbox.trans ?_, (hall.regs R.authFails i 0 hquiet).trans hcount,
    (hall.states i).trans ?_⟩
  · rw [hnoted.frame]
    rfl
  · rw [hport]
    exact hst

/-- A multicast packet from a port that is not UP_PORT, and one that LOCAL writes here. -/
theorem multicast_effect {s : State} {i : Nat} {h : BitVec 512} {data payload : List Byte} {tag : BitVec 128} {crc : Word32}
    (w : Whole s i h data payload tag crc) (hm : Hd.mcast h = true) :
    (s.rd R.treeUp 0 (Hd.tree h) ≠ i → ∃ t : State, exec (.multicastPacket i h data tag false crc) s = .next t
      ∧ t.rd R.mcWrongPort = (s.inc R.mcWrongPort).rd R.mcWrongPort ∧ t.mem = s.mem ∧ (t.port i).rxBuf = [])
    ∧ (s.rd R.treeUp 0 (Hd.tree h) = i → s.rd R.treeValid 0 (Hd.tree h) = 1 → s.downPorts (Hd.tree h) = [] →
      s.rd R.treeLocal 0 (Hd.tree h) = 1 → s.inWindow h = true →
      ∃ t : State, exec (.multicastPacket i h data tag false crc) s = .next t
        ∧ t.mem = Mem.write s.mem (s.rd R.rxBase + Hd.addr h) payload ∧ (t.port i).rxBuf = [] ∧ t.mbox = s.mbox) := by
  have htake := takePkt_multicast (s := buffered s i [wholePkt h payload crc]) (i := i) (k := wholePkt h payload crc) w.good w.len hm
  have hexec : exec (.multicastPacket i h data tag false crc) s = .next (s.tvlArrive i h data tag false crc) := onlyIf_of hm
  refine ⟨fun hup => ?_, fun hup hvalid hdown hlocal hwin => ?_⟩
  · have hwrong : (buffered s i [wholePkt h payload crc]).multicast i (wholePkt h payload crc) =
        some ((buffered s i [wholePkt h payload crc]).inc R.mcWrongPort) := if_pos (.inl hup)
    rw [w.arrives (htake.trans hwrong)] at hexec
    obtain ⟨hleaves, hbuf, _, _⟩ := leaves_effect ((buffered s i [wholePkt h payload crc]).inc R.mcWrongPort) i h
    exact ⟨_, hexec, hleaves.regs R.mcWrongPort 0 0 (by decide), hleaves.mem, hbuf⟩
  · have hnone : (buffered s i [wholePkt h payload crc]).downPorts (Hd.tree h) = [] := by
      rw [← hdown]
      unfold State.downPorts
      simp only [(buffered_carries s i [wholePkt h payload crc]).states]
      rfl
    have hwrite : (buffered s i [wholePkt h payload crc]).multicast i (wholePkt h payload crc) =
        some ((buffered s i [wholePkt h payload crc]).putWrite h payload) := by
      have hvalid' : ¬ ((buffered s i [wholePkt h payload crc]).rd R.treeUp 0 (Hd.tree h) ≠ i
          ∨ (buffered s i [wholePkt h payload crc]).rd R.treeValid 0 (Hd.tree h) = 0) := fun hc => hc.elim (fun h => h hup) fun h0 =>
        absurd (hvalid.symm.trans h0) (by decide)
      refine (multicast_leaf (k := wholePkt h payload crc) hvalid' hnone).trans ?_
      exact congrArg some (if_pos ⟨hlocal, rfl, w.crc, hwin⟩)
    rw [w.arrives (htake.trans hwrite)] at hexec
    obtain ⟨hleaves, hbuf, _, _⟩ := leaves_effect ((buffered s i [wholePkt h payload crc]).putWrite h payload) i h
    exact ⟨_, hexec, hleaves.mem, hbuf, hleaves.mbox⟩

/-- Settles O52: credits, a source, a destination packet by packet, a bad tag, a packet before READY, timeouts, multicast. -/
theorem torvolPackets : Obligations.TorvolPackets := by
  refine ⟨fun s u i c0 c1 c2 hst hu => ?_, fun s head h payload hserv hh hgood hlen hm hvc =>
      packetSend_effect hserv hh hgood hlen hm hvc,
    fun s i h data payload tag crc hst hbuf hcrc hgood hlen hm hdest hopened hend => ?_,
    fun s i h data tag stomp crc hst hbuf hcrc hop hm hdest hopened hlim hi =>
      put_bad_effect stomp crc hst hbuf hcrc hop hm hdest hopened hlim hi,
    fun s i c h data tag stomp crc hst hcrc hc => ?_, fun s xid q hone hdue => ?_,
    fun s i h data payload tag crc hst hbuf hcrc hgood hlen hm hopened hend =>
      multicast_effect ⟨hst, hbuf, hcrc, hgood, hlen, hopened, hend⟩ hm⟩
  · refine ⟨?_, fun hdue hheld hrx => ?_⟩
    · subst hu
      exact onlyIf_of (by rw [hst]; rfl)
    · obtain ⟨hport, hout, hothers⟩ := linkGoOn_quiet hu hheld rfl hdue hrx
      exact ⟨by rw [hport, hu, State.port_setPort], hout, hothers⟩
  · have w : Whole s i h data payload tag crc := ⟨hst, hbuf, hcrc, hgood, hlen, hopened, hend⟩
    exact ⟨fun hop hwin => put_effect w hm hdest hop hwin, fun hop => msg_effect w hm hdest hop,
      fun x q hop hx hone hstatus => ack_effect w hm hdest hop hx hone hstatus⟩
  · have hrefuse : s.tvlArrive i h data tag stomp crc = s.refuse i := by
      unfold State.tvlArrive
      rw [if_neg fun hb => Bool.noConfusion (hcrc.symm.trans hb), hst]
    have hexec : exec c s = .next (s.tvlArrive i h data tag stomp crc) := by
      rcases hc with ⟨rfl, hm, hop⟩ | ⟨rfl, hm, hop⟩ | ⟨rfl, hm, hop⟩ | ⟨rfl, hm⟩
      · exact onlyIf_of (by rw [hop, hm]; rfl)
      · exact onlyIf_of (by rw [hop, hm]; rfl)
      · exact onlyIf_of (by rw [hop, hm]; rfl)
      · exact onlyIf_of hm
    obtain ⟨hcount, hsays, hmem, hmbox, hst'⟩ := refuse_effect s i
    rw [hrefuse] at hexec
    exact ⟨_, hexec, hcount, hsays, hmem, hmbox, hst'.trans hst⟩
  · have hexec := e2eTimeout_runs hone hdue
    refine ⟨fun hop hfew => ?_, fun hend => ?_⟩
    · rw [if_pos ⟨hop, hfew⟩] at hexec
      have hl := launch_carries { s with xacts := [(xid.toNat, { q with sends := q.sends + 1, sentAt := s.time })] } q.head q.payload
        (Config.crc32c q.payload)
      refine ⟨_, hexec, hl.xacts, hl.mem, fun i hm hroute hdue hcan hnonce => ?_⟩
      exact launch_says (s := { s with xacts := [(xid.toNat, { q with sends := q.sends + 1, sentAt := s.time })] }) q.payload
        (Config.crc32c q.payload) hm hroute hdue hcan hnonce
    · rw [hexec, if_neg]
      exact fun h => hend.elim (fun hne => hne h.1) fun hge => absurd h.2 (Nat.not_lt.2 hge)

end Sys2Proof.Proofs

/-! PROOFS. RST_N and PERST# (R468, R490): why O53 fails. -/
namespace Sys2Proof.Proofs
open Sys2Proof Sys2Proof.Machine Sys2Proof.Laws

/-- A device whose PERST# is released, and which is otherwise as after reset. -/
def perstReleased : State := { State.reset with dev := { State.reset.dev with perst := false } }

/-- RST_N asserted leaves its PCIe link up. -/
theorem rstNAssert_keeps_link : (perstReleased.toReset true).dev.pcieUp = true := by decide +kernel

/-- Refutes O53: its first clause has a PCIe link that is down as after reset, but RST_N leaves the link of a device whose PERST#
is released up. -/
theorem not_resetAndBoot : ¬ Obligations.ResetAndBoot := by
  rintro ⟨hassert, _⟩
  obtain ⟨t, hexec, ht, _⟩ := hassert perstReleased
  have hlink : t.dev.pcieUp = true :=
    Host.Outcome.next.inj hexec ▸ rstNAssert_keeps_link
  have hdown : t.dev.pcieUp = State.reset.dev.pcieUp := by rw [ht]
  exact absurd (hlink.symm.trans hdown) (by decide)

end Sys2Proof.Proofs

/-! PROOFS. Requests on the service port and their replies: O54 (R484, R511, R512, R514 to R516). -/
namespace Sys2Proof.Proofs
open Sys2Proof Sys2Proof.Machine Sys2Proof.Laws

/-! ### What a request may find -/

/-- The port of a PLDM or SPDM request is ready, and the device is not in recovery (R484, R517). -/
structure PortReady (s : State) : Prop where
  svc : s.dev.svcReady = true
  pldm : s.dev.pldmReady = true
  steady : s.dev.recovery = false

section
variable {s : State} (c : Instr) (act : State)

theorem mctp_ready (h : s.dev.svcReady = true) : s.mctp act = .next act := onlyIf_of h

theorem pldm_ready (h : PortReady s) : s.pldm c act = .next act := by
  obtain ⟨hsvc, hpldm, hsteady⟩ := h
  simp [State.pldm, hsvc, hpldm, hsteady]

theorem spdm_ready (h : PortReady s) (herr : s.gate.errorState = false) : s.spdm c act = .next act := by
  obtain ⟨hsvc, hpldm, hsteady⟩ := h
  simp [State.spdm, hsvc, hpldm, hsteady, herr]

end

/-! ### State sensors (log 47) -/

theorem stateSensor_pav (s : State) {sensor : Nat} (h1 : 1 ≤ sensor) (h8 : sensor ≤ 8) :
    s.stateSensor sensor = some (s.pav (sensor - 1)).st.num := by
  simp [State.stateSensor, show sensor ≠ 0 by omega, h8]

theorem stateSensor_none (s : State) {sensor : Nat} (h : 9 < sensor) : s.stateSensor sensor = none := by
  simp [State.stateSensor, show sensor ≠ 0 by omega, show ¬ sensor ≤ 8 by omega, show sensor ≠ 9 by omega]

/-- A state sensor of the device is answered by its value's byte, another is refused. -/
theorem stateSensor_replies {s : State} (h : PortReady s) (sensor : Nat) : exec (.getStateSensorReadings sensor) s = .next
    (match s.stateSensor sensor with
     | some v => s.emit (.reply (.getStateSensorReadings sensor) .done [BitVec.ofNat 8 v])
     | none => s.emit (.reply (.getStateSensorReadings sensor) .refused [])) := by
  refine (pldm_ready _ _ h).trans ?_
  cases s.stateSensor sensor <;> rfl

/-- The PLDM requests whose bodies the standard gives. -/
theorem pldm_free_replies {s : State} {c : Instr} {handle : Word32} {typ : Nat} (h : PortReady s) (htyp : typ = 0 ∨ typ = 2 ∨ typ = 5)
    (hc : c ∈ ([.getTid, .getPldmVersion, .getPldmCommands typ, .getPdrRepositoryInfo, .getPdr handle] : List Instr)) :
    exec c s = .next (s.answerFree c) := by
  simp only [List.mem_cons, List.not_mem_nil, or_false] at hc
  rcases hc with rfl | rfl | rfl | rfl | rfl
  · exact pldm_ready _ _ h
  · exact pldm_ready _ _ h
  · exact (pldm_ready _ _ h).trans (congrArg Host.Outcome.next (if_pos htyp))
  · exact pldm_ready _ _ h
  · exact pldm_ready _ _ h

/-- The SPDM requests whose bodies the standard gives. -/
theorem spdm_free_replies {s : State} {c : Instr} {nonce : List Byte} (h : PortReady s) (herr : s.gate.errorState = false)
    (hc : c ∈ ([.getVersion, .getCapabilities, .negotiateAlgorithms, .getDigests, .getCertificate 0, .challenge nonce,
      .selfTestOnDemand true] : List Instr)) : exec c s = .next (s.answerFree c) := by
  simp only [List.mem_cons, List.not_mem_nil, or_false] at hc
  rcases hc with rfl | rfl | rfl | rfl | rfl | rfl | rfl <;> exact spdm_ready _ _ h herr

/-- Settles O54, protocol by protocol. -/
theorem serviceReplies : Obligations.ServiceReplies := by
  refine ⟨fun s c hsvc hc => ?_, fun s eid hsvc => mctp_ready _ hsvc, fun s hsvc => ⟨mctp_ready _ hsvc, mctp_ready _ hsvc⟩,
    fun s addr hst => onlyIf_of (by simpa using hst),
    fun s c handle typ hsvc hpldm hrec htyp hc => pldm_free_replies ⟨hsvc, hpldm, hrec⟩ htyp hc,
    fun s sensor v hsvc hpldm hrec => ?_,
    fun s c nonce hsvc hpldm hrec herr hc => spdm_free_replies ⟨hsvc, hpldm, hrec⟩ herr hc,
    fun s block code hsvc hpldm hrec herr => ?_⟩
  · simp only [List.mem_cons, List.not_mem_nil, or_false] at hc
    rcases hc with rfl | rfl <;> exact mctp_ready _ hsvc
  · have h : PortReady s := ⟨hsvc, hpldm, hrec⟩
    have sensors := stateSensor_replies h
    refine ⟨pldm_ready _ _ h, fun typ h0 h2 h5 => ?_, ?_, sensors 0, fun h1 h8 => ?_, sensors 9, fun h9 => ?_⟩
    · exact (pldm_ready _ _ h).trans (congrArg Host.Outcome.next (if_neg (by simp [h0, h2, h5])))
    · exact pldm_ready _ _ h
    · rw [sensors, stateSensor_pav s h1 h8]
    · rw [sensors, stateSensor_none s h9]
  · have spdm (c : Instr) (act : State) : s.spdm c act = .next act := spdm_ready c act ⟨hsvc, hpldm, hrec⟩ herr
    have measured (n : Nat) : exec (.getMeasurements n) s = .next
        (if n = 0 then s.answer (.getMeasurements n) [9] else if n ≤ 9 then s.answer (.getMeasurements n) (s.measureBlock n)
         else if n = 0xFF then s.answer (.getMeasurements n) ((List.range 9).flatMap fun i => s.measureBlock (i + 1))
         else s.answerErr (.getMeasurements n) .refused) := spdm _ _
    refine ⟨spdm _ _, fun h1 h9 => ?_, measured 0xFF, measured 0, fun h9 hff => ?_, fun slot hslot => ?_⟩
    · rw [measured, if_neg (by omega), if_pos h9]
      rfl
    · rw [measured, if_neg (by omega), if_neg (by omega), if_neg hff]
      rfl
    · exact (spdm _ _).trans (congrArg Host.Outcome.next (if_neg hslot))

end Sys2Proof.Proofs

/-! PROOFS. SPDM sessions, the Crypto Officer's services and the error state: O55 (R484, R494, R495, R497, R499, R506, R508, R510,
R511, R517, R519). -/
namespace Sys2Proof.Proofs
open Sys2Proof Sys2Proof.Machine Sys2Proof.Laws

/-! ### What port work and errors leave -/

/-- From s to t only ports, errors and what they touch changed: no memory, request, key or fuse, and of the NVM only the repair
record. -/
structure Apart (s t : State) : Prop where
  frame : t = { s with
    out := t.out, freeCtr := t.freeCtr, ports := t.ports, nvm := { s.nvm with repair := t.nvm.repair }, errs := t.errs
    regs := t.regs, msixPend := t.msixPend, boot := t.boot, dev := t.dev, plots := t.plots, upd := t.upd }

theorem Apart.refl (s : State) : Apart s s := ⟨rfl⟩

theorem Apart.trans {s t u : State} (h : Apart s t) (g : Apart t u) : Apart s u := by
  refine ⟨?_⟩
  rw [g.frame, h.frame]

theorem Apart.foldl {α : Type} {f : State → α → State} (hf : ∀ s x, Apart s (f s x)) (l : List α) (s : State) :
    Apart s (l.foldl f s) := by
  induction l generalizing s with
  | nil => exact .refl s
  | cons x l ih => exact (hf s x).trans (ih _)

theorem onlyPorts_apart {s t : State} (h : OnlyPorts s t) : Apart s t := by
  refine ⟨?_⟩
  rw [h.1]

theorem Noted.apart {s t : State} (h : Noted s t) : Apart s t := by
  refine ⟨?_⟩
  rw [h.frame]

section
variable {s t : State} (h : Apart s t)
include h

theorem Apart.gate : t.gate = s.gate := by rw [h.frame]

theorem Apart.mem : t.mem = s.mem := by rw [h.frame]

theorem Apart.reqs : t.reqs = s.reqs := by rw [h.frame]

theorem Apart.fuses : t.fuses = s.fuses := by rw [h.frame]

theorem Apart.nvm : t.nvm = { s.nvm with repair := t.nvm.repair } := by rw [h.frame]

end

/-! ### Errors of every class -/

theorem setPort_apart (s : State) (i : Nat) (p : Port) : Apart s (s.setPort i p) := ⟨rfl⟩

theorem wr_apart (s : State) (f : Field) (v inst : Nat) : Apart s (s.wr f v inst) := ⟨rfl⟩

theorem counted_apart (s : State) (c : Cls) : Apart s ((s.countErr c).nextSeq) := ⟨rfl⟩

theorem recorded_apart (s : State) (c d : Cls) (r : BitVec 256) : Apart s ((s.countErr c).ringPut d r).nextSeq := ⟨rfl⟩

theorem trialCause_apart (s : State) (c : Cls) : Apart s (s.trialCause c) := by
  unfold State.trialCause
  split
  · exact ⟨rfl⟩
  · exact .refl s

theorem shutPort_apart (s : State) (i : Nat) : Apart s (s.shutPort i) := by
  unfold State.shutPort
  split
  · exact .refl s
  · exact ((onlyPorts_apart (sendDown_ports s i 2)).trans (setPort_apart _ i _)).trans (recorded_apart _ _ _ _)

/-- A device whose plots and records changed. -/
theorem stopped_apart (s : State) (d : DevS) (l : Tab Plot) (e : Errs) : Apart s { s with dev := d, plots := l, errs := e } := ⟨rfl⟩

theorem shutter_apart (s : State) (r : BitVec 256) : Apart s (s.shutter r) :=
  (stopped_apart s _ _ _).trans (Apart.foldl shutPort_apart _ _)

theorem enter_apart (s : State) (e : Err) (early : Bool) : Apart s (s.enter e early) := by
  have hcount := counted_apart s e.cls
  unfold State.enter
  dsimp only
  generalize (s.countErr e.cls).nextSeq = u at hcount ⊢
  generalize (if (e.inHandler && e.cls != .device && s.dev.st != .shuttered) = true then e.cls.up else e.cls) = c
  split
  · exact hcount.trans (ringOnly_noted u e early _ _).apart
  · split
    · refine Apart.trans ?_ (shutter_apart _ _)
      exact hcount.trans ((ringPut_noted u _ _).apart.trans (trialCause_apart _ _))
    · split
      · exact hcount.trans (ringOnly_noted u e early _ _).apart
      · exact hcount.trans ((primaryIn_noted u e _ _).apart.trans (trialCause_apart _ _))

theorem raise_apart (s : State) (e : Err) : Apart s (s.raise e) := by
  unfold State.raise
  split
  · exact .refl s
  · exact ⟨rfl⟩
  · exact ⟨rfl⟩
  · exact enter_apart s e false

/-! ### Ports -/

theorem portDown_apart (s : State) (i reason : Nat) (send : Bool) : Apart s (s.portDown i reason send) := by
  have hsent : Apart s (if send then s.sendDown i reason else s) := by
    split
    · exact onlyPorts_apart (sendDown_ports s i reason)
    · exact .refl s
  unfold State.portDown
  split
  · exact .refl s
  · dsimp only
    generalize (if send = true then s.sendDown i reason else s) = u at hsent ⊢
    exact ((hsent.trans (setPort_apart u i _)).trans (wr_apart _ _ _ _)).trans (raise_apart _ _)

theorem allPortsDown_apart (s : State) (reason : Nat) (send : Bool) : Apart s (s.allPortsDown reason send) :=
  Apart.foldl (fun s i => portDown_apart s i reason send) _ s

theorem portDown_down (s : State) (i reason : Nat) (send : Bool) : ((s.portDown i reason send).port i).st = .down := by
  by_cases h : (s.port i).st = .down
  · rw [State.portDown, if_pos h]
    exact h
  · rw [(portDown_downed reason send h).self]
    rfl

theorem portDown_stays_down {s : State} {i : Nat} (j reason : Nat) (send : Bool) (h : (s.port i).st = .down) :
    ((s.portDown j reason send).port i).st = .down := by
  by_cases hi : i = j
  · exact hi ▸ portDown_down s i reason send
  · by_cases hj : (s.port j).st = .down
    · rw [State.portDown, if_pos hj]
      exact h
    · rw [(portDown_downed reason send hj).others i hi]
      exact h

theorem foldl_portDown_down (reason : Nat) (send : Bool) (l : List Nat) (s : State) (i : Nat) (h : i ∈ l ∨ (s.port i).st = .down) :
    ((l.foldl (fun t j => t.portDown j reason send) s).port i).st = .down := by
  induction l generalizing s with
  | nil => exact h.resolve_left List.not_mem_nil
  | cons j l ih =>
    refine ih _ ?_
    rcases h with h | h
    · rcases List.mem_cons.1 h with rfl | h
      · exact .inr (portDown_down s i reason send)
      · exact .inl h
    · exact .inr (portDown_stays_down j reason send h)

theorem allPortsDown_down (s : State) (reason : Nat) (send : Bool) {i : Nat} (hi : i < 12) :
    ((s.allPortsDown reason send).port i).st = .down :=
  foldl_portDown_down reason send _ s i (.inl (List.mem_range.2 hi))

theorem tryReady_apart (s : State) (i : Nat) : Apart s (s.tryReady i) := by
  unfold State.tryReady
  dsimp only
  split
  · exact .refl s
  · split
    · split
      · exact (onlyPorts_apart (sendSym_sends s i _ _).ports).trans (raise_apart _ _)
      · exact ⟨rfl⟩
    · exact .refl s

theorem sendReady_apart (s : State) (i : Nat) : Apart s (s.sendReady i) := by
  unfold State.sendReady
  dsimp only
  split
  · have hsalted : Apart s (salted s i) := ⟨rfl⟩
    exact (hsalted.trans (onlyPorts_apart (sendSym_sends (salted s i) i 0x06 _).ports)).trans (tryReady_apart _ i)
  · exact .refl s

/-- Without a LINKED port no READY goes out. -/
theorem foldl_sendReady_none {s : State} (h : ∀ i, (s.port i).st ≠ .linked) (l : List Nat) : l.foldl State.sendReady s = s := by
  induction l with
  | nil => rfl
  | cons i l ih =>
    have hnone : s.sendReady i = s := if_neg fun hc => h i hc.2.1
    rw [List.foldl_cons, hnone, ih]

/-! ### Zeroisation and its reset (R508, R510, R521, R547) -/

/-- From s to t the wrapped FMK, the persistent log's head and the fuses stay. -/
structure Lasting (s t : State) : Prop where
  fmk : t.nvm.fmkWrapped = s.nvm.fmkWrapped
  head : t.nvm.plogHead = s.nvm.plogHead
  fuses : t.fuses = s.fuses

theorem Lasting.refl (s : State) : Lasting s s := ⟨rfl, rfl, rfl⟩

theorem Lasting.trans {s t u : State} (h : Lasting s t) (g : Lasting t u) : Lasting s u :=
  ⟨g.fmk.trans h.fmk, g.head.trans h.head, g.fuses.trans h.fuses⟩

theorem Apart.lasting {s t : State} (h : Apart s t) : Lasting s t := by
  refine ⟨?_, ?_, h.fuses⟩
  · rw [h.nvm]
  · rw [h.nvm]

theorem setBank_lasting (s : State) (k : Nat) (b : List Byte) : Lasting s (s.setBank k b) := by
  unfold State.setBank
  by_cases hk : k = 0 <;> simp only [hk, if_true, if_false] <;> exact ⟨rfl, rfl, rfl⟩

theorem writeRec_lasting (s : State) (f : BootRec → BootRec) : Lasting s (s.writeRec f) := by
  unfold State.writeRec
  split <;> exact ⟨rfl, rfl, rfl⟩

theorem abortUpdate_lasting (s : State) : Lasting s s.abortUpdate := by
  unfold State.abortUpdate
  split
  · exact (setBank_lasting _ _ _).trans (writeRec_lasting _ _)
  · exact .refl s

theorem dropTransfer_lasting (s : State) : Lasting s s.dropTransfer := by
  unfold State.dropTransfer
  split
  · exact setBank_lasting _ _ _
  · exact .refl s

theorem toDormant_lasting (s : State) (low : Bool) : Lasting s (s.toDormant low) :=
  (dropTransfer_lasting s).trans ⟨rfl, rfl, rfl⟩

theorem toReset_lasting (s : State) (low : Bool) : Lasting s (s.toReset low) :=
  (Apart.foldl (fun u i => onlyPorts_apart (sendDown_ports u i 7)) (List.range 12) s).lasting.trans (toDormant_lasting _ _)

/-- What a reset clears is as after power-on. -/
structure Cleared (t : State) : Prop where
  gate : t.gate = {}
  mem : t.mem = []
  reqs : t.reqs = []
  objs : t.objs = []
  pages : t.pages = []

theorem toDormant_cleared (s : State) (low : Bool) : Cleared (s.toDormant low) := ⟨rfl, rfl, rfl, rfl, rfl⟩

theorem toReset_cleared (s : State) (low : Bool) : Cleared (s.toReset low) := toDormant_cleared _ low

theorem wake_lasting (s : State) (d : DevS) : Lasting s { s with dev := d } := ⟨rfl, rfl, rfl⟩

theorem Cleared.wake {s : State} (h : Cleared s) (d : DevS) : Cleared { s with dev := d } :=
  ⟨h.gate, h.mem, h.reqs, h.objs, h.pages⟩

theorem selfReset_lasting (s : State) : Lasting s s.selfReset := (toReset_lasting s false).trans (wake_lasting _ _)

theorem selfReset_cleared (s : State) : Cleared s.selfReset := (toReset_cleared s false).wake _

theorem selfReset_waking (s : State) : s.selfReset.dev.st = .waking := rfl

/-- A zeroised device: its wrapped FMK is gone, one record is in the persistent log, and all that a reset clears. -/
structure Zeroised (s t : State) : Prop where
  fmk : t.nvm.fmkWrapped = none
  head : t.nvm.plogHead = (s.nvm.plogHead + 1) % 65536
  gate : t.gate = {}
  st : t.dev.st = .waking
  mem : t.mem = []
  reqs : t.reqs = []
  objs : t.objs = []
  pages : t.pages = []
  fuses : t.fuses = s.fuses

/-- The wrapped FMK is destroyed. -/
def fmkGone (u : State) : State := { u with nvm := { u.nvm with fmkWrapped := none } }

/-- The wrapped FMK is destroyed, and a record is written to the persistent log. -/
def wiped (u : State) : State := ((fmkGone u).plogPut (fmkGone u).zeroisedRecord).tickFree

theorem plogPut_effect (s : State) (r : BitVec 256) : (s.plogPut r).nvm.fmkWrapped = s.nvm.fmkWrapped
    ∧ (s.plogPut r).nvm.plogHead = (s.nvm.plogHead + 1) % 65536 ∧ (s.plogPut r).fuses = s.fuses := ⟨rfl, rfl, rfl⟩

theorem tickFree_lasting (s : State) : Lasting s s.tickFree := ⟨rfl, rfl, rfl⟩

theorem fmkGone_effect (u : State) : (fmkGone u).nvm.fmkWrapped = none ∧ (fmkGone u).nvm.plogHead = u.nvm.plogHead
    ∧ (fmkGone u).fuses = u.fuses := ⟨rfl, rfl, rfl⟩

theorem wiped_effect (u : State) : (wiped u).nvm.fmkWrapped = none ∧ (wiped u).nvm.plogHead = (u.nvm.plogHead + 1) % 65536
    ∧ (wiped u).fuses = u.fuses := by
  obtain ⟨hfmk, hhead, hfuses⟩ := plogPut_effect (fmkGone u) (fmkGone u).zeroisedRecord
  obtain ⟨gfmk, ghead, gfuses⟩ := fmkGone_effect u
  have hlast := tickFree_lasting ((fmkGone u).plogPut (fmkGone u).zeroisedRecord)
  exact ⟨(hlast.fmk.trans hfmk).trans gfmk, (hlast.head.trans hhead).trans (by rw [ghead]), (hlast.fuses.trans hfuses).trans gfuses⟩

theorem zeroise_eq (s : State) : s.zeroise = (wiped (s.allPortsDown 6 true).abortUpdate).selfReset := rfl

theorem zeroise_zeroised (s : State) : Zeroised s s.zeroise := by
  have hdone := ((allPortsDown_apart s 6 true).lasting).trans (abortUpdate_lasting _)
  rw [zeroise_eq]
  generalize (s.allPortsDown 6 true).abortUpdate = u at hdone ⊢
  obtain ⟨hfmk, hhead, hfuses⟩ := wiped_effect u
  generalize wiped u = v at hfmk hhead hfuses ⊢
  have hlast := selfReset_lasting v
  have hclear := selfReset_cleared v
  exact ⟨hlast.fmk.trans hfmk, (hlast.head.trans hhead).trans (by rw [hdone.head]), hclear.gate, selfReset_waking v, hclear.mem,
    hclear.reqs, hclear.objs, hclear.pages, (hlast.fuses.trans hfuses).trans hdone.fuses⟩

/-- The device is in the debug state (R510). -/
def debugState (z : State) : State := { z with gate := { z.gate with debug := true } }

/-! ### The fabric key (R497, R499) -/

theorem storeFmk_effect (s : State) (w : BitVec 256) (key : List Byte) : (s.storeFmk w key).gate = { s.gate with fmk := some key }
    ∧ (s.storeFmk w key).nvm.fmkNonce = s.nvm.fmkNonce + 1
    ∧ (s.storeFmk w key).nvm.fmkWrapped = some (Config.gcmSeal w (wrapNonce (s.nvm.fmkNonce + 1)) key,
        Config.gcmTag w (wrapNonce (s.nvm.fmkNonce + 1)) [] (Config.gcmSeal w (wrapNonce (s.nvm.fmkNonce + 1)) key))
    ∧ ((∀ i, (s.port i).st ≠ .linked) → (s.storeFmk w key).ports = s.ports) ∧ (s.storeFmk w key).mem = s.mem
    ∧ (s.storeFmk w key).reqs = s.reqs := by
  unfold State.storeFmk
  dsimp only
  generalize hu : ({ s with nvm := _, gate := _ } : State) = u
  have hready : Apart u ((List.range 12).foldl State.sendReady u) := Apart.foldl sendReady_apart _ u
  refine ⟨?_, ?_, ?_, fun hnone => ?_, ?_, ?_⟩
  · rw [hready.gate, ← hu]
  · rw [hready.nvm, ← hu]
  · rw [hready.nvm, ← hu]
  · have hnone' : ∀ i, (u.port i).st ≠ .linked := by
      rw [← hu]
      exact hnone
    rw [foldl_sendReady_none hnone', ← hu]
  · rw [hready.mem, ← hu]
  · rw [hready.reqs, ← hu]

/-! ### The error state (R519) -/

theorem gateFails_effect (s : State) : s.gateFails.gate = { s.gate with errorState := true }
    ∧ (∀ i, i < 12 → (s.gateFails.port i).st = .down) ∧ s.gateFails.mem = s.mem ∧ s.gateFails.reqs = s.reqs := by
  have hapart : Apart { s with gate := { s.gate with errorState := true } } s.gateFails :=
    (raise_apart _ _).trans (allPortsDown_apart _ _ _)
  exact ⟨hapart.gate, fun i hi => allPortsDown_down _ _ _ hi, hapart.mem, hapart.reqs⟩

/-! ### O55 -/

theorem not_mem_setDel (k : Nat) (l : List Nat) : k ∉ setDel k l := by
  simp [setDel]

section
variable {s : State} (h : PortReady s) (herr : s.gate.errorState = false) (sid : Nat)
include h herr

/-- A request of a session that is not a Crypto Officer's. -/
theorem officer_refuses (c : Instr) (act : State) (hno : sid ∉ s.gate.officers) :
    s.officer c sid act = .next (s.emit (.reply c .unexpectedRequest [])) := by
  have hcont : ¬ s.gate.officers.contains sid = true := fun hc => hno (List.contains_iff_mem.1 hc)
  exact (spdm_ready _ _ h herr).trans (congrArg Host.Outcome.next (if_neg hcont))

theorem officer_runs (c : Instr) (act : State) (hin : sid ∈ s.gate.officers) : s.officer c sid act = .next act :=
  (spdm_ready _ _ h herr).trans (congrArg Host.Outcome.next (if_pos (List.contains_iff_mem.2 hin)))

theorem inSession_runs (c : Instr) (act : State) (hin : sid ∈ s.gate.established) : s.inSession c sid act = .next act :=
  (spdm_ready _ _ h herr).trans (congrArg Host.Outcome.next (if_pos (List.contains_iff_mem.2 hin)))

/-- A session is opened, while there are fewer than two. -/
theorem keyExchange_effect : (s.gate.sessions.length < 2 → sid ∉ s.gate.sessions → ∃ t, exec (.keyExchange sid) s = .next t
      ∧ t.gate = { s.gate with sessions := setIns sid s.gate.sessions }
      ∧ t = { s with gate := t.gate, out := t.out, freeCtr := s.freeCtr + 1 })
    ∧ (2 ≤ s.gate.sessions.length → exec (.keyExchange sid) s = .next (s.emit (.reply (.keyExchange sid) .refused []))) := by
  refine ⟨fun hlen hnew => ⟨_, (spdm_ready _ _ h herr).trans (congrArg Host.Outcome.next (if_pos ⟨hlen, ?_⟩)), rfl, rfl⟩, fun hfull =>
    (spdm_ready _ _ h herr).trans (congrArg Host.Outcome.next (if_neg fun hc => absurd hc.1 (Nat.not_lt.2 hfull)))⟩
  simpa using hnew

/-- A session is finished, a Crypto Officer's if its root is one of the image's. -/
theorem finish_effect {root : List Byte} (hopen : sid ∈ s.gate.sessions) (hnew : sid ∉ s.gate.established) :
    ∃ t, exec (.finish sid root) s = .next t ∧ t.gate.established = setIns sid s.gate.established
      ∧ t.gate.officers = (if s.isOfficerRoot root then setIns sid s.gate.officers else s.gate.officers)
      ∧ t = { s with gate := t.gate, out := t.out, freeCtr := s.freeCtr + 1 } := by
  refine ⟨_, (spdm_ready _ _ h herr).trans (congrArg Host.Outcome.next (if_pos ⟨List.contains_iff_mem.2 hopen, ?_⟩)), rfl, rfl, rfl⟩
  simpa using hnew

/-- A session is ended. -/
theorem endSession_effect (hin : sid ∈ s.gate.established) : ∃ t, exec (.endSession sid) s = .next t ∧ sid ∉ t.gate.sessions
    ∧ sid ∉ t.gate.established ∧ sid ∉ t.gate.officers ∧ t = { s with gate := t.gate, out := t.out, freeCtr := s.freeCtr + 1 } :=
  ⟨_, inSession_runs h herr sid _ _ hin, not_mem_setDel sid _, not_mem_setDel sid _, not_mem_setDel sid _, rfl⟩

/-- A Crypto Officer's fabric key is stored, or refused. -/
theorem setFabricMasterKey_effect {key : List Byte} (hin : sid ∈ s.gate.officers) :
    (∀ w, s.gate.wrapKey = some w → s.dev.st ≠ .shuttered → key.length = 32 →
      ∃ t, exec (.setFabricMasterKey sid key) s = .next t ∧ t.gate = { s.gate with fmk := some key }
        ∧ t.nvm.fmkNonce = s.nvm.fmkNonce + 1
        ∧ t.nvm.fmkWrapped = some (Config.gcmSeal w (wrapNonce t.nvm.fmkNonce) key,
            Config.gcmTag w (wrapNonce t.nvm.fmkNonce) [] (Config.gcmSeal w (wrapNonce t.nvm.fmkNonce) key))
        ∧ ((∀ i, (s.port i).st ≠ .linked) → t.ports = s.ports) ∧ t.mem = s.mem ∧ t.reqs = s.reqs)
    ∧ (s.gate.wrapKey = none ∨ s.dev.st = .shuttered ∨ key.length ≠ 32 →
      exec (.setFabricMasterKey sid key) s = .next (s.emit (.reply (.setFabricMasterKey sid key) .refused []))) := by
  have hrun : exec (.setFabricMasterKey sid key) s = .next (match s.gate.wrapKey with
      | some w => if key.length = 32 ∧ s.dev.st ≠ .shuttered then (s.answerFree (.setFabricMasterKey sid key)).storeFmk w key
        else s.answerErr (.setFabricMasterKey sid key) .refused
      | none => s.answerErr (.setFabricMasterKey sid key) .refused) := officer_runs h herr sid _ _ hin
  refine ⟨fun w hw hst hlen => ?_, fun hbad => hrun.trans (congrArg Host.Outcome.next ?_)⟩
  · rw [hw] at hrun
    obtain ⟨hgate, hnonce, hwrapped, hports, hmem, hreqs⟩ := storeFmk_effect (s.answerFree (.setFabricMasterKey sid key)) w key
    refine ⟨_, hrun.trans (congrArg Host.Outcome.next (if_pos ⟨hlen, hst⟩)), hgate, hnonce, ?_, hports, hmem, hreqs⟩
    rw [hnonce]
    exact hwrapped
  · split
    · rename_i w hw
      refine if_neg fun hc => ?_
      rcases hbad with hnone | hshut | hlen
      · exact nomatch hnone.symm.trans hw
      · exact hc.2 hshut
      · exact hlen hc.1
    · rfl

end

/-- Settles O55: before readiness, sessions, the Crypto Officer's requests, the error state. -/
theorem sessionsAndOfficers : Obligations.SessionsAndOfficers := by
  refine ⟨fun s hsvc => ⟨if_pos hsvc, if_pos hsvc, onlyIf_not hsvc⟩, fun s hsvc hbusy => ?_, fun s sid hsvc hpldm hrec herr => ?_,
    fun s sid root key hsvc hpldm hrec herr => ?_, fun s hsvc hpldm hrec herr => ?_, fun s hkeys herr => ?_⟩
  · have hup : ¬ s.dev.svcReady = false := fun h => Bool.noConfusion (hsvc.symm.trans h)
    exact ⟨(if_neg hup).trans (if_pos hbusy), (if_neg hup).trans (if_pos hbusy)⟩
  · show s.spdm _ _ = _
    simp only [State.spdm, hsvc, hpldm, hrec, herr, Bool.true_eq_false, Bool.false_eq_true, or_self, if_false, if_true]
    rfl
  · have h : PortReady s := ⟨hsvc, hpldm, hrec⟩
    obtain ⟨hopens, hfull⟩ := keyExchange_effect h herr sid
    refine ⟨hopens, hfull, fun hin hnew => finish_effect h herr sid hin hnew, fun hin => ⟨inSession_runs h herr sid _ _ hin,
      inSession_runs h herr sid _ _ hin, endSession_effect h herr sid hin⟩, fun hno => ⟨officer_refuses h herr sid _ _ hno,
      officer_refuses h herr sid _ _ hno, officer_refuses h herr sid _ _ hno⟩, fun hin => ⟨?_, ?_, setFabricMasterKey_effect h herr sid hin⟩⟩
    · obtain ⟨hfmk, hhead, hgate, hst, hmem, hreqs, hobjs, hpages, hfuses⟩ := zeroise_zeroised (s.answerFree (.zeroise sid))
      exact ⟨_, officer_runs h herr sid _ _ hin, hfmk, hhead, hgate, hst, hmem, hreqs, hobjs, hpages, hfuses⟩
    · have hzero := zeroise_zeroised (s.answerFree (.debugUnlock sid))
      have hrun : exec (.debugUnlock sid) s = .next (debugState (s.answerFree (.debugUnlock sid)).zeroise) :=
        officer_runs h herr sid _ _ hin
      generalize (s.answerFree (.debugUnlock sid)).zeroise = z at hzero hrun
      obtain ⟨hfmk, hhead, hgate, hst, hmem, hreqs, hobjs, hpages, hfuses⟩ := hzero
      exact ⟨debugState z, hrun, hfmk, hhead, congrArg (fun g : Gate => { g with debug := true }) hgate, hst, hmem, hreqs, hobjs, hpages,
        hfuses⟩
  · obtain ⟨hgate, hdown, hmem, hreqs⟩ := gateFails_effect (s.answerFree (.selfTestOnDemand false))
    refine ⟨(s.answerFree (.selfTestOnDemand false)).gateFails, spdm_ready _ _ ⟨hsvc, hpldm, hrec⟩ herr, hgate, ?_, hdown, hmem, hreqs⟩
    congr 1
  · have hrun (b : Bool) : exec (.entropyHealthFail b) s = .next (if b then s.raise (corrErr Code.entropyRestart 7 0) else s.gateFails) :=
      onlyIf_of (by rw [hkeys, herr]; rfl)
    obtain ⟨hgate, hdown, hmem, hreqs⟩ := gateFails_effect s
    exact ⟨hrun true, _, hrun false, rfl, hgate, hdown, hmem, hreqs⟩

end Sys2Proof.Proofs

/-! PROOFS. The update agent's requests, the transfer and confirmation: O56 (R484, R516, R522, R524 to R529, R532, R534, R542,
R543, R548). -/
namespace Sys2Proof.Proofs
open Sys2Proof Sys2Proof.Machine Sys2Proof.Laws

/-! ### Device states and errors -/

/-- From s to t the device state, notices and error records changed, and nothing else. -/
structure Told (s t : State) : Prop where
  frame : t = { s with dev := t.dev, boot := t.boot, errs := t.errs, regs := t.regs, msixPend := t.msixPend, out := t.out }

theorem Told.refl (s : State) : Told s s := ⟨rfl⟩

theorem Told.trans {s t u : State} (h : Told s t) (g : Told t u) : Told s u := by
  refine ⟨?_⟩
  rw [g.frame, h.frame]

theorem onlyNotes_told {s t : State} (h : OnlyNotes s t) : Told s t := by
  refine ⟨?_⟩
  rw [h]

theorem Noted.told {s t : State} (h : Noted s t) : Told s t := by
  refine ⟨?_⟩
  rw [h.frame]

theorem dev_told (s : State) (d : DevS) : Told s { s with dev := d } := ⟨rfl⟩

theorem goDev_told (s : State) (d : DevState) : Told s (s.goDev d) := by
  unfold State.goDev
  split
  · exact .refl s
  · exact (dev_told s _).trans (onlyNotes_told (notifyAll_notes _ 1))

theorem endTending_told (s : State) : Told s s.endTending := by
  unfold State.endTending
  split
  · exact goDev_told s _
  · exact .refl s

section
variable {s t : State} (h : Told s t)
include h

theorem Told.upd : t.upd = s.upd := by rw [h.frame]

theorem Told.stw : t.stw = s.stw := by rw [h.frame]

theorem Told.mem : t.mem = s.mem := by rw [h.frame]

theorem Told.fuses : t.fuses = s.fuses := by rw [h.frame]

theorem Told.reqs : t.reqs = s.reqs := by rw [h.frame]

theorem Told.pavs : t.pavs = s.pavs := by rw [h.frame]

theorem Told.plots : t.plots = s.plots := by rw [h.frame]

theorem Told.gate : t.gate = s.gate := by rw [h.frame]

end

/-! ### Confirmation (R542, R543) -/

/-- The trial's state is dropped: what was kept for fallback is freed. -/
def trialDropped (s : State) : State := { s with
  upd := { ({} : Upd) with lastMsg := s.upd.lastMsg, gateDown := s.upd.gateDown }, stw := { s.stw with newFw := [] } }

theorem endTrial_told (s : State) : Told (trialDropped s) s.endTrial := endTending_told _

/-- A record written to the boot-selection record changes NVM alone. -/
theorem writeRec_only (s : State) (f : BootRec → BootRec) : s.writeRec f = { s with nvm := (s.writeRec f).nvm } := by
  unfold State.writeRec
  split <;> rfl

theorem confirm_effect (s : State) (v : Bool) : (s.confirm v).upd.trial = false ∧ (s.confirm v).upd.windowEnd = none
    ∧ (s.confirm v).stw.newFw = [] ∧ (s.confirm v).mem = s.mem
    ∧ (s.confirm v).fuses = (if v then { s.fuses with sv := max s.fuses.sv (Img.sv s.boot.image) } else s.fuses) := by
  unfold State.confirm
  dsimp only
  generalize hw : s.writeRec _ = w
  have honly : w = { s with nvm := w.nvm } := by
    rw [← hw]
    exact writeRec_only s _
  have htold := endTrial_told w
  generalize w.endTrial = u at htold
  have hupd : u.upd = { ({} : Upd) with lastMsg := w.upd.lastMsg, gateDown := w.upd.gateDown } := htold.upd
  have hstw : u.stw = { w.stw with newFw := [] } := htold.stw
  have hmem : u.mem = s.mem := htold.mem.trans (by rw [honly]; rfl)
  have hfuses : u.fuses = s.fuses := htold.fuses.trans (by rw [honly]; rfl)
  cases v with
  | true =>
    refine ⟨congrArg Upd.trial hupd, congrArg Upd.windowEnd hupd, congrArg StwS.newFw hstw, hmem, ?_⟩
    rw [if_pos rfl, if_pos rfl, State.blow, hfuses]
  | false =>
    have hraised := (corrErr_noted u Code.fuseWriteDeferred 7 0 0 0).told
    exact ⟨congrArg Upd.trial (hraised.upd.trans hupd), congrArg Upd.windowEnd (hraised.upd.trans hupd),
      congrArg StwS.newFw (hraised.stw.trans hstw), hraised.mem.trans hmem, hraised.fuses.trans hfuses⟩

/-! ### Requests of the update agent (R484, R516, R527) -/

section
variable {s t : State} (hsvc : s.dev.svcReady = true) (hpldm : s.dev.pldmReady = true) (hst : s.dev.st ≠ .shuttered)
  (ht : t = { s with upd := { s.upd with lastMsg := s.time } })
include hsvc hpldm hst ht

/-- A request restarts the agent's timer, and takes effect. -/
theorem pldm5_runs (c : Instr) (act : State → State) : s.pldm5 c act = .next (act t) := by
  subst ht
  unfold State.pldm5
  rw [if_neg (by simp [hsvc]), if_neg (by simp [hpldm]), if_neg hst]

/-- A request that only update mode takes. -/
theorem inUpdate_runs {c : Instr} {okc : State → Bool} (act : State → State) (hmode : s.upd.mode = true) (hok : okc t = true) :
    s.inUpdate c okc act = .next (act t) := by
  refine (pldm5_runs hsvc hpldm hst ht c _).trans (congrArg Host.Outcome.next (if_pos ?_))
  have hmode' : t.upd.mode = true := by
    rw [ht]
    exact hmode
  rw [hmode', hok]
  rfl

theorem inUpdate_refuses {c : Instr} {okc : State → Bool} (act : State → State) (hno : (t.upd.mode && okc t) = false) :
    s.inUpdate c okc act = .next (t.answerErr c .refused) :=
  (pldm5_runs hsvc hpldm hst ht c _).trans (congrArg Host.Outcome.next (if_neg (by rw [hno]; exact Bool.false_ne_true)))

/-- RequestUpdate's effect (R547; log 49). -/
def opens (t : State) : State :=
  if t.upd.mode || t.upd.scheduled || t.upd.trial then t.answerErr .requestUpdate .retryRequestUpdate
  else State.answerFree { t with upd := { ({} : Upd) with mode := true, lastMsg := t.time } } .requestUpdate

/-- RequestUpdate opens update mode, or is told to retry. -/
theorem requestUpdate_runs : exec .requestUpdate s = .next
    (if s.upd.mode || s.upd.scheduled || s.upd.trial then t.answerErr .requestUpdate .retryRequestUpdate
     else State.answerFree { s with upd := { ({} : Upd) with mode := true, lastMsg := s.time } } .requestUpdate) := by
  refine (if_neg fun h => hst h.2.2).trans ((pldm5_runs hsvc hpldm hst ht _ opens).trans ?_)
  subst ht
  rfl

end

/-- A request before the port is ready, and in SHUTTERED. -/
theorem pldm5_unready (s : State) (c : Instr) (act : State → State) : (s.dev.svcReady = false → s.pldm5 c act = .next s)
    ∧ (s.dev.svcReady = true → s.dev.pldmReady = false → s.pldm5 c act = .next (s.answerErr c .notReady))
    ∧ (s.dev.svcReady = true → s.dev.pldmReady = true → s.dev.st = .shuttered → s.pldm5 c act = .next (s.answerErr c .refused)) := by
  refine ⟨fun h => if_pos h, fun h1 h2 => ?_, fun h1 h2 h3 => ?_⟩
  · exact (if_neg (by simp [h1])).trans (if_pos h2)
  · exact (if_neg (by simp [h1])).trans ((if_neg (by simp [h2])).trans (if_pos h3))

/-- The same of a request that only update mode takes. -/
theorem inUpdate_unready (s : State) (c : Instr) (okc : State → Bool) (act : State → State) :
    (s.dev.svcReady = false → s.inUpdate c okc act = .next s)
    ∧ (s.dev.svcReady = true → s.dev.pldmReady = false → s.inUpdate c okc act = .next (s.answerErr c .notReady))
    ∧ (s.dev.svcReady = true → s.dev.pldmReady = true → s.dev.st = .shuttered → s.inUpdate c okc act = .next (s.answerErr c .refused)) :=
  pldm5_unready s c _

/-! ### What each request does -/

def answers (c : Instr) (t : State) : State := t.answerFree c

/-- CancelUpdate's effect (R527, R544). -/
def cancels (t : State) : State :=
  if t.upd.trial then (t.answerFree .cancelUpdate).setCause 1
  else if t.upd.mode || t.upd.scheduled || t.bootRec.trialBank != 0xFF then (t.answerFree .cancelUpdate).leaveUpdate
  else t.answerErr .cancelUpdate .refused

/-- ActivateFirmware's effect (R532, R534, R542). -/
def activates (x v : Bool) (t : State) : State :=
  if t.upd.mode then
    if x && !t.upd.applied.isEmpty && t.upd.kind == 0 then
      State.answerFree { t with upd := { t.upd with mode := false, scheduled := t.upd.applied.contains 1 && t.upd.hitless } }
        (.activateFirmware x v)
    else t.answerErr (.activateFirmware x v) .refused
  else if t.upd.trial && t.upd.windowEnd.isSome && t.upd.cause.isNone then (t.answerFree (.activateFirmware x v)).confirm v
  else t.answerErr (.activateFirmware x v) .refused

/-- A component may be taken (R524). -/
def mayTake (kind : Nat) (t : State) : Bool := t.upd.kind == 0 && (kind == 1 || kind == 2) && !t.upd.applied.contains kind

/-- UpdateComponent's effect (R525). -/
def takes (kind : Nat) (t : State) : State :=
  State.send5 (State.answerFree { t with upd := { t.upd.noComponent with kind := kind } } (.updateComponent kind)) (.requestData 0 4096)

def inTransfer (t : State) : Bool := t.upd.kind != 0

/-- CancelUpdateComponent's effect. -/
def dropsComponent (t : State) : State := State.answerFree { t with upd := t.upd.noComponent } .cancelUpdateComponent

/-! ### The transfer (R525, R526, R548) -/

section
variable {s t : State} {data : List Byte} {ok : Bool} (hmode : s.upd.mode = true) (hkind : s.upd.kind ≠ 0)
  (hopen : s.upd.transferred = false) (hst : s.dev.st ≠ .shuttered) (ht : t = { s with upd := { s.upd with lastMsg := s.time } })
  (hlen : data.length = s.upd.nextData.2)
include hmode hkind hopen hst ht hlen

/-- The response to the outstanding request, of the length asked for. -/
theorem requestFirmwareData_runs : exec (.requestFirmwareData data ok) s = .next
    (if s.upd.manifest.isEmpty then t.takeManifest data
     else if (s.upd.chunk ++ data).length < s.upd.blockLen then State.askData { t with upd := { t.upd with chunk := s.upd.chunk ++ data } }
     else t.takeBlock (s.upd.chunk ++ data) ok) := by
  have hasked : ¬ (s.upd.mode = false ∨ s.upd.kind = 0 ∨ s.upd.transferred = true ∨ s.dev.st = .shuttered
      ∨ data.length ≠ s.upd.nextData.2) := by
    simp [hmode, hkind, hopen, hst, hlen]
  refine (if_neg hasked).trans ?_
  subst ht
  dsimp only
  split
  · rfl
  · split
    · next h => exact congrArg Host.Outcome.next (if_pos h).symm
    · next h => exact congrArg Host.Outcome.next (if_neg h).symm

theorem manifest_effect (hnone : s.upd.manifest = []) : exec (.requestFirmwareData data ok) s = .next (
    if updFieldsGood data s.upd.kind = false ∨ s.updSigned data = false then
      State.send5 { t with upd := t.upd.noComponent } .imageCorrupt
    else if s.upd.kind = 1 ∧ UMan.sv data < s.fuses.sv then State.send5 { t with upd := t.upd.noComponent } .versionMismatch
    else State.askData { t with upd := { t.upd with manifest := data } }) := by
  rw [requestFirmwareData_runs hmode hkind hopen hst ht hlen, hnone]
  subst ht
  rfl

variable (hsome : s.upd.manifest ≠ [])
include hsome

theorem chunk_effect (hmore : (s.upd.chunk ++ data).length < s.upd.blockLen) : exec (.requestFirmwareData data ok) s =
    .next (State.askData { t with upd := { t.upd with chunk := s.upd.chunk ++ data } }) := by
  rw [requestFirmwareData_runs hmode hkind hopen hst ht hlen, if_neg (by simpa using hsome), if_pos hmore]

/-- A whole block: it fails its CRC, or cannot be programmed, or is taken. -/
theorem block_effect {b : List Byte} (hb : b = s.upd.chunk ++ data) (hfull : s.upd.blockLen ≤ b.length) :
    ((Config.crc32c b).toNat ≠ UMan.crc s.upd.manifest s.upd.block → exec (.requestFirmwareData data ok) s = .next (
      if s.upd.tries < 3 then State.askData { t with upd := { t.upd with chunk := [], tries := s.upd.tries + 1 } }
      else State.send5 { t with upd := t.upd.noComponent } .imageCorrupt))
    ∧ ((Config.crc32c b).toNat = UMan.crc s.upd.manifest s.upd.block → s.upd.kind = 1 ∧ ok = false →
      exec (.requestFirmwareData data ok) s =
        .next (((t.setBank s.stagingBank []).raise (corrErr Code.configNvmWriteFail 7 0)).failComponent .imageCorrupt))
    ∧ (∀ u, (Config.crc32c b).toNat = UMan.crc s.upd.manifest s.upd.block → s.upd.kind ≠ 1 ∨ ok = true →
      u = (if s.upd.kind = 1 then t.programBlock b else { t with upd := { t.upd with record := b } }) →
      exec (.requestFirmwareData data ok) s = .next (
        if s.upd.block + 1 < UMan.blocks s.upd.manifest then
          State.askData { u with upd := { u.upd with block := s.upd.block + 1, chunk := [], tries := 0 } }
        else State.send5 { u with upd := { u.upd with
          block := s.upd.block + 1, chunk := [], tries := 0, transferred := true } } .transferOk)) := by
  have hrun : exec (.requestFirmwareData data ok) s = .next (t.takeBlock b ok) := by
    rw [requestFirmwareData_runs hmode hkind hopen hst ht hlen, if_neg (by simpa using hsome),
      if_neg (by rw [← hb]; exact Nat.not_lt.2 hfull), hb]
  have hsame : t.upd.manifest = s.upd.manifest ∧ t.upd.block = s.upd.block ∧ t.upd.tries = s.upd.tries ∧ t.upd.kind = s.upd.kind
      ∧ t.stagingBank = s.stagingBank := by
    rw [ht]
    exact ⟨rfl, rfl, rfl, rfl, rfl⟩
  obtain ⟨hman, hblock, htries, hkind', hbank⟩ := hsame
  rw [hrun]
  unfold State.takeBlock
  dsimp only
  rw [hman, hblock, htries, hkind', hbank]
  refine ⟨fun hcrc => ?_, fun hcrc hfail => ?_, fun u hcrc hgood hu => ?_⟩
  · rw [if_pos hcrc]
    rfl
  · rw [if_neg (not_not_intro hcrc), if_pos hfail]
  · have hfail : ¬ (s.upd.kind = 1 ∧ ok = false) := by
      rintro ⟨h1, h2⟩
      rcases hgood with h | h
      · exact h h1
      · exact Bool.noConfusion (h2.symm.trans h)
    rw [if_neg (not_not_intro hcrc), if_neg hfail, ← hu]

end

/-! ### Verification, application, timeout (R496, R527 to R529, R532) -/

theorem verifyComplete_runs {s : State} (h : s.awaitsVerify = true) : exec .verifyComplete s = .next
    (if s.upd.kind = 1 then
      if s.stagedGood then State.send5 { s with upd := { s.upd with
        verified := true, hitless := !s.dev.recovery && s.hitlessClass (s.bank s.stagingBank) } } .verifyOk
      else State.send5 { s.setBank s.stagingBank [] with upd := s.upd.noComponent } .verifyFailure
     else if s.keyRecordGood s.upd.record then State.send5 { s with upd := { s.upd with verified := true } } .verifyOk
     else State.send5 { s with upd := s.upd.noComponent } .verifyFailure) := by
  refine (if_neg (by rw [h]; exact Bool.noConfusion)).trans ?_
  split
  · split <;> rfl
  · split <;> rfl

theorem applyComplete_runs {s : State} (hmode : s.upd.mode = true) (hver : s.upd.verified = true) (hst : s.dev.st ≠ .shuttered) :
    exec .applyComplete s = .next
      (if s.upd.kind = 1 then State.send5 (State.writeRec
        { s with upd := { s.upd.noComponent with applied := s.upd.applied ++ [s.upd.kind] } } fun r => { r with
          trialBank := s.stagingBank, trialFormat := UMan.format s.upd.manifest, actKind := b2n (!s.upd.hitless)
          trialBoots := b2n s.upd.hitless }) .applyOk
       else State.send5 { s with
          upd := { s.upd.noComponent with applied := s.upd.applied ++ [s.upd.kind] }
          keyPending := s.keyPending ++ [(fld s.upd.record 0 1, s.upd.record)] } .applyOk) := by
  refine (if_neg (by simp [hmode, hver, hst])).trans ?_
  split <;> rfl

/-! ### O56 -/

section
variable {s t : State} (hsvc : s.dev.svcReady = true) (hpldm : s.dev.pldmReady = true) (hst : s.dev.st ≠ .shuttered)
  (ht : t = { s with upd := { s.upd with lastMsg := s.time } })
include hsvc hpldm hst ht

/-- A component is taken in update mode, one of each KIND. -/
theorem updateComponent_effect (kind : Nat) : (s.upd.mode = true → s.upd.kind = 0 → kind = 1 ∨ kind = 2 → kind ∉ s.upd.applied →
      exec (.updateComponent kind) s = .next (State.send5 (State.answerFree { t with upd := { t.upd.noComponent with kind := kind } }
        (.updateComponent kind)) (.requestData 0 4096)))
    ∧ (s.upd.mode = false ∨ s.upd.kind ≠ 0 ∨ kind ≠ 1 ∧ kind ≠ 2 ∨ kind ∈ s.upd.applied →
      exec (.updateComponent kind) s = .next (t.answerErr (.updateComponent kind) .refused)) := by
  have hupd : t.upd.mode = s.upd.mode ∧ t.upd.kind = s.upd.kind ∧ t.upd.applied = s.upd.applied := by
    rw [ht]
    exact ⟨rfl, rfl, rfl⟩
  obtain ⟨hmode', hkind', happlied'⟩ := hupd
  refine ⟨fun hmode hfree hkind hnew => inUpdate_runs (okc := mayTake kind) hsvc hpldm hst ht
    (takes kind) hmode ?_, fun hbad => inUpdate_refuses (okc := mayTake kind) hsvc hpldm hst ht (takes kind) ?_⟩
  · rw [mayTake, hkind', happlied', hfree]
    simpa [hnew] using hkind
  · rw [mayTake, hmode', hkind', happlied']
    rcases hbad with h | h | ⟨h1, h2⟩ | h
    · rw [h]
      rfl
    · simp [h]
    · simp [h1, h2]
    · simp [h]

/-- A cancel of a trial is its fallback cause, one of an update leaves update mode with the staging bank empty. -/
theorem cancelUpdate_effect : (s.upd.trial = true → s.upd.cause = none → exec .cancelUpdate s =
      .next (State.answerFree { t with upd := { t.upd with cause := some 1 } } .cancelUpdate))
    ∧ (s.upd.trial = false → s.upd.mode = true → exec .cancelUpdate s = .next { (t.answerFree .cancelUpdate).setBank s.stagingBank []
        with upd := { ({} : Upd) with lastMsg := s.time } }) := by
  have hrun := pldm5_runs hsvc hpldm hst ht .cancelUpdate cancels
  unfold cancels at hrun
  subst ht
  refine ⟨fun htrial hcause => hrun.trans (congrArg Host.Outcome.next ?_), fun htrial hmode => hrun.trans (congrArg Host.Outcome.next ?_)⟩
  · dsimp only
    rw [if_pos htrial]
    exact if_pos (by rw [show _ = s.upd.cause from rfl, hcause]; rfl)
  · dsimp only
    rw [if_neg (by rw [htrial]; exact Bool.false_ne_true), if_pos (by rw [hmode]; rfl)]
    rfl

/-- ActivateFirmware schedules an activation, or confirms a trial. -/
theorem activateFirmware_effect (v : Bool) : (s.upd.mode = true → s.upd.applied ≠ [] → s.upd.kind = 0 →
      exec (.activateFirmware true v) s = .next (State.answerFree { t with upd := { t.upd with
        mode := false, scheduled := s.upd.applied.contains 1 && s.upd.hitless } } (.activateFirmware true v)))
    ∧ (∀ x, s.upd.mode = false → s.upd.trial = true → s.upd.windowEnd.isSome = true → s.upd.cause = none →
      exec (.activateFirmware x v) s = .next ((t.answerFree (.activateFirmware x v)).confirm v)) := by
  subst ht
  refine ⟨fun hmode happlied hkind => (pldm5_runs hsvc hpldm hst rfl _ (activates true v)).trans
      (congrArg Host.Outcome.next ?_),
    fun x hmode htrial hwindow hcause => (pldm5_runs hsvc hpldm hst rfl _ (activates x v)).trans
      (congrArg Host.Outcome.next ?_)⟩
  · exact (if_pos hmode).trans (if_pos (by simp [happlied, hkind]))
  · exact (if_neg (by simp [hmode])).trans (if_pos (by simp [htrial, hwindow, hcause]))

end

/-- Settles O56, request by request, then block by block. -/
theorem updateTransfer : Obligations.UpdateTransfer := by
  refine ⟨fun s t c hsvc hpldm hst ht hc => ?_, fun s c hc => ?_, fun s t cmd hsvc hpldm hst ht => ?_,
    fun s t data ok hmode hkind hopen hst ht hlen => ⟨fun hnone => manifest_effect hmode hkind hopen hst ht hlen hnone,
      fun hsome hmore => chunk_effect hmode hkind hopen hst ht hlen hsome hmore,
      fun b hsome hb hfull => block_effect hmode hkind hopen hst ht hlen hsome hb hfull⟩,
    fun s hwait => ⟨fun hkind => ?_, fun hkind => ?_⟩, fun s hmode hver hst => ⟨fun hkind => ?_, fun hkind => ?_⟩,
    fun s hmode hpassed hst => onlyIf_of (by simp [hmode, hpassed, hst])⟩
  · simp only [List.mem_cons, List.not_mem_nil, or_false] at hc
    rcases hc with rfl | rfl | rfl <;> exact pldm5_runs hsvc hpldm hst ht _ (answers _)
  · simp only [List.mem_cons, List.not_mem_nil, or_false] at hc
    rcases hc with rfl | rfl | rfl | rfl | rfl | rfl
    · exact pldm5_unready s .queryDeviceIdentifiers (answers .queryDeviceIdentifiers)
    · exact pldm5_unready s .getFirmwareParameters (answers .getFirmwareParameters)
    · exact pldm5_unready s .getStatus (answers .getStatus)
    · exact inUpdate_unready s .passComponentTable (fun _ => true) (answers .passComponentTable)
    · exact inUpdate_unready s .cancelUpdateComponent inTransfer dropsComponent
    · exact pldm5_unready s .cancelUpdate cancels
  · have hopens := requestUpdate_runs hsvc hpldm hst ht
    obtain ⟨hcause, hleave⟩ := cancelUpdate_effect hsvc hpldm hst ht
    refine ⟨pldm5_runs hsvc hpldm hst ht _ fun t => t.answerErr (.pldmUnsupportedCommand cmd) .unsupportedPldmCmd, fun h1 h2 h3 => ?_,
      fun h => ?_, fun hmode => inUpdate_runs (okc := fun _ => true) hsvc hpldm hst ht (answers .passComponentTable) hmode rfl,
      fun kind => (updateComponent_effect hsvc hpldm hst ht kind).1, fun kind => (updateComponent_effect hsvc hpldm hst ht kind).2,
      fun hmode hkind => inUpdate_runs (okc := inTransfer) hsvc hpldm hst ht dropsComponent hmode ?_, hcause, hleave,
      fun v => (activateFirmware_effect hsvc hpldm hst ht v).1, fun x v hmode htrial hwindow hnone => ?_⟩
    · rw [hopens, h1, h2, h3]
      rfl
    · rw [hopens, if_pos]
      rcases h with h | h | h <;> simp [h]
    · rw [ht]
      exact bne_iff_ne.2 hkind
    · have hrun := (activateFirmware_effect hsvc hpldm hst ht v).2 x hmode htrial hwindow hnone
      obtain ⟨htrial', hwindow', hstw, hmem, hfuses⟩ := confirm_effect (t.answerFree (.activateFirmware x v)) v
      subst ht
      exact ⟨_, hrun, rfl, htrial', hwindow', hstw, hmem, hfuses⟩
  · rw [verifyComplete_runs hwait, if_pos hkind]
  · rw [verifyComplete_runs hwait, if_neg (by omega)]
  · rw [applyComplete_runs hmode hver hst, if_pos hkind, hkind]
  · rw [applyComplete_runs hmode hver hst, if_neg (by omega), hkind]

end Sys2Proof.Proofs

/-! PROOFS. Hitless activation, handover, fallback: O57 (R535, R536, R538 to R541, R544, R545, R547). -/
namespace Sys2Proof.Proofs
open Sys2Proof Sys2Proof.Machine Sys2Proof.Laws

/-! ### An image comes into use -/

/-- From s to t registers changed, and nothing else. -/
def RegsOnly (s t : State) : Prop := t = { s with regs := t.regs }

theorem RegsOnly.refl (s : State) : RegsOnly s s := rfl

theorem RegsOnly.trans {s t u : State} (h : RegsOnly s t) (g : RegsOnly t u) : RegsOnly s u := by
  unfold RegsOnly at *
  rw [g, h]

theorem RegsOnly.foldl {α : Type} {f : State → α → State} (hf : ∀ s x, RegsOnly s (f s x)) (l : List α) (s : State) :
    RegsOnly s (l.foldl f s) := by
  induction l generalizing s with
  | nil => exact .refl s
  | cons x l ih => exact (hf s x).trans (ih _)

theorem wr_regsOnly (s : State) (f : Field) (v inst i : Nat) : RegsOnly s (s.wr f v inst i) := rfl

theorem initField_regsOnly (s : State) (inst o v mask : Nat) (f : Field) : RegsOnly s (s.initField inst o v mask f) := by
  unfold State.initField
  split
  · exact .refl s
  · split
    · exact .refl s
    · split
      · exact wr_regsOnly _ _ _ _ _
      · exact wr_regsOnly _ _ _ _ _

theorem initEntry_regsOnly (s : State) (e : List Byte) : RegsOnly s (s.initEntry e) :=
  RegsOnly.foldl (fun t f => initField_regsOnly t _ _ _ _ f) _ s

theorem gradeDefault_regsOnly (s : State) : RegsOnly s s.gradeDefault := by
  unfold State.gradeDefault
  split
  · exact wr_regsOnly _ _ _ _ _
  · exact .refl s

theorem initTenants_regsOnly (s : State) (b : List Byte) : RegsOnly s (s.initTenants b) := by
  unfold State.initTenants
  dsimp only
  split
  · exact .refl s
  · exact RegsOnly.foldl (fun t k => wr_regsOnly t _ _ _ _) _ s

/-- An image in use: its values, rules and firmware. -/
structure Using (s t : State) : Prop where
  frame : t = { s with regs := t.regs, boot := t.boot, gate := { s.gate with fwImage := t.gate.fwImage } }

theorem useImage_using (s : State) (b : List Byte) (format : Nat) : Using s (s.useImage b format) := by
  have hcut : RegsOnly s { s with regs := s.regs.filter fun e => !lockedKey e.1 } := rfl
  have hregs := hcut.trans ((gradeDefault_regsOnly _).trans ((RegsOnly.foldl initEntry_regsOnly (Img.entries b 4 16) _).trans
    (initTenants_regsOnly _ b)))
  refine ⟨?_⟩
  unfold State.useImage State.applyValues
  dsimp only
  generalize State.initTenants _ b = v at hregs ⊢
  rw [hregs]

/-! ### Stewards that pause -/

/-- From s to t stewards paused: their records are written, and none resumed. -/
structure Pausing (s t : State) : Prop where
  frame : t = { s with upd := { s.upd with records := t.upd.records, paused := t.upd.paused } }
  keeps : ∀ p, s.handing p = true → t.handing p = true

theorem Pausing.refl (s : State) : Pausing s s := ⟨rfl, fun _ h => h⟩

theorem Pausing.trans {s t u : State} (h : Pausing s t) (g : Pausing t u) : Pausing s u := by
  refine ⟨?_, fun p hp => g.keeps p (h.keeps p hp)⟩
  rw [g.frame, h.frame]

theorem handing_iff (s : State) (p : Nat) : s.handing p = true ↔ p ∈ s.upd.paused.map Prod.fst := by
  simp only [State.handing, List.any_eq_true, beq_iff_eq, List.mem_map]

theorem pauseSteward_pausing (s : State) (p : Nat) : Pausing s (s.pauseSteward p) ∧ (s.pauseSteward p).handing p = true := by
  refine ⟨⟨rfl, fun j hj => ?_⟩, ?_⟩
  · rw [handing_iff] at hj ⊢
    exact (Tab.mem_keys_ins _ _ _ _).2 (.inr hj)
  · rw [handing_iff]
    exact (Tab.mem_keys_ins _ _ _ _).2 (.inl rfl)

/-- A steward without a defined pavilion pauses at the boundary itself. -/
def pauseIfIdle (t : State) (p : Nat) : State :=
  if t.defined p = false ∧ t.handing p = false ∧ (t.upd.reverse = false ∨ t.stw.newFw.contains p = true) then t.pauseSteward p else t

theorem pauseIfIdle_pausing (s : State) (p : Nat) : Pausing s (pauseIfIdle s p) := by
  unfold pauseIfIdle
  split
  · exact (pauseSteward_pausing s p).1
  · exact .refl s

theorem pauseIfIdle_handing {s : State} {p : Nat} (hidle : s.defined p = false) (hforth : s.upd.reverse = false) :
    (pauseIfIdle s p).handing p = true := by
  unfold pauseIfIdle
  split
  · exact (pauseSteward_pausing s p).2
  · next h => exact eq_true_of_ne_false fun hno => h ⟨hidle, hno, .inl hforth⟩

theorem foldl_pauseIfIdle (l : List Nat) (s : State) : Pausing s (l.foldl pauseIfIdle s)
    ∧ (s.upd.reverse = false → ∀ p ∈ l, s.defined p = false → (l.foldl pauseIfIdle s).handing p = true) := by
  induction l generalizing s with
  | nil => exact ⟨.refl s, fun _ p hp => absurd hp List.not_mem_nil⟩
  | cons q l ih =>
    have hfirst := pauseIfIdle_pausing s q
    obtain ⟨hrest, hidle⟩ := ih (pauseIfIdle s q)
    refine ⟨hfirst.trans hrest, fun hforth p hp hdef => ?_⟩
    rcases List.mem_cons.1 hp with rfl | hp
    · exact hrest.keeps p (pauseIfIdle_handing hdef hforth)
    · refine hidle ?_ p hp ?_
      · rw [hfirst.frame]
        exact hforth
      · rw [hfirst.frame]
        exact hdef

theorem pauseIdle_effect (s : State) : Pausing s s.pauseIdle
    ∧ (s.upd.reverse = false → ∀ p < 8, s.pauseIdle.defined p = false → s.pauseIdle.handing p = true) := by
  obtain ⟨hpause, hidle⟩ := foldl_pauseIfIdle (List.range 8) s
  have hsame : s.pauseIdle = (List.range 8).foldl pauseIfIdle s := rfl
  rw [hsame]
  generalize (List.range 8).foldl pauseIfIdle s = t at *
  refine ⟨hpause, fun hforth p hp hdef => hidle hforth p (List.mem_range.2 hp) ?_⟩
  rw [hpause.frame] at hdef
  exact hdef

/-! ### Device states -/

theorem notifyAll_dev (s : State) (bit : Nat) : (s.notifyAll bit).dev = s.dev := by
  have h := notifyAll_notes s bit
  unfold OnlyNotes at h
  rw [h]

theorem goDev_enters (s : State) (d : DevState) : (s.goDev d).dev.st = d := by
  unfold State.goDev
  split
  · next h => exact h
  · rw [notifyAll_dev]

/-! ### Directory changes that fell due in steward 0's pause (R538) -/

/-- From s to t nothing of the update, the stewards, the pavilions and the clock changed, nor the confirmation window's length. -/
structure Steady (s t : State) : Prop where
  upd : t.upd = s.upd
  stw : t.stw = s.stw
  pavs : t.pavs = s.pavs
  time : t.time = s.time
  window : t.rd R.confirmWindow = s.rd R.confirmWindow

theorem Steady.refl (s : State) : Steady s s := ⟨rfl, rfl, rfl, rfl, rfl⟩

theorem Steady.trans {s t u : State} (h : Steady s t) (g : Steady t u) : Steady s u :=
  ⟨g.upd.trans h.upd, g.stw.trans h.stw, g.pavs.trans h.pavs, g.time.trans h.time, g.window.trans h.window⟩

theorem Steady.foldl {α : Type} {f : State → α → State} (hf : ∀ s x, Steady s (f s x)) (l : List α) (s : State) :
    Steady s (l.foldl f s) := by
  induction l generalizing s with
  | nil => exact .refl s
  | cons x l ih => exact (hf s x).trans (ih _)

theorem setAdrec_steady (s : State) (i : Nat) (r : AdRec) : Steady s (s.setAdrec i r) := ⟨rfl, rfl, rfl, rfl, rfl⟩

theorem setEnt_steady (s : State) (k : Nat) (e : DirEnt) : Steady s (s.setEnt k e) := ⟨rfl, rfl, rfl, rfl, rfl⟩

theorem dueAdvance_steady (s : State) (k : Nat) : Steady s (s.dueAdvance k) := ⟨rfl, rfl, rfl, rfl, rfl⟩

theorem Pumped.steady {k : Nat} {s t : State} (h : Pumped k s t) : Steady s t := by
  rw [h.frame]
  exact ⟨rfl, rfl, rfl, rfl, rfl⟩

theorem wr_steady (s : State) {f : Field} (v i : Nat) (h : R.confirmWindow.key 0 0 ≠ f.key 0 i) : Steady s (s.wr f v 0 i) :=
  ⟨rfl, rfl, rfl, rfl, State.rd_wr_other s h⟩

theorem svcComplete_steady (s : State) (w : BitVec 128) (more : Bool) : Steady s (s.svcComplete w more) := by
  have hwords : Steady s ((List.range 4).foldl (fun (u : State) i => u.wr R.svcCpl (bits w (32 * i) 32) 0 i) s) := by
    refine Steady.foldl (fun u i => wr_steady u _ i ?_) _ s
    simp only [Field.key, R.confirmWindow, R.svcCpl]
    omega
  have hdone := hwords.trans (wr_steady _ (f := R.svcDone) 1 0 (by decide))
  unfold State.svcComplete
  dsimp only
  split
  · exact hdone
  · exact hdone.trans (wr_steady _ (f := R.svcBusy) 0 0 (by decide))

theorem complete_steady (s : State) (src : Nat) (cid : Word32) (status result : Nat) (more : Bool) :
    Steady s (s.complete src cid status result more) := by
  have hdeliver : ∀ t : State, Steady t (t.deliver src cid status result more) := fun t => by
    unfold State.deliver
    split
    · exact svcComplete_steady t _ _
    · exact (putEvent_pumped t _ _).steady
  have hpump : ∀ t : State, Steady t (t.pumpAdmin src 256) := fun t => by
    by_cases h : src < 64
    · exact (pumpAdmin_pumped t h 256).steady
    · have hstays : t.pumpAdmin src 256 = t := if_neg fun hc => h hc.1
      rw [hstays]
      exact .refl t
  unfold State.complete
  split
  · refine Steady.trans ?_ ((hdeliver _).trans (hpump _))
    split
    · exact .refl s
    · exact ⟨rfl, rfl, rfl, rfl, rfl⟩
  · exact .refl s

theorem settleEntry_steady (s : State) (slot : Nat) : Steady s (s.settleEntry slot) := by
  have hdrop : Steady s { s with dir := s.dir.filter fun x => x.1 != slot } := ⟨rfl, rfl, rfl, rfl, rfl⟩
  unfold State.settleEntry
  split
  · dsimp only
    split
    · exact hdrop
    · exact hdrop.trans (complete_steady _ _ _ _ _ _)
  · exact .refl s

theorem freeRec_steady (s : State) (i status : Nat) : Steady s (s.freeRec i status) := by
  have hdrop : Steady s (s.dropRec i) := ⟨rfl, rfl, rfl, rfl, rfl⟩
  have hsettled := hdrop.trans (settleEntry_steady _ (s.adrec i).slot)
  unfold State.freeRec
  dsimp only
  split
  · exact hsettled
  · exact hsettled.trans (complete_steady _ _ _ _ _ _)

theorem maybeFree_steady (s : State) (i : Nat) : Steady s (s.maybeFree i) := by
  unfold State.maybeFree
  dsimp only
  split
  · exact .refl s
  · split
    · exact freeRec_steady s i 0
    · exact freeRec_steady s i 0
    · split
      · exact freeRec_steady s i 0
      · exact .refl s
    · exact .refl s

theorem flipRec_steady (s : State) (due : List Nat) (i : Nat) : Steady s (s.flipRec due i) := by
  unfold State.flipRec
  dsimp only
  split
  · exact .refl s
  · split
    · exact freeRec_steady s i _
    · split
      · exact freeRec_steady s i _
      · have hset := (setAdrec_steady s i { s.adrec i with vst := .current, load := none }).trans
          (setEnt_steady _ (s.adrec i).slot { s.ent (s.adrec i).slot with st := .live, cur := i })
        generalize State.setEnt _ (s.adrec i).slot { s.ent (s.adrec i).slot with st := .live, cur := i } = t at hset ⊢
        have hold : Steady s (if (s.ent (s.adrec i).slot).st = .live ∧ (t.adrec (s.ent (s.adrec i).slot).cur).vst = .current then
            t.setAdrec (s.ent (s.adrec i).slot).cur { t.adrec (s.ent (s.adrec i).slot).cur with vst := .superseded } else t) := by
          split
          · exact hset.trans (setAdrec_steady _ _ _)
          · exact hset
        have hfreed := (hold.trans (Steady.foldl maybeFree_steady ((s.recsOf (s.adrec i).slot).filter (· != i)) _)).trans
          (dueAdvance_steady _ (s.adrec i).slot)
        split
        · exact hfreed
        · exact hfreed.trans (complete_steady _ _ _ _ _ _)

theorem retireRec_steady (s : State) (i : Nat) : Steady s (s.retireRec i) := by
  unfold State.retireRec
  split
  · exact freeRec_steady s i _
  · exact (setAdrec_steady s i _).trans (maybeFree_steady _ i)
  · exact maybeFree_steady s i

theorem applyDelete_steady (s : State) (slot src : Nat) (cid : Word32) : Steady s (s.applyDelete slot src cid) := by
  unfold State.applyDelete
  dsimp only
  generalize ({ s.ent slot with dead := true, st := _, deleter := _ } : DirEnt) = e
  refine Steady.trans ?_ (Steady.foldl retireRec_steady _ _)
  split
  · exact (setEnt_steady s slot e).trans (complete_steady _ _ _ _ _ _)
  · exact (setEnt_steady s slot e).trans (complete_steady _ _ _ _ _ _)

theorem applyDir_steady (due : List Nat) (s : State) (a : DirAct) : Steady s (State.applyDir due s a) := by
  unfold State.applyDir
  split
  · split
    · exact flipRec_steady s due _
    · exact .refl s
  · split
    · exact applyDelete_steady s _ _ _
    · exact complete_steady s _ _ _ _ _
  · split
    · exact (setEnt_steady s _ _).trans (complete_steady _ _ _ _ _ _)
    · exact complete_steady s _ _ _ _ _

theorem payDir_steady (s : State) : Steady { s with upd := { s.upd with flipDue := [] } } s.payDir :=
  Steady.foldl (applyDir_steady _) _ _

/-! ### The end of a handover (R541, R544) -/

/-- What ends a trial changes no memory, request, directory entry or pavilion, and leaves what a new trial starts from. -/
structure Ended (s t : State) : Prop where
  told : ∃ w : State, Told w t ∧ w = { s with nvm := w.nvm, upd := w.upd, stw := w.stw }
  upd : t.upd = { ({} : Upd) with lastMsg := s.upd.lastMsg, gateDown := s.upd.gateDown }
  stw : t.stw = { s.stw with newFw := [] }

theorem endFallback_ended (s : State) : Ended s s.endFallback := by
  have honly := writeRec_only s fun r => { r with trialBank := 0xFF }
  unfold State.endFallback
  dsimp only
  generalize (s.writeRec fun r => { r with trialBank := 0xFF }) = w at honly ⊢
  have htold := endTrial_told w
  have hraised := htold.trans (corrErr_noted w.endTrial Code.updateFallback 7 0 0 (s.upd.cause.getD 0)).told
  refine ⟨⟨trialDropped w, hraised, ?_⟩, hraised.upd.trans ?_, hraised.stw.trans ?_⟩
  · unfold trialDropped
    rw [honly]
  · unfold trialDropped
    rw [honly]
  · unfold trialDropped
    rw [honly]

/-- A handover that is done: nothing else changed but the trial's state, and in a fallback what its end changes. -/
theorem handoverDone_cases (s : State) : s.handoverDone = s
    ∨ s.upd.reverse = false ∧ s.handoverDone = { s with upd := { s.upd with windowEnd := some (s.time + s.rd R.confirmWindow) } }
    ∨ s.upd.reverse = true ∧ s.stw.newFw = [] ∧ Ended s s.handoverDone := by
  unfold State.handoverDone
  split
  · exact .inl rfl
  · split
    · next hrev =>
      split
      · next hempty => exact .inr (.inr ⟨hrev, List.isEmpty_iff.1 hempty, endFallback_ended s⟩)
      · exact .inl rfl
    · next hrev =>
      split
      · exact .inr (.inl ⟨Bool.eq_false_iff.2 hrev, rfl⟩)
      · exact .inl rfl

/-- What a handover that is done keeps. -/
structure Kept (s t : State) : Prop where
  mem : t.mem = s.mem
  reqs : t.reqs = s.reqs
  dir : t.dir = s.dir
  recs : t.recs = s.recs
  pavs : t.pavs = s.pavs
  newFw : t.stw.newFw = s.stw.newFw
  flipDue : s.upd.flipDue = [] → t.upd.flipDue = []
  paused : t.upd.paused = s.upd.paused ∨ t.upd.paused = []

theorem handoverDone_kept (s : State) : Kept s s.handoverDone := by
  rcases handoverDone_cases s with h | ⟨_, h⟩ | ⟨_, hnone, hended⟩
  · rw [h]
    exact ⟨rfl, rfl, rfl, rfl, rfl, rfl, id, .inl rfl⟩
  · rw [h]
    exact ⟨rfl, rfl, rfl, rfl, rfl, rfl, id, .inl rfl⟩
  · obtain ⟨⟨w, htold, hw⟩, hupd, hstw⟩ := hended
    have hframe := htold.frame
    generalize s.handoverDone = t at *
    refine ⟨?_, ?_, ?_, ?_, ?_, ?_, fun _ => congrArg Upd.flipDue hupd, .inr (congrArg Upd.paused hupd)⟩
    · rw [hframe, hw]
    · rw [hframe, hw]
    · rw [hframe, hw]
    · rw [hframe, hw]
    · rw [hframe, hw]
    · rw [hstw, hnone]

/-- The last steward to resume on the new firmware opens the confirmation window. -/
theorem handoverDone_opens {s : State} (hpaused : s.upd.paused = []) (hrev : s.upd.reverse = false) (hall : s.stw.newFw.length = 8) :
    s.handoverDone.upd.windowEnd = some (s.time + s.rd R.confirmWindow) := by
  unfold State.handoverDone
  rw [if_neg (not_not_intro hpaused), if_neg (by rw [hrev]; exact Bool.false_ne_true), if_pos hall]

/-! ### A steward resumes (R536, R538, R540) -/

/-- A steward has resumed: it is paused no longer, and its firmware is the other one. -/
def resumed (s : State) (p : Nat) : State := { s with
  upd := { s.upd with
    paused := s.upd.paused.filter fun e => e.1 != p
    records := if s.upd.reverse then s.upd.records else Tab.put [] s.upd.records p (s.stateRecord p s.upd.oldFormat) }
  stw := { s.stw with newFw := if s.upd.reverse then setDel p s.stw.newFw else setIns p s.stw.newFw } }

/-- Steward 0 applies what fell due in its pause first. -/
def paid (s : State) (p : Nat) : State := if p = 0 then (resumed s p).payDir else resumed s p

theorem stewardResume_runs {s : State} {p : Nat} (hst : s.dev.st = .tending) (hpause : s.handing p = true) :
    exec (.stewardResume p) s = .next (paid s p).handoverDone :=
  if_neg fun h => h.elim (fun h => h hst) fun h => Bool.noConfusion (h.symm.trans hpause)

/-- What the resumption has done before the handover is seen to be complete. -/
theorem paid_effect (s : State) (p : Nat) :
    (paid s p).upd = { (resumed s p).upd with flipDue := if p = 0 then [] else s.upd.flipDue }
    ∧ (paid s p).stw = (resumed s p).stw ∧ (paid s p).pavs = s.pavs ∧ (paid s p).time = s.time
    ∧ (paid s p).rd R.confirmWindow = s.rd R.confirmWindow ∧ (p ≠ 0 → paid s p = resumed s p) := by
  unfold paid
  by_cases hp : p = 0
  · have hsteady := payDir_steady (resumed s p)
    rw [if_pos hp, if_pos hp]
    exact ⟨hsteady.upd, hsteady.stw, hsteady.pavs, hsteady.time, hsteady.window, fun h => absurd hp h⟩
  · rw [if_neg hp, if_neg hp]
    exact ⟨rfl, rfl, rfl, rfl, rfl, fun _ => rfl⟩

theorem filter_paused_handing (l : Tab Nat) (p : Nat) : ((l.filter fun e => e.1 != p).any fun e => e.1 == p) = false := by
  rw [List.any_eq_false]
  intro e he
  simpa using (List.mem_filter.1 he).2

theorem stewardResume_effect {s : State} {p : Nat} (hst : s.dev.st = .tending) (hpause : s.handing p = true) :
    ∃ t, exec (.stewardResume p) s = .next t ∧ t.handing p = false
      ∧ t.stw.newFw = (if s.upd.reverse then setDel p s.stw.newFw else setIns p s.stw.newFw)
      ∧ (s.upd.reverse = false → (∀ e ∈ s.upd.paused, e.1 = p) → (setIns p s.stw.newFw).length = 8 →
          t.upd.windowEnd = some (s.time + s.rd R.confirmWindow))
      ∧ (p = 0 → t.upd.flipDue = []) ∧ (p ≠ 0 → t.dir = s.dir ∧ t.recs = s.recs ∧ t.mem = s.mem) ∧ t.pavs = s.pavs := by
  obtain ⟨hupd, hstw, hpavs, htime, hwindow, hplain⟩ := paid_effect s p
  have hkept := handoverDone_kept (paid s p)
  have hpaused : (paid s p).upd.paused = s.upd.paused.filter fun e => e.1 != p := by rw [hupd]; rfl
  refine ⟨_, stewardResume_runs hst hpause, ?_, hkept.newFw.trans ?_, fun hrev hlast hall => ?_, fun hp => hkept.flipDue ?_,
    fun hp => ?_, hkept.pavs.trans hpavs⟩
  · unfold State.handing
    rcases hkept.paused with h | h
    · rw [h, hpaused]
      exact filter_paused_handing _ p
    · rw [h]
      rfl
  · rw [hstw]
    rfl
  · have hnone : (paid s p).upd.paused = [] := by
      rw [hpaused, List.filter_eq_nil_iff]
      intro e he
      simp [hlast e he]
    have hrev' : (paid s p).upd.reverse = false := by
      rw [hupd]
      exact hrev
    have hall' : (paid s p).stw.newFw.length = 8 := by
      rw [hstw]
      show (if s.upd.reverse then setDel p s.stw.newFw else setIns p s.stw.newFw).length = 8
      rw [hrev]
      exact hall
    rw [handoverDone_opens hnone hrev' hall', htime, hwindow]
  · rw [hupd, if_pos hp]
  · have hsame := hplain hp
    exact ⟨hkept.dir.trans (by rw [hsame]; rfl), hkept.recs.trans (by rw [hsame]; rfl), hkept.mem.trans (by rw [hsame]; rfl)⟩

/-! ### Starts -/

/-- The state that a hitless activation starts from (R535). -/
def startsTrial (s : State) : State := { s with
  upd := { ({} : Upd) with
    lastMsg := s.upd.lastMsg, trial := true, hitlessTrial := true, gateDown := true
    oldImage := s.boot.image, oldFormat := s.boot.format }
  stw := { s.stw with newFw := [] }
  gate := { s.gate with sessions := [], established := [], officers := [] } }

theorem hitlessActivationStart_runs {s : State} (hsched : s.upd.scheduled = true) (hbound : s.atBoundary = true)
    (hswaps : ∀ p, p < 8 → (s.pav p).swap = none) : exec .hitlessActivationStart s = .next
      (((startsTrial s).useImage ((s.bank s.stagingBank).take (Img.size (s.bank s.stagingBank))) s.bootRec.trialFormat).goDev
        .tending).pauseIdle := by
  have hnone : ((List.range 8).any fun p => (s.pav p).swap.isSome) = false := by
    rw [List.any_eq_false]
    intro p hp
    rw [hswaps p (List.mem_range.1 hp)]
    exact Bool.false_ne_true
  refine if_neg ?_
  rw [hsched, hbound, hnone]
  decide

/-- What an activation's start leaves. -/
theorem activation_effect (s : State) (b : List Byte) (format : Nat) (u : State)
    (hu : u = (((startsTrial s).useImage b format).goDev .tending).pauseIdle) : u.dev.st = .tending ∧ u.upd.trial = true
      ∧ u.upd.gateDown = true ∧ u.gate.sessions = [] ∧ (∀ p, p < 8 → u.defined p = false → u.handing p = true) ∧ u.mem = s.mem
      ∧ u.plots = s.plots ∧ u.reqs = s.reqs := by
  have husing := (useImage_using (startsTrial s) b format).frame
  have htold := goDev_told ((startsTrial s).useImage b format) .tending
  have henters := goDev_enters ((startsTrial s).useImage b format) .tending
  generalize (startsTrial s).useImage b format = v at *
  generalize v.goDev .tending = w at *
  obtain ⟨hpause, hidle⟩ := pauseIdle_effect w
  have hupd : w.upd = (startsTrial s).upd := htold.upd.trans (by rw [husing])
  have hframe := hpause.frame
  rw [← hu] at hframe hidle
  refine ⟨?_, ?_, ?_, ?_, fun p hp hdef => hidle ?_ p hp hdef, ?_, ?_, ?_⟩
  · rw [hframe]
    exact henters
  · rw [hframe]
    exact congrArg Upd.trial hupd
  · rw [hframe]
    exact congrArg Upd.gateDown hupd
  · rw [hframe]
    have hgate : w.gate = { (startsTrial s).gate with fwImage := v.gate.fwImage } := htold.gate.trans (by rw [husing])
    exact congrArg Gate.sessions hgate
  · exact congrArg Upd.reverse hupd
  · rw [hframe]
    exact htold.mem.trans (by rw [husing]; rfl)
  · rw [hframe]
    exact htold.plots.trans (by rw [husing]; rfl)
  · rw [hframe]
    exact htold.reqs.trans (by rw [husing]; rfl)

/-- The way back starts (R544). -/
theorem fallback_effect {t : State} (hwindow : t.upd.windowEnd = none) (hrev : t.upd.reverse = true) (b : List Byte) (format : Nat) :
    ((t.useImage b format).pauseIdle).handoverDone.upd.windowEnd = none
      ∧ ((t.useImage b format).pauseIdle).handoverDone.mem = t.mem ∧ ((t.useImage b format).pauseIdle).handoverDone.reqs = t.reqs := by
  have husing := (useImage_using t b format).frame
  have hframe := (pauseIdle_effect (t.useImage b format)).1.frame
  generalize t.useImage b format = v at *
  generalize v.pauseIdle = w at *
  have hkept := handoverDone_kept w
  have hwindow' : w.upd.windowEnd = none := by
    rw [hframe, husing]
    exact hwindow
  have hrev' : w.upd.reverse = true := by
    rw [hframe, husing]
    exact hrev
  refine ⟨?_, hkept.mem.trans (by rw [hframe, husing]), hkept.reqs.trans (by rw [hframe, husing])⟩
  rcases handoverDone_cases w with h | ⟨hforth, _⟩ | ⟨_, _, hended⟩
  · rw [h]
    exact hwindow'
  · exact Bool.noConfusion (hrev'.symm.trans hforth)
  · rw [hended.upd]

/-! ### Fallback causes and the abandoned update -/

theorem before_none_settle {s : State} {at' : List Int} (h : s.before at' = []) : s.settle at' = s := by
  unfold State.settle
  rw [h]
  rfl

theorem confirmWindowExpiry_ends {s : State} {x : Nat} (hwindow : s.upd.windowEnd = some x) (htrial : s.upd.trial = true)
    (hdue : x ≤ s.time) (hbefore : s.before (turnAt x 9 0) = []) : exec .confirmWindowExpiry s = .next { s with
      upd := { s.upd with windowEnd := none, cause := if s.upd.cause = none then some 0 else s.upd.cause } } := by
  have hnow : s.windowDue = true := by
    unfold State.windowDue
    rw [hwindow, htrial]
    simpa using hdue
  refine (onlyIf_of hnow).trans (congrArg Host.Outcome.next ?_)
  rw [hwindow, Option.getD_some, before_none_settle hbefore]
  refine (if_pos hnow).trans ?_
  unfold State.windowEnds State.setCause
  cases hcause : s.upd.cause with
  | none => rfl
  | some c =>
    dsimp only
    rw [if_neg (by simp), if_neg (Option.some_ne_none c)]
    exact congrArg (fun c => ({ s with upd := { s.upd with windowEnd := none, cause := c } } : State)) hcause

theorem plogPut_fuses (s : State) (r : BitVec 256) : (s.plogPut r).fuses = s.fuses := rfl

theorem plogFlush_fuses (s : State) : s.plogFlush.fuses = s.fuses := by
  have hall : ∀ (l : List (BitVec 256)) (t : State), (l.foldl State.plogPut t).fuses = t.fuses := fun l => by
    induction l with
    | nil => exact fun _ => rfl
    | cons r l ih => exact fun t => (ih _).trans (plogPut_fuses t r)
  exact hall _ s

theorem toReset_upd (s : State) (low : Bool) : (s.toReset low).upd = {} := rfl

theorem selfReset_upd (s : State) : s.selfReset.upd = {} := toReset_upd s false

/-- Settles O57: the start, the services' resumption, handover and resumption, the causes, the way back, and the abandoned
update. -/
theorem hitlessActivation : Obligations.HitlessActivation := by
  refine ⟨fun s t b hsched hbound hswaps hb ht => ?_, fun s hdown => onlyIf_of hdown, fun s p hst htrial hp hpause hfw => ?_,
    fun s p hst hpause => stewardResume_effect hst hpause, fun s p x hst hrev hin hlate hcause => ?_,
    fun s x hwindow htrial hdue hbefore => confirmWindowExpiry_ends hwindow htrial hdue hbefore,
    fun s t htrial hcause hrev hst hbound ht => ?_, fun s hst hrev hover => ?_⟩
  · subst ht hb
    exact ⟨_, hitlessActivationStart_runs hsched hbound hswaps, rfl, activation_effect s _ _ _ rfl⟩
  · obtain ⟨hpausing, hhanding⟩ := pauseSteward_pausing s p
    refine ⟨_, onlyIf_of ?_, hhanding, fun hforth => ?_, hpausing.frame⟩
    · rw [hst, htrial, hpause, hfw, decide_eq_true hp]
      simp
    · show Tab.get [] (if s.upd.reverse then s.upd.records else Tab.put [] s.upd.records (8 + p) (s.stateRecord p s.upd.oldFormat))
        (8 + p) = _
      rw [hforth]
      exact Tab.get_put (8 + p) (s.stateRecord p s.upd.oldFormat)
  · have hsome : (s.upd.paused.any fun e => e.1 == p && s.passed e.2 3000) = true :=
      List.any_eq_true.2 ⟨(p, x), hin, by simp [hlate]⟩
    refine (onlyIf_of (by simp [hst, hrev, hsome])).trans (congrArg Host.Outcome.next (if_pos ?_))
    rw [hcause]
    rfl
  · subst ht
    refine ⟨_, if_neg ?_, rfl, fallback_effect rfl rfl _ _⟩
    rw [htrial, hrev, hst, hbound]
    simpa using Option.isSome_iff_ne_none.1 hcause
  · refine ⟨_, onlyIf_of (by simp [hst, hrev, hover]), selfReset_waking _, selfReset_upd _, (selfReset_cleared _).mem,
      (selfReset_lasting _).fuses.trans ((plogFlush_fuses _).trans (raise_apart s _).fuses)⟩

end Sys2Proof.Proofs

/-! PROOFS. Error handling, the persistent log, retirement and aging: O58 (R124, R131, R280, R555, R557 to R560, R564 to R566,
R570, R574 to R576, R578). -/
namespace Sys2Proof.Proofs
open Sys2Proof Sys2Proof.Machine Sys2Proof.Laws

/-! ### Banks of error records -/

theorem bank_setBank (e : Errs) (c : Cls) (b : ErrBank) : (e.setBank c b).bank c = b := by
  cases c <;> rfl

theorem bank_setBank_other (e : Errs) {c d : Cls} (b : ErrBank) (h : d ≠ c) : (e.setBank c b).bank d = e.bank d := by
  cases c <;> cases d <;> simp_all [Errs.bank, Errs.setBank]

theorem setBank_irq (e : Errs) (c : Cls) (b : ErrBank) : (e.setBank c b).irq = e.irq := by
  cases c <;> rfl

theorem modBank_of {i : Nat} {c : Cls} (h : Cls.ofInst i = some c) (s : State) (f : ErrBank → ErrBank) :
    s.modBank i f = { s with errs := s.errs.setBank c (f (s.errs.bank c)) } := by
  unfold State.modBank
  rw [h]

/-- A primary record without HIP, its bit 17. -/
theorem clearHip_bits (b : ErrBank) (n : Nat) : b.clearHip.primary.getLsbD n = (b.primary.getLsbD n && n != 17) := by
  show (b.primary &&& ~~~BitVec.ofNat 256 (2 ^ 17)).getLsbD n = _
  rw [BitVec.getLsbD_and, BitVec.getLsbD_not, BitVec.getLsbD_ofNat, Nat.testBit_two_pow]
  by_cases hn : n < 256
  · by_cases h17 : n = 17
    · simp [h17]
    · simp [hn, h17, Ne.symm h17]
  · rw [BitVec.getLsbD_of_ge _ _ (Nat.not_lt.1 hn), Bool.false_and, Bool.false_and]

theorem errCtlHipClr_effect {s : State} {r i : Nat} {c : Cls} (htarget : s.target r 12 0x130 .steward0 = some i)
    (hc : Cls.ofInst i = some c) (hrec : s.dev.recovery = false) :
    ∃ t, exec (.errCtlHipClr r) s = .next t ∧ t.errs.bank c = (s.errs.bank c).clearHip ∧ (t.errs.bank c).hip = false
      ∧ (∀ n, (t.errs.bank c).primary.getLsbD n = ((s.errs.bank c).primary.getLsbD n && n != 17))
      ∧ t.errs.irq = s.errs.irq.filter (fun d => some d != some c) ∧ (∀ d, d ≠ c → t.errs.bank d = s.errs.bank d)
      ∧ t = { s.dropLatch r (12 * 65536) with errs := t.errs } := by
  have hrun : exec (.errCtlHipClr r) s = .next (((s.dropLatch r (12 * 65536)).modBank i ErrBank.clearHip).ackIrq i) := by
    refine congrArg Host.Outcome.next ((own_target htarget).trans (if_neg ?_))
    show ¬ s.dev.recovery = true
    rw [hrec]
    exact Bool.false_ne_true
  rw [modBank_of hc] at hrun
  have hbank : ∀ d, ((s.errs.setBank c (s.errs.bank c).clearHip).bank d) = if d = c then (s.errs.bank c).clearHip else s.errs.bank d :=
    fun d => by
      by_cases h : d = c
      · rw [if_pos h, h, bank_setBank]
      · rw [if_neg h, bank_setBank_other _ _ h]
  have hself := (hbank c).trans (if_pos rfl)
  refine ⟨_, hrun, hself, congrArg ErrBank.hip hself, fun n => ?_, ?_, fun d hd => (hbank d).trans (if_neg hd), rfl⟩
  · exact (congrArg (fun b : ErrBank => b.primary.getLsbD n) hself).trans (clearHip_bits _ n)
  · show (s.errs.setBank c (s.errs.bank c).clearHip).irq.filter (fun d => some d != Cls.ofInst i) = _
    rw [setBank_irq, hc]

/-! ### Retirement (R565 to R567) -/

theorem moveToSpare_effect (s : State) (p : Nat) : (s.moveToSpare p).siteOf p = (s.idleSites (terrOf p)).headD 0
    ∧ (s.moveToSpare p).hasSpare (terrOf p) = false := by
  have hmem : ∀ (k : Nat) (l : List Nat), k ∈ setIns k l := fun k l => by
    induction l with
    | nil => exact List.mem_singleton.2 rfl
    | cons i l ih =>
      unfold setIns
      split
      · exact List.mem_cons_self
      · split
        · next h => exact h ▸ List.mem_cons_self
        · exact List.mem_cons_of_mem i ih
  refine ⟨?_, ?_⟩
  · have hsite : Tab.get 0 (s.moveToSpare p).nvm.repair.site p = (s.idleSites (terrOf p)).headD 0 + 1 := by
      show Tab.get 0 (Tab.put 0 s.nvm.repair.site p ((s.idleSites (terrOf p)).headD 0 + 1)) p = _
      exact Tab.get_put _ _
    unfold State.siteOf
    rw [hsite]
  · show (!(setIns (terrOf p) s.nvm.repair.spareGone).contains (terrOf p)) = false
    rw [List.contains_iff_mem.2 (hmem _ _)]
    rfl

theorem mayRetire_false {s : State} {p : Nat} (h : (s.terr (terrOf p)).took = true ∨ (∃ m ∈ s.trellis, m.src = p ∨ m.dst = p)
    ∨ ((s.plotPav p).isSome = true ∧ (s.terr (terrOf p)).rows ≠ [])) : s.mayRetire p = false := by
  unfold State.mayRetire
  rcases h with h | ⟨m, hm, hto⟩ | ⟨hpav, hrows⟩
  · simp [h]
  · have hbusy : s.trellisQuiet p = false := by
      refine List.all_eq_false.2 ⟨m, hm, ?_⟩
      rcases hto with h | h <;> simp [h]
    simp [hbusy]
  · have hundrained : s.terrDrained p = false := by
      unfold State.terrDrained
      split
      · simp [hrows]
      · next hnone =>
        rw [hnone] at hpav
        exact Bool.noConfusion hpav
    simp [hundrained]

theorem plotRetire_moves {s t : State} {p : Nat} (hmay : s.mayRetire p = true) (hspare : s.hasSpare (terrOf p) = true)
    (ht : t = (((s.moveToSpare p).takeTerr (terrOf p)).setPlot p
      { s.plot p with retire := false, rowRepair := [], ce := [], resid := none }).raise
        { cls := .corrected, event := Code.plotRetired, pav := s.plotPav p, unit := 1, inst := p }) :
    exec (.plotRetire p) s = .next (if (s.plot p).bad.isEmpty then t else t.restartPlot p) := by
  subst ht
  exact (if_neg (by simp [hmay])).trans (if_neg (by simp [hspare]))

/-! ### Aging (R574, R575) -/

/-- From s to t plots were marked and errors raised: memory, the clock and the repair record stay, and of the registers only the
PF's notices changed. -/
structure Marked (s t : State) : Prop where
  mem : t.mem = s.mem
  time : t.time = s.time
  sdl : t.sdl = s.sdl
  nvm : t.nvm = s.nvm
  repair : t.errs.repairPending = s.errs.repairPending
  regs : ∀ (f : Field) (inst i : Nat), f.key inst i ≠ R.fnNotify.key 0 0 → t.rd f inst i = s.rd f inst i

theorem Marked.refl (s : State) : Marked s s := ⟨rfl, rfl, rfl, rfl, rfl, fun _ _ _ _ => rfl⟩

theorem Marked.trans {s t u : State} (h : Marked s t) (g : Marked t u) : Marked s u :=
  ⟨g.mem.trans h.mem, g.time.trans h.time, g.sdl.trans h.sdl, g.nvm.trans h.nvm, g.repair.trans h.repair,
    fun f inst i hk => (g.regs f inst i hk).trans (h.regs f inst i hk)⟩

theorem Marked.foldl {α : Type} {f : State → α → State} (hf : ∀ s x, Marked s (f s x)) (l : List α) (s : State) :
    Marked s (l.foldl f s) := by
  induction l generalizing s with
  | nil => exact .refl s
  | cons x l ih => exact (hf s x).trans (ih _)

theorem Noted.marked {s t : State} (h : Noted s t) : Marked s t := by
  refine ⟨h.mem, h.frame.time, h.frame.sdl, h.nvm, h.repair, h.regs⟩

theorem setPlot_marked (s : State) (p : Nat) (x : Plot) : Marked s (s.setPlot p x) := ⟨rfl, rfl, rfl, rfl, rfl, fun _ _ _ _ => rfl⟩

theorem setTerr_marked (s : State) (k : Nat) (x : Terr) : Marked s (s.setTerr k x) := ⟨rfl, rfl, rfl, rfl, rfl, fun _ _ _ _ => rfl⟩

theorem withdrawTerr_marked (s : State) (k : Nat) : Marked s (s.withdrawTerr k) := ⟨rfl, rfl, rfl, rfl, rfl, fun _ _ _ _ => rfl⟩

theorem noSpare_marked (s : State) (p : Nat) : Marked s (s.noSpare p) := by
  unfold State.noSpare
  dsimp only
  split
  · exact .refl s
  · have hraised := (raise_noted s (e := { cls := .pavilion, event := Code.plotNoSpare, pav := s.plotPav p, unit := 1, inst := p })
      Cls.noConfusion rfl).marked
    split
    · exact hraised.trans (setTerr_marked _ _ _)
    · exact hraised.trans (withdrawTerr_marked _ _)

theorem trigger_marked (s : State) (p : Nat) : Marked s (s.trigger p) := by
  unfold State.trigger
  split
  · exact setPlot_marked s p _
  · exact noSpare_marked s p

/-- A sample of one plot: its margin, then what it may trigger. -/
theorem sampleMargin_marked (s : State) (p m : Nat) : Marked (s.wr R.margin (min m 255) p) (s.sampleMargin p m) := by
  unfold State.sampleMargin
  dsimp only
  have hwarned : Marked (s.wr R.margin (min m 255) p) (if m < s.rd R.warnPs ∧ (s.plot p).warned = false then
      State.raise ((s.wr R.margin (min m 255) p).setPlot p { (s.wr R.margin (min m 255) p).plot p with warned := true })
        { cls := .corrected, event := Code.agingWarn, pav := s.plotPav p, unit := 1, inst := p }
      else s.wr R.margin (min m 255) p) := by
    split
    · exact (setPlot_marked _ p _).trans (raise_noted _ Cls.noConfusion rfl).marked
    · exact .refl _
  split
  · exact hwarned.trans (trigger_marked _ p)
  · exact hwarned

/-- A plot whose margin is above both limits. -/
theorem sampleMargin_well {s : State} {p m : Nat} (hwarn : s.rd R.warnPs ≤ m) (hretire : s.rd R.retirePs ≤ m) :
    s.sampleMargin p m = s.wr R.margin (min m 255) p := by
  unfold State.sampleMargin
  rw [if_neg fun h => absurd h.1 (Nat.not_lt.2 hretire), if_neg fun h => absurd h.1 (Nat.not_lt.2 hwarn)]

theorem margin_key_notify (p : Nat) (h : p < 2048) : R.margin.key p 0 ≠ R.fnNotify.key 0 0 := by
  simp only [Field.key, R.margin, R.fnNotify]
  omega

theorem margin_key_ne {p q : Nat} (h : p ≠ q) : R.margin.key p 0 ≠ R.margin.key q 0 := by
  simp only [Field.key, R.margin]
  omega

theorem sampleMargin_margin (s : State) {p : Nat} (m : Nat) (hp : p < 2048) : (s.sampleMargin p m).rd R.margin p = min m 255 :=
  ((sampleMargin_marked s p m).regs R.margin p 0 (margin_key_notify p hp)).trans
    ((State.rd_wr s R.margin (min m 255) p 0).trans (Nat.mod_eq_of_lt (show min m 255 < 2 ^ 8 by omega)))

theorem sampleMargin_margin_other (s : State) {p q : Nat} (m : Nat) (hq : q < 2048) (h : q ≠ p) :
    (s.sampleMargin p m).rd R.margin q = s.rd R.margin q :=
  ((sampleMargin_marked s p m).regs R.margin q 0 (margin_key_notify q hq)).trans (State.rd_wr_other s (margin_key_ne h))

/-- The margins by logical ID, from an ID on. -/
def sampled (s : State) (k n : Nat) (ms : List Nat) : State :=
  ((List.range' k n).zip ms).foldl (fun (u : State) e => u.sampleMargin e.1 e.2) s

theorem sampled_cons (s : State) (k n m : Nat) (ms : List Nat) :
    sampled s k (n + 1) (m :: ms) = sampled (s.sampleMargin k m) (k + 1) n ms := by
  unfold sampled
  rw [List.range'_succ, List.zip_cons_cons, List.foldl_cons]

theorem sampled_nil (s : State) (k n : Nat) : sampled s k n [] = s := by
  unfold sampled
  rw [List.zip_nil_right]
  rfl

/-- What a sample leaves: the margins are the registers, and the rest is marked. -/
theorem sampled_effect (ms : List Nat) (s : State) (k n : Nat) (hlen : ms.length ≤ n) (hmax : k + n ≤ 2048) :
    (∀ j, j < ms.length → (sampled s k n ms).rd R.margin (k + j) = min (ms.getD j 0) 255)
    ∧ (∀ q, q < k → (sampled s k n ms).rd R.margin q = s.rd R.margin q)
    ∧ (sampled s k n ms).mem = s.mem ∧ (sampled s k n ms).time = s.time ∧ (sampled s k n ms).sdl = s.sdl
    ∧ (sampled s k n ms).nvm = s.nvm ∧ (sampled s k n ms).errs.repairPending = s.errs.repairPending := by
  induction ms generalizing s k n with
  | nil =>
    rw [sampled_nil]
    exact ⟨fun j hj => absurd hj (Nat.not_lt_zero j), fun _ _ => rfl, rfl, rfl, rfl, rfl, rfl⟩
  | cons m ms ih =>
    obtain ⟨n, rfl⟩ : ∃ n', n = n' + 1 := ⟨n - 1, by simp only [List.length_cons] at hlen; omega⟩
    rw [sampled_cons]
    obtain ⟨hvals, hothers, hmem, htime, hsdl, hnvm, hrepair⟩ :=
      ih (s.sampleMargin k m) (k + 1) n (by simpa using hlen) (by omega)
    have hfirst := sampleMargin_marked s k m
    refine ⟨fun j hj => ?_, fun q hq => ?_, hmem.trans hfirst.mem, htime.trans hfirst.time, hsdl.trans hfirst.sdl,
      hnvm.trans hfirst.nvm, hrepair.trans hfirst.repair⟩
    · cases j with
      | zero => exact (hothers k (Nat.lt_succ_self k)).trans (sampleMargin_margin s m (by omega))
      | succ j =>
        have hj' := hvals j (by simpa using hj)
        rw [show k + 1 + j = k + (j + 1) by omega] at hj'
        exact hj'
    · exact (hothers q (by omega)).trans (sampleMargin_margin_other s m (by omega) (by omega))

/-- Where every margin is above both limits no plot is touched. -/
theorem sampled_well (ms : List Nat) (s : State) (k n : Nat) (hmax : k + n ≤ 2048)
    (hwell : ∀ m ∈ ms, s.rd R.warnPs ≤ m ∧ s.rd R.retirePs ≤ m) : (sampled s k n ms).plots = s.plots := by
  induction ms generalizing s k n with
  | nil => rw [sampled_nil]
  | cons m ms ih =>
    cases n with
    | zero => rfl
    | succ n =>
      obtain ⟨hwarn, hretire⟩ := hwell m List.mem_cons_self
      rw [sampled_cons, sampleMargin_well hwarn hretire]
      refine ih _ (k + 1) n (by omega) fun x hx => ?_
      have hx' := hwell x (List.mem_cons_of_mem m hx)
      have hkeys : R.warnPs.key 0 0 ≠ R.margin.key k 0 ∧ R.retirePs.key 0 0 ≠ R.margin.key k 0 := by
        simp only [Field.key, R.margin, R.warnPs, R.retirePs]
        omega
      rw [State.rd_wr_other _ hkeys.1, State.rd_wr_other _ hkeys.2]
      exact hx'

/-- What a lower ceiling leaves. -/
theorem derate_effect (s : State) (l : List Nat) : (s.derate l).mem = s.mem ∧ (s.derate l).time = s.time ∧ (s.derate l).sdl = s.sdl
    ∧ (∀ (f : Field) (inst i : Nat), f.key inst i ≠ R.fnNotify.key 0 0 → (s.derate l).rd f inst i = s.rd f inst i)
    ∧ (l ≠ [] → 600 < s.nvm.repair.fmaxCap → (s.derate l).nvm.repair.fmaxCap = max 600 (s.nvm.repair.fmaxCap - 50)
        ∧ (s.derate l).errs.repairPending = true) := by
  cases l with
  | nil => exact ⟨rfl, rfl, rfl, fun _ _ _ _ => rfl, fun h => absurd rfl h⟩
  | cons p rest =>
    have hcons : s.derate (p :: rest) = if s.nvm.repair.fmaxCap ≤ 600 then (p :: rest).foldl State.noSpare s
        else State.raise
          { s with
            nvm := { s.nvm with repair := { s.nvm.repair with fmaxCap := max 600 (s.nvm.repair.fmaxCap - 50) } }
            errs := { s.errs with repairPending := true } }
          { cls := .corrected, event := Code.agingDerate, pav := s.plotPav p, unit := 1, inst := p } := rfl
    rw [hcons]
    split
    · next hlow =>
      have hall : Marked s ((p :: rest).foldl State.noSpare s) := Marked.foldl noSpare_marked _ s
      exact ⟨hall.mem, hall.time, hall.sdl, hall.regs, fun _ hhigh => absurd hhigh (Nat.not_lt.2 hlow)⟩
    · generalize hu : ({ s with nvm := _, errs := _ } : State) = u
      have hraised := (raise_noted u (e := { cls := .corrected, event := Code.agingDerate, pav := s.plotPav p, unit := 1, inst := p })
        Cls.noConfusion rfl).marked
      refine ⟨hraised.mem.trans ?_, hraised.time.trans ?_, hraised.sdl.trans ?_, fun f inst i hk => (hraised.regs f inst i hk).trans ?_,
        fun _ _ => ⟨?_, hraised.repair.trans ?_⟩⟩
      · rw [← hu]
      · rw [← hu]
      · rw [← hu]
      · rw [← hu]
        rfl
      · rw [hraised.nvm, ← hu]
      · rw [← hu]

/-- A sample is taken: its margins are in, and none is due. -/
def agingTaken (s : State) : State := { s with sdl := { s.sdl with agingDone := true, owed := { s.sdl.owed with aging := false } } }

/-- The plots below RETIRE_PS in regions without a spare. -/
def agedOut (s : State) (ms : List Nat) : List Nat :=
  (((List.range 2048).zip ms).filter fun e => decide (e.2 < s.rd R.retirePs) && !s.hasSpare (terrOf e.1)).map (·.1)

theorem agingSample_runs {s : State} (ms : List Nat) (hserv : s.serving = true) (hdue : s.agingDue = true) :
    exec (.agingSample ms) s = .next ((sampled (agingTaken s) 0 2048 ms).derate (agedOut s ms)) := by
  refine (if_neg (by simp [hserv, hdue])).trans ?_
  unfold sampled
  rw [← List.range_eq_range']
  rfl

theorem agedOut_nil {s : State} {ms : List Nat} (hwell : ∀ m ∈ ms, s.rd R.warnPs ≤ m ∧ s.rd R.retirePs ≤ m) : agedOut s ms = [] := by
  unfold agedOut
  rw [List.filter_eq_nil_iff.2, List.map_nil]
  intro e he
  have hm := (hwell e.2 (List.of_mem_zip he).2).2
  simp [Nat.not_lt.2 hm]

theorem agedOut_ne_nil {s : State} {ms : List Nat} {p : Nat} (hlen : ms.length ≤ 2048) (hp : p < ms.length)
    (hlow : ms.getD p 0 < s.rd R.retirePs) (hspare : s.hasSpare (terrOf p) = false) : agedOut s ms ≠ [] := by
  have hin : (p, ms[p]) ∈ (List.range 2048).zip ms := by
    rw [List.mem_iff_getElem]
    refine ⟨p, by rw [List.length_zip, List.length_range]; omega, ?_⟩
    rw [List.getElem_zip, List.getElem_range]
  have hget : ms.getD p 0 = ms[p] := by rw [List.getD_eq_getElem?_getD, List.getElem?_eq_getElem hp, Option.getD_some]
  refine List.ne_nil_of_mem (a := p) (List.mem_map.2 ⟨(p, ms[p]), List.mem_filter.2 ⟨hin, ?_⟩, rfl⟩)
  rw [hget] at hlow
  simp [hlow, hspare]

theorem agingSample_effect {s : State} {ms : List Nat} (hserv : s.serving = true) (hdue : s.agingDue = true) (hlen : ms.length ≤ 2048) :
    ∃ t, exec (.agingSample ms) s = .next t ∧ (∀ p, p < ms.length → t.rd R.margin p = min (ms.getD p 0) 255)
      ∧ ((∀ m ∈ ms, s.rd R.warnPs ≤ m ∧ s.rd R.retirePs ≤ m) → t.plots = s.plots ∧ t.nvm = s.nvm)
      ∧ (∀ p, p < ms.length → ms.getD p 0 < s.rd R.retirePs → s.hasSpare (terrOf p) = false → 600 < s.nvm.repair.fmaxCap →
          t.nvm.repair.fmaxCap = max 600 (s.nvm.repair.fmaxCap - 50) ∧ t.errs.repairPending = true)
      ∧ t.agingDue = false ∧ t.mem = s.mem := by
  obtain ⟨hvals, _, hmem, htime, hsdl, hnvm, _⟩ := sampled_effect ms (agingTaken s) 0 2048 hlen (Nat.le_refl _)
  have hplots := sampled_well ms (agingTaken s) 0 2048 (Nat.le_refl _)
  have hrun := agingSample_runs ms hserv hdue
  generalize sampled (agingTaken s) 0 2048 ms = u at *
  obtain ⟨gmem, gtime, gsdl, gregs, gcap⟩ := derate_effect u (agedOut s ms)
  refine ⟨_, hrun, fun p hp => ?_, fun hwell => ?_, fun p hp hlow hspare hcap => ?_, ?_, gmem.trans hmem⟩
  · have hval := hvals p hp
    rw [Nat.zero_add] at hval
    exact (gregs R.margin p 0 (margin_key_notify p (by omega))).trans hval
  · rw [agedOut_nil hwell]
    exact ⟨hplots hwell, hnvm⟩
  · have hcap' := gcap (agedOut_ne_nil hlen hp hlow hspare)
    rw [hnvm] at hcap'
    exact hcap' hcap
  · unfold State.agingDue
    rw [gsdl, hsdl]
    simp [agingTaken]

/-! ### O58 -/

/-- The lane maps of a port's two directions return. -/
def lanesBack (t : State) (p : Nat) : State := { t with
  nvm := { t.nvm with repair := { t.nvm.repair with
    tvlLane := Tab.put none (Tab.put none t.nvm.repair.tvlLane (p * 2) none) (p * 2 + 1) none
    tvlHalf := Tab.put [] (Tab.put [] t.nvm.repair.tvlHalf (p * 2) []) (p * 2 + 1) [] } }
  errs := { t.errs with repairPending := true } }

/-- A table whose two entries are put back. -/
theorem get_putBack {α : Type} [DecidableEq α] (v : α) (t : Tab α) (a d : Nat) :
    (d = a ∨ d = a + 1 → Tab.get v (Tab.put v (Tab.put v t a v) (a + 1) v) d = v)
    ∧ (d ≠ a → d ≠ a + 1 → Tab.get v (Tab.put v (Tab.put v t a v) (a + 1) v) d = Tab.get v t d) := by
  refine ⟨?_, fun h0 h1 => (Tab.get_put_other _ h1).trans (Tab.get_put_other _ h0)⟩
  rintro (rfl | rfl)
  · exact (Tab.get_put_other _ (Nat.ne_of_lt (Nat.lt_succ_self _))).trans (Tab.get_put _ _)
  · exact Tab.get_put _ _

theorem lanesBack_lane (t : State) (p d : Nat) : (d = p * 2 ∨ d = p * 2 + 1 → Tab.get none (lanesBack t p).nvm.repair.tvlLane d = none)
    ∧ (d ≠ p * 2 → d ≠ p * 2 + 1 →
      Tab.get none (lanesBack t p).nvm.repair.tvlLane d = Tab.get none t.nvm.repair.tvlLane d) :=
  get_putBack none t.nvm.repair.tvlLane (p * 2) d

theorem lanesBack_half (t : State) (p d : Nat) : (d = p * 2 ∨ d = p * 2 + 1 → Tab.get [] (lanesBack t p).nvm.repair.tvlHalf d = [])
    ∧ (d ≠ p * 2 → d ≠ p * 2 + 1 → Tab.get [] (lanesBack t p).nvm.repair.tvlHalf d = Tab.get [] t.nvm.repair.tvlHalf d) :=
  get_putBack [] t.nvm.repair.tvlHalf (p * 2) d

theorem laneClr_effect {s : State} {r i p : Nat} {v : Word32} (htarget : s.target r 13 0xC .pf = some i) (hgo : v.getLsbD 31 = true)
    (hp : p = v.toNat % 16) (hlt : p < 12) : exec (.repairCtlLaneClr r v) s = .next (lanesBack (s.dropLatch r (13 * 65536)) p) := by
  subst hp
  exact congrArg Host.Outcome.next ((own_target htarget).trans (if_pos ⟨hgo, hlt⟩))

/-- The handler of a class is at its limit: the next class is raised. -/
theorem errHandlerTimeout_raises {s : State} {i : Nat} {c : Cls} (hc : Cls.ofInst i = some c) (hlocked : s.locked = true)
    (hrec : s.dev.recovery = false) (hhip : (s.errs.bank c).hip = true) (hnew : (s.errs.bank c).timedOut = false)
    (hlate : s.passed (s.errs.bank c).hipAt (s.rd R.hipLimit) = true) :
    exec (.errHandlerTimeout i) s = .next ((s.modBank i fun b => { b with timedOut := true }).raise
      { cls := c.up, event := Code.errHandlerTimeout, unit := 3, d1 := c.num
        pav := if (s.errs.bank c).primary.getLsbD 27 then none else some ((s.errs.bank c).primary.toNat / 2 ^ 24 % 8) }) := by
  show execErrHandlerTimeout i s = _
  unfold execErrHandlerTimeout
  rw [hc]
  exact onlyIf_of (by simp [hlocked, hrec, hhip, hnew, hlate])

/-- The oldest waiting entry goes to the persistent log. -/
theorem persistentLogWrite_writes {s : State} {r : BitVec 256} {rest : List (BitVec 256)} (hwait : s.errs.plogPending = r :: rest)
    (hlocked : s.locked = true) (hmay : s.dev.recovery = false ∨ s.dev.st = .shuttered) (okw : Bool) :
    exec (.persistentLogWrite okw) s = .next (if okw then State.plogPut { s with errs := { s.errs with plogPending := rest } } r
      else s.raise (corrErr Code.configNvmWriteFail 7 0)) := by
  show execPersistentLogWrite okw s = _
  unfold execPersistentLogWrite
  rw [hwait]
  refine onlyIf_of ?_
  rcases hmay with h | h <;> simp [hlocked, h]

/-- Settles O58, command by command. -/
theorem handlingAndRepair : Obligations.HandlingAndRepair := by
  refine ⟨fun s r i c htarget hc hrec => errCtlHipClr_effect htarget hc hrec,
    fun s r i v htarget hr => congrArg Host.Outcome.next ((own_target htarget).trans (if_pos hr)),
    fun s i c hc hlocked hrec hhip hnew hlate => errHandlerTimeout_raises hc hlocked hrec hhip hnew hlate,
    fun s r rest hwait hlocked hmay => ⟨persistentLogWrite_writes hwait hlocked hmay true,
      persistentLogWrite_writes hwait hlocked hmay false⟩,
    fun s hserv hwait => ?_, fun s t p hmay hspare ht => ?_, fun s p hmay hspare => ?_, fun s p h => if_pos (mayRetire_false h),
    fun s t p hserv ht => ?_, fun s t r i v htarget ht => ?_,
    fun s r i p v htarget hgo hp hlt => ⟨_, laneClr_effect htarget hgo hp hlt, rfl,
      fun d hd => ⟨(lanesBack_lane _ p d).1 hd, (lanesBack_half _ p d).1 hd⟩,
      fun d h0 h1 => ⟨(lanesBack_lane _ p d).2 h0 h1, (lanesBack_half _ p d).2 h0 h1⟩, rfl, rfl⟩,
    fun s ms hserv hdue hlen => agingSample_effect hserv hdue hlen⟩
  · have hrun (okw : Bool) : exec (.repairRecordWrite okw) s = .next (if okw then
        { s with nvm := { s.nvm with saved := s.nvm.repair }, errs := { s.errs with repairPending := false } }
        else s.raise (corrErr Code.configNvmWriteFail 7 0)) := onlyIf_of (by rw [hserv, hwait]; rfl)
    exact ⟨hrun true, hrun false⟩
  · have hrun := plotRetire_moves hmay hspare ht
    refine ⟨fun hgood => ?_, fun hbad => ?_, moveToSpare_effect s p⟩
    · rw [hrun, hgood]
      rfl
    · rw [hrun, if_neg (by simpa using hbad)]
  · exact (if_neg (by simp [hmay])).trans (if_pos hspare)
  · subst ht
    refine ⟨fun hfirst => ?_, fun u hu => ?_⟩
    · refine (onlyIf_of hserv).trans ?_
      rw [hfirst]
    · refine (onlyIf_of hserv).trans ?_
      rw [hu]
  · subst ht
    exact congrArg Host.Outcome.next (own_target htarget)

end Sys2Proof.Proofs

/-! PROOFS. Power, temperature, rails and clocks: O59 (R593, R595 to R599, R604 to R606). -/
namespace Sys2Proof.Proofs
open Sys2Proof Sys2Proof.Machine Sys2Proof.Laws

/-! ### Readings of power (R595) -/

/-- The limits' marks after a reading: the samples, whose average is compared with the cap. -/
def powered (s : State) (l : List Nat) : Pwr :=
  let since := if l.sum * 100 < s.rd R.capW * 95 * l.length then some (s.pwr.belowSince.getD s.time) else none
  { s.pwr with
    samples := l
    capDown := s.pwr.capDown || decide (s.rd R.capW * l.length < l.sum)
    belowSince := since
    capUp := match since with | some u => s.passed u 10000 | none => false }

theorem powered_high {s : State} {l : List Nat} (h : s.rd R.capW * 95 * l.length ≤ l.sum * 100) :
    (powered s l).capUp = false ∧ (powered s l).belowSince = none := by
  unfold powered
  rw [if_neg (Nat.not_lt.2 h)]
  exact ⟨rfl, rfl⟩

theorem powered_low {s : State} {l : List Nat} (h : l.sum * 100 < s.rd R.capW * 95 * l.length) :
    (powered s l).belowSince = some (s.pwr.belowSince.getD s.time)
      ∧ (powered s l).capUp = s.passed (s.pwr.belowSince.getD s.time) 10000 := by
  unfold powered
  rw [if_pos h]
  exact ⟨rfl, rfl⟩

theorem powerSample_runs {s : State} {w : Nat} {l : List Nat} (hdue : s.readingDue = true) (hnew : s.sdl.powerDone = false)
    (hl : l = (w :: s.pwr.samples).take 10) : exec (.powerSample w) s = .next { s.wr R.powerW (min (l.sum / l.length) 1023) with
      sdl := { s.sdl with powerDone := true }, pwr := powered s l } := by
  subst hl
  exact onlyIf_of (by simp [hdue, hnew])

theorem powerSample_effect {s : State} {w : Nat} {l : List Nat} (hdue : s.readingDue = true) (hnew : s.sdl.powerDone = false)
    (hl : l = (w :: s.pwr.samples).take 10) :
    ∃ t, exec (.powerSample w) s = .next t ∧ t.pwr.samples = l ∧ t.rd R.powerW = min (l.sum / l.length) 1023
    ∧ t.pwr.capDown = (s.pwr.capDown || decide (s.rd R.capW * l.length < l.sum))
    ∧ (s.rd R.capW * 95 * l.length ≤ l.sum * 100 → t.pwr.capUp = false ∧ t.pwr.belowSince = none)
    ∧ (l.sum * 100 < s.rd R.capW * 95 * l.length → ∀ u, s.pwr.belowSince = some u →
        t.pwr.belowSince = some u ∧ t.pwr.capUp = s.passed u 10000)
    ∧ (l.sum * 100 < s.rd R.capW * 95 * l.length → s.pwr.belowSince = none → t.pwr.belowSince = some s.time)
    ∧ t = { s with regs := t.regs, sdl := { s.sdl with powerDone := true }, pwr := { s.pwr with
        samples := l, capDown := t.pwr.capDown, capUp := t.pwr.capUp, belowSince := t.pwr.belowSince } }
    ∧ t.rd R.devPlotMhz = s.rd R.devPlotMhz := by
  refine ⟨_, powerSample_runs hdue hnew hl, rfl, ?_, rfl, powered_high, fun hlow u hu => ?_, fun hlow hnone => ?_, rfl, ?_⟩
  · exact (State.rd_wr s R.powerW _ 0 0).trans (Nat.mod_eq_of_lt (show min (l.sum / l.length) 1023 < 2 ^ 10 by omega))
  · have hmarks := powered_low hlow
    rw [hu] at hmarks
    exact hmarks
  · have hmarks := (powered_low hlow).1
    rw [hnone] at hmarks
    exact hmarks
  · exact State.rd_wr_other s (by decide)

/-! ### Temperature (R597, R598) -/

theorem thermalSample_runs {s : State} (tj : Nat) (hst : s.dev.st ≠ .dormant) : exec (.thermalSample tj) s = .next
    (if s.readingDue then
      { s.wr R.tj (min tj 255) with
        dev := { s.dev with thermN := thermPin (s.rd R.assertC) tj s.dev.thermN }
        pwr := { s.pwr with thermDown := decide (s.rd R.throttleC ≤ tj), thermUp := decide (tj + 3 ≤ s.rd R.throttleC) } }
     else { s with dev := { s.dev with thermN := thermPin (s.rd R.assertC) tj s.dev.thermN } }) := by
  refine (onlyIf_of (by simpa using hst)).trans ?_
  split <;> rfl

theorem thermPin_cases (a tj : Nat) (old : Bool) : (a ≤ tj → thermPin a tj old = true)
    ∧ (tj < a → a < tj + 5 → thermPin a tj old = old) ∧ (tj + 5 ≤ a → thermPin a tj old = false) := by
  refine ⟨fun h => if_pos h, fun h1 h2 => ?_, fun h => ?_⟩
  · exact (if_neg (by omega)).trans (if_neg (by omega))
  · exact (if_neg (by omega)).trans (if_pos h)

theorem thermalSample_effect {s : State} (tj : Nat) (hst : s.dev.st ≠ .dormant) : ∃ t, exec (.thermalSample tj) s = .next t
    ∧ (s.rd R.assertC ≤ tj → t.dev.thermN = true) ∧ (tj < s.rd R.assertC → s.rd R.assertC < tj + 5 → t.dev.thermN = s.dev.thermN)
    ∧ (tj + 5 ≤ s.rd R.assertC → t.dev.thermN = false)
    ∧ (s.readingDue = true → t.rd R.tj = min tj 255 ∧ t.pwr.thermDown = decide (s.rd R.throttleC ≤ tj)
      ∧ t.pwr.thermUp = decide (tj + 3 ≤ s.rd R.throttleC) ∧ t.pwr.thermLimit = s.pwr.thermLimit)
    ∧ (s.readingDue = false → t.pwr = s.pwr ∧ t.regs = s.regs)
    ∧ t = { s with regs := t.regs, pwr := t.pwr, dev := { s.dev with thermN := t.dev.thermN } } := by
  have hrun := thermalSample_runs tj hst
  obtain ⟨hon, hold, hoff⟩ := thermPin_cases (s.rd R.assertC) tj s.dev.thermN
  by_cases hdue : s.readingDue = true
  · rw [if_pos hdue] at hrun
    refine ⟨_, hrun, hon, hold, hoff, fun _ => ⟨?_, rfl, rfl, rfl⟩, fun hno => Bool.noConfusion (hdue.symm.trans hno), rfl⟩
    exact (State.rd_wr s R.tj _ 0 0).trans (Nat.mod_eq_of_lt (show min tj 255 < 2 ^ 8 by omega))
  · rw [if_neg hdue] at hrun
    exact ⟨_, hrun, hon, hold, hoff, fun h => absurd h hdue, fun _ => ⟨rfl, rfl⟩, rfl⟩

/-! ### Trips and resets (R599, R604, R605) -/

/-- What a device goes to DORMANT with: memory, registers and plots cleared, fuses, flash and the queue as they are. -/
structure Dropped (s t : State) : Prop where
  mem : t.mem = []
  regs : t.regs = []
  plots : t.plots = []
  fuses : t.fuses = s.fuses
  flash : t.flash = s.flash
  pending : t.pending = s.pending

theorem dropTransfer_only (s : State) : s.dropTransfer = { s with nvm := s.dropTransfer.nvm } := by
  unfold State.dropTransfer
  split <;> rfl

theorem installKeys_only (s : State) : s.installKeys = { s with nvm := s.installKeys.nvm, keyPending := [] } := rfl

theorem toDormant_dropped (s : State) (low : Bool) : Dropped s (s.toDormant low) ∧ (s.toDormant low).out = s.out := by
  have honly : s.dropTransfer.installKeys =
      { s with nvm := s.dropTransfer.installKeys.nvm, keyPending := [] } := by
    rw [installKeys_only, dropTransfer_only]
  refine ⟨⟨rfl, rfl, rfl, ?_, ?_, ?_⟩, ?_⟩
  · show s.dropTransfer.installKeys.fuses = _
    rw [honly]
  · show s.dropTransfer.installKeys.flash = _
    rw [honly]
  · show s.dropTransfer.installKeys.pending = _
    rw [honly]
  · show s.dropTransfer.installKeys.out = _
    rw [honly]

theorem wake_dropped {s t : State} (h : Dropped s t) (d : DevS) : Dropped s { t with dev := d } :=
  ⟨h.mem, h.regs, h.plots, h.fuses, h.flash, h.pending⟩

theorem selfReset_dropped (s : State) : Dropped s s.selfReset := by
  have hsent := (OnlyPorts.foldl (List.range 12) (fun (u : State) i => u.sendDown i 7) (fun u i => sendDown_ports u i 7) s).1
  have hdef : s.toReset false = (((List.range 12).foldl (fun (u : State) i => u.sendDown i 7) s).toDormant false) := rfl
  generalize (List.range 12).foldl (fun (u : State) i => u.sendDown i 7) s = u at hsent hdef
  obtain ⟨hmem, hregs, hplots, hfuses, hflash, hpending⟩ := (toDormant_dropped u false).1
  rw [← hdef] at *
  refine wake_dropped ⟨hmem, hregs, hplots, hfuses.trans ?_, hflash.trans ?_, hpending.trans ?_⟩ _
  · rw [hsent]
  · rw [hsent]
  · rw [hsent]

/-! ### A lost reference clock (R605) -/

/-- From s to t ports and errors changed: plots, memory and requests stay. -/
structure Unplugged (s t : State) : Prop where
  mem : t.mem = s.mem
  plots : t.plots = s.plots
  reqs : t.reqs = s.reqs

theorem portDown_unplugged (s : State) (i reason : Nat) : Unplugged s (s.portDown i reason false) := by
  unfold State.portDown
  split
  · exact ⟨rfl, rfl, rfl⟩
  · dsimp only
    rw [if_neg Bool.false_ne_true]
    generalize hv : (s.setPort i ((s.port i).dropped ((s.port i).reason reason) s.time)).wr R.attempts 0 i = v
    have hraised := (corrErr_noted v Code.tvlLinkDown 6 i 0 ((s.port i).reason reason)).frame
    unfold OnlyRaised at hraised
    rw [hraised]
    exact ⟨by rw [← hv]; rfl, by rw [← hv]; rfl, by rw [← hv]; rfl⟩

theorem portDown_port_other (s : State) {i j : Nat} (reason : Nat) (send : Bool) (h : j ≠ i) :
    (s.portDown i reason send).port j = s.port j := by
  by_cases hst : (s.port i).st = .down
  · rw [State.portDown, if_pos hst]
  · exact (portDown_downed reason send hst).others j h

theorem foldl_portDown_unplugged (reason : Nat) (l : List Nat) (s : State) :
    Unplugged s (l.foldl (fun t i => t.portDown i reason false) s)
    ∧ ∀ j, j ∉ l → (l.foldl (fun t i => t.portDown i reason false) s).port j = s.port j := by
  induction l generalizing s with
  | nil => exact ⟨⟨rfl, rfl, rfl⟩, fun _ _ => rfl⟩
  | cons i l ih =>
    obtain ⟨hrest, hports⟩ := ih (s.portDown i reason false)
    have hfirst := portDown_unplugged s i reason
    refine ⟨⟨hrest.mem.trans hfirst.mem, hrest.plots.trans hfirst.plots, hrest.reqs.trans hfirst.reqs⟩, fun j hj => ?_⟩
    rw [List.mem_cons, not_or] at hj
    exact (hports j hj.2).trans (portDown_port_other s reason false hj.1)

/-- Settles O59, command by command. -/
theorem powerAndTemperature : Obligations.PowerAndTemperature := by
  refine ⟨fun s w l hdue hnew hl => powerSample_effect hdue hnew hl, fun s hlocked hst hnew => onlyIf_of (by simp [hlocked, hst, hnew]),
    fun s x hx => ⟨onlyIf_of (by simp [hx]), fun hreached => ?_⟩, fun s r i htarget => congrArg Host.Outcome.next (own_target htarget),
    fun s tj hst => thermalSample_effect tj hst, fun s hst => ?_, fun s tj hst hheld hcool => onlyIf_of (by simp [hst, hheld, hcool]),
    fun s c hst hc => ?_, fun s => ?_, fun s => rfl⟩
  · exact ⟨_, onlyIf_of (by simp [hx, hreached]), State.rd_wr s R.avsFault 1 0 0, rfl, rfl, rfl, rfl⟩
  · obtain ⟨hdropped, hout⟩ := toDormant_dropped s s.dev.rstLow
    exact ⟨_, onlyIf_of (by simpa using hst), rfl, rfl, rfl, hdropped.mem, hdropped.regs, hdropped.plots, hdropped.fuses, hdropped.flash,
      hout, hdropped.pending⟩
  · have hdropped := selfReset_dropped s
    have hrun : exec c s = .next s.selfReset := by
      simp only [List.mem_cons, List.not_mem_nil, or_false] at hc
      rcases hc with rfl | rfl <;> exact onlyIf_of (by simpa using hst)
    exact ⟨_, hrun, selfReset_waking s, hdropped.mem, hdropped.regs, hdropped.plots, hdropped.fuses, hdropped.flash, hdropped.pending⟩
  · obtain ⟨hall, hports⟩ := foldl_portDown_unplugged 0xFF (List.range 12) s
    exact ⟨_, rfl, fun i hi => allPortsDown_down s 0xFF false hi, fun i hi => hports i (by simpa using hi), hall.mem, hall.plots, hall.reqs⟩

end Sys2Proof.Proofs

/-! PROOFS. NAND maintenance: O60 (R602, R632, R633). -/
namespace Sys2Proof.Proofs
open Sys2Proof Sys2Proof.Machine Sys2Proof.Laws

/-! ### Bytes of flash -/

/-- The bytes written into flash from an address upward. -/
theorem flash_put_cons (m : List Host.Cell) (a : Nat) (b : Byte) (bs : List Byte) :
    Flash.put m a (b :: bs) = Flash.put (Tab.put erased m a b) (a + 1) bs := rfl

theorem flash_rd_put_other (m : List Host.Cell) {a c : Nat} (bs : List Byte) (h : c < a ∨ a + bs.length ≤ c) :
    Flash.rd (Flash.put m a bs) c = Flash.rd m c := by
  induction bs generalizing m a with
  | nil => rfl
  | cons b bs ih =>
    rw [List.length_cons] at h
    rw [flash_put_cons, ih _ (by omega)]
    exact Tab.get_put_other b (by omega)

theorem flash_rd_put (m : List Host.Cell) (a i : Nat) (bs : List Byte) (h : i < bs.length) :
    Flash.rd (Flash.put m a bs) (a + i) = bs[i] := by
  induction bs generalizing m a i with
  | nil => exact absurd h (Nat.not_lt_zero i)
  | cons b bs ih =>
    cases i with
    | zero =>
      rw [flash_put_cons, flash_rd_put_other _ bs (by omega)]
      exact Tab.get_put a b
    | succ i =>
      rw [flash_put_cons, show a + (i + 1) = a + 1 + i by omega, ih _ _ _ (by simpa using h)]
      rfl

theorem pageBuffer_length (s : State) : s.pageBuffer.length = 32768 := by
  unfold State.pageBuffer
  rw [List.length_flatMap, List.map_congr_left (fun i _ => leBytes_length 4 _), List.map_const', List.sum_replicate_nat,
    List.length_range]

/-! ### What a command leaves in flash -/

theorem eraseBlock_effect (s : State) (a n : Nat) : (∀ x, a ≤ x → x < a + n → Flash.rd (s.eraseBlock a n).flash x = erased)
    ∧ (∀ x, x < a ∨ a + n ≤ x → Flash.rd (s.eraseBlock a n).flash x = Flash.rd s.flash x)
    ∧ s.eraseBlock a n = { s with flash := (s.eraseBlock a n).flash } := by
  have hget : ∀ x, Flash.rd (s.eraseBlock a n).flash x =
      if (!(decide (a ≤ x) && decide (x < a + n))) = true then Flash.rd s.flash x else erased := fun x =>
    Tab.get_filter_key (fun y => !(decide (a ≤ y) && decide (y < a + n))) s.flash x
  refine ⟨fun x h1 h2 => (hget x).trans (if_neg (by simp [h1, h2])), fun x hx => (hget x).trans (if_pos ?_), rfl⟩
  simpa using hx

theorem programPage_effect (s : State) (a : Nat) :
    (∀ i, i < 32768 → Flash.rd (s.programPage a).flash (a + i) = s.pageBuffer.getD i 0 &&& Flash.rd s.flash (a + i))
    ∧ (∀ x, x < a ∨ a + 32768 ≤ x → Flash.rd (s.programPage a).flash x = Flash.rd s.flash x)
    ∧ s.programPage a = { s with flash := (s.programPage a).flash } := by
  have hlen := pageBuffer_length s
  unfold State.programPage
  dsimp only
  generalize s.pageBuffer = d at hlen ⊢
  refine ⟨fun i hi => ?_, fun x hx => flash_rd_put_other _ _ ?_, rfl⟩
  · rw [flash_rd_put _ _ _ _ (by rw [List.length_map, List.length_range, hlen]; exact hi), List.getElem_map, List.getElem_range]
  · rw [List.length_map, List.length_range, hlen]
    exact hx

theorem spoilFlash_effect (s : State) (a n : Nat) : (∀ x, x < a ∨ a + n ≤ x → Flash.rd (s.spoilFlash a n).flash x = Flash.rd s.flash x)
    ∧ s.spoilFlash a n = { s with flash := (s.spoilFlash a n).flash, freeCtr := s.freeCtr + 1 } := by
  refine ⟨fun x hx => flash_rd_put_other _ _ ?_, rfl⟩
  rw [List.length_map, List.length_range]
  exact hx

/-! ### GO and completion (R632, R633) -/

theorem nandStart_runs {s t u : State} {r i op chan ce : Nat} (htarget : s.target r 15 0 .pf = some i)
    (ht : t = s.dropLatch r (15 * 65536)) (hu : u = ((t.wr R.nandOp op).wr R.nandChannel chan).wr R.nandCe ce) :
    s.nandStart r op chan ce = if t.rd R.nandBusy = 1 then t
      else if u.flashProtected chan ce (u.rd R.nandRow) then u.wr R.maintRefused 1 else (u.wr R.nandGo 1).wr R.nandBusy 1 := by
  subst ht hu
  exact own_target htarget

/-- A command is done: GO and BUSY are clear. -/
def nandDone (t : State) : State := (t.wr R.nandGo 0).wr R.nandBusy 0

theorem nandDone_effect (t : State) : (nandDone t).rd R.nandBusy = 0 ∧ (nandDone t).rd R.nandGo = 0 ∧ (nandDone t).flash = t.flash
    ∧ (nandDone t).rd R.nandFail = t.rd R.nandFail ∧ nandDone t = { t with regs := (nandDone t).regs } := by
  refine ⟨State.rd_wr _ R.nandBusy 0 0 0, ?_, rfl, ?_, rfl⟩
  · exact (State.rd_wr_other (t.wr R.nandGo 0) (by decide)).trans (State.rd_wr t R.nandGo 0 0 0)
  · exact (State.rd_wr_other (t.wr R.nandGo 0) (by decide)).trans (State.rd_wr_other t (by decide))

/-- What a command leaves in flash when it completes, or fails. -/
def nandLeaves (s : State) (okm : Bool) (page a n : Nat) : State :=
  if s.rd R.nandOp = 1 then (if okm then s.programPage page else s.spoilFlash page 32768)
  else (if okm then s.eraseBlock a n else s.spoilFlash a n)

theorem nandMaintComplete_runs {s : State} {okm : Bool} (hbusy : s.rd R.nandBusy = 1) {a n : Nat}
    (hblock : (a, n) = Config.nandBlock (s.rd R.nandChannel) (s.rd R.nandCe) (s.rd R.nandRow)) :
    exec (.nandMaintComplete okm) s = .next (nandDone (
      if okm then nandLeaves s okm (Config.nandPage (s.rd R.nandChannel) (s.rd R.nandCe) (s.rd R.nandRow)) a n
      else (nandLeaves s okm (Config.nandPage (s.rd R.nandChannel) (s.rd R.nandCe) (s.rd R.nandRow)) a n).wr R.nandFail 1)) := by
  show execNandMaintComplete okm s = _
  unfold execNandMaintComplete
  dsimp only
  rw [← hblock]
  exact onlyIf_of (beq_iff_eq.2 hbusy)

/-- A failed command. -/
theorem nandFails_effect {s : State} {a n : Nat} (hbusy : s.rd R.nandBusy = 1)
    (hrange : (a, n) = (if s.rd R.nandOp = 1 then (Config.nandPage (s.rd R.nandChannel) (s.rd R.nandCe) (s.rd R.nandRow), 32768)
      else Config.nandBlock (s.rd R.nandChannel) (s.rd R.nandCe) (s.rd R.nandRow))) :
    exec (.nandMaintComplete false) s = .next (nandDone ((s.spoilFlash a n).wr R.nandFail 1)) := by
  rcases hblock : Config.nandBlock (s.rd R.nandChannel) (s.rd R.nandCe) (s.rd R.nandRow) with ⟨b, m⟩
  refine (nandMaintComplete_runs hbusy hblock.symm).trans (congrArg (fun v => Host.Outcome.next (nandDone v)) ?_)
  rw [if_neg Bool.false_ne_true]
  unfold nandLeaves
  rw [hblock] at hrange
  by_cases hop : s.rd R.nandOp = 1
  · rw [if_pos hop] at hrange ⊢
    obtain ⟨rfl, rfl⟩ := Prod.mk.inj hrange
    rfl
  · rw [if_neg hop] at hrange ⊢
    obtain ⟨rfl, rfl⟩ := Prod.mk.inj hrange
    rfl

/-- Settles O60: GO, an erased block, a programmed page, a failed command. -/
theorem flashMaintenance : Obligations.FlashMaintenance := by
  refine ⟨fun s t u c r i op chan ce hc htarget ht hu => ?_, fun s a n hbusy hop hblock => ?_, fun s a hbusy hop ha => ?_,
    fun s a n hbusy hrange => ?_⟩
  · have hrun : exec c s = .next (s.nandStart r op chan ce) := by
      simp only [List.mem_cons, List.not_mem_nil, or_false, Prod.mk.injEq] at hc
      rcases hc with ⟨rfl, rfl⟩ | ⟨rfl, rfl⟩ <;> rfl
    rw [hrun, nandStart_runs htarget ht hu]
    exact ⟨fun hbusy => congrArg Host.Outcome.next (if_pos hbusy), fun hidle => congrArg Host.Outcome.next (if_neg hidle)⟩
  · have hrun := nandMaintComplete_runs (okm := true) hbusy hblock
    have hop1 : s.rd R.nandOp ≠ 1 := by omega
    rw [if_pos rfl, nandLeaves, if_neg hop1, if_pos rfl] at hrun
    obtain ⟨hin, hout, hframe⟩ := eraseBlock_effect s a n
    obtain ⟨hidle, hgo, hflash, _, hregs⟩ := nandDone_effect (s.eraseBlock a n)
    refine ⟨_, hrun, hidle, hgo, ?_, ?_, ?_⟩
    · rw [hflash]
      exact hin
    · rw [hflash]
      exact hout
    · rw [hregs, hframe]
  · rcases hblock : Config.nandBlock (s.rd R.nandChannel) (s.rd R.nandCe) (s.rd R.nandRow) with ⟨b, m⟩
    have hrun := nandMaintComplete_runs (okm := true) hbusy hblock.symm
    rw [if_pos rfl, nandLeaves, if_pos hop, if_pos rfl, ← ha] at hrun
    obtain ⟨hin, hout, hframe⟩ := programPage_effect s a
    obtain ⟨hidle, hgo, hflash, _, hregs⟩ := nandDone_effect (s.programPage a)
    refine ⟨_, hrun, hidle, hgo, ?_, ?_, ?_⟩
    · rw [hflash]
      exact hin
    · rw [hflash]
      exact hout
    · rw [hregs, hframe]
  · obtain ⟨hout, hframe⟩ := spoilFlash_effect s a n
    obtain ⟨hidle, hgo, hflash, hfail, hregs⟩ := nandDone_effect ((s.spoilFlash a n).wr R.nandFail 1)
    refine ⟨_, nandFails_effect hbusy hrange, hfail.trans (State.rd_wr _ R.nandFail 1 0 0), hidle, hgo, ?_, ?_⟩
    · rw [hflash]
      exact hout
    · rw [hregs]
      generalize s.spoilFlash a n = v at *
      rw [hframe]
      rfl

end Sys2Proof.Proofs
